-- ==== Sys2Proof/Word.lean ====
section
/-! DEFINITION. The word types of the model. -/

namespace Sys2Proof

/-- One byte. -/
abbrev Byte := BitVec 8

/-- One register word (00 Notation: registers are 32 bits wide). -/
abbrev Word := BitVec 32

end Sys2Proof
end

