-- ==== Sys2Proof/Records.lean ====
section
/-! DEFINITION. The plain records and enumerations that commands carry and the state holds. -/

namespace Sys2Proof.Machine

/-- Where a message of the module goes. -/
inductive OutChan where
  | lhp | ring | gateDriver | twin | can | housekeeping | ptp | shelf | report | line | journal | host
  deriving DecidableEq, Repr, Inhabited

/-- A lease of 09 Table 9.3. -/
inductive LeaseId where
  | str (n : Fin 8)
  | ring (n : Fin 8)
  | pack (n : Fin 8) (k : Fin 24)
  | hist
  deriving DecidableEq, Repr, Inhabited

/-- Loop states copied to the twin (05 R137, R143, R158). -/
structure LoopSt where
  /-- 05 R137 integral terms, phase loops (duty). -/
  xPh : Vector Rat 6 := Vector.replicate 6 0
  /-- 05 R137 integral term, string loop (A). -/
  xStr : Rat := 0
  /-- 05 R137 integral term, bus loop (A). -/
  xBus : Rat := 0
  /-- 05 R143 reference in force (A). -/
  iRef : Rat := 0
  /-- 05 R143 the first cycle after PRECHARGE is due (1). -/
  first : Bool := false
  /-- 06 R162 I_ref was clamped in the last cycle (1). -/
  clamped : Bool := false
  /-- 05 Table 5.14 RAMPING (1). -/
  ramping : Bool := false
  /-- 05 R144 ramping to zero (1). -/
  rampZero : Bool := false
  /-- 05 R145. -/
  weights : Vector Rat 6 := Vector.replicate 6 1
  /-- 05 Table 5.6 SEQ of the last frame emitted (8). -/
  seq : BitVec 8 := 0
  deriving DecidableEq, Repr, Inhabited

/-- 05 Table 5.14 STATE. -/
inductive StrState where
  | disabled | off | precharge | run | hold | shed | fault | service
  deriving DecidableEq, Repr, Inhabited

/-- 05 R153. -/
inductive PrechStep where
  | idle | waitT0 | kNeg | kPreT0 | kPre | kPos | kPreOpen | failOpen
  deriving DecidableEq, Repr, Inhabited

/-- 05 R154. -/
inductive OpenStep where
  | none | rampDown | lowCurrent | kNegDelay | waitAux | tripWait
  deriving DecidableEq, Repr, Inhabited

/-- 04 Table 4.15 STATE. -/
inductive SweepState where
  | idle | running | redo | done | aborted
  deriving DecidableEq, Repr, Inhabited

/-- An accepted sweep request (04 R110). -/
structure SweepReq where
  /-- 04 R110 SWEEP_ID (16). -/
  id : BitVec 16 := 0
  /-- 04 Table 4.14 (4). -/
  settle : Nat := 1
  /-- 04 Table 4.14 (4). -/
  acc : Nat := 1
  /-- 04 Table 4.14 (8). -/
  ampl : Nat := 20
  /-- 04 Table 4.14 (6). -/
  points : Nat := 24
  /-- 04 R110 (24 each, mHz). -/
  freqs : List Nat := []
  /-- 04 R112 points refused at acceptance (48). -/
  refused : BitVec 48 := 0
  deriving DecidableEq, Repr, Inhabited

/-- 04 R114. -/
inductive SweepPhase where
  | settle | accumulate | waitStart
  deriving DecidableEq, Repr, Inhabited

/-- A complex value as two binary32 words (04 R116). -/
structure Phasor where
  /-- 04 R116 (32). -/
  re : BitVec 32 := 0
  /-- 04 R116 (32). -/
  im : BitVec 32 := 0
  deriving DecidableEq, Repr, Inhabited

/-- Impedance result of one cell at one point (04 R118). -/
structure CellZ where
  /-- 04 R119 (1). -/
  complete : Bool := false
  /-- 04 R119 (1). -/
  redone : Bool := false
  /-- 04 R119 reason of the last incomplete attempt, in the order of the rule's list, 0 none (3). -/
  reason : Nat := 0
  /-- 04 Table 4.16 EST_ZDATA; NaN when not complete (32). -/
  re : BitVec 32 := 0x7FC00000
  /-- 04 Table 4.16 EST_ZDATA (32). -/
  im : BitVec 32 := 0x7FC00000
  deriving DecidableEq, Repr, Inhabited

/-- Result of one sweep point (04 Table 4.16, 4.17). -/
structure PointRes where
  /-- 04 EST_ZFREQ (24 mHz). -/
  freq : Nat := 0
  /-- 04 Table 4.17 (8). -/
  status : BitVec 8 := 5
  /-- 04 EST_ZCUR_RE (32). -/
  curRe : BitVec 32 := 0
  /-- 04 EST_ZCUR_IM (32). -/
  curIm : BitVec 32 := 0
  /-- 04 R115 in the present attempt (1). -/
  clipped : Bool := false
  /-- 04 Table 4.17 attempts marked CLIPPED (2). -/
  clips : Nat := 0
  /-- 04 R118 (1). -/
  disagree : Bool := false
  /-- 04 R106 (1). -/
  uncertain : Bool := false
  /-- 04 R112 (1). -/
  refused : Bool := false
  /-- 04 R114 (1). -/
  done : Bool := false
  /-- 04 R118 (by cell number 1-384). -/
  cells : List (Nat × CellZ) := []
  deriving DecidableEq, Repr, Inhabited

/-- Sweep engine of one string (04 Table 4.13). -/
structure Sweep where
  /-- 04 Table 4.14 STRn_SWP_CFG (32). -/
  regCfg : BitVec 32 := 0x11140018
  /-- 04 Table 4.13 STRn_SWP_FREQ, unlisted 0 (48 x 24 mHz). -/
  regFreq : List (Nat × Nat) := []
  /-- 04 Table 4.13 STRn_TPT_CFG PERIOD (16 s). -/
  regTpt : BitVec 16 := 0
  /-- 04 Table 4.15 (4). -/
  state : SweepState := .idle
  /-- 04 R111. -/
  running : Option SweepReq := none
  /-- 04 R111. -/
  pending : Option SweepReq := none
  /-- 04 R111 starts at the next T0 (1). -/
  startNext : Bool := false
  /-- 04 Table 4.15 TPT (1). -/
  tpt : Bool := false
  /-- 04 R123 a CAL_TEMP point is running (1). -/
  cal : Bool := false
  /-- 04 Table 4.15 POINT (6). -/
  point : Nat := 0
  /-- 04 R114. -/
  phase : SweepPhase := .waitStart
  /-- 04 R119 (1). -/
  redoPass : Bool := false
  /-- 04 R119 (points). -/
  redoList : List Nat := []
  /-- 04 Table 4.15 SWEEP_ID (16). -/
  id : BitVec 16 := 0
  /-- 04 R110 (16). -/
  nextId : BitVec 16 := 1
  /-- 04 Table 4.13 STRn_SWP_RESULT (16). -/
  resCode : BitVec 16 := 0
  /-- 04 Table 4.13 (16). -/
  resDetail : BitVec 16 := 0
  /-- 04 Table 4.13 STRn_SWP_REFUSED (48). -/
  refused : BitVec 48 := 0
  /-- 04 R115 instant t_p of the point in progress (ns). -/
  tpUp : Nat := 0
  /-- 04 R118 I_A of the point (2 x 32). -/
  curA : Phasor := {}
  /-- 04 R118 I_B of the point (2 x 32). -/
  curB : Phasor := {}
  /-- 04 R117 point whose node results are being collected (6). -/
  ackDue : Option Nat := none
  /-- 04 Table 4.6 first set of the point (64). -/
  startCycle : Nat := 0
  /-- 04 R114 first accumulation cycle (64). -/
  accFrom : Nat := 0
  /-- 01 R23 stamp of the first set that the point accumulates (64). -/
  firstTsc : Nat := 0
  /-- 04 R114 last accumulation cycle (64). -/
  lastCycle : Nat := 0
  /-- 04 R119 (by point). -/
  results : List (Nat × PointRes) := []
  /-- 04 R124 result of the temperature point, not shown by EST_ZSEL (by point). -/
  tptRes : List (Nat × PointRes) := []
  /-- 04 R123 since when the pack sensors have agreed within 1.0 K (ns). -/
  agreeSince : Option Nat := none
  /-- 04 Table 4.16 EST_ZHDR sweep status (8). -/
  lastStatus : Nat := 2
  /-- 04 R120 (6). -/
  lastComplete : Nat := 0
  /-- 04 R124 (s). -/
  tptDueIn : Nat := 0
  /-- 04 R116, R118 samples accumulated (count). -/
  accN : Nat := 0
  /-- 04 R118 sums of the demodulation of ISTR_A, real and imaginary (A). -/
  accA : Rat × Rat := (0, 0)
  /-- 04 R118 sums of the demodulation of ISTR_B (A). -/
  accB : Rat × Rat := (0, 0)
  /-- 04 R113 from a sweep's first T0 to the first T0 after it ends (1). -/
  holdLearn : Bool := false
  /-- 04 R123 an accepted CAL_TEMP point waits for the running sweep (1). -/
  calPend : Bool := false
  deriving DecidableEq, Repr, Inhabited

/-- Copy of one string's control record (09 Table 9.5). -/
structure CtlRecord where
  /-- 09 Table 9.5 boundary TSC (64). -/
  tsc : Nat := 0
  /-- 09 Table 9.5 (20). -/
  period : BitVec 20 := 0
  /-- 09 Table 9.5, 05 R129 (steps). -/
  pAvg : Nat := 0
  /-- 09 Table 9.5, 05 R129 (count). -/
  coastRun : Nat := 0
  /-- 09 Table 9.5, 05 R130 (count). -/
  relockRun : Nat := 0
  /-- 09 Table 9.5 (8). -/
  seq : BitVec 8 := 0
  /-- 09 Table 9.5 (32). -/
  epoch : BitVec 32 := 0
  /-- 09 Table 9.5 hold window (8). -/
  hold : BitVec 8 := 0
  /-- 09 Table 9.5. -/
  loop : LoopSt := {}
  /-- 09 Table 9.5. -/
  duty : Vector Rat 6 := Vector.replicate 6 0
  /-- 09 Table 9.5, 05 R145 filtered phase temperatures (0.1 C). -/
  filt : Vector (Option Rat) 6 := Vector.replicate 6 none
  /-- 09 Table 9.5 (mA). -/
  setpoint : Int := 0
  /-- 09 Table 9.5 (1). -/
  busMode : Bool := false
  /-- 09 Table 9.5 (4). -/
  lead : BitVec 4 := 0xF
  /-- 09 R253 state of the string (4). -/
  state : StrState := .off
  /-- 09 Table 9.5 (3). -/
  drives : BitVec 3 := 0
  /-- 09 Table 9.5. -/
  prech : PrechStep := .idle
  /-- 05 R154 the opening under way. -/
  opening : OpenStep := .none
  /-- 05 R154. -/
  target : StrState := .off
  /-- 09 Table 9.5. -/
  theta : Rat := 0
  /-- 09 Table 9.5 (17). -/
  rcFreq : BitVec 17 := 0
  /-- 06 R164 f_g at which the memory of this generation was learned (17). -/
  memFreq : BitVec 17 := 0
  /-- 09 Table 9.5 memory generation. -/
  gen : Nat := 0
  /-- 09 R246 chunk index (0-15). -/
  chunk : Nat := 0
  /-- 09 R246 (64). -/
  cells : List Rat := []
  /-- 09 Table 9.5, 04 R121 progress, completed point results, pending slot. -/
  sweep : Sweep := {}
  /-- 09 Table 9.5 (1). -/
  syncLost : Bool := false
  /-- 09 Table 9.5 (1). -/
  synced : Bool := false
  /-- 09 Table 9.5 analogue and discrete output values. -/
  aoDo : List Nat := []
  deriving DecidableEq, Repr, Inhabited

/-- A cell's 64 bytes of an estimation record (09 R247). -/
structure CellCopy where
  /-- 09 R247 states in fixed point, scaled by CELL_MODEL (20 x 24). -/
  x : List Int := []
  /-- 09 R247 SOC_r (16, 0.01 %). -/
  socR : BitVec 16 := 0
  /-- 09 R247 the cell flags of 07 Table 7.6 (16). -/
  flags : BitVec 16 := 0
  deriving DecidableEq, Repr, Inhabited

/-- Learned values of one cell, 48 bytes (07 R193, Table 7.4). -/
structure LearnCell where
  /-- 07 R193 Q_c (Ah). -/
  q : Rat := 0
  /-- 07 R193 R_ohm,base (uOhm). -/
  rOhm : Rat := 0
  /-- 07 R193 R_ct,base (uOhm). -/
  rCt : Rat := 0
  /-- 04 R123 calibration offset (deg). -/
  delta : Option Rat := none
  /-- 07 R183 SOC_r (%). -/
  socR : Rat := 0
  /-- 07 R193 hysteresis state. -/
  hyst : Rat := 0
  /-- 07 R191 anchor (SOC_e, TSC). -/
  anchor : Option (Rat × Nat) := none
  /-- 07 R191 charge counted since the anchor (Ah). -/
  qCnt : Rat := 0
  deriving DecidableEq, Repr, Inhabited

/-- Balancing settings of one node (07 R198, R200). -/
structure NodeBal where
  /-- 07 Table 7.5 confirmed (16). -/
  bleedMask : BitVec 16 := 0
  /-- 07 Table 7.5 confirmed (4 entries). -/
  xfer : List (Nat × Bool × Nat) := []
  /-- 07 last sent (16). -/
  sentMask : BitVec 16 := 0
  /-- 07 last sent (4). -/
  sentXfer : List (Nat × Bool × Nat) := []
  /-- 07 R200 VALID_MS starts (ns). -/
  confirmUp : Nat := 0
  /-- 07 R200 last command failed (1). -/
  failed : Bool := false
  /-- 07 R176 READ_INFO bleed resistance (ohm). -/
  rBleed : Rat := 0
  /-- 07 R200 READ_INFO transfer efficiency. -/
  etaX : Rat := 0
  /-- 17 R427 READ_INFO firmware version (16). -/
  fw : Nat := 0
  /-- 17 R427 READ_INFO HW_ID (16). -/
  hw : Nat := 0
  /-- 05 R155 READ_INFO answered at this enumeration (1). -/
  infoOk : Bool := false
  deriving DecidableEq, Repr, Inhabited

/-- Estimation per string (07). -/
structure StrEst where
  /-- 07 Table 7.7 CONVERGED (1). -/
  converged : Bool := false
  /-- 07 R188 FALLBACK tables in use (1). -/
  fallback : Bool := false
  /-- 07 Table 7.7 (1). -/
  balActive : Bool := false
  /-- 07 Table 7.7 (1). -/
  rest : Bool := false
  /-- 07 R189 (ns). -/
  restSince : Option Nat := none
  /-- 07 R187 I_EST_CHG (A). -/
  iChg : Rat := 0
  /-- 07 R187 I_EST_DIS (A). -/
  iDis : Rat := 0
  /-- 07 R187 M_s (mV). -/
  mS : Rat := 0
  /-- 07 Table 7.6 PLM cell index of M_s (9). -/
  mCell : Nat := 0
  /-- 07 R184 mean SOC_r (%). -/
  socS : Rat := 0
  /-- 07 Table 7.6 lowest SOC_r (%). -/
  socMin : Rat := 0
  /-- 06 R172 highest cell temperature (C). -/
  tS : Rat := 25
  /-- 07 R180 REINIT awaits the next bank-cycle step (1). -/
  reinit : Bool := false
  /-- 07 R180 the running step initialises the cells again (1). -/
  reinitRun : Bool := false
  /-- 07 R191 CAPACITY_LEARNED recorded in this rest (1). -/
  learnedRest : Bool := false
  /-- 07 R195 charge since the last learned-values write, journaled (Ah). -/
  chargeJ : Rat := 0
  /-- 07 R195 of it, what the running learned-values write covers (Ah). -/
  chargeW : Rat := 0
  /-- 07 R195 largest current of the last journaled second (A). -/
  lastSecI : Rat := 0
  /-- 07 (24). -/
  nodes : List (Nat × NodeBal) := []
  deriving DecidableEq, Repr, Inhabited

/-- Dispatch command body (06 Table 6.2). -/
structure DispBody where
  /-- 06 Table 6.2 HOST_TAG (64). -/
  tag : BitVec 64 := 0
  /-- 06 Table 6.2 VALUE (32). -/
  value : BitVec 32 := 0
  /-- 06 Table 6.2 RAMP (32). -/
  ramp : BitVec 32 := 0
  /-- 06 Table 6.2 VALID_UNTIL (64). -/
  validUntil : BitVec 64 := 0
  /-- 06 Table 6.2 MASK (8). -/
  mask : BitVec 8 := 0
  /-- 06 Table 6.2 FLAGS (8). -/
  flags : BitVec 8 := 0
  /-- 06 Table 6.2 reserved (48). -/
  zero : BitVec 48 := 0
  deriving DecidableEq, Repr, Inhabited

/-- 06 Table 6.4, Table 6.6 EST_DISP_QSTAT. -/
inductive TermStatus where
  | waiting | executed | expired | lapsed
  deriving DecidableEq, Repr, Inhabited

/-- An accepted dispatch command and its terminal status, journaled (06 R168, R169). -/
structure DispEntry where
  /-- 06 R168 (64). -/
  seq : Nat := 0
  /-- 06 R168 the host identity that sent it. -/
  ident : Nat := 0
  /-- 06 Table 6.2 (32 bytes). -/
  body : DispBody := {}
  /-- 06 R169 (2). -/
  status : TermStatus := .waiting
  /-- 06 R169 bank cycle of the terminal status (64). -/
  cycle : Nat := 0
  /-- 06 R169 bank cycle of acceptance (64). -/
  accCycle : Nat := 0
  /-- 01 R23 stamp at its acknowledgement (64). -/
  tsc : Nat := 0
  deriving DecidableEq, Repr, Inhabited

/-- A host identity kept in the journal (06 R168; 12 R320). -/
structure HostIdent where
  /-- 12 R320. -/
  ident : Nat := 0
  /-- 12 R320 its index (0-7). -/
  slot : Nat := 0
  /-- 06 R168 last accepted HOST_TAG (64). -/
  tag : BitVec 64 := 0
  /-- 06 R168 its sequence number (64). -/
  seq : Nat := 0
  /-- 12 R325 last journaled WTAG (64). -/
  wtag : BitVec 64 := 0
  /-- 12 R329 its JSEQ (64). -/
  jseq : Nat := 0
  deriving DecidableEq, Repr, Inhabited

/-- 06 Table 6.6 (scope Notation order). -/
inductive BankState where
  | off | standby | precharge | run | hold | stop | fault | service
  deriving DecidableEq, Repr, Inhabited

/-- An estimation record (09 R247). -/
structure EstRecord where
  /-- 09 R247 (1). -/
  complete : Bool := true
  /-- 09 R247 every cell (3072). -/
  cells : List (Nat × CellCopy) := []
  /-- 09 R247 covariances of 24 cells in binary16 (24). -/
  covs : List (Nat × List (BitVec 16)) := []
  /-- 09 R247 learned values that changed in the cycle. -/
  learned : List (Nat × LearnCell) := []
  /-- 01 R33, 07 R197 estimation state of the strings. -/
  strs : Vector StrEst 8 := Vector.replicate 8 {}
  /-- 07 R197 the last set that the states cover (cycle). -/
  upTo : Nat := 0
  /-- 09 R247, 06 R170 dispatch state: the commands with their statuses. -/
  disp : List DispEntry := []
  /-- 06 R170 last HOST_TAG of each identity (8). -/
  idents : List HostIdent := []
  /-- 06 R168 copies not yet acknowledged (numbers). -/
  wait : List Nat := []
  /-- 06 R168 (64). -/
  nextSeq : Nat := 1
  /-- 06 R168 (64). -/
  accSeq : Nat := 0
  /-- 06 R169 (64). -/
  doneSeq : Nat := 0
  /-- 06 R170 command in force. -/
  inForce : Option DispEntry := none
  /-- 06 R170 bank state. -/
  state : BankState := .off
  /-- 06 R170 (32). -/
  target : Int := 0
  /-- 14 R373 quadrature counts (8 x 32). -/
  counts : List (BitVec 32) := []
  /-- 07 R197 LEARN_SEQ (64). -/
  learnSeq : Nat := 0
  /-- 10 R274 T0 of the bank cycle that sent the record (64). -/
  t0 : Nat := 0
  /-- 10 R274 COUNTER of the last applied token (32). -/
  tokenCtr : BitVec 32 := 0
  deriving DecidableEq, Repr, Inhabited

/-- A journaled register value (12 R329, R330). -/
structure JEntry where
  /-- 12 R329 (24). -/
  addr : Nat := 0
  /-- 12 R329 (32). -/
  value : BitVec 32 := 0
  /-- 12 R329 (64). -/
  jseq : Nat := 0
  /-- 01 R23 stamp at its acknowledgement (64). -/
  tsc : Nat := 0
  deriving DecidableEq, Repr, Inhabited

/-- A history record (11 Table 11.4, 11.5). -/
structure HistRec where
  /-- 11 Table 11.4 KIND (16). -/
  kind : BitVec 16 := 0
  /-- 11 Table 11.4 LEN (32). -/
  len : Nat := 32
  /-- 11 Table 11.4 SOURCE (12). -/
  source : Nat := 0
  /-- 11 Table 11.4 SOURCE [12] (1). -/
  member : Bool := false
  /-- 11 Table 11.4 TSC (64). -/
  tsc : Nat := 0
  /-- 11 Table 11.4 RSEQ (64). -/
  rseq : Nat := 0
  /-- 11 Table 11.4 FLAGS (16). -/
  flags : BitVec 16 := 0
  /-- 11 R299 segment of its byte address (64). -/
  seg : Nat := 0
  /-- 11 R299 offset of its byte address in the segment (32). -/
  offset : Nat := 0
  /-- 11 Table 11.5 (bytes). -/
  body : List (BitVec 8) := []
  deriving DecidableEq, Repr, Inhabited

/-- A stamped event in the first-fault queue (11 R311). -/
structure Event where
  /-- 00 R15 (16). -/
  code : BitVec 16 := 0
  /-- 01 R26 (12). -/
  source : Nat := 0
  /-- 01 R25 (1). -/
  member : Bool := false
  /-- 01 R23 (64). -/
  tsc : Nat := 0
  /-- 01 R20 TIME_PROVISIONAL (1). -/
  prov : Bool := false
  /-- 10 R286 MAC field zero (1). -/
  noMac : Bool := false
  /-- 11 Table 11.7 BODY, its fields in order (fields). -/
  body : List Int := []
  deriving DecidableEq, Repr, Inhabited

/-- A first-fault record (11 Table 11.7). -/
structure FfrRec where
  /-- 11 Table 11.7 LEN (16). -/
  len : Nat := 16
  /-- 11 Table 11.7 CODE, SOURCE, TSC, BODY. -/
  ev : Event := {}
  /-- 11 Table 11.7 MIRROR (1). -/
  mirror : Bool := false
  /-- 11 Table 11.7 SUMMARY, GAP, FULL (3). -/
  flags : BitVec 3 := 0
  /-- 11 Table 11.7 SEQ (32). -/
  seq : BitVec 32 := 0
  /-- 11 tail in force REV (32). -/
  rev : BitVec 32 := 0
  /-- 11 tail in force REPEAT (16). -/
  rep : BitVec 16 := 0
  /-- 11 tail in force LAST_TSC (64). -/
  lastTsc : Nat := 0
  /-- 11 R310 REPEAT of the tail that is not in force (16). -/
  oldRep : BitVec 16 := 0
  /-- 11 R310 LAST_TSC of the tail that is not in force (64). -/
  oldTsc : Nat := 0
  /-- 11 R310 COMMIT written (1). -/
  committed : Bool := false
  /-- 11 R309 generation of the record MAC key of the tail in force. -/
  gen : Nat := 0
  /-- 11 R309 that of the other tail. -/
  oldGen : Nat := 0
  deriving DecidableEq, Repr, Inhabited

/-- Accepted work that the active member copies to the standby (09 R249). -/
inductive TwinWork where
  | dispatch (e : DispEntry)
  | write (e : JEntry) (ident : Nat) (wtag : BitVec 64)
  | history (r : HistRec)
  | historyFreed (rseq : Nat)
  | historySealed (seg : Nat) (link : BitVec 384)
  | archive (r : FfrRec)
  | learn (seq trig : Nat)
  | ringEnum (n : Fin 8)
  | ringTables (n : Fin 8) (keys : List (Option Nat)) (bcast : Option Nat) (dA dB : List Nat) (transit : Nat)
  | ringMeasured (n : Fin 8) (code pos : Nat) (dA dB : List Nat) (transit : Nat)
  deriving DecidableEq, Repr, Inhabited

/-- One learned-values area in the journal (07 Table 7.4). -/
structure LearnArea where
  /-- 07 LEARN_SEQ (64). -/
  seq : Nat := 0
  /-- 07 TSC (64). -/
  tsc : Nat := 0
  /-- 07 MODEL_DIGEST (384). -/
  modelDigest : BitVec 384 := 0
  /-- 07 CELL (3072 x 48). -/
  cells : List (Nat × LearnCell) := []
  /-- 07 RC (8 x 4112). -/
  rc : List (Nat × BitVec 17 × List (Nat × Rat)) := []
  /-- 07 TRIGGER (32). -/
  trigger : Nat := 0
  /-- 07 CRC and COMMIT (1). -/
  valid : Bool := false
  deriving DecidableEq, Repr, Inhabited

/-- 16 MiB MRAM journal (01 Table 1.8; survives reset). -/
structure Journal where
  /-- 12 R320 (8 entries). -/
  idents : List HostIdent := []
  /-- 12 R321 last write tag of the console entry (64). -/
  consoleTag : BitVec 64 := 0
  /-- 12 R321 (64). -/
  consoleJseq : Nat := 0
  /-- 06 R168 next acceptance sequence number (64). -/
  nextSeq : Nat := 1
  /-- 06 EST_DISP_ACC last accepted sequence number (64). -/
  accSeq : Nat := 0
  /-- 06 R168, R169 (accepted commands). -/
  disp : List DispEntry := []
  /-- 06 EST_DISP_DONE last sequence number with a terminal status (64). -/
  doneSeq : Nat := 0
  /-- 12 R329 (64). -/
  nextJseq : Nat := 1
  /-- 12 R329 (<= 1024 addresses). -/
  writes : List JEntry := []
  /-- 02 R44 completed steps k (0-64). -/
  stepsDone : Nat := 0
  /-- 02 R44 a plan is partly applied (1). -/
  planOpen : Bool := false
  /-- 02 R42, R46 a step or commit is pending (1). -/
  planPend : Bool := false
  /-- 02 R47 configuration digest of the base (384). -/
  baseDigest : BitVec 384 := 0
  /-- 02 R48, R56 journaled decision (step, T0). -/
  decided : Option (Nat × Nat) := none
  /-- 05 Table 5.14 LOCKOUT per string (8). -/
  lockout : BitVec 8 := 0
  /-- 07 Table 7.4 last LEARN_SEQ given to a write; never reused (64). -/
  learnLast : Nat := 0
  /-- 07 R193, EST_LEARN_AGE end of the last completed write (TSC). -/
  learnDone : Option Nat := none
  /-- 07 R194 (192 KiB). -/
  area0 : LearnArea := {}
  /-- 07 R194 (192 KiB). -/
  area1 : LearnArea := {}
  /-- 07 R195 balancing charge since the last learned-values write (per cell). -/
  balCharge : List (Nat × Rat) := []
  /-- 07 R195 (per string). -/
  strCharge : List (Nat × Rat) := []
  /-- 07 R192, R195 largest current of the last journaled second (per string, A). -/
  strLastI : List (Nat × Rat) := []
  /-- 15 R387 RETAIN variables (values). -/
  retain : List Nat := []
  /-- 09 R240 (per lease: STRING n 0-7, RING n 8-15, HISTORY 16, PACK b 32 + b). -/
  epochs : List (Nat × BitVec 32) := []
  /-- 16 THM_THROTTLE_S, since manufacture (ms). -/
  throttleMs : Nat := 0
  deriving DecidableEq, Repr, Inhabited

/-- Gecko's model of one cell (07). -/
structure Cell where
  /-- 07 Table 7.1 (20 states). -/
  x : List Rat := []
  /-- 07 R177 (20 x 20). -/
  cov : List Rat := []
  /-- 07 R193. -/
  learn : LearnCell := {}
  /-- 07 R183 SOC_e (%). -/
  socE : Rat := 0
  /-- 07 R179 standard deviation (%). -/
  sdSoc : Rat := 100
  /-- 07 R177 (1). -/
  openLoop : Bool := false
  /-- 07 R178 (1). -/
  diverged : Bool := false
  /-- 07 R177 consecutive predicted-only sets (sets). -/
  predRun : Nat := 0
  /-- 07 R177 consecutive corrected sets (sets). -/
  corrRun : Nat := 0
  /-- 07 R178 normalised squared innovations (last 1000). -/
  innov : List Rat := []
  /-- 07 R178 since when the mean is below 2.0 (ns). -/
  lowSince : Option Nat := none
  /-- 07 R189 (1). -/
  restPoint : Bool := false
  /-- 07 R186 M_c (mV). -/
  plm : Rat := 0
  /-- 07 R186 I_pl (A). -/
  iPl : Rat := 0
  /-- 07 R186 (A). -/
  iVmax : Rat := 0
  /-- 07 R186 (A). -/
  iVmin : Rat := 0
  /-- 07 R200 confirmed bleed (1). -/
  bleed : Bool := false
  /-- 07 R200 confirmed cell-to-pack current (mA). -/
  xferOut : Nat := 0
  /-- 07 R200 confirmed pack-to-cell current (mA). -/
  xferIn : Nat := 0
  /-- 07 R198 state_c (1). -/
  balOn : Bool := false
  /-- 04 EST_TINT temperature and instant (C, TSC). -/
  tInt : Option (Rat × Nat) := none
  /-- 04 R125 (uOhm, NO_CROSSING). -/
  rOhm : Option (Rat × Bool) := none
  /-- 04 R125 (uOhm). -/
  rCt : Option Rat := none
  /-- 04 R125 IMPEDANCE_DRIFT (1). -/
  drift : Bool := false
  /-- 07 R189 1 s voltage means (300 x 1 s). -/
  means : List (Nat × Rat) := []
  /-- 07 R189 voltages of the running second (0.1 mV). -/
  secSum : Rat := 0
  /-- 07 R189 (count). -/
  secN : Nat := 0
  /-- 07 R189 (s). -/
  secNo : Nat := 0
  /-- 07 R178 mean of the last 1,000. -/
  meanInnov : Rat := 0
  /-- 07 R195 balancing charge since the last learned-values write (Ah). -/
  balQ : Rat := 0
  /-- 07 R195 of it, what the running learned-values write covers (Ah). -/
  balW : Rat := 0
  /-- 07 R176 cell current i_c of the latest set (A). -/
  iCell : Rat := 0
  deriving DecidableEq, Repr, Inhabited

/-- Last set's entry and state of one pack node at its Ring port (03). -/
structure NodeEntry where
  /-- 03 R81 (1). -/
  enumerated : Bool := false
  /-- 03 R77, Table 3.19 (16, 0.25 ns). -/
  dlyA : BitVec 16 := 0
  /-- 03 R77, Table 3.19 (16, 0.25 ns). -/
  dlyB : BitVec 16 := 0
  /-- 03 R97 RINGn_TDLY (16). -/
  tdlyA : BitVec 16 := 0
  /-- 03 R97 RINGn_TDLY (16). -/
  tdlyB : BitVec 16 := 0
  /-- 03 Table 3.7, RINGn_NODEk (32). -/
  status : BitVec 32 := 0
  /-- 03 R71 the module's command counter for the node (8). -/
  ctr : BitVec 8 := 0
  /-- 03 R71 after a switchover the counter is set from the CTR_LAST of the node's next SAMPLE (1). -/
  ctrSync : Bool := false
  /-- 03 R92 consecutive missing sets (count). -/
  missRun : Nat := 0
  /-- 03 R92 not served again until enumeration (1). -/
  isolated : Bool := false
  /-- 03 R69 node session key (value opaque: 10) (256). -/
  key : Option Nat := none
  /-- 01 R28 entry of the last closed set valid (1). -/
  valid : Bool := false
  /-- 03 R72 SAMPLE received in this cycle (1). -/
  got : Bool := false
  /-- 03 Table 3.5 primary cell values, 100 uV (16 x C). -/
  pri : List (BitVec 16) := []
  /-- 03 Table 3.5 secondary cell values, 100 uV (16 x C). -/
  sec : List (BitVec 16) := []
  /-- 03 Table 3.5 TEMP[0..7], 0.01 C (8 x 16). -/
  temps : List (BitVec 16) := []
  /-- 07 Table 7.2 age of the sensor temperatures (ns). -/
  tempsUp : Option Nat := none
  /-- 03 Table 3.5 EXT (0-28 bytes). -/
  ext : List (BitVec 8) := []
  deriving DecidableEq, Repr, Inhabited

/-- What the active member sends during Axolotl resync (09 Table 9.8). -/
structure ResyncCopy where
  /-- 09 Table 9.8 journal. -/
  jrn : Journal := {}
  /-- 09 Table 9.8 the digests of both journals match (1). -/
  digestOk : Bool := true
  /-- 09 Table 9.8 full estimation state. -/
  cells : List (Nat × Cell) := []
  /-- 09 Table 9.8 full control state. -/
  ctl : Vector CtlRecord 8 := Vector.replicate 8 {}
  /-- 09 Table 9.8 whole repetitive-controller memory (per string: f_g, cells). -/
  rcMem : List (Nat × BitVec 17 × List (Nat × Rat)) := []
  /-- 09 Table 9.8 delay tables and session keys (by string x 24 + node - 1). -/
  nodes : List (Nat × NodeEntry) := []
  /-- 09 Table 9.8 RINGn_LOOP_ENUM (per string). -/
  loops : List (Nat × BitVec 32) := []
  /-- 09 Table 9.8 gate-driver session keys (by string x 6 + phase). -/
  gdKeys : List (Nat × Nat) := []
  /-- 15 R396 the active member's data area (values). -/
  data : List Nat := []
  /-- 15 R396 its scan boundary (T0s). -/
  scanIn : Nat := 0
  /-- 14 R373 (8 x 32). -/
  counts : List (BitVec 32) := []
  /-- 10 R274 last COUNTER (32). -/
  tokenCtr : BitVec 32 := 0
  /-- 09 Table 9.8 history records that the active member's ring holds. -/
  hist : List HistRec := []
  deriving DecidableEq, Repr, Inhabited

/-- The record that a twin-link frame carries, beside its plain numbers (09 R235, R246, R247, R249). -/
inductive TwinMsg where
  | plain
  | nums (l : List Int)
  | time (arrived : BitVec 32)
  | renew (l : List (LeaseId × BitVec 32))
  | control (n : Fin 8) (c : CtlRecord)
  | estimation (e : EstRecord)
  | work (w : TwinWork)
  | ffr (r : FfrRec)
  | resync (c : ResyncCopy)
  deriving DecidableEq, Repr, Inhabited

/-- One message or line change the module makes (MODEL: an observation, no register). -/
structure Out where
  /-- MODEL. -/
  chan : OutChan := .line
  /-- MODEL: session, string, port or lane. -/
  ix : Nat := 0
  /-- MODEL: the spec's name of the message or line. -/
  what : String := ""
  /-- MODEL: its fields in the spec's order, or its bytes. -/
  args : List Int := []
  /-- MODEL: the record that a twin-link frame carries. -/
  msg : TwinMsg := .plain
  deriving DecidableEq, Repr, Inhabited

/-- Kind of a time report (01 R20). -/
inductive SrcKind where
  | ptp | timeSet | resync
  deriving DecidableEq, Repr, Inhabited

/-- An LHP request: its session and message (12 R323). -/
structure Req where
  /-- 12 Table 12.7 session slot, 8 the console (4). -/
  session : Nat := 0
  /-- 12 Table 12.2 MSG_ID (32). -/
  msg : Nat := 0
  deriving DecidableEq, Repr, Inhabited

/-- 02 Table 2.11 PLAN_STATE. -/
inductive PlanState where
  | none | ready | partly | complete | pending
  deriving DecidableEq, Repr, Inhabited

/-- Header fields of an image (02 Table 2.1). -/
structure ImgHeader where
  /-- 02 Table 2.1 MAGIC (32). -/
  magic : BitVec 32 := 0
  /-- 02 Table 2.1 FORMAT (16). -/
  format : BitVec 16 := 0
  /-- 02 Table 2.1 SECTION_COUNT (16). -/
  sectionCount : Nat := 0
  /-- 02 Table 2.1 IMAGE_LENGTH (32). -/
  length : Nat := 0
  /-- 02 Table 2.1 BANK_ID (16). -/
  bankId : BitVec 16 := 0
  /-- 02 Table 2.1 FLAGS (16). -/
  flags : BitVec 16 := 0
  /-- 02 Table 2.1 FW_MIN (16). -/
  fwMin : Nat := 0
  /-- 02 Table 2.1 FW_MAX (16). -/
  fwMax : Nat := 0
  /-- 02 Table 2.1 IMAGE_SERIAL (32). -/
  serial : Nat := 0
  /-- 02 Table 2.1 TOOL_VERSION (32). -/
  tool : BitVec 32 := 0
  /-- 02 Table 2.1 IMAGE_DIGEST (384). -/
  digest : BitVec 384 := 0
  /-- 02 Table 2.1 OWNER_KEY_ID (128). -/
  keyId : BitVec 128 := 0
  /-- 02 Table 2.1 BASE_DIGEST (384). -/
  baseDigest : BitVec 384 := 0
  deriving DecidableEq, Repr, Inhabited

/-- Transition envelope (02 Table 2.4). -/
structure Envelope where
  /-- 02 Table 2.4 I_MAX, 0.1 A (8 x 16). -/
  iMax : Vector Nat 8 := Vector.replicate 8 0xFFFF
  /-- 02 Table 2.4 V_BUS_MIN, 0.1 V (16). -/
  vBusMin : Nat := 0
  /-- 02 Table 2.4 V_BUS_MAX, 0.1 V (16). -/
  vBusMax : Nat := 0xFFFF
  /-- 02 Table 2.4 RUN_ALLOWED (8). -/
  runAllowed : BitVec 8 := 0xFF
  /-- 02 Table 2.4 BANK_STATES (8). -/
  bankStates : BitVec 8 := 0xFF
  /-- 02 Table 2.4 FLAGS [0] (1). -/
  touchesSafety : Bool := false
  /-- 02 Table 2.4 REENUM (8). -/
  reenum : BitVec 8 := 0
  deriving DecidableEq, Repr, Inhabited

/-- Coefficient registers, binary32 (05 Table 5.13). -/
structure Coeffs where
  /-- 05 STRn_KP_PH (32). -/
  kpPh : BitVec 32 := 0
  /-- 05 STRn_KI_PH (32). -/
  kiPh : BitVec 32 := 0
  /-- 05 STRn_KFF default 1.0 (32). -/
  kff : BitVec 32 := 0x3F800000
  /-- 05 STRn_KP_STR (32). -/
  kpStr : BitVec 32 := 0
  /-- 05 STRn_KI_STR (32). -/
  kiStr : BitVec 32 := 0
  /-- 05 STRn_KP_BUS (32). -/
  kpBus : BitVec 32 := 0
  /-- 05 STRn_KI_BUS (32). -/
  kiBus : BitVec 32 := 0
  deriving DecidableEq, Repr, Inhabited

/-- One string in TOPOLOGY and CONTROL (02 Table 2.2). -/
structure StrCfg where
  /-- 02 Table 2.2 TOPOLOGY (1). -/
  declared : Bool := false
  /-- 00 Table 0.1 (0-24). -/
  packs : Nat := 0
  /-- 00 Table 0.1 (8-16). -/
  cells : Nat := 16
  /-- 02 Table 2.2 Ring routing. -/
  routing : Nat := 0
  /-- 00 Table 0.1 cell window (0.1 mV). -/
  vLo : Nat := 25000
  /-- 00 Table 0.1 cell window (0.1 mV). -/
  vHi : Nat := 36500
  /-- 05 R126 carrier frequency (Hz). -/
  fc : Nat := 50000
  /-- 05 R128 SYNC mode (1). -/
  sync : Bool := false
  /-- 05 Table 5.19 PHASE (16). -/
  phase : BitVec 16 := 0
  /-- 04 R115 I_RATED (0.1 A). -/
  iRated : Nat := 4000
  /-- 05 R136 absolute charge limit (0.1 A). -/
  iChgMax : Nat := 0
  /-- 05 R136 absolute discharge limit (0.1 A). -/
  iDisMax : Nat := 0
  /-- 05 R127 D_MIN. -/
  dMin : Rat := 1/50
  /-- 05 R127 D_MAX. -/
  dMax : Rat := 49/50
  /-- 05 Table 5.6 DEAD (10 ns). -/
  dead : Nat := 10
  /-- 05 R149 hold window (us). -/
  holdUs : Nat := 0
  /-- 05 Table 5.13 initial values (7 x 32). -/
  coeffs : Coeffs := {}
  /-- 05 R139, R110 bounds (register offset, low, high). -/
  bounds : List (Nat × Rat × Rat) := []
  /-- 05 Table 5.13 STRn_TBAL_CFG (32). -/
  tbal : BitVec 32 := 0x0064000A
  /-- 05 Table 5.13 STRn_RAMP (16). -/
  ramp : BitVec 16 := 100
  /-- 05 R151 PICKUP_MAX (ms). -/
  pickupMs : Nat := 80
  /-- 05 R151 DROPOUT_MAX (ms). -/
  dropoutMs : Nat := 50
  /-- 05 R152 economiser duty (%). -/
  economiser : Nat := 25
  /-- 05 R153 PRE_TIMEOUT (ms). -/
  preTimeoutMs : Nat := 3000
  /-- 05 R153 PRE_DV (% of the pack sum). -/
  preDv : Rat := 2
  /-- 05 Table 5.12 VBUS range (0.1 V). -/
  vbusLo : Nat := 0
  /-- 05 Table 5.12 VBUS range (0.1 V). -/
  vbusHi : Nat := 15000
  /-- 05 R133 calibration recorded at commissioning (10: gain, offset). -/
  gains : List (Rat × Rat) := []
  /-- 04 R118 correction of ISTR_A and ISTR_B for the gain and phase of amplifier and filter, from commissioning (2: real, imaginary). -/
  ampCor : List (Rat × Rat) := []
  /-- 06 R159 period source HOST (1). -/
  rcHost : Bool := false
  /-- 06 R160 LEAD (0-64 cells). -/
  rcLead : Nat := 0
  /-- 06 R160 RC_LIM (% of I_RATED). -/
  rcLim : Rat := 5
  /-- 06 R161 HARM_MASK, bit h (16). -/
  harmMask : BitVec 16 := 0x1FFC
  /-- 06 Table 6.8 STRn_RC_GAIN (32). -/
  rcGain : BitVec 32 := 0x3C23D70A
  deriving DecidableEq, Repr, Inhabited

/-- Section PAIR (02 Table 2.2). -/
structure PairCfg where
  /-- 10 Table 10.3 SERIAL2 (64). -/
  twinSerial : Nat := 0
  /-- 10 R279 member 0's identity (128). -/
  identity0 : BitVec 128 := 0
  /-- 10 R279 member 1's identity (128). -/
  identity1 : BitVec 128 := 0
  /-- 09 R239 FORM_WAIT (ms). -/
  formWaitMs : Nat := 2000
  /-- 09 Table 9.1 TWIN_MIN (16). -/
  twinMin : BitVec 16 := 0
  /-- 09 Table 9.1 TWIN_MAX (16). -/
  twinMax : BitVec 16 := 0xFFFF
  /-- 09 R260 AUTO_RESYNC (1). -/
  autoResync : Bool := true
  deriving DecidableEq, Repr, Inhabited

/-- The bank's part of CONTROL (06). -/
structure DispCfg where
  /-- 06 Table 6.3 bank power limits (W). -/
  pLo : Int := -10000000
  /-- 06 Table 6.3 bank power limits (W). -/
  pHi : Int := 10000000
  /-- 06 Table 6.3 bus voltage limits (0.1 V). -/
  vLo : Nat := 0
  /-- 06 Table 6.3 bus voltage limits (0.1 V). -/
  vHi : Nat := 15000
  /-- 06 Table 6.2 default RAMP (W/ms). -/
  rampW : Nat := 1000
  /-- 06 Table 6.2 default RAMP (0.1 V/ms). -/
  rampV : Nat := 1
  /-- 06 R172 K_SOC. -/
  kSoc : Rat := 5
  /-- 06 R172 T_KNEE (C). -/
  tKnee : Rat := 40
  /-- 06 R172 T_MAX (C). -/
  tMax : Rat := 50
  /-- 06 R172 PL_KNEE (mV). -/
  plKnee : Rat := 20
  /-- 07 Table 7.6 EST_SOC_RATE bounds (0.01 %/min). -/
  socRateLo : Nat := 10
  /-- 07 Table 7.6 EST_SOC_RATE bounds (0.01 %/min). -/
  socRateHi : Nat := 1000
  deriving DecidableEq, Repr, Inhabited

/-- The part of CELL_MODEL that the rules name (04 R122, R125; 07). -/
structure CellModel where
  /-- 04 R122 temperature frequency (mHz). -/
  fT : Nat := 10000
  /-- 04 R125 (mHz). -/
  fCt : Nat := 1000
  /-- 04 R122 phase table, degrees (C: phase at 20, 50 and 80 %). -/
  phiTab : List (Rat × Rat × Rat × Rat) := []
  /-- 04 R125 threshold of R_ohm (%). -/
  thrOhm : Rat := 20
  /-- 04 R125 threshold of R_ct (%). -/
  thrCt : Rat := 30
  /-- 07 R185 Q_NOM (Ah). -/
  qNom : Rat := 600
  /-- 07 R185 R_OHM_NOM (uOhm). -/
  rOhmNom : Rat := 200
  /-- 07 R193 initial R_ct,base (uOhm). -/
  rCtNom : Rat := 200
  /-- 07 R176 initial state of charge (%). -/
  socInit : Rat := 50
  /-- 07 R176 initial states (20 states). -/
  xInit : List Rat := []
  /-- 07 R180 initial covariance (20 x 20). -/
  covInit : List Rat := []
  /-- 07 R183 coulombic efficiency. -/
  etaC : Rat := 1
  /-- 07 R191 CAP_SPAN (%). -/
  capSpan : Rat := 40
  /-- 07 R189 REST_TIME (min). -/
  restMin : Nat := 20
  /-- 07 R186 PL_FLOOR (mV). -/
  plFloor : Rat := 5
  /-- 07 R186 V_EST_MAX (mV). -/
  vEstMax : Rat := 3650
  /-- 07 R186 V_EST_MIN (mV). -/
  vEstMin : Rat := 2500
  /-- 07 R187 LIM_RISE (% of I_RATED per s). -/
  limRise : Rat := 1
  /-- 07 R190 open-circuit voltage curve (% and mV). -/
  ocv : List (Rat × Rat) := []
  /-- 07 R187 temperature table (C; charge A, discharge A). -/
  tempTab : List (Rat × Rat × Rat) := []
  /-- 07 R188 FALLBACK tables (C; charge A, discharge A). -/
  fallback : List (Rat × Rat × Rat) := []
  /-- 07 R188 FALLBACK_FPL. -/
  fallbackFpl : Rat := 1/2
  /-- 07 R198 BAL_ON (Ah). -/
  balOn : Rat := 1/2
  /-- 07 R198 BAL_OFF (Ah). -/
  balOff : Rat := 1/10
  /-- 07 R198 BAL_T_MAX (C). -/
  balTMax : Rat := 60
  /-- 07 R198 XFER_I (mA). -/
  xferI : Nat := 1500
  /-- 07 Table 7.2 nearest sensor (cell 1-16: sensor 0-7). -/
  sensors : List (Nat × Nat) := []
  deriving DecidableEq, Repr, Inhabited

/-- An intake profile of POLICY (11 R302): decimations, 0 none. -/
structure Profile where
  /-- 11 Table 11.6 CELL_SET (sets). -/
  cellSet : Nat := 1
  /-- 11 Table 11.6 TEMP_SET (sets). -/
  tempSet : Nat := 1
  /-- 11 Table 11.6 STRING_SUM (bank cycles). -/
  strSum : Nat := 1
  /-- 11 Table 11.6 EST_SUMMARY (s). -/
  estPeriod : Nat := 1
  deriving DecidableEq, Repr, Inhabited

/-- A CAN port's bus-off policy (13 R353). -/
structure BusOffPol where
  /-- 13 R353 BUSOFF_AUTO (1). -/
  auto : Bool := false
  /-- 13 R353 BUSOFF_DELAY (ms). -/
  delayMs : Nat := 0
  /-- 13 R353 BUSOFF_MAX (1-60). -/
  maxHour : Nat := 1
  deriving DecidableEq, Repr, Inhabited

/-- Section POLICY (02 Table 2.2). -/
structure Policy where
  /-- 11 Table 11.6 Dvornen default profiles. -/
  profiles : Vector Profile 4 := #v[⟨1, 1, 1, 1⟩, ⟨10, 10, 1, 1⟩, ⟨100, 100, 10, 1⟩, ⟨0, 0, 0, 10⟩]
  /-- 11 R303 WARN_FREE (%). -/
  warnFree : Nat := 10
  /-- 11 R303 STEP_FREE (%). -/
  stepFree : Vector Nat 4 := Vector.replicate 4 0
  /-- 11 R303 AUTO_STEP (4). -/
  autoStep : BitVec 4 := 0
  /-- 11 R311 default coalescing window (ns). -/
  ffrWindow : Nat := 1000000
  /-- 11 R311 windows by code (ns). -/
  ffrWindows : List (Nat × Nat) := []
  /-- 11 R311 RATE (1-1024). -/
  ffrRate : Nat := 64
  /-- 06 R163 RC_LOSS is HOLD (1). -/
  rcLossHold : Bool := false
  /-- 17 R415 ENUM_AT_START (8). -/
  enumAtStart : BitVec 8 := 0
  /-- 17 R416 STANDBY_AT_START (1). -/
  standbyAtStart : Bool := false
  /-- 10 R285 TAMPER_RESPONSE is REPORT (1). -/
  tamperReport : Bool := false
  /-- 15 Table 15.2 AUTOSTART (1). -/
  autoStart : Bool := true
  /-- 15 R389 WDOG (scan cycles). -/
  scanWdog : Nat := 10
  /-- 15 Table 15.2 HOLD_MAX (min). -/
  holdMaxMin : Nat := 0
  /-- 16 R411 BP_LOW (0.01 C). -/
  bpLow : Int := 3500
  /-- 16 R411 BP_HIGH (0.01 C). -/
  bpHigh : Int := 5500
  /-- 13 R353. -/
  busOff : Vector BusOffPol 4 := Vector.replicate 4 {}
  /-- 13 R362 HK_AUTO_CLEAR (1). -/
  hkAutoClear : Bool := false
  /-- 07 R198 BAL_IDLE (1). -/
  balIdle : Bool := false
  deriving DecidableEq, Repr, Inhabited

/-- 12 Table 12.11. -/
inductive PtpProfile where
  | udp | l2 | power
  deriving DecidableEq, Repr, Inhabited

/-- Input characteristics (14 Table 14.2). -/
inductive AiChar where
  | linear | root | table
  deriving DecidableEq, Repr, Inhabited

/-- A current-loop input in IO (14 R365-R367). -/
structure AiCfg where
  /-- 14 Table 14.5 UNUSED when clear (1). -/
  assigned : Bool := false
  /-- 14 Table 14.2. -/
  char : AiChar := .linear
  /-- 14 Table 14.2 LO. -/
  lo : Rat := 0
  /-- 14 Table 14.2 HI. -/
  hi : Rat := 1
  /-- 14 Table 14.2 CUTOFF (0-0.10). -/
  cutoff : Rat := 1/100
  /-- 14 Table 14.2 (2-32 points). -/
  table : List (Rat × Rat) := []
  /-- 14 R365 FILT (ms). -/
  filtMs : Nat := 100
  /-- 14 R366 CONFIRM (ms). -/
  confirmMs : Nat := 100
  /-- 15 R393 substitute value, none HOLD_LAST. -/
  subst : Option Rat := none
  deriving DecidableEq, Repr, Inhabited

/-- What an output does in Stop (15 Table 15.2). -/
inductive StopAction where
  | fail | off | hold | substitute
  deriving DecidableEq, Repr, Inhabited

/-- A current-loop output in IO (14 R368). -/
structure AoCfg where
  /-- 14 R368 (1). -/
  assigned : Bool := false
  /-- 14 R368 FAIL_HIGH (1). -/
  failHigh : Bool := false
  /-- 15 Table 15.2 STOP_ACTION. -/
  stop : StopAction := .fail
  /-- 15 Table 15.2 SUBSTITUTE (0.5 uA). -/
  subst : Nat := 0
  deriving DecidableEq, Repr, Inhabited

/-- A discrete output in IO (14 R381). -/
structure DoCfg where
  /-- 14 R381 (1). -/
  assigned : Bool := false
  /-- 15 Table 15.2 STOP_ACTION. -/
  stop : StopAction := .off
  /-- 15 Table 15.2 SUBSTITUTE (1). -/
  subst : Bool := false
  deriving DecidableEq, Repr, Inhabited

/-- 14 R370, Table 14.7 mode. -/
inductive QinMode where
  | x1 | x2 | x4 | pulse | pulseDir
  deriving DecidableEq, Repr, Inhabited

/-- A quadrature or pulse channel in IO (14 R370). -/
structure QinCfg where
  /-- 14 R370 (1). -/
  assigned : Bool := false
  /-- 14 R370 (3). -/
  mode : QinMode := .x1
  deriving DecidableEq, Repr, Inhabited

/-- An ultrasonic flow channel in IO (14 R374-R377). -/
structure UsfCfg where
  /-- 14 R374 (1). -/
  assigned : Bool := false
  /-- 14 R374 (2-16). -/
  cycles : Nat := 8
  /-- 14 R374 (Hz). -/
  burstHz : Nat := 1000000
  /-- 14 R375 AMP_MIN (%). -/
  ampMin : Nat := 25
  /-- 14 R375 CORR_MIN (x 0.01). -/
  corrMin : Nat := 80
  /-- 14 R377 HOLD (ms). -/
  holdMs : Nat := 500
  /-- 14 R376 L (m). -/
  len : Rat := 1/10
  /-- 14 R376 path angle (deg). -/
  theta : Rat := 45
  /-- 14 R376 D (m). -/
  dia : Rat := 1/20
  /-- 14 R376 profile factor K. -/
  k : Rat := 1
  deriving DecidableEq, Repr, Inhabited

/-- Action of a CAN filter (13 R346). -/
inductive CanAction where
  | q0 | q1 | reject
  deriving DecidableEq, Repr, Inhabited

/-- A receive filter (13 R346). -/
structure CanFilter where
  /-- 13 R346 (1). -/
  on : Bool := false
  /-- 13 R346 (29). -/
  ident : BitVec 29 := 0
  /-- 13 R346 (29). -/
  mask : BitVec 29 := 0
  /-- 13 R346 (1). -/
  ide : Bool := false
  /-- 13 R346. -/
  act : CanAction := .reject
  deriving DecidableEq, Repr, Inhabited

/-- Where a frame carries its enqueue stamp (13 R349). -/
inductive CanStampMode where
  | stamp8 | stamp4 | none
  deriving DecidableEq, Repr, Inhabited

/-- A periodic message of the IO message map (13 R348, R349). -/
structure CanMsg where
  /-- 13 R348 (29). -/
  ident : BitVec 29 := 0
  /-- 13 R348 (1). -/
  ide : Bool := false
  /-- 13 R342 (1). -/
  fd : Bool := false
  /-- 13 R349 (bytes). -/
  len : Nat := 8
  /-- 13 R349, none the default for its size. -/
  stamp : Option CanStampMode := none
  /-- 13 R349 FOREIGN_LAYOUT (1). -/
  foreign : Bool := false
  deriving DecidableEq, Repr, Inhabited

/-- A point of a remote station: a field of one of its messages (15 R392, R393). -/
structure CanPoint where
  /-- 15 R393 (1). -/
  ide : Bool := false
  /-- 15 R393 (29). -/
  ident : BitVec 29 := 0
  /-- 15 R393 (bytes). -/
  offset : Nat := 0
  /-- 15 R393 (bytes). -/
  len : Nat := 1
  /-- 15 R393 substitute value, none HOLD_LAST. -/
  subst : Option Nat := none
  deriving DecidableEq, Repr, Inhabited

/-- A remote station in IO (13 R354). -/
structure CanStation where
  /-- 13 R354 (5). -/
  index : Nat := 0
  /-- 13 R354 (IDE, 29). -/
  idents : List (Bool × BitVec 29) := []
  /-- 13 R354 (IDE, 29). -/
  heartbeat : Bool × BitVec 29 := (false, 0)
  /-- 13 R354 (10 ms-10 s). -/
  timeoutMs : Nat := 1000
  /-- 15 R393. -/
  points : List CanPoint := []
  deriving DecidableEq, Repr, Inhabited

/-- A CAN port in IO (13 R344-R355). -/
structure CanCfg where
  /-- 16 Table 16.3 (1). -/
  assigned : Bool := false
  /-- 13 Table 13.2 MONITOR (1). -/
  monitor : Bool := false
  /-- 13 CANn_NBT (32). -/
  nbt : BitVec 32 := 0
  /-- 13 CANn_DBT (32). -/
  dbt : BitVec 32 := 0
  /-- 13 R344 (7). -/
  sspOffset : Nat := 1
  /-- 13 R345 (1). -/
  triple : Bool := false
  /-- 13 R350 (1). -/
  idOrder : Bool := false
  /-- 13 R346 (32). -/
  filters : List CanFilter := []
  /-- 13 R348. -/
  map : List CanMsg := []
  /-- 13 R354 (32). -/
  stations : List CanStation := []
  /-- 13 R355 time master's reference identifier (IDE, 29). -/
  refId : Option (Bool × BitVec 29) := none
  /-- 13 R355 (1-1000). -/
  refCycleMs : Nat := 1000
  deriving DecidableEq, Repr, Inhabited

/-- PEC of a target (13 Table 13.6). -/
inductive PecMode where
  | required | optional | none
  deriving DecidableEq, Repr, Inhabited

/-- A housekeeping target in IO (13 R358). -/
structure HkCfgT where
  /-- 13 R358 (7). -/
  addr : Nat := 0
  /-- 13 R358 (8). -/
  cmd : Nat := 0
  /-- 13 R358 (1-32). -/
  len : Nat := 1
  /-- 13 R358 (ms). -/
  periodMs : Nat := 1000
  /-- 13 R356. -/
  pec : PecMode := .none
  /-- 15 R393 substitute of the poll result, none HOLD_LAST (<= 32 bytes). -/
  subst : Option (List (BitVec 8)) := none
  /-- 15 R392 command bytes that HK_WRITE may use (8 each). -/
  writable : List Nat := []
  deriving DecidableEq, Repr, Inhabited

/-- Section IO (02 Table 2.2). -/
structure IoCfg where
  /-- 12 Table 12.5 (2). -/
  ptpProfile : PtpProfile := .udp
  /-- 12 Table 12.5 (8). -/
  ptpDomain : BitVec 8 := 0
  /-- 12 Table 12.11 (8). -/
  ptpClassMax : BitVec 8 := 135
  /-- 12 Table 12.8 SPEED of J2A (bit 0) and J2B (bit 1) (2). -/
  portFast : BitVec 2 := 3
  /-- 14. -/
  ai : Vector AiCfg 16 := Vector.replicate 16 {}
  /-- 14. -/
  ao : Vector AoCfg 8 := Vector.replicate 8 {}
  /-- 14. -/
  dout : Vector DoCfg 8 := Vector.replicate 8 {}
  /-- 16 Table 16.3 discrete inputs assigned (16). -/
  din : BitVec 16 := 0
  /-- 14 R381 DI_FILT (samples). -/
  diFilt : Nat := 3
  /-- 14. -/
  qin : Vector QinCfg 8 := Vector.replicate 8 {}
  /-- 14. -/
  usf : Vector UsfCfg 8 := Vector.replicate 8 {}
  /-- 13. -/
  can : Vector CanCfg 4 := Vector.replicate 4 {}
  /-- 13 R358 (up to 32). -/
  hk : List HkCfgT := []
  /-- 01 R18 scan cycle (1-1000). -/
  scanMs : Nat := 10
  deriving DecidableEq, Repr, Inhabited

/-- An entry of COMPAT (17 R427). -/
structure CompatEntry where
  /-- 17 R427: 2 PACK_NODE, 3 GATE_DRIVER (8). -/
  kind : Nat := 0
  /-- 17 R427 HW_ID (16). -/
  hw : Nat := 0
  /-- 17 R427 (16). -/
  modMin : Nat := 0
  /-- 17 R427 (16). -/
  modMax : Nat := 0
  /-- 17 R427 (16). -/
  partMin : Nat := 0
  /-- 17 R427 (16). -/
  partMax : Nat := 0
  deriving DecidableEq, Repr, Inhabited

/-- Section PLANT_LOGIC (15; the program itself is the sender of the scan commands' values). -/
structure PlantCfg where
  /-- 15 R395 which code (384). -/
  digest : Nat := 0
  /-- 15 Table 15.2 a program exists (1). -/
  present : Bool := false
  /-- 15 R395 (identifier, type). -/
  vars : List (Nat × Nat) := []
  /-- 15 R387 (identifiers). -/
  retain : List Nat := []
  deriving DecidableEq, Repr, Inhabited

/-- The configuration in force, as the image's sections carry it (02 Table 2.2). -/
structure Cfg where
  /-- 01 Table 1.12 PAIRED, 02 Table 2.1 FLAGS (1). -/
  paired : Bool := false
  /-- 02 Table 2.2 TOPOLOGY, CONTROL. -/
  strs : Vector StrCfg 8 := Vector.replicate 8 {}
  /-- 00 R2 strings that the image declares beyond the eighth (count). -/
  extraStrs : Nat := 0
  /-- 02 Table 2.2 SAFETY, 08 Table 8.6 (16 x 4096 bytes). -/
  safety : Vector (List (BitVec 8)) 16 := Vector.replicate 16 []
  /-- 02 Table 2.2 PAIR. -/
  pair : PairCfg := {}
  /-- 02 Table 2.2 CONTROL, 06. -/
  disp : DispCfg := {}
  /-- 02 Table 2.2 CELL_MODEL. -/
  model : CellModel := {}
  /-- 02 Table 2.2 ALLOWLIST, 10 Table 10.6 (by string x 6 + phase). -/
  gdAllow : List (Nat × BitVec 128) := []
  /-- 02 Table 2.2 ALLOWLIST, 10 Table 10.6 (by string x 24 + node - 1). -/
  nodeAllow : List (Nat × BitVec 128) := []
  /-- 02 Table 2.2 POLICY. -/
  policy : Policy := {}
  /-- 02 Table 2.2 IO. -/
  io : IoCfg := {}
  /-- 02 Table 2.2 COMPAT. -/
  compat : List CompatEntry := []
  /-- 02 Table 2.2 PLANT_LOGIC. -/
  plant : PlantCfg := {}
  /-- 02 R139, 05 Table 5.13 registers whose IW writes the image does not permit (register addresses). -/
  iwDenied : List Nat := []
  deriving DecidableEq, Repr, Inhabited

/-- One step of a step plan (02 Step plans and envelopes). -/
structure Step where
  /-- 02 R47 digest of the configuration it leaves behind (384). -/
  digest : BitVec 384 := 0
  /-- 02 Table 2.4 (32 bytes). -/
  fwd : Envelope := {}
  /-- 02 Table 2.4, the reverse envelope (32 bytes). -/
  rev : Envelope := {}
  /-- 02 the configuration after the step. -/
  cfg : Cfg := {}
  deriving DecidableEq, Repr, Inhabited

/-- The change pending at the next T0 (02 R45). -/
inductive StepKind where
  | commit | forward | reverse
  deriving DecidableEq, Repr, Inhabited

/-- A PREPARE of the active member (02 R56, 10 R274). -/
structure Prepare where
  /-- 10 R274 for a token (1). -/
  token : Bool := false
  /-- 02 R56. -/
  kind : StepKind := .commit
  /-- 02 R56 step index (7). -/
  index : Nat := 0
  /-- 02 R56 step digest (384). -/
  digest : BitVec 384 := 0
  /-- 02 R56 target T0 (64). -/
  target : Nat := 0
  /-- 10 R274 the token (bytes). -/
  data : List (BitVec 8) := []
  deriving DecidableEq, Repr, Inhabited

/-- 03 Table 3.14 MODE. -/
inductive RingMode where
  | idle | silent | enum | closed | split | lost | enumFailed
  deriving DecidableEq, Repr, Inhabited

/-- 03 Table 3.10, 3.18. -/
inductive LoopState where
  | closed | opened | abnLow | abnHigh
  deriving DecidableEq, Repr, Inhabited

/-- 03 R76-R78, R97: where a running enumeration stands. -/
inductive EnumPhase where
  | silence | assign | session | measureA | openCmd | transit | measureB | peer
  deriving DecidableEq, Repr, Inhabited

/-- 03 R64. -/
inductive RingEnd where
  | a | b
  deriving DecidableEq, Repr, Inhabited

/-- A command queued at a Ring port (03 R84, Table 3.6). -/
structure RingCmdReq where
  /-- 03 R84 target address (6). -/
  node : Nat := 1
  /-- 03 Table 3.6 (16). -/
  opcode : BitVec 16 := 0
  /-- 03 Table 3.6 (bytes). -/
  payload : List (BitVec 8) := []
  /-- 03 R84 R25 order of requests (64). -/
  stamp : Nat := 0
  /-- 03 R84 requesting block (12). -/
  source : Nat := 0
  /-- 03 R84 failed exchanges so far (2). -/
  fails : Nat := 0
  /-- 03 R93 sent ahead of every queued command (1). -/
  urgent : Bool := false
  deriving DecidableEq, Repr, Inhabited

/-- A SAMPLE frame as received (03 Table 3.2, 3.5). -/
structure SampleFrame where
  /-- 03 R68 check passes and TYPE is known (R67) (1). -/
  crcOk : Bool := true
  /-- 03 R68 (1). -/
  macOk : Bool := true
  /-- 03 Table 3.2 SET (8). -/
  set : BitVec 8 := 0
  /-- 03 Table 3.2 END (1). -/
  endB : Bool := false
  /-- 03 Table 3.7 (32). -/
  status : BitVec 32 := 16
  /-- 03 Table 3.5 PRI (16 x C). -/
  pri : List (BitVec 16) := []
  /-- 03 Table 3.5 SEC (16 x C). -/
  sec : List (BitVec 16) := []
  /-- 03 Table 3.5 TEMP (8 x 16). -/
  temps : List (BitVec 16) := []
  /-- 03 Table 3.5 EXT (0-28 bytes). -/
  ext : List (BitVec 8) := []
  deriving DecidableEq, Repr, Inhabited

/-- Status of a REPLY (03 R67, R71; 07 R200). -/
inductive ReplyStatus where
  | ok | notSupported | ctrErr | partialDone
  deriving DecidableEq, Repr, Inhabited

/-- A REPLY frame as received (03 R71, R84). -/
structure ReplyFrame where
  /-- 03 R68 (1). -/
  crcOk : Bool := true
  /-- 03 R68 (1). -/
  macOk : Bool := true
  /-- 03 Table 3.2 ADDR (6). -/
  node : Nat := 1
  /-- 03 Table 3.2 CTR (8). -/
  ctr : BitVec 8 := 1
  /-- 03 Table 3.2 OPCODE (16). -/
  opcode : BitVec 16 := 0
  /-- 03 R71, R67 (8). -/
  status : ReplyStatus := .ok
  /-- 03 R71 CTR_LAST of a CTR_ERR reply (8). -/
  ctrLast : BitVec 8 := 0
  /-- 03 Table 3.6 (bytes). -/
  payload : List (BitVec 8) := []
  deriving DecidableEq, Repr, Inhabited

/-- 03 R93. -/
inductive CloseStep where
  | none | wait | unwrap | awaitReturn | wrapBack
  deriving DecidableEq, Repr, Inhabited

/-- Chorus-aligned conversions of one string at the inputs (04 R108). -/
structure AlignedRaw where
  /-- 04 R108 (0.1 mV). -/
  istrA : Int := 0
  /-- 04 R108 (0.1 mV). -/
  istrB : Int := 0
  /-- 04 R108 (0.1 mV). -/
  vstr : Int := 0
  /-- 04 R118 ISTR_A at the 32 instants of a set, 31.25 us apart, for a point above 20 Hz (32 x 0.1 mV). -/
  fastA : List Int := []
  /-- 04 R118 ISTR_B at the same instants (32 x 0.1 mV). -/
  fastB : List Int := []
  deriving DecidableEq, Repr, Inhabited

/-- What the engine reads at a control-cycle boundary (05 R133; 06 R159). -/
structure BoundaryIn where
  /-- 05 R133, R134 the ten channels at the input (0.1 mV). -/
  raw : Vector Int 10 := Vector.replicate 10 0
  /-- 06 R159 frequency of the phase tracker (1 mHz). -/
  gridFreq : Nat := 0
  /-- 06 R159 phase of the tracker, which follows the fundamental of the VBUS ripple (16, 2^-16 turn). -/
  theta : BitVec 16 := 0
  /-- 06 R159 phase error of the tracker (0.01 deg). -/
  phaseErr : Int := 0
  /-- 06 R159 the VBUS ripple suffices for the tracker (1). -/
  ripple : Bool := false
  deriving DecidableEq, Repr, Inhabited

/-- A STATUS frame of a gate driver (05 Table 5.7). -/
structure StatusFrame where
  /-- 05 R146 (1). -/
  crcOk : Bool := true
  /-- 05 R146 (1). -/
  macOk : Bool := true
  /-- 05 Table 5.7 SEQ_ECHO (8). -/
  seqEcho : BitVec 8 := 0
  /-- 05 Table 5.7 FLAGS [7:0] (8). -/
  flags : BitVec 8 := 0
  /-- 05 Table 5.7 TEMP_U (16, 0.1 C). -/
  tempU : BitVec 16 := 0
  /-- 05 Table 5.7 TEMP_L (16, 0.1 C). -/
  tempL : BitVec 16 := 0
  deriving DecidableEq, Repr, Inhabited

/-- An input of 08 Table 8.1 that a channel tests (08 R227). -/
inductive FabricIn where
  | loop (n : Fin 8)
  | gd (n : Fin 8) (p : Fin 6)
  | oc (n : Fin 8) (chB : Bool)
  | estop (inputB : Bool)
  | ext
  deriving DecidableEq, Repr, Inhabited

/-- 09 Table 9.1 ROLE. -/
inductive Role where
  | alone | active | standby | unsynced | fenced
  deriving DecidableEq, Repr, Inhabited

/-- 09 Table 9.11 ACTIVE_IN. -/
inductive Line3 where
  | low | high | floating
  deriving DecidableEq, Repr, Inhabited

/-- Payload of a HEARTBEAT (09 Table 9.1). -/
structure Heartbeat where
  /-- 09 Table 9.1 (8). -/
  role : Role := .alone
  /-- 09 Table 9.1 (8). -/
  member : Bool := false
  /-- 09 Table 9.1 (16). -/
  flags : BitVec 16 := 0
  /-- 09 Table 9.1 (16). -/
  version : BitVec 16 := 0
  /-- 09 Table 9.1 (16). -/
  twinMin : BitVec 16 := 0
  /-- 09 Table 9.1 (16). -/
  twinMax : BitVec 16 := 0
  /-- 09 Table 9.1 (8). -/
  step : BitVec 8 := 0
  /-- 09 Table 9.1 (8). -/
  latched : BitVec 8 := 0
  /-- 09 Table 9.1 (32). -/
  bootCount : BitVec 32 := 0
  /-- 09 Table 9.1 (128). -/
  cfgDigest : BitVec 128 := 0
  /-- 09 Table 9.1 (64). -/
  ptpView : BitVec 64 := 0x8000000000000000
  /-- 09 Table 9.1 (8). -/
  repeating : BitVec 8 := 0
  deriving DecidableEq, Repr, Inhabited

/-- 09 Table 9.8. -/
inductive ResyncStep where
  | idle | time | journal | control | estimation | history | compare
  deriving DecidableEq, Repr, Inhabited

/-- 09 R257. -/
inductive HandStep where
  | none | commanded | running | released
  deriving DecidableEq, Repr, Inhabited

/-- A copy of accepted work confirmed by the twin (00 R5). -/
inductive WorkCopy where
  | journaled (jseq : Nat)
  | history (rseq : Nat)
  | ffr (seq : BitVec 32)
  | archive (rseq : Nat)
  deriving DecidableEq, Repr, Inhabited

/-- 10 Table 10.14. -/
inductive Ownership where
  | unowned | owned | zeroised
  deriving DecidableEq, Repr, Inhabited

/-- A frame of a partner session exchange (10 Table 10.7). -/
structure SessFrame where
  /-- 10 Table 10.7 STEP (8). -/
  step : Nat := 2
  /-- 10 Table 10.7 identity key point (steps 2) (392). -/
  point : Nat := 0
  /-- 10 Table 10.7 E_N (step 2) (392). -/
  eph : Nat := 0
  /-- 10 Table 10.7 NODE_SIG (step 3, sent with step 2) (96 bytes). -/
  sig : List (BitVec 8) := []
  /-- 10 Table 10.7 DONE (step 6) (128). -/
  mac : BitVec 128 := 0
  /-- 03 R68 check passes (1). -/
  crcOk : Bool := true
  /-- 03 R68 MAC passes where the frame has one (1). -/
  macOk : Bool := true
  deriving DecidableEq, Repr, Inhabited

/-- 11 Table 11.10 STATE. -/
inductive HistState where
  | absent | resuming | writing | stalled | full | notWriter
  deriving DecidableEq, Repr, Inhabited

/-- 11 Table 11.9 HIST_COPY_A. -/
inductive CopyState where
  | absent | labelling | inSync | rebuilding | failed | foreign
  deriving DecidableEq, Repr, Inhabited

/-- A namespace found on a copy's link (11 Table 11.1). -/
structure ShelfNs where
  /-- 11 R292 capacity of the namespace (bytes). -/
  capBytes : Nat := 0
  /-- 11 R306 STORE_ID of its label (128). -/
  storeId : BitVec 128 := 0
  /-- 11 R307 (1). -/
  blank : Bool := true
  deriving DecidableEq, Repr, Inhabited

/-- What an NVMe read or reservation command returned (11 R293, R306, R308). -/
inductive ShelfDone where
  | openSegment (data : List (BitVec 8))
  | sealedSegment (checked : Bool)
  | reservation
  deriving DecidableEq, Repr, Inhabited

/-- 10 Table 10.8, 12 Table 12.7 LHP_SESS role. -/
inductive HostRole where
  | read | operate | service
  deriving DecidableEq, Repr, Inhabited

/-- 12 R317, R321. -/
inductive HostPort where
  | a | b | console
  deriving DecidableEq, Repr, Inhabited

/-- An Announce message (12 R334). -/
structure PtpAnn where
  /-- 12 R334. -/
  port : HostPort := .a
  /-- 12 Table 12.5 (8). -/
  domain : BitVec 8 := 0
  /-- 12 Table 12.5 (1). -/
  transportOk : Bool := true
  /-- 12 Table 12.5 best master clock, per the standard (8). -/
  prio1 : Nat := 128
  /-- 12 R339 clockClass (8). -/
  cls : Nat := 248
  /-- 12 Table 12.5 (8). -/
  accuracy : Nat := 254
  /-- 12 Table 12.5 (16). -/
  variance : Nat := 65535
  /-- 12 Table 12.5 (8). -/
  prio2 : Nat := 128
  /-- 12 R339 grandmaster clockIdentity (64). -/
  gm : BitVec 64 := 0
  /-- 12 Table 12.5 stepsRemoved (16). -/
  steps : Nat := 0
  deriving DecidableEq, Repr, Inhabited

/-- What a TLS handshake shows the module (10 R280). -/
structure TlsConn where
  /-- 12 R317. -/
  port : HostPort := .a
  /-- 10 Table 10.8 versions (1). -/
  tls13 : Bool := true
  /-- 10 Table 10.8 cipher suite (1). -/
  suiteOk : Bool := true
  /-- 10 Table 10.8 the first ClientHello carries a secp384r1 share (1). -/
  share : Bool := true
  /-- 10 Table 10.8 secp384r1, where it has none after the one HelloRetryRequest (1). -/
  groupOk : Bool := true
  /-- 10 Table 10.8 signatures (1). -/
  sigAlgOk : Bool := true
  /-- 10 Table 10.8 client chain, at most two certificates (count). -/
  certs : Nat := 1
  /-- 10 Table 10.8 key that signed the leaf (128). -/
  signer : BitVec 128 := 0
  /-- 10 Table 10.8 digest the leaf's signature covers (384). -/
  digest : BitVec 384 := 0
  /-- 10 Table 10.8 the leaf's signature (96 bytes). -/
  sig : List (BitVec 8) := []
  /-- 10 Table 10.8 keyUsage digitalSignature (1). -/
  digSig : Bool := true
  /-- 10 Table 10.5 certificate serial (160). -/
  serial : Nat := 0
  /-- 10 Table 10.8 validity (64). -/
  notBefore : Nat := 0
  /-- 10 Table 10.8 validity (64). -/
  notAfter : Nat := 0
  /-- 10 Table 10.8 role. -/
  ou : Option HostRole := none
  /-- 12 R319 fingerprint of the leaf's public key (128). -/
  ident : Nat := 0
  deriving DecidableEq, Repr, Inhabited

/-- A PTP event or response message as received (12 R334). -/
structure PtpMsg where
  /-- 12 R334. -/
  port : HostPort := .a
  /-- 12 Table 12.5 (8). -/
  domain : BitVec 8 := 0
  /-- 12 Table 12.5 transport and profile match IO (1). -/
  transportOk : Bool := true
  /-- 12 R334 clockIdentity of the sender (64). -/
  source : BitVec 64 := 0
  /-- 12 Table 12.5 (1). -/
  twoStep : Bool := false
  /-- 12 R334 origin time the message carries (0.25 ns). -/
  t1 : Int := 0
  /-- 12 R334 a second time the message carries (Pdelay_Resp) (0.25 ns). -/
  t2 : Int := 0
  /-- 12 R335 uncorrected ingress timestamp (0.25 ns). -/
  raw : Int := 0
  deriving DecidableEq, Repr, Inhabited

/-- Why a host port goes down (12 R318). -/
inductive LinkDown where
  | los | lock | unfitted
  deriving DecidableEq, Repr, Inhabited

/-- 13 Table 13.9 ERR_STATE. -/
inductive CanErr where
  | active | passive | busOff | recovering
  deriving DecidableEq, Repr, Inhabited

/-- A CAN frame (13 R342, R346). -/
structure CanFrame where
  /-- 13 (1). -/
  ide : Bool := false
  /-- 13 (29). -/
  ident : BitVec 29 := 0
  /-- 13 Table 13.2 (1). -/
  fd : Bool := false
  /-- 13 Table 13.2 (1). -/
  remote : Bool := false
  /-- 13 (<= 64 bytes). -/
  data : List (BitVec 8) := []
  /-- 13 R346, R349 (64). -/
  stamp : Nat := 0
  /-- 13 R346 (12). -/
  source : Nat := 0
  /-- 13 R355 reference message (1). -/
  isRef : Bool := false
  deriving DecidableEq, Repr, Inhabited

/-- Transaction in progress (13 R358-R362). -/
inductive HkXact where
  | none
  | poll (t : Nat)
  | alert
  deriving DecidableEq, Repr, Inhabited

/-- A received burst as correlated (14 R375). -/
inductive BurstResult where
  | pass (tof amp corr : Nat)
  | fail (amp corr : Nat)
  deriving DecidableEq, Repr, Inhabited

/-- 15 Table 15.6 STATE. -/
inductive ScanState where
  | run | stop | hold
  deriving DecidableEq, Repr, Inhabited

/-- What the program does while it runs (15 R392). -/
inductive PlantAct where
  | canSend (port : Fin 4) (ident : BitVec 29) (ide fd : Bool) (data : List (BitVec 8))
  | hkWrite (target cmd : Nat) (data : List (BitVec 8)) (done : Bool)
  | raise (code : BitVec 16) (source : Nat) (body : List Int)
  deriving DecidableEq, Repr, Inhabited

/-- The outputs a main task writes (15 R388). -/
structure PlantOut where
  /-- 14 R368 (0.5 uA, none FAIL or NaN). -/
  ao : List (Fin 8 × Option Nat) := []
  /-- 14 R381. -/
  dout : List (Fin 8 × Bool) := []
  /-- 15 R385 variables after the scan (values). -/
  data : List Nat := []
  deriving DecidableEq, Repr, Inhabited

/-- What the supply is measured at J1 (16 Table 16.8). -/
structure PwrMeas where
  /-- 16 PWR_INPUT (16, 10 mV). -/
  inV : BitVec 16 := 2400
  /-- 16 PWR_INPUT (16, mA). -/
  inI : BitVec 16 := 0
  /-- 16 PWR_HOLDUP (8, %). -/
  energy : BitVec 8 := 100
  /-- 16 PWR_LOAD (16, 10 mW). -/
  load : BitVec 16 := 0
  deriving DecidableEq, Repr, Inhabited

/-- 16 Table 16.10 BAND. -/
inductive Band where
  | cold | normal | warm | hot
  deriving DecidableEq, Repr, Inhabited

/-- A firmware bank in flash (17; survives reset). -/
structure FwInfo where
  /-- 17 Table 17.8, R422 (1). -/
  valid : Bool := false
  /-- 17 UPD_BANK0: VERSION and BUILD (32). -/
  version : BitVec 32 := 0
  /-- 10 R269, 17 Table 17.3 (32). -/
  secVersion : Nat := 0
  /-- 17 R422 TARGET_DIGEST (384). -/
  digest : BitVec 384 := 0
  deriving DecidableEq, Repr, Inhabited

/-- Header of a firmware package (17 Table 17.3). -/
structure PkgHdr where
  /-- 17 Table 17.3 (32). -/
  magic : Nat := 0
  /-- 17 Table 17.3 (16). -/
  format : Nat := 0
  /-- 17 Table 17.3 (8). -/
  kind : Nat := 0
  /-- 17 Table 17.3 (8). -/
  flags : Nat := 0
  /-- 17 Table 17.3 (32). -/
  length : Nat := 0
  /-- 17 Table 17.3 (16). -/
  version : Nat := 0
  /-- 17 Table 17.3 (16). -/
  build : Nat := 0
  /-- 17 Table 17.3 (32). -/
  sec : Nat := 0
  /-- 17 Table 17.3 (16). -/
  hwMin : Nat := 0
  /-- 17 Table 17.3 (16). -/
  hwMax : Nat := 0
  /-- 17 Table 17.3 (384). -/
  target : BitVec 384 := 0
  /-- 17 Table 17.3 (384). -/
  base : BitVec 384 := 0
  /-- 17 Table 17.3 (384). -/
  body : BitVec 384 := 0
  /-- 17 Table 17.3 (128). -/
  ownerKey : BitVec 128 := 0
  deriving DecidableEq, Repr, Inhabited

/-- A partner's READ_INFO data (03 Table 3.6; 07 R176, R200; 17 R427). -/
structure PartInfo where
  /-- 17 R427 HW_ID (16). -/
  hw : Nat := 0
  /-- 17 R427 (16). -/
  version : Nat := 0
  /-- 07 R176 (ohm). -/
  rBleed : Rat := 0
  /-- 07 R200. -/
  etaX : Rat := 0
  deriving DecidableEq, Repr, Inhabited

/-- 17 Table 17.8 STATE. -/
inductive UpdState where
  | idle | loading | armed | partXfer
  deriving DecidableEq, Repr, Inhabited

/-- Header and checks of a copy of a twin-link frame (09 R235). -/
structure TwinFrame where
  /-- 09 R235 the lane that it came by (1). -/
  lane1 : Bool := false
  /-- 09 R235 (1). -/
  crcOk : Bool := true
  /-- 09 R235 (1). -/
  macOk : Bool := true
  /-- 09 R235 SEQ (32). -/
  seq : BitVec 32 := 0
  /-- 09 R235 TSC at send (64). -/
  tsc : Nat := 0
  deriving DecidableEq, Repr, Inhabited

/-- A PAIR_HELLO (10 R279). -/
structure PairHello where
  /-- 10 R279 SERIAL (64). -/
  serial : Nat := 0
  /-- 10 R279 identity fingerprint (128). -/
  ident : BitVec 128 := 0
  /-- 10 R279 DIK point (392). -/
  point : Nat := 0
  /-- 10 R279 ephemeral point (392). -/
  eph : Nat := 0
  /-- 10 R279 (128). -/
  nonce : BitVec 128 := 0
  /-- 10 R279 (96 bytes). -/
  sig : List (BitVec 8) := []
  /-- 10 R279 (1). -/
  member : Bool := false
  deriving DecidableEq, Repr, Inhabited

/-- Acknowledged work whose journal write completes (00 R5). -/
inductive AckWork where
  | dispatch (seq : Nat)
  | write (jseq : Nat)
  deriving DecidableEq, Repr, Inhabited

/-- End of a housekeeping poll (13 R358). -/
inductive HkResult where
  | ok (data : List (BitVec 8))
  | nack
  | pec
  | timeout
  deriving DecidableEq, Repr, Inhabited

/-- A trip-fabric input that becomes inactive (08 R204). -/
inductive TripSel where
  | oc (n : Fin 8)
  | ext
  | gd (n : Fin 8) (p : Fin 6)
  deriving DecidableEq, Repr, Inhabited

/-- What the module reads while it starts (17 R414). -/
structure ResetIn where
  /-- 17 R414 power good, not a reset alone (1). -/
  power : Bool := true
  /-- 01 R20 TAI time of the RTC (64). -/
  rtc : Nat := 0
  /-- 10 Table 10.2 the ROM self-check and every known-answer test pass (1). -/
  selfOk : Bool := true
  /-- 10 R268 every component of the marked bank verifies (1). -/
  markedOk : Bool := true
  /-- 10 R268 every component of the other bank verifies (1). -/
  otherOk : Bool := true
  /-- 10 R268 the component that failed in the marked bank. -/
  failed : Nat := 0
  /-- 01 R37 the member-select pin (1). -/
  member : Bool := false
  /-- 09 Table 9.2 (1). -/
  fenceIn : Bool := false
  /-- 09 Table 9.11 (2). -/
  activeIn : Line3 := .low
  /-- 02 R60 a channel that reads its copy of the profile wrong, with the bytes it reads. -/
  badProfile : Option (Bool × List (BitVec 8)) := none
  /-- 02 R58 (4). -/
  sw1a : BitVec 4 := 0
  /-- 02 R58 (4). -/
  sw1b : BitVec 4 := 0
  /-- 02 R58 (4). -/
  sw2a : BitVec 4 := 0
  /-- 02 R58 (4). -/
  sw2b : BitVec 4 := 0
  /-- 05 R151 auxiliary inputs. -/
  aux : Vector (BitVec 3) 8 := Vector.replicate 8 0
  /-- 03 R86 fault-loop currents (uA). -/
  loopUa : Vector (BitVec 16) 8 := Vector.replicate 8 0
  /-- 08 Table 8.12 ESTOP_A closed (1). -/
  estopA : Bool := true
  /-- 08 Table 8.12 ESTOP_B closed (1). -/
  estopB : Bool := true
  /-- 08 Table 8.9 EXT_TRIP_N low (1). -/
  extLow : Bool := false
  /-- 14 SCAN_DIN (16). -/
  din : BitVec 16 := 0
  /-- 19 R447 service door open (1). -/
  door : Bool := false
  /-- 12 R321 a USB host is attached (1). -/
  console : Bool := false
  /-- 17 Table 17.8 (1). -/
  sdCard : Bool := false
  /-- 17 R420 the card mounts (1). -/
  sdMounts : Bool := false
  /-- 11 R306 namespace on J4A. -/
  shelfA : Option ShelfNs := none
  /-- 11 R306 namespace on J4B. -/
  shelfB : Option ShelfNs := none
  /-- 11 R310 the last first-fault record has no COMMIT (1). -/
  torn : Bool := false
  /-- 12 Table 12.8 SFP module in J2A (1). -/
  sfpA : Bool := false
  /-- 12 Table 12.8 SFP module in J2B (1). -/
  sfpB : Bool := false
  deriving DecidableEq, Repr, Inhabited

end Sys2Proof.Machine
end

