-- ==== Sys2Proof/Syntax.lean ====
section
/-! DEFINITION. The commands of the block: one constructor for each row of the spec's table of operations and events. -/

namespace Sys2Proof

open Machine

/-- A command or event of the module, whole and indivisible (spec 95). -/
inductive Instr where
  /-- R266: After power good or a reset, Tadpole runs its measured start-up, verifies and releases the components, reads the journal and initialises the TSC from the RTC with TSC_VALID clear. -/
  | powerOnReset (r : ResetIn)
  /-- R27: At each T0 the bank, Ring and safety cycles begin: host writes are sampled, the Chorus beacon is launched and the estimation step on the previous set begins. -/
  | bankCycleStart 
  /-- R181: An estimation step completes and its outputs become the latest ones for the dispatch split. -/
  | estimationStepDone 
  /-- R108: At T0 + 25 µs every cell samples, and each string engine takes the chorus-aligned sample of string current and voltage. -/
  | commonSampleInstant (raw : Vector AlignedRaw 8)
  /-- R28: At 665 µs the set closes at every port, each node entry is marked valid or missing, and the set is distributed to the safety channels, Gecko and history. -/
  | setClose (noSig : BitVec 16)
  /-- R207: Between 700 µs and 940 µs each safety channel evaluates the distributed set against the active profile and withdraws its enable halves on a demand. -/
  | safetyEvaluation (channelB : Bool)
  /-- R207: A safety channel services a string-engine trip request or a management-view fault within 100 µs of its being raised. -/
  | tripRequest (channelB : Bool) (n : Fin 8)
  /-- R171: From 800 µs the Gecko cluster brings terminal statuses, ramps the bank target and splits it among eligible strings. -/
  | dispatchSplit 
  /-- R187: At 900 µs the per-string setpoints and estimation limits are published and the estimation record copy to the twin begins. -/
  | setpointPublish 
  /-- R208: At 950 µs each channel sends its compare message with demand and enable vectors, set number, CRC, switches and counter. -/
  | safetyCrossCompare 
  /-- R208: A channel receives the other channel's compare message and compares decisions. -/
  | compareMessage (channelB : Bool) (ok : Bool)
  /-- R209: At 970 µs a channel checks that the other's message has arrived valid and advanced; after three failing cycles it declares SAFETY_COMPARE_FAIL. -/
  | compareDeadline (channelB : Bool)
  /-- R209: The other channel's heartbeat line has been silent for 3 ms, so the channel declares SAFETY_COMPARE_FAIL and withdraws all its enable halves. -/
  | channelHeartbeatSilent (channelB : Bool)
  /-- R82: From 985 µs band changes and timed WRAP and UNWRAP take effect, with no frame on any lane. -/
  | guardWindow 
  /-- R131: At each control-cycle boundary the duty is latched, the DUTY frame goes out, the 10 sense channels sample and the computation starts. -/
  | controlCycleBoundary (n : Fin 8) (b : BoundaryIn)
  /-- R131: The control computation completes, writes the output register and copies the control state to the twin slot, or counts a late computation. -/
  | dutyComputed (n : Fin 8) (late : Bool)
  /-- R388: At a scan-cycle T0 the scan engine latches inputs, runs the error task and executes the main task. -/
  | scanStart (acts : List PlantAct)
  /-- R388: The main task completes and all outputs are written within 20 µs. -/
  | scanComplete (acts : List PlantAct) (o : PlantOut)
  /-- R389: A scan runs longer than WDOG, so it is stopped without writing outputs and plant logic enters Stop. -/
  | scanWatchdog 
  /-- R37: The member-select pin on J3 changes after reset; the change is recorded and has no effect until the next reset. -/
  | memberSelectChanged (pin : Bool)
  /-- R36: A read of a _LO register latches its _HI half for the same LHP session. -/
  | readLoLatch (q : Req) (addr count : Nat)
  /-- R14: A host write to a register with no row of its own is checked under R34 and R14 and takes effect under R30, waking a sleeping domain under R35. -/
  | registerWrite (q : Req) (addr : Nat) (words : List Word)
  /-- R12: An authenticated write to a counter-clear register clears the selected counters, writes COUNTER_CLEARED and issues a COUNTER_CLEAR signed report. -/
  | counterClear (q : Req) (addr : Nat) (value : Word)
  /-- R45: IMG_CMD = COMMIT applies a full or NOT_SPLITTABLE staged image whole at a T0, after rechecking the bank state at T0 − 100 µs. -/
  | commit (q : Req)
  /-- R45: IMG_CMD = STEP_NEXT makes the next step of the staged plan pending. -/
  | stepNext (q : Req)
  /-- R45: IMG_CMD = STEP_ALL applies the remaining steps one per T0 until refusal, completion or bank FAULT. -/
  | stepAll (q : Req)
  /-- R47: IMG_CMD = ROLLBACK reverses the last completed step, checked against the previous digest. -/
  | rollback (q : Req)
  /-- R45: IMG_CMD = ROLLBACK_ALL reverses completed steps one per T0, last first. -/
  | rollbackAll (q : Req)
  /-- R45: IMG_CMD = DISCARD invalidates the staged slot unless a plan is partly applied. -/
  | discard (q : Req)
  /-- R47: The shadow configuration of a step is built and its digest checked, or the step is refused with STEP_DIGEST_MISMATCH. -/
  | shadowReady 
  /-- R48: At T0 − 100 µs the pending step is evaluated against its envelope, bank state, safety permit and runtime tunables, and the decision is journaled. -/
  | stepEvaluate 
  /-- R48: At the T0 the passed step or commit takes effect, IMG_COMMITTED is recorded and M7 is extended. -/
  | stepCommit (bad : Option (Bool × List Byte))
  /-- R56: At T0 − 500 µs the active member sends PREPARE with the step index, digest and target T0. -/
  | stepPrepare 
  /-- R56: The standby receives PREPARE and answers READY once its shadow is built and checked, or REFUSE. -/
  | prepareReceived (f : TwinFrame) (p : Prepare)
  /-- R56: The active member receives the standby's READY or REFUSE for a prepared step. -/
  | stepPeerAnswer (f : TwinFrame) (token ready : Bool)
  /-- R56: The standby receives DECIDE in the state-copy slots and journals it. -/
  | decideReceived (f : TwinFrame) (token commit : Bool)
  /-- R55: The standby confirms that its staged slot holds the same IMAGE_DIGEST, setting PEER_MATCH. -/
  | peerMatchConfirm (f : TwinFrame) (digest : BitVec 384)
  /-- R58: A safety channel reads a changed SW1 or SW2 position; disagreement is recorded and an SW1 change sets PROFILE_PENDING. -/
  | switchChange (channelB : Bool) (sw1 sw2 : BitVec 4)
  /-- R60: Every 10 s each safety channel computes the CRC-32 of the active profile; differing CRCs enable nothing. -/
  | profileCrcCheck (bad : Option (Bool × List Byte))
  /-- R75: RINGn_CMD = ENUMERATE starts an enumeration of the string's Ring after the state and contactor checks. -/
  | ringEnumerate (q : Req) (n : Fin 8)
  /-- R93: RINGn_CMD = CLOSE returns a Ring from SPLIT to CLOSED by UNWRAP and a test launch from end A. -/
  | ringClose (q : Req) (n : Fin 8)
  /-- R76: The 250 ms of silence and idle at the start of an enumeration end and the first ASSIGN is sent from end A. -/
  | enumSilenceEnd (n : Fin 8)
  /-- R77: An IDENTITY frame arrives and is checked against the ALLOWLIST entry before the SESSION exchange. -/
  | identityReceived (n : Fin 8) (crcOk : Bool) (ident : BitVec 128)
  /-- R77: No IDENTITY or transit frame arrives within 1 ms, so the enumeration fails. -/
  | enumTimeout (n : Fin 8)
  /-- R77: An ASSIGN arrives at end B, showing every node open, and the module checks the count and launches the transit frame. -/
  | assignAtEndB (n : Fin 8)
  /-- R77: The transit frame's timing point reaches end B, giving L and starting the end-B measurements. -/
  | transitAtEndB (n : Fin 8) (transit : Nat)
  /-- R276: A SESSION frame from a node arrives and the exchange proceeds or fails with ENUM_AUTH. -/
  | ringSessionFrame (n : Fin 8) (f : SessFrame)
  /-- R276: A SESSION step's deadline passes without the node's answer, failing the enumeration with ENUM_AUTH. -/
  | sessionDeadline (n : Fin 8)
  /-- R78: A PROBE_REPLY arrives and contributes one of the 64 values of a MEASURE run. -/
  | probeReplyReceived (n : Fin 8) (crcOk macOk : Bool) (elapsed turn : Nat)
  /-- R72: A SAMPLE frame arrives at a Ring port and is checked and assigned to its set, or discarded as late. -/
  | sampleReceived (n : Fin 8) (k : Fin 24) (f : SampleFrame)
  /-- R71: A REPLY to a command arrives, ending the exchange and returning its status to the requesting block. -/
  | replyReceived (n : Fin 8) (endB : Bool) (f : ReplyFrame)
  /-- R84: A block asks a Ring port to send a command, which is queued in R25 order or refused with RING_CMD_FULL. -/
  | ringCommandRequest (n : Fin 8) (c : RingCmdReq)
  /-- R84: At 665 µs the command window opens and each serving end launches queued commands that can complete by 985 µs. -/
  | commandWindowOpen (n : Fin 8)
  /-- R84: A REPLY has not reached the port within 30 µs, so the exchange fails and is re-sent or, after the third failure, reported. -/
  | exchangeTimeout (n : Fin 8) (endB : Bool)
  /-- R88: A port's receive lane loses signal for 2 µs, so it records RING_LOS and holds its transmitters silent for 10 µs. -/
  | ringLos (n : Fin 8) (endB : Bool)
  /-- R88: The 10 µs silence after a loss of signal ends and the port sends idle again. -/
  | losSilenceEnd (n : Fin 8) (endB : Bool)
  /-- R89: The BEACON's timing point returns at end B, giving RINGn_LOOP_NOW or the SPLIT segment round trip. -/
  | beaconReturn (n : Fin 8) (endB : Bool) (transit : Nat)
  /-- R89: The BEACON is not received at end B by L_now + 200 ns, and the port may declare a break. -/
  | missedReturn (n : Fin 8)
  /-- R94: The loop transit has stayed more than 10 ns from its enumeration value for 1 s, so DRIFT is set and the event recorded. -/
  | ringDelayDrift (n : Fin 8)
  /-- R86: The fault-loop current falls below 4 mA and the fabric filter confirms, switching the string's outputs to the off pattern and latching LOOP[n]. -/
  | faultLoopOpen (n : Fin 8) (current : BitVec 16)
  /-- R86: The loop current has stayed abnormally low or high for 10 ms and both channels treat it as OPEN. -/
  | faultLoopAbnormal (n : Fin 8)
  /-- R86: The port's loop classification changes, including a return to CLOSED, which enables nothing by itself. -/
  | faultLoopStateChange (n : Fin 8) (current : BitVec 16)
  /-- R104: At each Ring cycle that is a multiple of 100 the Chorus updates compensation corrections and sends SET_COMP where rounded values changed. -/
  | trackingUpdate 
  /-- R110: STRn_SWP_CMD = START copies the sweep settings and accepts the request with a new SWEEP_ID, starting it or placing it in the pending slot. -/
  | sweepStart (q : Req) (n : Fin 8)
  /-- R120: STRn_SWP_CMD = ABORT aborts the running sweep and empties the pending slot. -/
  | sweepAbort (q : Req) (n : Fin 8)
  /-- R111: STRn_SWP_CMD = CANCEL_PENDING empties the pending slot and records SWEEP_CANCELLED. -/
  | sweepCancelPending (q : Req) (n : Fin 8)
  /-- R114: At the T0 at which a point starts, its harmonic check is repeated and the perturbation and settle phase begin. -/
  | sweepPointStart (n : Fin 8)
  /-- R114: The settle phase of a point ends and accumulation begins with the first BEACON carrying ACC. -/
  | sweepAccumulateStart (n : Fin 8)
  /-- R117: The LAST accumulation set of a point ends and nodes begin sending their held results. -/
  | sweepPointLastSet (n : Fin 8)
  /-- R117: The next point ends without a node's result held, so the point is incomplete for that node. -/
  | sweepResultDeadline (n : Fin 8)
  /-- R124: A temperature point falls due every PERIOD seconds and runs as a one-point sweep at f_T, or is skipped and counted. -/
  | tempPointDue (n : Fin 8)
  /-- R123: EST_ZCMD = CAL_TEMP measures a one-point sweep at f_T and sets each cell's calibration offset, if the rest conditions hold. -/
  | calTemp (q : Req) (mask : Byte)
  /-- R129: A filtered SYNC_IN rising edge arrives and is accepted as a boundary or ignored as a glitch. -/
  | syncInEdge (interval : Nat)
  /-- R129: No edge is accepted within 1.05 × P_NOM, so the engine coasts one boundary at P_AVG and counts it. -/
  | syncCoast (n : Fin 8)
  /-- R139: A coefficient register write is checked for finiteness, bounds and TUNING_LOCK, and takes effect alone at the next boundary. -/
  | cwWrite (q : Req) (n : Fin 8) (reg : Fin 7) (value : Word)
  /-- R141: A write to STRn_CTL holds or releases the integral terms of the selected loops at a boundary. -/
  | holdIntWrite (q : Req) (n : Fin 8) (value : Word)
  /-- R145: Every 10 ms the engine filters phase temperatures and recomputes the six thermal weights. -/
  | thermalBalanceUpdate (n : Fin 8)
  /-- R146: A STATUS frame from a gate driver is checked and stamped and updates the management view. -/
  | gdStatusReceived (n : Fin 8) (p : Fin 6) (f : StatusFrame)
  /-- R202: A gate-driver in fibre carries the fault pattern or no light beyond 0.5 µs, so the fabric switches the string's outputs off and latches GD[n]. -/
  | gdFibreFault (n : Fin 8) (p : Fin 6)
  /-- R151: An auxiliary input's change is accepted after three samples and advances precharge or contactor opening. -/
  | auxInputChange (n : Fin 8) (aux : BitVec 3)
  /-- R151: An auxiliary input does not match its drive within PICKUP_MAX or DROPOUT_MAX, or changes uncommanded, and the string goes to FAULT. -/
  | contactorMismatch (n : Fin 8) (i : Fin 3)
  /-- R152: After 100 ms at full voltage a coil drive passes to its economiser hold duty. -/
  | coilPullinEnd (n : Fin 8) (i : Fin 3)
  /-- R153: Precharge does not reach step 4 within PRE_TIMEOUT or sees no complete set in 10 cycles, so it fails. -/
  | prechargeTimeout (n : Fin 8)
  /-- R154: In a normal opening, 10 ms after K_POS and K_PRE the engine de-energises K_NEG. -/
  | kNegReleaseDelay (n : Fin 8)
  /-- R154: 20 ms after a trip the coils are de-energised whatever the current, recording CONTACTOR_OPEN_UNDER_LOAD at 2 A or more. -/
  | tripOpenTimeout (n : Fin 8)
  /-- R155: STRn_CMD = ENABLE moves a declared string from DISABLED to OFF. -/
  | stringEnable (q : Req) (n : Fin 8)
  /-- R155: STRn_CMD = DISABLE moves a string from OFF, SHED or SERVICE to DISABLED. -/
  | stringDisable (q : Req) (n : Fin 8)
  /-- R153: STRn_CMD = START moves a string to PRECHARGE when every condition of Table 5.12 holds. -/
  | stringStart (q : Req) (n : Fin 8)
  /-- R144: STRn_CMD = HOLD ramps the string to zero reference in HOLD with contactors closed. -/
  | stringHold (q : Req) (n : Fin 8)
  /-- R143: STRn_CMD = RESUME returns a string from HOLD to RUN with a ramp, keeping integral terms. -/
  | stringResume (q : Req) (n : Fin 8)
  /-- R154: STRn_CMD = STOP ramps the string down and opens its contactors, ending in OFF. -/
  | stringStop (q : Req) (n : Fin 8)
  /-- R156: STRn_CMD = SHED performs a host-commanded Skink shed with ramp-down and normal opening. -/
  | stringShed (q : Req) (n : Fin 8)
  /-- R155: STRn_CMD = SERVICE moves a string from OFF to SERVICE. -/
  | stringService (q : Req) (n : Fin 8)
  /-- R157: STRn_CMD = CLEAR returns a string from FAULT to OFF, with clear strobes, subject to its conditions and LOCKOUT. -/
  | stringClear (q : Req) (n : Fin 8)
  /-- R161: At each wrap of the grid phase the repetitive controller learns from the period just ended or discards it. -/
  | rcLearn (n : Fin 8)
  /-- R163: The period source becomes invalid or the tracker stays unlocked for 20 ms, so learning stops and the output follows RC_LOSS. -/
  | rcPeriodLost (n : Fin 8)
  /-- R163: The 200 ms fade of the repetitive-controller output, down or back up, completes. -/
  | rcFadeEnd (n : Fin 8)
  /-- R165: The residual stays above 1 % of I_RATED for 5 s while learning, and the condition is recorded. -/
  | rippleHigh (n : Fin 8)
  /-- R159: A write to EST_GRID_FREQ supplies the HOST period source and restarts its 1 s validity. -/
  | gridFreqWrite (q : Req) (value : Word)
  /-- R166: EST_BANK_CMD = STANDBY moves the bank to STANDBY, clearing latches and closing PCS_TRIP when permitted. -/
  | bankStandby (q : Req)
  /-- R166: EST_BANK_CMD = PRECHARGE runs the output-stage test and moves the bank from STANDBY to PRECHARGE. -/
  | bankPrecharge (q : Req) (failed : Option (Fin 8))
  /-- R166: EST_BANK_CMD = RUN moves the bank to RUN and resumes strings in HOLD. -/
  | bankRun (q : Req)
  /-- R166: EST_BANK_CMD = HOLD moves the bank to HOLD and every running string to HOLD. -/
  | bankHold (q : Req)
  /-- R166: EST_BANK_CMD = STOP stops every active string, clears the command in force and lapses waiting commands. -/
  | bankStop (q : Req)
  /-- R166: EST_BANK_CMD = CLEAR returns the bank from FAULT to STOP when its conditions hold. -/
  | bankClear (q : Req)
  /-- R166: EST_BANK_CMD = SERVICE moves the bank to SERVICE from a session with the service role. -/
  | bankService (q : Req)
  /-- R166: EST_BANK_CMD = OFF moves the bank to OFF, where a pending SW1 profile is adopted. -/
  | bankOff (q : Req)
  /-- R168: An LHP DISPATCH message is checked under Table 6.3 and accepted with a sequence number, answered as a duplicate, or refused. -/
  | dispatch (q : Req) (body : DispBody)
  /-- R168: The twin confirms it holds an accepted command, releasing the acknowledgement. -/
  | dispatchConfirm (f : TwinFrame) (seq : Nat)
  /-- R168: The twin's confirmation does not arrive within 2 ms and the command is refused with DISP_PEER_TIMEOUT. -/
  | dispatchPeerTimeout (seq : Nat)
  /-- R5: A journal write completes on a lone module and the held acknowledgement of the accepted work is released. -/
  | journalWriteDone (w : AckWork)
  /-- R169: A write to EST_DISP_QSEL_HI runs a query of the selected sequence number's terminal status. -/
  | dispatchQuery (q : Req) (value : Word)
  /-- R180: EST_CMD = REINIT re-initialises the named strings' cells from the stored learned values at the next step. -/
  | reinit (q : Req) (mask : Byte)
  /-- R193: EST_CMD = LEARN_NOW triggers a learned-values write. -/
  | learnNow (q : Req)
  /-- R193: Six hours after the previous write, the learned values are written to the journal. -/
  | learnedValuesWrite 
  /-- R194: A learned-values write completes with its commit word, or fails and records LEARN_WRITE_FAIL; a queued write follows. -/
  | learnWriteDone (ok : Bool)
  /-- R198: At each T0 that is a multiple of 1,000 the Gecko cluster decides balancing, journals counted charge and sends BALANCE to every node. -/
  | balancingDecision 
  /-- R202: A string's window comparator confirms over-current after OC_FILT, switching its outputs off and latching OC[n]. -/
  | overCurrent (n : Fin 8) (chB : Bool)
  /-- R217: An emergency stop input opens, the fabric switches all outputs off, opens PCS_TRIP and starts the coil timer. -/
  | estop (inputB : Bool)
  /-- R202: EXT_TRIP_N goes low past EXT_FILT, switching all outputs off and, with EXT_PCS, opening PCS_TRIP. -/
  | extTrip 
  /-- R252: FENCE_IN becomes active and the member's transmitters, interlock, PCS_TRIP drive, bus drivers and coils are disabled in hardware; it becomes FENCED. -/
  | fenceInActive 
  /-- R205: The fabric's two threshold copies differ, so every enable half is treated as withdrawn and the mismatch is recorded. -/
  | fabricCfgMismatch (channelB : Bool) (thr : List Nat)
  /-- R217: One emergency stop input stays open for 200 ms while the other stays closed. -/
  | estopDiscrepancy 
  /-- R218: Both emergency stop inputs have stayed closed for 1 s after both opened, setting RESET_ARMED. -/
  | estopResetArmed 
  /-- R220: 10 ms after an emergency stop the fabric timer removes power from all 24 coil drives. -/
  | estopCoilTimer 
  /-- R227: Every 24 h each channel injects a condition into every fabric input and reads the latch through the test shadow. -/
  | inputSelftest (channelB : Bool) (failed : List FabricIn)
  /-- R228: SAF_CMD = OUTPUT_TEST tests each string's output stage in turn while the bank is in STANDBY. -/
  | outputTest (q : Req) (failed : Option (Fin 8))
  /-- R228: No output test has passed for 30 days, so TEST_DUE is set and recorded once. -/
  | testDue 
  /-- R237: Every 10 µs the member sends a HEARTBEAT on both twin lanes. -/
  | heartbeatSend 
  /-- R237: A valid twin heartbeat arrives and is checked against the disagreement matrix and failure conditions. -/
  | heartbeatReceived (f : TwinFrame) (h : Heartbeat)
  /-- R250: No valid heartbeat has arrived on either lane for 40 µs, judged against the ACTIVE line. -/
  | heartbeatTimeout 
  /-- R235: A twin lane loses block lock or delivers no valid frame for 20 µs and traffic continues on the other lane. -/
  | twinLaneDown (lane1 : Bool)
  /-- R240: At each 20 µs lease tick the holder renews its tick leases after the using blocks report their work. -/
  | leaseTick 
  /-- R241: A lease reaches expiry without renewal and its hardware stops using the resource; the last expiry drops ACTIVE_OUT. -/
  | leaseExpiry (l : LeaseId)
  /-- R242: 20 µs after a lease's expiry, with ACTIVE_IN low and the holder fenced, the member claims the lease with a new epoch and takes over. -/
  | leaseClaim (l : LeaseId)
  /-- R250: The filtered ACTIVE_IN line changes; a fall to low without RELEASING is a failure of the active twin. -/
  | activeInChange (v : Line3)
  /-- R251: For member 1, 2 µs after both fence halves, FENCE_IN is checked before FENCE_OUT is asserted. -/
  | fenceWaitEnd 
  /-- R251: The fence current has been at least 8 mA for 1 µs, so the fence is confirmed and FENCE_ASSERTED recorded. -/
  | fenceConfirmed 
  /-- R251: The fence is not confirmed within 10 µs, so the member takes nothing and records FENCE_UNCONFIRMED. -/
  | fenceUnconfirmed 
  /-- R239: After FORM_WAIT with ACTIVE_IN low, no fence and no active heartbeat, the member raises ACTIVE and claims every lease. -/
  | pairFormation (contend : Bool)
  /-- R246: The standby receives a string's control record and applies it, with the RC memory applied per complete generation. -/
  | controlRecordReceived (f : TwinFrame) (n : Fin 8) (c : CtlRecord)
  /-- R247: The standby receives a complete estimation record and applies it. -/
  | estimationRecordReceived (f : TwinFrame) (e : EstRecord)
  /-- R248: The standby misses 50 control records of a running string or 3 estimation records and becomes STANDBY_UNSYNCED. -/
  | standbyDesync 
  /-- R257: TWIN_CMD = SWITCHOVER starts a fenceless handover in the bank cycle at the second T0. -/
  | switchover (q : Req)
  /-- R257: At 990 µs of the handover cycle the active member stops using its leases, sends RELEASE and drops ACTIVE_OUT. -/
  | switchoverRelease 
  /-- R257: The standby receives RELEASE, claims the released leases on ACTIVE_IN low and raises ACTIVE. -/
  | releaseReceived (f : TwinFrame) (leases : List LeaseId)
  /-- R258: TWIN_CMD = UNFENCE releases FENCE_OUT once the fenced twin has restarted. -/
  | unfence (q : Req)
  /-- R260: TWIN_CMD = RESYNC starts Axolotl resync on a STANDBY_UNSYNCED member. -/
  | resync (q : Req)
  /-- R260: With AUTO_RESYNC and the conditions holding, a STANDBY_UNSYNCED member starts Axolotl resync by itself. -/
  | axolotlResyncStart (peerTsc : Nat)
  /-- R260: The journal digests match at a T0, the learned values are written and the member becomes STANDBY. -/
  | axolotlDone (c : ResyncCopy)
  /-- R260: A resync step fails or overruns, ending the attempt with the member STANDBY_UNSYNCED. -/
  | resyncFail (stp : ResyncStep)
  /-- R259: A TIME frame arrives and the standby computes its offset and slews or sets its TSC. -/
  | timeFrameReceived (f : TwinFrame) (arrived : BitVec 32) (renew : List (LeaseId × BitVec 32))
  /-- R261: The TSC offset stays beyond ±10 ns for 1 ms and is recorded while the standby slews. -/
  | twinTimeUnlock 
  /-- R259: The members' PTP views differ by more than 1 µs for 1 s and the difference is recorded. -/
  | twinPtpDiff 
  /-- R279: A PAIR_HELLO arrives at link-up, is checked against PAIR and derives the per-direction pair keys. -/
  | pairHello (h : PairHello)
  /-- R279: After 2^31 frames or 24 h the pair rekeys at an announced T0. -/
  | pairRekey 
  /-- R272: TRUST_CMD = APPLY_TOKEN checks the token in the buffer under Table 10.4. -/
  | applyToken (q : Req)
  /-- R273: At the next T0 a passed token takes effect, rewriting the trust store and issuing a TOKEN_RECEIPT. -/
  | tokenEffect 
  /-- R269: TRUST_CMD = SEC_COMMIT raises the lowest accepted security version to the running firmware's. -/
  | secCommit (q : Req)
  /-- R278: TRUST_CMD = GD_SESSION establishes gate-driver sessions for the named strings. -/
  | gdSession (q : Req) (mask : Byte)
  /-- R277: TRUST_CMD = BIND_RING sets BIND in the next enumeration and gate-driver session of the named strings. -/
  | bindRing (q : Req) (mask : Byte)
  /-- R278: A gate-driver session frame arrives and the six-step exchange proceeds or fails with GD_AUTH_FAIL. -/
  | gdSessionFrame (n : Fin 8) (p : Fin 6) (f : SessFrame)
  /-- R281: An LHP ATTEST request returns the DIK-signed attestation message with the nonce. -/
  | attest (q : Req) (nonce : Nat)
  /-- R282: An LHP REPORT request returns an RSK-signed register snapshot or first-fault export. -/
  | report (q : Req) (kind addr count nonce : Nat)
  /-- R285: The Basking island detects a tamper and zeroises or reports according to TAMPER_RESPONSE. -/
  | tamperDetected (source rtc : Nat)
  /-- R289: The backup cell falls below 2.7 V and BACKUP_LOW is recorded. -/
  | backupLow (mv : BitVec 16)
  /-- R289: The backup cell falls below 2.4 V or its charger fails and BACKUP_FAIL is recorded. -/
  | backupFail (mv : BitVec 16) (charger : Bool)
  /-- R280: A TCP connection on port 46208 runs the TLS 1.3 handshake, giving a session with a role or closing it. -/
  | tlsConnect (c : TlsConn)
  /-- R280: After 2^24 records or 1 h the module sends KeyUpdate. -/
  | tlsKeyUpdate (session : Nat)
  /-- R299: A history record enters the intake ring with its RSEQ and address, or is refused and tallied. -/
  | historyAdmission (kind : BitVec 16) (source : Nat) (body : List Byte)
  /-- R299: A chunk write completes on every IN_SYNC copy and the covered ring space is freed. -/
  | shelfWriteDone (rseq : Nat)
  /-- R305: An NVMe command returns an error or does not complete in 1 s; after the reissue fails the copy is set FAILED. -/
  | shelfCommandFail (copyB : Bool) (cmd : Nat)
  /-- R296: At every whole second of the TSC the writer adds a signed CHECKPOINT record to the open segment. -/
  | checkpoint 
  /-- R306: HIST_CMD = ATTACH_A attaches a replacement namespace to copy A and rebuilds it from the IN_SYNC copy. -/
  | attachA (q : Req) (force : Bool) (ns : ShelfNs)
  /-- R306: HIST_CMD = ATTACH_B attaches a replacement namespace to copy B and rebuilds it. -/
  | attachB (q : Req) (force : Bool) (ns : ShelfNs)
  /-- R306: A rebuild completes and the copy becomes IN_SYNC. -/
  | histAttached (copyB : Bool)
  /-- R307: HIST_CMD = NEW_STORE seals the old store and starts a new one linked to it. -/
  | newStore (q : Req)
  /-- R295: HIST_CMD = SEAL seals the open segment with SHORT. -/
  | seal (q : Req)
  /-- R302: HIST_CMD = SELECT_PROFILE selects an intake profile for the next whole second. -/
  | selectProfile (q : Req) (profile : BitVec 4)
  /-- R302: At the next whole second the new intake profile takes effect and a PROFILE record is written. -/
  | profileChangeApply 
  /-- R311: A block delivers an event to the 512-entry first-fault queue, or it is dropped when the queue is full. -/
  | ffrEventDelivery (code : BitVec 16) (source : Nat) (body : List Int)
  /-- R311: The writer takes the first entry at least 5 µs old and coalesces it, suppresses it or starts a new record. -/
  | ffrWriterTake 
  /-- R310: A record commit or revision completes, FFR_COMMIT_SEQ increments and the record goes to history, the twin and subscribers. -/
  | ffrCommitDone (full : List Nat)
  /-- R311: At the end of each second every code with a suppression tally receives a SUMMARY record. -/
  | ffrSecondEnd 
  /-- R314: FFR_CMD = ARCHIVE writes every committed record to history as FFR_ARCHIVE. -/
  | archive (q : Req)
  /-- R314: FFR_CMD = CLEAR empties the record area after a completed archive and writes FFR_CLEARED. -/
  | ffrClear (q : Req)
  /-- R315: A twin's record or revision arrives and is committed as a MIRROR copy and confirmed. -/
  | ffrMirrorReceived (f : TwinFrame) (r : FfrRec)
  /-- R315: A mirror copy is not confirmed within 1 ms and is counted. -/
  | ffrMirrorTimeout (seq : BitVec 32)
  /-- R318: A host port goes down and every session on it is closed. -/
  | hostLinkDown (p : HostPort) (why : LinkDown)
  /-- R317: A frame not admitted by the port filter is discarded and counted. -/
  | hostFrameDiscard (p : HostPort)
  /-- R329: A WRITE flagged JOURNALED is checked and accepted with a JSEQ, answered as a duplicate, or refused. -/
  | journaledWrite (q : Req) (wtag : BitVec 64) (addr : Nat) (words : List Word)
  /-- R330: At the first T0 after the image passes R42, each journaled value is applied again or refused and removed. -/
  | journalReapply 
  /-- R331: BLOCK_BEGIN opens a transfer to the IMAGE, FIRMWARE or TOKEN target with length and digest. -/
  | blockBegin (q : Req) (target : Nat) (restart : Bool) (total : Nat) (digest : BitVec 384)
  /-- R331: BLOCK_DATA delivers one block at its offset to the open transfer. -/
  | blockData (q : Req) (target offset : Nat) (data : List Byte)
  /-- R331: BLOCK_END compares the digest and hands the whole to the target's own checks. -/
  | blockEnd (q : Req) (target : Nat)
  /-- R340: An LHP TIME_SET sets the TSC once or becomes a phase correction. -/
  | timeSet (q : Req) (tai : Nat)
  /-- R300: An LHP NOTE is admitted to history as HOST_NOTE or refused with HIST_BUSY. -/
  | note (q : Req) (text : List Byte)
  /-- R333: An LHP SUBSCRIBE sets or ends the session's event subscription with MIN_CLASS. -/
  | subscribe (q : Req) (minClass : Byte)
  /-- R326: An LHP KEEPALIVE resets the session's idle timer. -/
  | keepalive (q : Req)
  /-- R326: 30 s pass with no message received and the session is closed. -/
  | sessionIdleTimeout (session : Nat)
  /-- R332: An open transfer's session has been lost for 10 min and the transfer is dropped. -/
  | transferExpiry (target : Nat)
  /-- R320: LHP_CMD = FORGET_IDENTITY removes one host identity entry from the journal. -/
  | forgetIdentity (q : Req) (index : Nat)
  /-- R336: A Sync from the adopted master is timestamped and measured; after 16 it reports for the single set, and the servo steers. -/
  | ptpSyncReceived (m : PtpMsg)
  /-- R334: A Follow_Up message provides the precise origin time of a two-step Sync. -/
  | ptpFollowUp (m : PtpMsg)
  /-- R334: At the profile's interval the module sends Delay_Req or Pdelay_Req. -/
  | ptpDelayReqDue (raw : Int)
  /-- R334: A Delay_Resp or Pdelay_Resp arrives and updates the path delay. -/
  | ptpDelayResp (m : PtpMsg)
  /-- R334: A Pdelay_Req arrives on the power profile and is answered two-step. -/
  | ptpPdelayReq (m : PtpMsg)
  /-- R334: An Announce message feeds the best master clock algorithm across both ports. -/
  | ptpAnnounce (m : PtpAnn)
  /-- R338: No Sync for 3 intervals or no announce in the timeout sets HOLDOVER and records the loss. -/
  | ptpMasterLost 
  /-- R339: PTP_CMD = ACCEPT_MASTER lets the servo steer to a pending master whose offset exceeded 1 ms. -/
  | acceptMaster (q : Req)
  /-- R337: A write to PTP_INCREMENT_HI is held until the _LO write. -/
  | ptpIncrementHi (q : Req) (value : Word)
  /-- R337: A write to PTP_INCREMENT_LO loads the increment pair from the next tick, within 1.9 to 2.1 ns. -/
  | ptpIncrementLo (q : Req) (value : Word)
  /-- R19: A write to PTP_OFFSET issues a phase correction that is slewed, or refused. -/
  | ptpOffset (q : Req) (value : Word)
  /-- R20: At a whole-millisecond boundary the first-requested report sets the TSC once, writes a first-fault record and sets TSC_VALID. -/
  | tscSet 
  /-- R346: A CAN frame is received, stamped and routed by the filters to Q0, Q1 or discarded. -/
  | canFrameReceived (p : Fin 4) (f : CanFrame)
  /-- R348: A periodic message of the IO message map falls due and is enqueued or refused with CAN_TX_FULL. -/
  | canMapPeriod (p : Fin 4) (i : Nat) (data : List Byte)
  /-- R350: A buffered frame is sent and its buffer is loaded from the queue in the port's send order. -/
  | canTxDone (p : Fin 4) (b : Fin 3) (sof : Nat)
  /-- R352: A bus error changes TEC or REC, possibly entering error passive or bus-off. -/
  | canBusError (p : Fin 4) (tec recv : Nat) (failed : Option (Fin 3))
  /-- R353: CANn_CMD = RECOVER begins bus-off recovery on the port. -/
  | recover (q : Req) (p : Fin 4)
  /-- R351: CANn_CMD = ABORT_TX removes the frame in the named buffer. -/
  | abortTx (q : Req) (p : Fin 4) (b : BitVec 2)
  /-- R353: With BUSOFF_AUTO, BUSOFF_DELAY passes and recovery begins within the hourly limit. -/
  | busoffAutoDelay (p : Fin 4)
  /-- R353: 128 occurrences of 11 recessive bits complete and the port is error active again. -/
  | canBusRecovered (p : Fin 4)
  /-- R354: A remote station's heartbeat timeout passes and its points take substitute values. -/
  | canStationLost (p : Fin 4) (i : Fin 32)
  /-- R355: At a multiple of the basic cycle the time master loads a reference message, or skips it as late. -/
  | canReferenceDue (p : Fin 4)
  /-- R358: A housekeeping target's poll period falls due and its read is started. -/
  | hkPollDue (t : Fin 32)
  /-- R358: A poll completes, fails by NACK or PEC, or times out; three failures mark the target lost. -/
  | hkPollDone (t : Fin 32) (r : HkResult)
  /-- R360: HK_ALERT_N is low and the module reads the alert response address. -/
  | hkAlert 
  /-- R360: An alert response read completes and the alert is delivered or counted as unknown or stuck. -/
  | hkAlertReadDone (addr : BitVec 7) (pecOk still : Bool)
  /-- R360: After HK_ALERT_STUCK the line has been high for 10 ms and alert reads resume. -/
  | hkAlertHoldEnd 
  /-- R361: The module loses arbitration; in address or data it restarts, at STOP or repeated START it aborts. -/
  | hkArbLost (inStop : Bool)
  /-- R362: SCL or SDA has been held low for 35 ms and the bus is declared stuck. -/
  | hkBusStuck (sdaLow : Bool)
  /-- R362: HK_CMD = BUS_CLEAR sends nine SCL pulses and a STOP. -/
  | busClear (q : Req) (sdaLow : Bool)
  /-- R359: An external controller addresses 0x5A and reads the status register or is NACKed. -/
  | hkTargetAccess (writeBit thirdByte : Bool)
  /-- R365: At T0 + 100 µs each current-loop input is sampled, filtered and classified. -/
  | analogueSample (raw : Vector Nat 16) (rb : Vector Nat 8) (supply : Bool)
  /-- R366: A change to or from an invalid class persists for CONFIRM and the value becomes INVALID or valid again. -/
  | aiConfirm (i : Fin 16)
  /-- R369: An output's read-back differs from the command by over 0.2 mA for 100 ms. -/
  | aoFault (i : Fin 8) (readBack : BitVec 16)
  /-- R364: The loop supply is overloaded and the fault is recorded. -/
  | loopSupplyFault 
  /-- R371: An accepted level change on a quadrature or pulse channel is counted or treated as an illegal transition. -/
  | qinTransition (n : Fin 8) (a b : Bool)
  /-- R372: 10 s pass without an illegal transition and SUSPECT clears. -/
  | qinSuspectCleared (n : Fin 8)
  /-- R373: QINn_CMD = PRESET loads the preset at the next sample and clears POSITION_UNCERTAIN and WRAPPED. -/
  | preset (q : Req) (n : Fin 8)
  /-- R371: QINn_CMD = CLEAR_UNCERTAIN clears POSITION_UNCERTAIN. -/
  | clearUncertain (q : Req) (n : Fin 8)
  /-- R375: At the channel's 10 ms slot the downstream and upstream bursts run and the pair is evaluated for Q. -/
  | usfMeasurementPair (n : Fin 8) (dn up : BurstResult) (drive1 drive2 : Nat)
  /-- R377: No valid pair within HOLD, so Q becomes INVALID and the coolant-flow safety input falls to its fail state. -/
  | usfHoldExpiry (n : Fin 8)
  /-- R375: USFn_CMD = CAPTURE_REF stores the next valid pair's waveforms as the reference. -/
  | captureRef (q : Req) (n : Fin 8)
  /-- R381: A discrete input change is confirmed by DI_FILT samples and stamped. -/
  | discreteInputChange (din : BitVec 16)
  /-- R381: A discrete output's read-back mismatches its command for 10 ms. -/
  | doFault (i : Fin 8) (readBack : Bool)
  /-- R391: SCAN_CMD = RUN moves plant logic from Stop to Run. -/
  | scanRun (q : Req)
  /-- R391: SCAN_CMD = STOP moves plant logic to Stop and outputs to their STOP_ACTION. -/
  | scanStop (q : Req)
  /-- R391: SCAN_CMD = HOLD stops scanning and the plant-logic clock. -/
  | scanHold (q : Req)
  /-- R391: SCAN_CMD = STEP runs one scan in Hold at the next scan-cycle T0. -/
  | scanStep (q : Req)
  /-- R391: SCAN_CMD = RESUME returns plant logic from Hold to Run. -/
  | scanResume (q : Req)
  /-- R391: HOLD_MAX passes in Hold and plant logic returns to Run. -/
  | holdMaxExpiry 
  /-- R400: The input falls below 17 V and the hold-up store carries the load. -/
  | supplyDip 
  /-- R400: The dip has lasted 1 ms, so SF20 acts and the learned-values and RETAIN writes begin. -/
  | powerFail (a b : Bool)
  /-- R400: The power-fail writes complete and every class G, S or D domain is switched off. -/
  | quiescence 
  /-- R288: The store reaches 16 V and only the Basking island runs from the backup cell. -/
  | shelfStateEntry 
  /-- R401: The input returns above 18 V; before quiescence the module stays up, after it the module resets after 10 ms. -/
  | supplyReturn 
  /-- R398: The input rises above 33 V and the event is recorded. -/
  | pwrInputHigh 
  /-- R399: PWR_CMD = HOLDUP_TEST, or the daily timer, discharges the store from 48 V to 44 V to measure its capacitance. -/
  | holdupTest (q : Option Req)
  /-- R399: A hold-up test completes and sets HOLDUP_WEAK if capacitance is below 3.8 mF. -/
  | holdupTestDone (cap : BitVec 16)
  /-- R404: A G domain fails to wake in time for its work and the fault is recorded. -/
  | pwrDomainFault (d : Fin 128)
  /-- R406: A clock is more than ±1 % off for 10 µs or stopped and the fault is recorded. -/
  | clockFault (c : Fin 25)
  /-- R407: Every 1 ms Salamander reads the sensors, judges validity and computes junction temperature and coolant request. -/
  | thermalSensorRead (j : Vector (BitVec 16) 12) (bp : Vector (BitVec 16) 2) (safA safB : BitVec 16) (m : PwrMeas)
  /-- R408: A band crossing is confirmed (10 ms rising, 1 s falling) and takes effect in the guard window. -/
  | thmBand 
  /-- R410: A shutdown sensor reaches 112 °C and SHUTDOWN_PENDING is set in the heartbeat. -/
  | shutdownPending 
  /-- R410: A shutdown sensor stays at 115 °C for 1 ms, so SF21 acts and the module quiesces latched. -/
  | thermalShutdown (a b : Bool)
  /-- R288: In the shelf state the input stays above 18 V for 10 ms and the module wakes. -/
  | shelfWake 
  /-- R420: UPD_CMD = LOAD_SD reads the single .LXF package from the card and checks it. -/
  | loadSd (q : Req) (files : List (List Byte))
  /-- R420: UPD_CMD = LOAD_SD_IMAGE reads the single .LXI image into the staged slot under R41. -/
  | loadSdImage (q : Req) (files : List (List Byte))
  /-- R424: UPD_CMD = ACTIVATE arranges for the other firmware bank to start at a reset. -/
  | activate (q : Req)
  /-- R424: At T0 − 100 µs of the second T0 the update conditions are evaluated, then the bank is marked and the module resets. -/
  | activateEvaluate 
  /-- R428: UPD_CMD = PART_LOAD sends the stored partner package to one node or gate driver by FW_BLOCK. -/
  | partLoad (q : Req) (gd : Bool) (n : Fin 8) (pos : BitVec 5)
  /-- R428: UPD_CMD = PART_ACTIVATE sends FW_ACTIVATE with the target digest to one partner. -/
  | partActivate (q : Req) (gd : Bool) (n : Fin 8) (pos : BitVec 5)
  /-- R431: UPD_CMD = ABORT stops a running load or partner transfer. -/
  | abort (q : Req)
  /-- R422: A package installation completes with TARGET_DIGEST written last. -/
  | updStaged 
  /-- R415: At the first T0 with TSC_VALID set, strings whose POLICY sets ENUM_AT_START are enumerated. -/
  | startEnumeration 
  /-- R416: With STANDBY_AT_START, the module commands STANDBY once at the first T0 at which Table 6.1 permits. -/
  | standbyAtStart 
  /-- R447: The service door contact confirms open and the event is recorded. -/
  | serviceDoorOpened 
  /-- R447: The service door contact confirms closed and the event is recorded. -/
  | serviceDoorClosed 
  /-- R321: A USB host attaches at J70 and a console session opens with a role set by SW2-3. -/
  | consoleAttach 
  /-- R447: J70 is detached and the console session closes. -/
  | consoleDetach 
  /-- R447: The card is removed from S1 and a running LOAD_SD or LOAD_SD_IMAGE ends with UPD_SD. -/
  | sdCardRemoved 
  /-- R235: A twin lane gains block lock and valid frames, returning to service; at link-up each member sends PAIR_HELLO. -/
  | twinLaneUp (lane1 : Bool)
  /-- R258: FENCE_IN at a fenced member goes inactive and the member leaves FENCED for STANDBY_UNSYNCED. -/
  | fenceInReleased 
  /-- R318: A host port's SFP module regains signal and block lock or synchronisation and the port becomes UP. -/
  | hostLinkUp (p : HostPort)
  /-- R319: The host closes its TLS connection and the session, its credits and slot are released. -/
  | tlsSessionClosed (session : Nat)
  /-- R299: The standby receives an accepted-work copy from the active member (journaled write, intake-ring record, freed point or forwarded archive record), stores it and confirms. -/
  | acceptedWorkReceived (f : TwinFrame) (w : TwinWork)
  /-- R5: The twin's confirmation of a journaled write, history record or mirrored first-fault record arrives and the held acknowledgement or acceptance is released. -/
  | workCopyConfirmed (f : TwinFrame) (w : WorkCopy)
  /-- R55: The standby receives an image forwarded by the active member over the twin link, verifies it under R41 and stages it. -/
  | imageForwardReceived (f : TwinFrame) (data : List Byte)
  /-- R243: With both ACTIVE lines low, the 5 ms to 10 ms hold of PCS_TRIP, coil drives and analogue and discrete outputs runs out and they open or release. -/
  | outputHoldExpiry 
  /-- R218: An emergency stop input closes again, starting the 1 s that arms the reset. -/
  | estopInputClosed (inputB : Bool)
  /-- R204: A trip-fabric input (over-current comparator, EXT_TRIP_N, or a gate-driver fibre regaining light without the fault pattern) becomes inactive, starting its 1 ms before a clear strobe may act. -/
  | tripInputReleased (i : TripSel)
  /-- R429: A gate driver's reply to FW_BLOCK, FW_ACTIVATE or READ_INFO arrives on its fibre. -/
  | gdReplyReceived (n : Fin 8) (p : Fin 6) (f : ReplyFrame)
  /-- R429: A gate-driver command exchange receives no reply within 50 µs and the partner transfer fails. -/
  | gdReplyTimeout (n : Fin 8) (p : Fin 6)
  /-- R410: The J1 input has stayed below 12 V for 1 s and the island's thermal shutdown latch clears. -/
  | shutdownLatchClear 
  /-- R289: In the shelf state the backup cell is exhausted, the TRK is lost and the module becomes ZEROISED. -/
  | backupCellExhausted 
  /-- R399: The hold-up store reaches 48 V, HOLDUP_FULL is set and backup-cell charging may begin. -/
  | holdupCharged 
  /-- R420: A card is inserted in S1, SD_CARD is set and PD_SD is powered. -/
  | sdCardInserted (mounts : Bool)
  /-- R324: An LHP message with an undefined TYPE or wrong header arrives and is answered with LHP_FORMAT, or the session is closed for an oversize LEN. -/
  | undefinedMessage (q : Req) (type len : Nat)
  /-- R308: An NVMe read or reservation command to a shelf copy completes, advancing resumption read-back or an ATTACH rebuild. -/
  | shelfReadDone (copyB : Bool) (r : ShelfDone)
  deriving DecidableEq, Repr

end Sys2Proof
end

