-- ==== Sys2Proof/Machine/Operands.lean ====
section
/-! DEFINITION. The operand forms of the commands that their types do not fix: the widths of the numbers they carry. -/

namespace Sys2Proof.Machine

/-- A number of at most `n` bits. -/
def Operand.fits (n v : Nat) : Bool := v < 2 ^ n

/-- A session slot: 0 to 7, or 8 for the console (12 Table 12.7, R321). -/
def Operand.slot (v : Nat) : Bool := v ≤ 8

/-- The request that a message makes: its session's slot and its MSG_ID (12 Table 12.2). -/
def Req.wf (q : Req) : Bool := Operand.slot q.session && Operand.fits 32 q.msg

/-- An operand that may be absent. -/
def Operand.opt {α : Type} (p : α → Bool) (o : Option α) : Bool := (o.map p).getD true

/-- The words of a WRITE: COUNT is 16 bits wide (12 Table 12.1). -/
def Operand.words (l : List Word) : Bool := Operand.fits 16 l.length

/-- A body: LEN of a message that is read on is at most 65,544; an image is at most 16 MiB (12 R324; 02 R43). -/
def Operand.body (l : List Byte) : Bool := l.length ≤ 16777216

/-- Tested inputs: a string, or 8 for a global input (08 R227). -/
def Operand.inputs (l : List Nat) : Bool := l.all fun i => i ≤ 8

end Sys2Proof.Machine
end

