-- ==== Sys2Proof/WellFormed.lean ====
section
/-! DEFINITION. Which commands are well formed: every number they carry fits the field that carries it. Operands whose type has the field's width
need no check. -/

namespace Sys2Proof

open Machine

/-- The command's operands fit their fields. -/
def Instr.wf : Instr → Bool
  | .powerOnReset _ => true
  | .bankCycleStart => true
  | .estimationStepDone => true
  | .commonSampleInstant _ => true
  | .setClose _ => true
  | .safetyEvaluation _ => true
  | .tripRequest _ _ => true
  | .dispatchSplit => true
  | .setpointPublish => true
  | .safetyCrossCompare => true
  | .compareMessage _ _ => true
  | .compareDeadline _ => true
  | .channelHeartbeatSilent _ => true
  | .guardWindow => true
  | .controlCycleBoundary _ _ => true
  | .dutyComputed _ _ => true
  | .scanStart _ => true
  | .scanComplete _ _ => true
  | .scanWatchdog => true
  | .memberSelectChanged _ => true
  | .readLoLatch q addr count => q.wf && Operand.fits 32 addr && Operand.fits 16 count
  | .registerWrite q addr words => q.wf && Operand.fits 32 addr && Operand.words words
  | .counterClear q addr _ => q.wf && Operand.fits 32 addr
  | .commit q => q.wf
  | .stepNext q => q.wf
  | .stepAll q => q.wf
  | .rollback q => q.wf
  | .rollbackAll q => q.wf
  | .discard q => q.wf
  | .shadowReady => true
  | .stepEvaluate => true
  | .stepCommit _ => true
  | .stepPrepare => true
  | .prepareReceived _ _ => true
  | .stepPeerAnswer _ _ _ => true
  | .decideReceived _ _ _ => true
  | .peerMatchConfirm _ _ => true
  | .switchChange _ _ _ => true
  | .profileCrcCheck _ => true
  | .ringEnumerate q _ => q.wf
  | .ringClose q _ => q.wf
  | .enumSilenceEnd _ => true
  | .identityReceived _ _ _ => true
  | .enumTimeout _ => true
  | .assignAtEndB _ => true
  | .transitAtEndB _ transit => Operand.fits 32 transit
  | .ringSessionFrame _ _ => true
  | .sessionDeadline _ => true
  | .probeReplyReceived _ _ _ elapsed turn => Operand.fits 32 elapsed && Operand.fits 32 turn
  | .sampleReceived _ _ _ => true
  | .replyReceived _ _ _ => true
  | .ringCommandRequest _ _ => true
  | .commandWindowOpen _ => true
  | .exchangeTimeout _ _ => true
  | .ringLos _ _ => true
  | .losSilenceEnd _ _ => true
  | .beaconReturn _ _ transit => Operand.fits 32 transit
  | .missedReturn _ => true
  | .ringDelayDrift _ => true
  | .faultLoopOpen _ _ => true
  | .faultLoopAbnormal _ => true
  | .faultLoopStateChange _ _ => true
  | .trackingUpdate => true
  | .sweepStart q _ => q.wf
  | .sweepAbort q _ => q.wf
  | .sweepCancelPending q _ => q.wf
  | .sweepPointStart _ => true
  | .sweepAccumulateStart _ => true
  | .sweepPointLastSet _ => true
  | .sweepResultDeadline _ => true
  | .tempPointDue _ => true
  | .calTemp q _ => q.wf
  | .syncInEdge interval => Operand.fits 32 interval
  | .syncCoast _ => true
  | .cwWrite q _ _ _ => q.wf
  | .holdIntWrite q _ _ => q.wf
  | .thermalBalanceUpdate _ => true
  | .gdStatusReceived _ _ _ => true
  | .gdFibreFault _ _ => true
  | .auxInputChange _ _ => true
  | .contactorMismatch _ _ => true
  | .coilPullinEnd _ _ => true
  | .prechargeTimeout _ => true
  | .kNegReleaseDelay _ => true
  | .tripOpenTimeout _ => true
  | .stringEnable q _ => q.wf
  | .stringDisable q _ => q.wf
  | .stringStart q _ => q.wf
  | .stringHold q _ => q.wf
  | .stringResume q _ => q.wf
  | .stringStop q _ => q.wf
  | .stringShed q _ => q.wf
  | .stringService q _ => q.wf
  | .stringClear q _ => q.wf
  | .rcLearn _ => true
  | .rcPeriodLost _ => true
  | .rcFadeEnd _ => true
  | .rippleHigh _ => true
  | .gridFreqWrite q _ => q.wf
  | .bankStandby q => q.wf
  | .bankPrecharge q _ => q.wf
  | .bankRun q => q.wf
  | .bankHold q => q.wf
  | .bankStop q => q.wf
  | .bankClear q => q.wf
  | .bankService q => q.wf
  | .bankOff q => q.wf
  | .dispatch q _ => q.wf
  | .dispatchConfirm _ seq => Operand.fits 64 seq
  | .dispatchPeerTimeout seq => Operand.fits 64 seq
  | .journalWriteDone _ => true
  | .dispatchQuery q _ => q.wf
  | .reinit q _ => q.wf
  | .learnNow q => q.wf
  | .learnedValuesWrite => true
  | .learnWriteDone _ => true
  | .balancingDecision => true
  | .overCurrent _ _ => true
  | .estop _ => true
  | .extTrip => true
  | .fenceInActive => true
  | .fabricCfgMismatch _ _ => true
  | .estopDiscrepancy => true
  | .estopResetArmed => true
  | .estopCoilTimer => true
  | .inputSelftest _ _ => true
  | .outputTest q _ => q.wf
  | .testDue => true
  | .heartbeatSend => true
  | .heartbeatReceived _ _ => true
  | .heartbeatTimeout => true
  | .twinLaneDown _ => true
  | .leaseTick => true
  | .leaseExpiry _ => true
  | .leaseClaim _ => true
  | .activeInChange _ => true
  | .fenceWaitEnd => true
  | .fenceConfirmed => true
  | .fenceUnconfirmed => true
  | .pairFormation _ => true
  | .controlRecordReceived _ _ _ => true
  | .estimationRecordReceived _ _ => true
  | .standbyDesync => true
  | .switchover q => q.wf
  | .switchoverRelease => true
  | .releaseReceived _ _ => true
  | .unfence q => q.wf
  | .resync q => q.wf
  | .axolotlResyncStart peerTsc => Operand.fits 64 peerTsc
  | .axolotlDone _ => true
  | .resyncFail _ => true
  | .timeFrameReceived _ _ _ => true
  | .twinTimeUnlock => true
  | .twinPtpDiff => true
  | .pairHello _ => true
  | .pairRekey => true
  | .applyToken q => q.wf
  | .tokenEffect => true
  | .secCommit q => q.wf
  | .gdSession q _ => q.wf
  | .bindRing q _ => q.wf
  | .gdSessionFrame _ _ _ => true
  | .attest q nonce => q.wf && Operand.fits 256 nonce
  | .report q kind addr count nonce => q.wf && Operand.fits 8 kind && Operand.fits 32 addr && Operand.fits 16 count && Operand.fits 256 nonce
  | .tamperDetected source rtc => Operand.fits 12 source && Operand.fits 64 rtc
  | .backupLow _ => true
  | .backupFail _ _ => true
  | .tlsConnect _ => true
  | .tlsKeyUpdate session => Operand.slot session
  | .historyAdmission _ source body => Operand.fits 12 source && Operand.body body
  | .shelfWriteDone rseq => Operand.fits 64 rseq
  | .shelfCommandFail _ cmd => Operand.fits 16 cmd
  | .checkpoint => true
  | .attachA q _ _ => q.wf
  | .attachB q _ _ => q.wf
  | .histAttached _ => true
  | .newStore q => q.wf
  | .seal q => q.wf
  | .selectProfile q _ => q.wf
  | .profileChangeApply => true
  | .ffrEventDelivery _ source _ => Operand.fits 12 source
  | .ffrWriterTake => true
  | .ffrCommitDone _ => true
  | .ffrSecondEnd => true
  | .archive q => q.wf
  | .ffrClear q => q.wf
  | .ffrMirrorReceived _ _ => true
  | .ffrMirrorTimeout _ => true
  | .hostLinkDown _ _ => true
  | .hostFrameDiscard _ => true
  | .journaledWrite q _ addr words => q.wf && Operand.fits 32 addr && Operand.words words
  | .journalReapply => true
  | .blockBegin q target _ total _ => q.wf && Operand.fits 8 target && Operand.fits 32 total
  | .blockData q target offset data => q.wf && Operand.fits 8 target && Operand.fits 32 offset && Operand.body data
  | .blockEnd q target => q.wf && Operand.fits 8 target
  | .timeSet q tai => q.wf && Operand.fits 64 tai
  | .note q text => q.wf && Operand.body text
  | .subscribe q _ => q.wf
  | .keepalive q => q.wf
  | .sessionIdleTimeout session => Operand.slot session
  | .transferExpiry target => Operand.fits 8 target
  | .forgetIdentity q index => q.wf && Operand.fits 32 index
  | .ptpSyncReceived _ => true
  | .ptpFollowUp _ => true
  | .ptpDelayReqDue _ => true
  | .ptpDelayResp _ => true
  | .ptpPdelayReq _ => true
  | .ptpAnnounce _ => true
  | .ptpMasterLost => true
  | .acceptMaster q => q.wf
  | .ptpIncrementHi q _ => q.wf
  | .ptpIncrementLo q _ => q.wf
  | .ptpOffset q _ => q.wf
  | .tscSet => true
  | .canFrameReceived _ _ => true
  | .canMapPeriod _ i data => Operand.fits 16 i && Operand.body data
  | .canTxDone _ _ sof => Operand.fits 64 sof
  | .canBusError _ tec recv _ => Operand.fits 16 tec && Operand.fits 16 recv
  | .recover q _ => q.wf
  | .abortTx q _ _ => q.wf
  | .busoffAutoDelay _ => true
  | .canBusRecovered _ => true
  | .canStationLost _ _ => true
  | .canReferenceDue _ => true
  | .hkPollDue _ => true
  | .hkPollDone _ _ => true
  | .hkAlert => true
  | .hkAlertReadDone _ _ _ => true
  | .hkAlertHoldEnd => true
  | .hkArbLost _ => true
  | .hkBusStuck _ => true
  | .busClear q _ => q.wf
  | .hkTargetAccess _ _ => true
  | .analogueSample _ _ _ => true
  | .aiConfirm _ => true
  | .aoFault _ _ => true
  | .loopSupplyFault => true
  | .qinTransition _ _ _ => true
  | .qinSuspectCleared _ => true
  | .preset q _ => q.wf
  | .clearUncertain q _ => q.wf
  | .usfMeasurementPair _ _ _ drive1 drive2 => Operand.fits 32 drive1 && Operand.fits 32 drive2
  | .usfHoldExpiry _ => true
  | .captureRef q _ => q.wf
  | .discreteInputChange _ => true
  | .doFault _ _ => true
  | .scanRun q => q.wf
  | .scanStop q => q.wf
  | .scanHold q => q.wf
  | .scanStep q => q.wf
  | .scanResume q => q.wf
  | .holdMaxExpiry => true
  | .supplyDip => true
  | .powerFail _ _ => true
  | .quiescence => true
  | .shelfStateEntry => true
  | .supplyReturn => true
  | .pwrInputHigh => true
  | .holdupTest q => Operand.opt Req.wf q
  | .holdupTestDone _ => true
  | .pwrDomainFault _ => true
  | .clockFault _ => true
  | .thermalSensorRead _ _ _ _ _ => true
  | .thmBand => true
  | .shutdownPending => true
  | .thermalShutdown _ _ => true
  | .shelfWake => true
  | .loadSd q _ => q.wf
  | .loadSdImage q _ => q.wf
  | .activate q => q.wf
  | .activateEvaluate => true
  | .partLoad q _ _ _ => q.wf
  | .partActivate q _ _ _ => q.wf
  | .abort q => q.wf
  | .updStaged => true
  | .startEnumeration => true
  | .standbyAtStart => true
  | .serviceDoorOpened => true
  | .serviceDoorClosed => true
  | .consoleAttach => true
  | .consoleDetach => true
  | .sdCardRemoved => true
  | .twinLaneUp _ => true
  | .fenceInReleased => true
  | .hostLinkUp _ => true
  | .tlsSessionClosed session => Operand.slot session
  | .acceptedWorkReceived _ _ => true
  | .workCopyConfirmed _ _ => true
  | .imageForwardReceived _ data => Operand.body data
  | .outputHoldExpiry => true
  | .estopInputClosed _ => true
  | .tripInputReleased _ => true
  | .gdReplyReceived _ _ _ => true
  | .gdReplyTimeout _ _ => true
  | .shutdownLatchClear => true
  | .backupCellExhausted => true
  | .holdupCharged => true
  | .sdCardInserted _ => true
  | .undefinedMessage q type len => q.wf && Operand.fits 8 type && Operand.fits 32 len
  | .shelfReadDone _ _ => true

end Sys2Proof
end

