-- ==== Sys2Proof/Decode.lean ====
section
/-! DEFINITION. The commands that a word spells. -/

namespace Sys2Proof

/-- The command that an instruction word of `nbits` bits spells: none, since no row of the spec's table of commands gives bits. -/
def decodeTableWord (_nbits _w : Nat) : Option Instr := none

end Sys2Proof
end

