-- ==== Sys2Proof/Config.lean ====
section
/-! DEFINITION. What the spec leaves open or leaves to data it does not lay out: free values, cryptography, the layout of
the image's sections, and the cell model's tables. None has a body: nothing can be proved of a value of one. -/

namespace Sys2Proof

open Machine

/-- A fresh open value, by the state's free-value counter (log 3). -/
opaque Config.freeNat : Nat → Nat
/-- A fresh open rational, by the state's free-value counter (log 3). -/
opaque Config.freeRat : Nat → Rat

/-- SHA-384 over bytes, first byte of the digest in bits 7:0 (10 R265; log 6). -/
opaque Config.sha384 : List Byte → BitVec 384
/-- ECDSA P-384 verification: compressed point, digest, signature (10 R265; log 6). -/
opaque Config.ecdsaOk : Nat → BitVec 384 → List Byte → Bool
/-- An ECDSA P-384 signature of 96 bytes over a digest, made with a key of the module: 0 the DIK, 1 + g the RSK of generation g (10 R265;
log 6). -/
opaque Config.ecdsaSign : Nat → BitVec 384 → Nat
/-- AES-256 CMAC: key and message, the first byte of the MAC in bits 7:0 (10 R265; log 6). -/
opaque Config.cmac : Nat → List Byte → BitVec 128
/-- A key agreed by ECDH and HKDF: the public points, the salt and the info of the derivation (10 R265, R276; log 6). -/
opaque Config.deriveKey : List Byte → Nat
/-- A key wrapped under AES-256-GCM, 48 bytes: wrap key, nonce, key (10 R276; log 6). -/
opaque Config.wrapKey : Nat → Nat → Nat → Nat

/-- The SHA-384 of a measured item of start-up: the register M0 to M6 and the digest of the bank that runs (10 Table 10.2; log 6). -/
opaque Config.componentDigest : Nat → BitVec 384 → BitVec 384

/-- The DER device certificate of a module, by its DIK's compressed point (10 Table 10.1; 11 Table 11.5; log 6). -/
opaque Config.deviceCert : Nat → List Byte
/-- The DER certificate that a DIK signs for an RSK: the DIK's compressed point and the RSK's fingerprint (11 Table 11.5; log 6). -/
opaque Config.rskCert : Nat → BitVec 128 → List Byte
/-- The DER certificate that a DIK signs for a TLS server key: both compressed points and the subject CN (10 Table 10.8; log 6). -/
opaque Config.tlsCert : Nat → Nat → List Byte → List Byte
/-- The RSK fingerprint of the twin by its PAIR_HELLO: the spec does not say how the writer comes by the twin's certificates (11 Table 11.5; log
3). -/
opaque Config.twinRsk : List Byte → BitVec 128

/-- The configuration that an image's sections spell; the spec gives no layout of the sections (02 Table 2.2; log 7). -/
opaque Config.imageCfg : List Byte → Cfg
/-- The steps that an image's STEP_PLAN section spells (02 Table 2.4; log 7). -/
opaque Config.imagePlan : List Byte → List Step
/-- The SHA-384 of a configuration (02 R47; log 6). -/
opaque Config.cfgDigest : Cfg → BitVec 384

/-- The phase of the complex value 0, which has none (04 R122; log 8). -/
opaque Config.phaseZero : Rat

/-- The value of a phase bin into which no cycle of the period fell: the bins that have values, and the bin (06 R161; log 9). -/
opaque Config.emptyBin : List (Nat × Rat × Nat) → Nat → Rat


/-- One cell's 20 states integrated over one set: states, cell current in A, time in s (07 Table 7.1, R177; log 10). -/
opaque Config.cellPredict : CellModel → List Rat → Rat → Rat → List Rat
/-- A cell's covariance carried over one set about its states: states, cell current in A, covariance, time in s (07 R177; log 10). -/
opaque Config.cellSpread : CellModel → List Rat → Rat → List Rat → Rat → List Rat
/-- The Kalman correction of a cell: states, cell current in A, covariance, and of 07 Table 7.2 the terminal voltage in 0.1 mV with its factor of
variance, the internal temperature, the sensor temperature and the rest voltage, each where it is used; it answers states,
covariance and the normalised squared innovation of the voltage (07 R177, R178; log 10). -/
opaque Config.cellCorrect : CellModel → List Rat → Rat → List Rat → Option (Rat × Rat) → Option Rat → Option Rat → Option Rat → List Rat × List Rat × Rat
/-- The state of charge in % that a cell's states spell (07 R183; log 10). -/
opaque Config.cellSoc : CellModel → List Rat → Rat
/-- The standard deviation of the state of charge in % (07 R179; log 10). -/
opaque Config.cellSd : CellModel → List Rat → Rat
/-- The plating margin M_c in mV at a current in A (07 R186; log 10). -/
opaque Config.plating : CellModel → List Rat → Rat → Rat
/-- The 20 states that stored learned values give a cell (07 R180, R184; log 10). -/
opaque Config.cellFromLearned : CellModel → LearnCell → List Rat
/-- SHA-384 of the CELL_MODEL section in force (07 Table 7.4; log 6). -/
opaque Config.modelDigest : CellModel → BitVec 384
/-- The terminal voltage in mV at a current in A (07 R186; log 10). -/
opaque Config.cellVoltage : CellModel → List Rat → Rat → Rat

/-- Has a core of the Gecko cluster a cell assigned, given the number of cells: the spec does not say which core takes which cell (16 Table
16.3; log 3). -/
opaque Config.coreAssigned : Nat → Nat → Bool

/-- The declared initial value of a variable of the plant-logic program, by its identifier (15 R387, R395; log 7). -/
opaque Config.plantInit : PlantCfg → Nat → Nat

/-- The firmware, calibration and counter data that a READ_INFO reply's payload spells; the spec gives no layout of it (03 Table 3.6; log
7). -/
opaque Config.partInfo : List Byte → PartInfo

/-- The namespace that an ATTACH finds, where a plain register write gives the command (11 R306; log 33). -/
opaque Config.freeShelf : Nat → ShelfNs
/-- The files of the card in S1, where a plain register write gives the command (17 R420; log 33). -/
opaque Config.freeFiles : Nat → List (List Byte)

/-- What TWIN_PEER reads of the last heartbeat; the spec gives no layout of the register (09 Table 9.10; log 3). -/
opaque Config.peerSummary : Option Heartbeat → Nat

/-- TYPE of a twin-link frame other than HEARTBEAT, TIME and PAIR_HELLO: no section gives one (09 R235; log 93). -/
opaque Config.twinType : String → Nat

/-- The payload of a twin-link frame whose layout no section gives, from what the frame carries (09 R235; log 93). -/
opaque Config.twinBody : TwinMsg → List Byte

/-- The scale of each of a cell's 20 states in 24-bit fixed point, which CELL_MODEL gives (09 R247). -/
opaque Config.stateScale : CellModel → List Rat

/-- The point of the Brynxis firmware root, BFR (17 Table 17.3; log 6). -/
opaque Config.bfrKey : Nat

/-- A bank's contents rebuilt from a delta against the bank with a TARGET_DIGEST (17 R422; log 7). -/
opaque Config.applyDelta : BitVec 384 → List Byte → List Byte

end Sys2Proof
end

