-- ==== Sys2Proof/Machine/State.lean ====
section
/-! DEFINITION. The state of one LX9208 module as plain data, the reasons a step can stop, and the state after reset. -/

namespace Sys2Proof.Machine

/-- The reasons a step stops with a fault. The spec gives every command an effect, so no meaning raises one: the
constructor stands for an access to a register outside the spec's address space by the model itself (safe). -/
inductive Fault where
  /-- No command raises it. -/
  | noSuchState
  deriving DecidableEq, Repr

/-- The reasons a step refuses a command. A refusal of the MODULE (a code to the host) is no refusal here: it is a next state. -/
inductive Refusal where
  /-- Raised by an arm of `exec` whose command has no meaning yet (safe). -/
  | notModelled (mnemonic : String)
  deriving DecidableEq, Repr

/-- A report that requests the single set of the TSC (01 R20). -/
structure TimeReport where
  /-- 01 R20. -/
  kind : SrcKind := .ptp
  /-- 01 R20, the TSC value reported at the request (64). -/
  value : Int := 0
  /-- 01 R20, the instant of the report (ns). -/
  atUp : Nat := 0
  /-- 12 R340, the LHP request to answer. -/
  req : Option Req := none
  deriving DecidableEq, Repr

/-- Time-stamp counter and its movement (01 R16-R25). -/
structure Clock where
  /-- 01 R19, 12 R337: TSC in units of 2^-32 ns; modulo 2^64 ns (64+32). -/
  tscFix : Nat := 0
  /-- 01 R20 TSC_VALID (1). -/
  tscValid : Bool := false
  /-- 01 TSC text, 12 R337 PTP_INCREMENT 8.32, nominal 2.0 (40). -/
  incr : BitVec 40 := 0x200000000
  /-- 01 R19 remainder of the phase correction (ns*2^32). -/
  slewRem : Int := 0
  /-- 01 R20 the first report, pending until a whole ms. -/
  setReq : Option TimeReport := none
  /-- 12 R340 TIME_SETs that arrived after the first report. -/
  setWait : List TimeReport := []
  /-- MODEL: elapsed time since the last power-on, used for timeouts (ns). -/
  upNs : Nat := 0
  /-- 01 R24 last stamp emitted per source. -/
  lastStamp : List (Nat × Nat) := []
  /-- 01 R16 TSC of the current bank cycle's T0 (64). -/
  cycleT0 : Nat := 0
  /-- 03 Table 3.2 Ring cycle number (TSC of T0 / 1,000,000) (64). -/
  cycleNo : Nat := 0
  deriving DecidableEq, Repr

/-- Identity block (01 Table 1.10-1.12). -/
structure Ident where
  /-- 01 Table 1.11 ID_VERSION (MAJOR, MINOR, BUILD) (32). -/
  version : BitVec 32 := 0
  /-- 01 Table 1.10 ID_HW_REV, a count from 1 (32). -/
  hwRev : BitVec 32 := 1
  /-- 01 Table 1.10 ID_SERIAL (64). -/
  serial : BitVec 64 := 0
  /-- 01 R25, R37, Table 1.12 MEMBER (1). -/
  member : Bool := false
  /-- 01 R37 the member-select pin as it reads now (1). -/
  memberPin : Bool := false
  /-- 01 Table 1.10 ID_SCRATCH (32). -/
  scratch : BitVec 32 := 0
  deriving DecidableEq, Repr

/-- An image slot in flash (02 R43; survives reset). -/
structure Slot where
  /-- 02 R43 (<= 16 MiB). -/
  data : List (BitVec 8) := []
  /-- 02 Table 2.1 (256 bytes). -/
  hdr : ImgHeader := {}
  /-- 02 Table 2.11 CUR_VALID / STG_VALID (1). -/
  valid : Bool := false
  /-- 02 R40 the configuration the image's sections carry. -/
  cfg : Cfg := {}
  /-- 02 section STEP_PLAN (0-64). -/
  plan : List Step := []
  deriving DecidableEq, Repr

/-- A pending commit or step (02 R46-R48). -/
structure PendStep where
  /-- 02 R45. -/
  kind : StepKind := .commit
  /-- 02 R45 STEP_ALL or ROLLBACK_ALL (1). -/
  all : Bool := false
  /-- 02 R48 step index (0-64). -/
  index : Nat := 0
  /-- 02 R47 shadow configuration. -/
  cfg : Cfg := {}
  /-- 02 R47 TSC at which the shadow was ready and its digest checked (ns). -/
  shadowReady : Option Nat := none
  /-- 02 R48 evaluated, commits at T0 (1). -/
  passed : Bool := false
  /-- 02 R56 target T0 (64). -/
  target : Nat := 0
  /-- 02 R54 the plan was complete when a reversal was asked (1). -/
  wasComplete : Bool := false
  /-- 02 R56 PREPARE sent (1). -/
  prepared : Bool := false
  /-- 02 R56 READY or REFUSE in hand (1). -/
  peerReady : Option Bool := none
  deriving DecidableEq, Repr

/-- A PREPARE held by the standby (02 R56). -/
structure PeerPrep where
  /-- 02 R56 (7). -/
  index : Nat := 0
  /-- 02 R56 (384). -/
  digest : BitVec 384 := 0
  /-- 02 R56 (64). -/
  target : Nat := 0
  /-- 02 R56. -/
  kind : StepKind := .commit
  /-- 02 R56 READY sent (1). -/
  ready : Bool := false
  /-- 02 R56 DECIDE received: commit or refuse (1). -/
  decided : Option Bool := none
  deriving DecidableEq, Repr

/-- Structure image control (02). -/
structure Img where
  /-- 02 R43 (16 MiB). -/
  cur : Slot := {}
  /-- 02 R43 (16 MiB). -/
  stg : Slot := {}
  /-- 02 R44 configuration in force. -/
  cfg : Cfg := {}
  /-- 02 Table 2.11 (4). -/
  plan : PlanState := .none
  /-- 02 R46. -/
  pend : Option PendStep := none
  /-- 02 R56. -/
  peer : Option PeerPrep := none
  /-- 02 Table 2.11 PEER_MATCH (1). -/
  peerMatch : Bool := false
  /-- 02 Table 2.13 CODE (16). -/
  resCode : BitVec 16 := 0
  /-- 02 Table 2.13 DETAIL (16). -/
  resDetail : BitVec 16 := 0
  /-- 02 Table 2.14 (26). -/
  envFail : BitVec 26 := 0
  /-- 02 Table 2.10 IMG_REENUM (8). -/
  reenum : BitVec 8 := 0
  /-- 02 Table 2.11 ACTIVE_PROFILE (none: no profile selected, R59) (4). -/
  profActive : Option (BitVec 4) := none
  /-- 02 R59 the agreed SW1 position last adopted, whether or not the image defines its profile (4). -/
  profPos : Option (BitVec 4) := none
  /-- 02 Table 2.11 SELECTED_PROFILE (4). -/
  profSelected : BitVec 4 := 0
  /-- 02 Table 2.11 PROFILE_PENDING (1). -/
  profPending : Bool := false
  /-- 02 R58 readings on which the channels differ: SW1, SW2-4 to SW2-1 (5). -/
  swDisagree : BitVec 5 := 0
  /-- 02 R43 a load of the staged slot is running (1). -/
  loading : Bool := false
  deriving DecidableEq, Repr

/-- A partner session exchange in progress (10 R276, R278). -/
structure SessRun where
  /-- 10 Table 10.7 last step completed, 0 none (0-6). -/
  step : Nat := 0
  /-- 10 R277 BIND set in HELLO (1). -/
  bind : Bool := false
  /-- 10 R276 payloads so far, STEP bytes included (bytes). -/
  msgs : List (BitVec 8) := []
  /-- 10 R276 key derived (256). -/
  key : Nat := 0
  /-- 10 Table 10.7 start of the running deadline (ns). -/
  startUp : Nat := 0
  deriving DecidableEq, Repr

/-- A running enumeration (03 R76-R81). -/
structure EnumRun where
  /-- 03 R77. -/
  phase : EnumPhase := .silence
  /-- 03 R77 the node under enumeration (5). -/
  k : Nat := 0
  /-- 03 R78 the values of the MEASURE run, 0.125 ns (64 values). -/
  probes : List Int := []
  /-- 03 R77 (0.25 ns). -/
  dA : List Nat := []
  /-- 03 R77 (0.25 ns). -/
  dB : List Nat := []
  /-- 03 R77 L (0.25 ns). -/
  transit : Nat := 0
  /-- 10 R277 BIND set for this enumeration (1). -/
  bind : Bool := false
  /-- 10 R276 the SESSION exchange. -/
  sess : Option SessRun := none
  /-- 03 R97 the twin enumerates: this member only measures from its own ends (1). -/
  peer : Bool := false
  /-- 03 R80 the next node step waits for a band change that is due (1). -/
  held : Bool := false
  /-- 03 R76 instant at which the silence began (ns). -/
  beganUp : Nat := 0
  deriving DecidableEq, Repr

/-- One Ring port (03). -/
structure RingPort where
  /-- 03 Table 3.14 MODE (4). -/
  mode : RingMode := .idle
  /-- 03 Table 3.14 LEASE (1). -/
  lease : Bool := false
  /-- 03 Table 3.14, R94 (1). -/
  drift : Bool := false
  /-- 03 R93, Table 3.14 CLOSE_PENDING. -/
  closeStep : CloseStep := .none
  /-- 03 R93 UNWRAP/WRAP exchanges completed, as a mask (2). -/
  closeDone : Nat := 0
  /-- 03 R93 RING_DELAY_CHANGED until enumerated (1). -/
  closeBlocked : Bool := false
  /-- 03 Table 3.14 NODES (5). -/
  nodeCount : Nat := 0
  /-- 03 Table 3.16 CODE (16). -/
  resCode : BitVec 16 := 0
  /-- 03 Table 3.16 DETAIL (16). -/
  resDetail : BitVec 16 := 0
  /-- 03 Table 3.17 POS (8). -/
  pos : BitVec 8 := 0xFF
  /-- 03 Table 3.17 POS2 (8). -/
  pos2 : BitVec 8 := 0xFF
  /-- 03 Table 3.13 RINGn_NODES_MISS (24). -/
  nodesMiss : BitVec 24 := 0
  /-- 03 Table 3.13 RINGn_LOOP_ENUM (32). -/
  loopEnum : BitVec 32 := 0
  /-- 03 Table 3.13 RINGn_LOOP_NOW (32). -/
  loopNow : BitVec 32 := 0
  /-- 03 Table 3.13 RINGn_SEG_A_RT (32). -/
  segART : BitVec 32 := 0
  /-- 03 Table 3.13 RINGn_SEG_B_RT (32). -/
  segBRT : BitVec 32 := 0
  /-- 03 Table 3.18 STATE reset 1 (2). -/
  floop : LoopState := .opened
  /-- 03 Table 3.18 CURRENT (16). -/
  floopUa : BitVec 16 := 0
  /-- 08 R210 stamp of the present data view of the nodes: the loop OPEN or not (ns). -/
  floopTsc : Nat := 0
  /-- 08 R210 management view of the nodes in the last set (1). -/
  nodeFlag : Bool := false
  /-- 08 R210 stamp of that view (ns). -/
  nodeFlagTsc : Nat := 0
  /-- 03 Table 3.10: ABNORMAL for 10 ms, treated as OPEN by both channels (1). -/
  floopAbn : Bool := false
  /-- 03 R89 nodes that reported WRAP_A in the last closed set (24). -/
  wrapA : BitVec 24 := 0
  /-- 03 R89 nodes that reported WRAP_B in the last closed set (24). -/
  wrapB : BitVec 24 := 0
  /-- 03 R89 the same of the set before it, WRAP_A (24). -/
  wrapPrevA : BitVec 24 := 0
  /-- 03 R89 the same of the set before it, WRAP_B (24). -/
  wrapPrevB : BitVec 24 := 0
  /-- 03 R88, R93 no receive signal at end A (1). -/
  losA : Bool := false
  /-- 03 R88, R93 no receive signal at end B (1). -/
  losB : Bool := false
  /-- 03 R88 10 us silence at end A (1). -/
  silentA : Bool := false
  /-- 03 R88 10 us silence at end B (1). -/
  silentB : Bool := false
  /-- 03 R89 end A lost signal in the current set (1). -/
  losSetA : Bool := false
  /-- 03 R89 end B lost signal in the current set (1). -/
  losSetB : Bool := false
  /-- 03 R89 end A lost signal in the previous set (1). -/
  losPrevA : Bool := false
  /-- 03 R89 end B lost signal in the previous set (1). -/
  losPrevB : Bool := false
  /-- 03 R89 consecutive missed returns (2). -/
  missedRet : Nat := 0
  /-- 03 R92 served from both ends around POS (1). -/
  both : Bool := false
  /-- 03 R93 nodes above this address count as missing in this set (5). -/
  ignoreAbove : Option Nat := none
  /-- 03 R90 SPLIT is entered at the next T0 (1). -/
  splitNext : Bool := false
  /-- 03. -/
  nodes : Vector NodeEntry 24 := Vector.replicate 24 {}
  /-- 03 R84 (64 entries). -/
  queue : List RingCmdReq := []
  /-- 03 R84 exchange outstanding at end A. -/
  outA : Option RingCmdReq := none
  /-- 03 R84 exchange outstanding at end B. -/
  outB : Option RingCmdReq := none
  /-- 03 R84 end delimiter of the command outstanding at end A, TSC (ns). -/
  cmdEndA : Nat := 0
  /-- 03 R84 end delimiter of the command outstanding at end B, TSC (ns). -/
  cmdEndB : Nat := 0
  /-- 03 R82, R84 command window (1). -/
  windowOpen : Bool := false
  /-- 03 R77. -/
  enumRun : Option EnumRun := none
  /-- 03 R69 broadcast key (256). -/
  bcastKey : Option Nat := none
  /-- 01 R23, R24 stamp of the last set (64). -/
  setTsc : Nat := 0
  /-- 03 R72 the set of this cycle has closed (1). -/
  setClosed : Bool := true
  /-- 04 R102 instant of the previous BEACON launch (ns). -/
  beaconUp : Nat := 0
  /-- 03 R94 (ns). -/
  driftSince : Option Nat := none
  deriving DecidableEq, Repr

/-- Per-node sensing state at the Ring port and Gecko (04). -/
structure SenseNode where
  /-- 04 R101, Table 4.10 confirmed COMP_A (16 ns). -/
  compA : BitVec 16 := 0
  /-- 04 R101, Table 4.10 confirmed COMP_B (16 ns). -/
  compB : BitVec 16 := 0
  /-- 04 R106 last COMP_A sent (16). -/
  sentA : BitVec 16 := 0
  /-- 04 R106 last COMP_B sent (16). -/
  sentB : BitVec 16 := 0
  /-- 04 R104 corrA (ns). -/
  corrA : Rat := 0
  /-- 04 R104 corrB (ns). -/
  corrB : Rat := 0
  /-- 04 R105 corrA kept at entry to SPLIT (ns). -/
  keepA : Rat := 0
  /-- 04 R105 corrB kept at entry to SPLIT (ns). -/
  keepB : Rat := 0
  /-- 04 R109 consecutive differing compared sets per cell (16 counts). -/
  psRun : List Nat := []
  /-- 04 R109 condition in force per cell (16 x 1). -/
  psDiff : List Bool := []
  /-- 04 R117 point whose results are being held (6). -/
  heldPoint : Option Nat := none
  /-- 04 R117, Table 4.7 (cell, re, im). -/
  heldCells : List (Nat × BitVec 32 × BitVec 32) := []
  /-- 04 Table 4.7 STATUS (8). -/
  heldStatus : BitVec 8 := 0
  /-- 04 R116 SWEEP_CFG accepted (1). -/
  cfgOk : Bool := false
  deriving DecidableEq, Repr

/-- Sensing part of a Ring port (04 Table 4.9). -/
structure RingSense where
  /-- 04. -/
  nodes : Vector SenseNode 24 := Vector.replicate 24 {}
  /-- 04 R106 the delta at end A before it is rounded for DELTA_A (ns). -/
  dltA : Rat := 0
  /-- 04 R106 the delta at end B before it is rounded for DELTA_B (ns). -/
  dltB : Rat := 0
  /-- 04 Table 4.11 DELTA_A (16 signed, 0.25 ns). -/
  deltaA : Int := 0
  /-- 04 Table 4.11 DELTA_B (16 signed, 0.25 ns). -/
  deltaB : Int := 0
  /-- 04 R104 sum of LOOP_NOW - LOOP_ENUM since the last update (sum). -/
  sumNow : Int := 0
  /-- 04 R104 CLOSED cycles summed (count). -/
  cntNow : Nat := 0
  /-- 04 R105 sum of SEG_A_RT - reference (sum). -/
  sumA : Int := 0
  /-- 04 R105 sum of SEG_B_RT - reference (sum). -/
  sumB : Int := 0
  /-- 04 R105 SPLIT cycles summed at end A (count). -/
  cntSegA : Nat := 0
  /-- 04 R105 SPLIT cycles summed at end B (count). -/
  cntSegB : Nat := 0
  /-- 04 R105 segment reference A (0.25 ns). -/
  refA : Option Nat := none
  /-- 04 R105 segment reference B (0.25 ns). -/
  refB : Option Nat := none
  /-- 04 Table 4.12 ALIGN_UNCERTAIN (1). -/
  alignUnc : Bool := false
  /-- 04 Table 4.12 COMP_PENDING (1). -/
  compPending : Bool := false
  /-- 04 R103 no BEACON until enumerated (1). -/
  enumNeeded : Bool := false
  deriving DecidableEq, Repr

/-- One gate driver as seen by the module (05 Table 5.22, R146-R148). -/
structure GdPhase where
  /-- 05 Table 5.22 reset 1 (1). -/
  dataFault : Bool := true
  /-- 05 Table 5.22 reset 1 (1). -/
  mgmtFault : Bool := true
  /-- 05 Table 5.22 (1). -/
  session : Bool := false
  /-- 05 R146 per-session key (256). -/
  key : Option Nat := none
  /-- 10 R278 the session exchange. -/
  sess : Option SessRun := none
  /-- 05 Table 5.22 FLAGS (8). -/
  flags : BitVec 8 := 0
  /-- 05 Table 5.22 TEMP (16). -/
  temp : BitVec 16 := 0x8000
  /-- 05 Table 5.7 (8). -/
  seqEcho : BitVec 8 := 0
  /-- 05 R148 control cycles without a valid STATUS (count). -/
  statusRun : Nat := 0
  /-- 05 R148 a valid STATUS frame has arrived (1). -/
  heard : Bool := false
  /-- 05 R146 stamp of the last valid STATUS frame (64). -/
  statTsc : Nat := 0
  /-- 05 R148 stamp of the data view (64). -/
  dataTsc : Nat := 0
  /-- 05 R148 stamp of the management view (64). -/
  mgmtTsc : Nat := 0
  /-- 05 R145 filtered temperature (0.1 C). -/
  filt : Option Rat := none
  /-- 05 R148 a recorded view difference stands (1). -/
  disagree : Bool := false
  /-- 05 R148 control cycles the views have differed (count). -/
  diffRun : Nat := 0
  /-- 17 R427 READ_INFO firmware version (16). -/
  fw : Nat := 0
  /-- 17 R427 READ_INFO HW_ID (16). -/
  hw : Nat := 0
  deriving DecidableEq, Repr

/-- The calibrated sense samples of one boundary (05 R133). -/
structure Samples where
  /-- 05 Table 5.2 (10 mV). -/
  vbus : Int := 0
  /-- 05 Table 5.2 (10 mV). -/
  vstr : Int := 0
  /-- 05 Table 5.2 (1 mA). -/
  iph : Vector Int 6 := Vector.replicate 6 0
  /-- 05 Table 5.2 (1 mA). -/
  istrA : Int := 0
  /-- 05 Table 5.2 (1 mA). -/
  istrB : Int := 0
  deriving DecidableEq, Repr

/-- 1 ms summary of one string (01 Table 1.7). -/
structure Summary where
  /-- MODEL: boundaries summed (count). -/
  n : Nat := 0
  /-- 01 Table 1.7 string current, for the mean (1 mA). -/
  iSum : Int := 0
  /-- 01 Table 1.7 (1 mA). -/
  iMin : Int := 0
  /-- 01 Table 1.7 (1 mA). -/
  iMax : Int := 0
  /-- 01 Table 1.7 bus voltage, for the mean (10 mV). -/
  vbSum : Int := 0
  /-- 01 Table 1.7 (10 mV). -/
  vbMin : Int := 0
  /-- 01 Table 1.7, 08 SF11 (10 mV). -/
  vbMax : Int := 0
  /-- 06 R172 string voltage, for the mean (10 mV). -/
  vsSum : Int := 0
  /-- 08 SF10 (10 mV). -/
  vsMax : Int := 0
  /-- 14 R378 coolant-flow safety input; none: its fail state (L/min). -/
  flow : Option Rat := none
  deriving DecidableEq, Repr

/-- What a control cycle takes from the bank cycle, and so holds until the first boundary at or after a T0 (01 R17; 02 R50). -/
structure CtlSet where
  /-- 02 R50 the configuration that a commit has replaced, until the boundary. -/
  cfg : Option StrCfg := none
  /-- 05 Table 5.13 STRn_RAMP in use (16). -/
  ramp : BitVec 16 := 100
  /-- 05 Table 5.13 STRn_ILIM_CHG in use (16). -/
  ilimChg : BitVec 16 := 0
  /-- 05 Table 5.13 STRn_ILIM_DIS in use (16). -/
  ilimDis : BitVec 16 := 0
  /-- 05 Table 5.13 G in use (16). -/
  tbalG : BitVec 16 := 100
  /-- 05 Table 5.13 W_MAX in use (8). -/
  tbalWmax : BitVec 8 := 10
  deriving DecidableEq, Repr

/-- String engine (05). -/
structure StrEng where
  /-- 05 Table 5.14 (4). -/
  state : StrState := .disabled
  /-- 05 Table 5.14 (1). -/
  busMode : Bool := false
  /-- 05 Table 5.14 (1). -/
  synced : Bool := false
  /-- 05 Table 5.14 (1). -/
  syncLost : Bool := false
  /-- 05 Table 5.14, R157 (1). -/
  lockout : Bool := false
  /-- 05 R157 Ring enumerated since the event (1). -/
  lockoutEnum : Bool := false
  /-- 05 Table 5.14 (1). -/
  lease : Bool := false
  /-- 05 Table 5.14 (1). -/
  sat : Bool := false
  /-- 05 Table 5.16 (16). -/
  resCode : BitVec 16 := 0
  /-- 05 Table 5.16 (16). -/
  resDetail : BitVec 16 := 0
  /-- 05 Table 5.17 (2). -/
  missConsec : Nat := 0
  /-- 05 Table 5.17 (1). -/
  missFlag : Bool := false
  /-- 05 Table 5.17 (1). -/
  missTripped : Bool := false
  /-- 05 Table 5.18 (8). -/
  evt : BitVec 8 := 0
  /-- 05 Table 5.19 (16). -/
  phaseCfg : BitVec 16 := 0
  /-- 05 Table 5.13 STRn_PERIOD (20). -/
  period : BitVec 20 := 0
  /-- 05 Table 5.20 register (3). -/
  ctl : BitVec 3 := 0
  /-- 05 R141 holds in force since the last boundary (3). -/
  holdInt : BitVec 3 := 0
  /-- 05 Table 5.13 default 100 (16). -/
  ramp : BitVec 16 := 100
  /-- 05 Table 5.13 STRn_ILIM_CHG (16). -/
  ilimChg : BitVec 16 := 0
  /-- 05 Table 5.13 STRn_ILIM_DIS (16). -/
  ilimDis : BitVec 16 := 0
  /-- 05 Table 5.13 default 100 (16). -/
  tbalG : BitVec 16 := 100
  /-- 05 Table 5.13 default 10 (8). -/
  tbalWmax : BitVec 8 := 10
  /-- 01 R17; 02 R50. -/
  eff : CtlSet := {}
  /-- 05 Table 5.13. -/
  coeffs : Coeffs := {}
  /-- 05 R139 CW writes awaiting the boundary (offset, value). -/
  coefNext : List (Nat × BitVec 32) := []
  /-- 05 R50, R140 committed set awaiting the boundary. -/
  coefCommit : Option Coeffs := none
  /-- 05 R133. -/
  smp : Samples := {}
  /-- 04 R108 chorus-aligned sample. -/
  chorus : Samples := {}
  /-- 07 R192 the chorus-aligned sample of this bank cycle has come (1). -/
  chorusGot : Bool := false
  /-- 04 R108 the chorus-aligned sample of the cycle before. -/
  chorusLast : Samples := {}
  /-- 05 Table 5.13 STRn_SNS_VALID (10). -/
  snsValid : BitVec 10 := 0x3FF
  /-- 05 R134 consecutive samples at or above +10.4 V (count). -/
  openRun : Vector Nat 10 := Vector.replicate 10 0
  /-- 05 R134 consecutive samples below +10.0 V since OFF (count). -/
  okRun : Vector Nat 10 := Vector.replicate 10 0
  /-- 05 R135 consecutive cycles of the first condition (count). -/
  misRun : Nat := 0
  /-- 05 R135 consecutive cycles of the second condition (count). -/
  misRun2 : Nat := 0
  /-- 05 R135 condition handed to the safety channels (1). -/
  mismatch : Bool := false
  /-- 05 STRn_DUTY (D x 2^24). -/
  duty : Vector Rat 6 := Vector.replicate 6 0
  /-- 05 R131 output register. -/
  dutyOut : Vector Rat 6 := Vector.replicate 6 0
  /-- 05 R132 computation unfinished (1). -/
  computing : Bool := false
  /-- 05. -/
  loop : LoopSt := {}
  /-- 05. -/
  gd : Vector GdPhase 6 := Vector.replicate 6 {}
  /-- 05 Table 5.6 ENABLE of the last frame (1). -/
  enableSent : Bool := false
  /-- 05 Table 5.21 DRIVE (3). -/
  drives : BitVec 3 := 0
  /-- 05 Table 5.21 AUX (3). -/
  aux : BitVec 3 := 0
  /-- 05 R152 full-voltage pull-in running (3). -/
  pullin : BitVec 3 := 0
  /-- 05 R151 drive changed and aux not yet matched (3). -/
  auxDue : BitVec 3 := 0
  /-- 05 R153. -/
  prech : PrechStep := .idle
  /-- 05 R153 consecutive complete sets within PRE_DV (count). -/
  prechRun : Nat := 0
  /-- 05 R153 cycles without a complete set (count). -/
  prechMissRun : Nat := 0
  /-- 05 R153 pack sum of the latest complete set (100 uV). -/
  packSum : Nat := 0
  /-- 05 R153 the last closed set was complete (1). -/
  packSumOk : Bool := false
  /-- 05 R154. -/
  opening : OpenStep := .none
  /-- 05 R154 state to enter when the contactors are open. -/
  target : StrState := .off
  /-- 05 R144 time with the current below 2 A (78.125 ps). -/
  lowRun : Nat := 0
  /-- 05 R154 instant of the trip (ns). -/
  tripUp : Nat := 0
  /-- 05 R155 code that brought the string to FAULT (16). -/
  tripCause : Nat := 0
  /-- 01 R17 the bank cycle awaits the ramp value at the first boundary at or after 800 us (1). -/
  handDue : Bool := false
  /-- 01 R17 RAMPING and the ramp value handed over there. -/
  handed : Option (Bool × Rat) := none
  /-- 01 R17 values published at 900 us await the first boundary at or after T0 (1). -/
  adopt : Bool := false
  /-- 01 R17, 06 R173 adopted setpoint (1 mA). -/
  setpoint : Int := 0
  /-- 05 R136 charge limit from dispatch and estimation (1 mA). -/
  setChg : Option Nat := none
  /-- 05 R136 discharge limit from dispatch (1 mA). -/
  setDis : Option Nat := none
  /-- 06 R175 target of the bus voltage loop (0.1 V). -/
  busTarget : Nat := 0
  /-- 01 Table 1.7 running 1 ms summary. -/
  acc : Summary := {}
  /-- 01 Table 1.7 summary of the last whole ms. -/
  sum : Summary := {}
  /-- 09 R241 instant of the last boundary (ns). -/
  bndUp : Nat := 0
  /-- 08 SF18 contactor mismatch trip request (1). -/
  contReq : Bool := false
  /-- 06 R160 output read at the last boundary (A). -/
  uRc : Rat := 0
  /-- 05 R144 ENABLE = 0 sent, the channels withdraw (1). -/
  lowEnable : Bool := false
  /-- 05 R129 last accepted intervals (16 x steps). -/
  syncIvals : List Nat := []
  /-- 05 R129 time from the previous accepted edge to the last SYNC_IN edge (steps). -/
  syncSince : Int := 0
  /-- 05 R130 time from the last boundary to the last SYNC_IN edge (steps). -/
  bndSince : Int := 0
  /-- 05 R129 (count). -/
  coastRun : Nat := 0
  /-- 05 R130 (count). -/
  relockRun : Nat := 0
  /-- 05 R130 remaining error to edge + phase (steps). -/
  syncErr : Int := 0
  /-- 05 R134 sense trip request (1). -/
  sendReq : Bool := false
  /-- 05 R132 deadline trip request (1). -/
  deadReq : Bool := false
  /-- 08 R224 2 A or more at the chorus-aligned sample of the previous set (1). -/
  prevHigh : Bool := false
  /-- 05 R145 (1). -/
  tbalUniform : Bool := false
  deriving DecidableEq, Repr

/-- Repetitive controller of one string (06 R159-R165). -/
structure RcCtl where
  /-- 06 Table 6.9 SOURCE 0 MEASURED 1 HOST (1). -/
  source : Bool := false
  /-- 06 Table 6.8 STRn_RC_GAIN default 0.01 (32). -/
  gain : BitVec 32 := 0x3C23D70A
  /-- 06 Table 6.8 STRn_RC_FREQ (17 mHz). -/
  freq : BitVec 17 := 0
  /-- 06 R159 grid phase (0 <= x < 1). -/
  theta : Rat := 0
  /-- 06 Table 6.9 LOCKED (1). -/
  locked : Bool := false
  /-- 06 R159 time with the phase error within 2 degrees (78.125 ps). -/
  lockRun : Nat := 0
  /-- 06 Table 6.9 LEARNING (1). -/
  learning : Bool := false
  /-- 06 Table 6.9 APPLIED (1). -/
  applied : Bool := false
  /-- 06 Table 6.9 FADING (1). -/
  fading : Bool := false
  /-- 06 Table 6.9 HIGH (1). -/
  high : Bool := false
  /-- 06 R163 output scale (0-1). -/
  fade : Rat := 1
  /-- 06 R163 rising back (1). -/
  fadeUp : Bool := false
  /-- 06 R163 learning stopped, period lost (1). -/
  stopped : Bool := false
  /-- 06 R160 memory (unlisted cells 0) (1024 cells, A). -/
  mem : List (Nat × Rat) := []
  /-- 06 R164 f_g at which it was learned (17 mHz). -/
  memFreq : BitVec 17 := 0
  /-- 06 R161 errors of the running period (bins: sum, count). -/
  acc : List (Nat × Rat × Nat) := []
  /-- 06 R162 a condition failed in the running period (1). -/
  dirty : Bool := false
  /-- 06 Table 6.8 STRn_RC_RESID (16, 1 mA). -/
  resid : BitVec 16 := 0
  /-- 06 R165 the residual of the last learned period is above 1 % of I_RATED (1). -/
  above : Bool := false
  /-- 06 R165 since when it has been, while learning (ns). -/
  highSince : Option Nat := none
  /-- 09 R246 twin copy of an incomplete generation (cells). -/
  genCopy : List (Nat × Rat) := []
  /-- 09 R246 the generation of genCopy (count). -/
  genCopyNo : Nat := 0
  /-- 09 R246 last complete generation (count). -/
  genNo : Nat := 0
  /-- 09 R246 the chunk that the next control record carries (0-15). -/
  chunk : Nat := 0
  deriving DecidableEq, Repr

/-- Per-string outputs of the split (06 R171-R175). -/
structure StrShare where
  /-- 06 EST_DISP_Pn (32, W). -/
  p : Int := 0
  /-- 06 EST_DISP_In (32, mA). -/
  i : Int := 0
  /-- 06 R174 share held while a sweep point runs (W). -/
  heldP : Option Int := none
  /-- 01 Table 1.5 setpoint published at 900 us (mA). -/
  pubI : Int := 0
  /-- 07 R187 charge limit published (mA). -/
  limChg : Option Nat := none
  /-- 07 R187 discharge limit published (mA). -/
  limDis : Option Nat := none
  /-- 06 R172 VSTR mean over the bank cycle (10 mV). -/
  vMean : Nat := 0
  deriving DecidableEq, Repr

/-- A command checked but not yet acknowledged (06 R168). -/
structure DispWait where
  /-- 06 R167. -/
  session : Nat := 0
  /-- 12 R323 (32). -/
  msgId : Nat := 0
  /-- 06 R168. -/
  ident : Nat := 0
  /-- 06 Table 6.2 (32 bytes). -/
  body : DispBody := {}
  /-- 06 R168 (64). -/
  seq : Nat := 0
  /-- 06 R168 taken while no pair was formed: its journal write releases the acknowledgement (1). -/
  alone : Bool := false
  /-- 06 R168, R169 held, and behind a lower number that is not (1). -/
  confirmed : Bool := false
  deriving DecidableEq, Repr

/-- Bank state and dispatch (06). -/
structure Bank where
  /-- 06 Table 6.6 (4). -/
  state : BankState := .off
  /-- 06 EST_BANK_RESULT (16). -/
  resCode : BitVec 16 := 0
  /-- 06 EST_BANK_RESULT (16). -/
  resDetail : BitVec 16 := 0
  /-- 06 Table 6.7 (1). -/
  limited : Bool := false
  /-- 06 R173 DISPATCH_LIMITED recorded for this command (1). -/
  limitedRec : Bool := false
  /-- 06 Table 6.7 MODE (1). -/
  mode : Bool := false
  /-- 06 Table 6.7 (1). -/
  ramping : Bool := false
  /-- 06 Table 6.7 (1). -/
  staleEst : Bool := false
  /-- 06 Table 6.7 (4). -/
  lead : BitVec 4 := 0xF
  /-- 06 Table 6.7 (8). -/
  eligible : BitVec 8 := 0
  /-- 06 EST_DISP_TARGET (32). -/
  target : Int := 0
  /-- 06 EST_DISP_SHORT (32). -/
  short : Nat := 0
  /-- 06 R169. -/
  inForce : Option DispEntry := none
  /-- 06 EST_DISP_QSEL (64). -/
  qsel : BitVec 64 := 0
  /-- 06 EST_DISP_QSTAT (32). -/
  qstat : BitVec 32 := 0
  /-- 06 EST_GRID_FREQ (17 mHz). -/
  gridFreq : BitVec 17 := 0
  /-- 06 R159 instant of the last write (ns). -/
  gridFreqUp : Option Nat := none
  /-- 06 Table 6.3 check 7 (count). -/
  acceptedThisCycle : Nat := 0
  /-- 06 R169 the first bank cycle after a reset is still to come (1). -/
  lapseDue : Bool := false
  /-- 06 R168 acknowledgements held. -/
  wait : List DispWait := []
  /-- 06. -/
  shares : Vector StrShare 8 := Vector.replicate 8 {}
  /-- 01 R17; 06 R171 the split awaits the ramp values of the strings in RUN (1). -/
  splitDue : Bool := false
  /-- 06 Table 6.1 CLEAR; 08 Table 8.3 Reset: every cause since the bank entered FAULT (16 each). -/
  faultCauses : List Nat := []
  deriving DecidableEq, Repr

/-- What one closed set gives estimation (07 R177, Table 7.2). -/
structure EstSet where
  /-- 03 R82 Ring cycle number of the set (64). -/
  cycle : Nat := 0
  /-- 07 R176 I_s of each string (8, A). -/
  i : List Rat := []
  /-- 07 R176 cell current i_c (by cell: A). -/
  ic : List (Nat × Rat) := []
  /-- 07 Table 7.2 usable terminal voltages (by cell: 0.1 mV, factor of variance). -/
  v : List (Nat × Rat × Rat) := []
  /-- 07 Table 7.2 nearest node sensor (by cell: C). -/
  t : List (Nat × Rat) := []
  /-- 04 R106 Rings whose set is marked ALIGN_UNCERTAIN (8). -/
  unc : Nat := 0
  deriving DecidableEq, Repr

/-- Estimation block (07). -/
structure Est where
  /-- 07 EST_RESULT (16). -/
  resCode : BitVec 16 := 0
  /-- 04 EST_ZSEL (32). -/
  zsel : BitVec 32 := 0
  /-- 04 EST_ZCMD_RESULT (16). -/
  zres : BitVec 16 := 0
  /-- 07 EST_SOC_RATE default 200 (16). -/
  socRate : BitVec 16 := 200
  /-- 07 EST_BAL_SUSPEND (8). -/
  balSuspend : BitVec 8 := 0
  /-- 07 EST_BANK_SOC (%). -/
  bankSoc : Rat := 0
  /-- 07 Table 7.7 STRETCH (ms: 1, 2, 4). -/
  stretch : Nat := 1
  /-- 07 R181 length taking effect at the next multiple of 4 (ms). -/
  stretchNext : Nat := 1
  /-- 07 R181 a step is running (1). -/
  stepRun : Bool := false
  /-- 07 R181 the running step is due in this cycle (1). -/
  stepDue : Bool := false
  /-- 07 R181 (cycle). -/
  stepFrom : Nat := 0
  /-- 07 R177 sets closed since the previous step began. -/
  sets : List EstSet := []
  /-- 07 R177, R181 sets that the running step covers. -/
  stepSets : List EstSet := []
  /-- 07 Table 7.7 (1). -/
  learnBusy : Bool := false
  /-- 07 Table 7.7 (1). -/
  learnPending : Bool := false
  /-- 07 R193 triggers of the running write (32). -/
  learnTrig : Nat := 0
  /-- 07 R193 triggers merged into the further write (32). -/
  learnTrigNext : Nat := 0
  /-- 07 R194 the running write, as it was at its start (192 KiB). -/
  learnWrite : Option LearnArea := none
  /-- 07 R197 the learned values are written once the sets since the copy are integrated (1). -/
  learnDue : Bool := false
  /-- 09 R247 learned values as the last estimation record left them (3072). -/
  learnSent : List (Nat × LearnCell) := []
  /-- 07 R197 LEARN_SEQ of the twin that the further write takes (64). -/
  learnSeqNext : Option Nat := none
  /-- 07 R177, R197 the last set that the states cover (cycle). -/
  upTo : Nat := 0
  /-- 07 R201, by index b (3072). -/
  cells : List (Nat × Cell) := []
  /-- 07. -/
  strs : Vector StrEst 8 := Vector.replicate 8 {}
  deriving DecidableEq, Repr

/-- One safety channel (08 R206-R209). -/
structure SafChan where
  /-- 08 Table 8.9 A_RUN / B_RUN (1). -/
  run : Bool := false
  /-- 08 Table 8.10 PWM_A / PWM_B (8). -/
  pwm : BitVec 8 := 0
  /-- 08 Table 8.10 COIL_A / COIL_B (8). -/
  coil : BitVec 8 := 0
  /-- 08 Table 8.9 FAULT_DEMAND of this channel (8). -/
  faultDem : BitVec 8 := 0
  /-- 08 Table 8.9 SHED_DEMAND of this channel (8). -/
  shedDem : BitVec 8 := 0
  /-- 08 R207 fault conditions standing at the last evaluation (8). -/
  cond : BitVec 8 := 0
  /-- 08 R211 bank-level demand of this channel (1). -/
  bankDem : Bool := false
  /-- 08 R208 set number last evaluated (64). -/
  setNo : Nat := 0
  /-- 08 R206 the channel's own copy of the active profile; none while no profile is active (4096 bytes). -/
  prof : List (BitVec 8) := []
  /-- 08 R208, 02 R60 (32). -/
  profCrc : BitVec 32 := 0
  /-- 08 R208 message counter (count). -/
  msgCtr : BitVec 16 := 0
  /-- 08 R209 last counter received from the other channel (count). -/
  rxCtr : BitVec 16 := 0
  /-- 08 R209 a good message arrived in this cycle (1). -/
  rxOk : Bool := false
  /-- 08 R209 consecutive failing safety cycles (2). -/
  failRun : Nat := 0
  /-- 08 R209 SAFETY_COMPARE_FAIL declared (1). -/
  failed : Bool := false
  /-- 08 R204 clear strobes written in this cycle: LOOP, GD, OC, GLOBAL (8+8+8+1). -/
  strobe : BitVec 25 := 0
  /-- 08 R205 threshold copy written by this channel (copy). -/
  thr : List Nat := []
  /-- 02 Table 2.15 (4). -/
  sw1 : BitVec 4 := 0
  /-- 02 Table 2.15 (4). -/
  sw2 : BitVec 4 := 0
  /-- 08 R214 SF08 confirmation (cell b, run). -/
  ovuvRun : List (Nat × Nat) := []
  /-- 08 SF09 consecutive reports (node, run). -/
  otRun : List (Nat × Nat) := []
  /-- 08 R215 (cell b, run). -/
  blindRun : List (Nat × Nat) := []
  /-- 08 SF10 (count). -/
  vstrRun : Vector Nat 8 := Vector.replicate 8 0
  /-- 08 SF11 (count). -/
  vbusRun : Vector Nat 8 := Vector.replicate 8 0
  /-- 08 R207 demands that this channel has found and recorded (string x 32 + SF no.). -/
  fired : List Nat := []
  /-- 08 R227 inputs whose self-test by this channel failed (inputs). -/
  failIn : List FabricIn := []
  /-- 08 SF12 consecutive pairs with a valid flow below FLOW_MIN, as the summaries carried them (3). -/
  flowRun : Vector Nat 8 := Vector.replicate 8 0
  /-- 08 SF12 Reset: strings whose last summary carried a valid flow at or above FLOW_MIN (8). -/
  flowFine : BitVec 8 := 0
  deriving DecidableEq, Repr

/-- Live state of a trip-fabric input (08 Table 8.1, R204). -/
structure TripIn where
  /-- 08 R202 (1). -/
  active : Bool := false
  /-- 08 R204 instant it became inactive (ns). -/
  inactiveUp : Nat := 0
  deriving DecidableEq, Repr

/-- Trip fabric (08 R202-R205). -/
structure Fabric where
  /-- 08 Table 8.9 ARMED (1). -/
  armed : Bool := false
  /-- 08 Table 8.11 reset 0xFF (8). -/
  latchLoop : BitVec 8 := 0xFF
  /-- 08 Table 8.11 (8). -/
  latchGd : BitVec 8 := 0
  /-- 08 Table 8.11 (8). -/
  latchOc : BitVec 8 := 0
  /-- 08 Table 8.11 reset 1 (1). -/
  global : Bool := true
  /-- 08 Table 8.1. -/
  inLoop : Vector TripIn 8 := Vector.replicate 8 {}
  /-- 08 Table 8.1 (16 comparators, per string). -/
  inOc : Vector TripIn 8 := Vector.replicate 8 {}
  /-- 08 Table 8.1 (48). -/
  inGd : Vector (Vector TripIn 6) 8 := Vector.replicate 8 (Vector.replicate 6 {})
  /-- 08 Table 8.9 EXT_TRIP. -/
  extLow : TripIn := {}
  /-- 08 Table 8.12 A_CLOSED. -/
  estopA : TripIn := {}
  /-- 08 Table 8.12 B_CLOSED. -/
  estopB : TripIn := {}
  /-- 08 R218, R221: power-on counts as both opened (1). -/
  estopBothOpen : Bool := true
  /-- 08 Table 8.12 RESET_ARMED (1). -/
  resetArmed : Bool := false
  /-- 08 Table 8.12 DISCREPANCY (1). -/
  discrepancy : Bool := false
  /-- 08 Table 8.9 PCS_TRIP_OPEN reset 1 (1). -/
  pcsOpen : Bool := true
  /-- 08 R220 timer running (1). -/
  coilTimer : Bool := false
  /-- 08 R220 coil power removed (1). -/
  coilPowerOff : Bool := false
  /-- 08 R205 (1). -/
  cfgMismatch : Bool := false
  /-- 08 R205 active bank of the double buffer (tighter copy). -/
  thrActive : List Nat := []
  /-- 08 R222 strings with 2 A or more before LOOP latched (8). -/
  loopCurr : BitVec 8 := 0
  /-- 08 R222 classification awaits the first set closing after the latch (8). -/
  loopEval : BitVec 8 := 0
  /-- 08 R205 settings that the channels last copied from the active profile. -/
  thrWritten : List Nat := []
  /-- 08 R222 strings whose LOOP latch set since the last set closed (8). -/
  loopPend : BitVec 8 := 0
  deriving DecidableEq, Repr

/-- Protection (08). -/
structure Safety where
  /-- 08. -/
  a : SafChan := {}
  /-- 08. -/
  b : SafChan := {}
  /-- 08. -/
  fab : Fabric := {}
  /-- 08 Table 8.9 CMP_OK (1). -/
  cmpOk : Bool := false
  /-- 08 R208 the enable vectors of the last compare messages differ (1). -/
  enDiff : Bool := false
  /-- 08 R215 cycle whose set was last counted in SAF_CHBLIND_CNT (cycle). -/
  blindCycle : Option Nat := none
  /-- 08 Table 8.9 TEST_DUE (1). -/
  testDue : Bool := false
  /-- 08 Table 8.9 PROFILE_OK (1). -/
  profileOk : Bool := false
  /-- 08 SAF_RESULT (16). -/
  resCode : BitVec 16 := 0
  /-- 08 SAF_RESULT (16). -/
  resDetail : BitVec 16 := 0
  /-- 08 SAF_TEST_AGE (ns). -/
  testUp : Option Nat := none
  /-- 08 SAF_CAUSE (16). -/
  cause : Vector (BitVec 16) 8 := Vector.replicate 8 0
  /-- 08 R216 SF15 condition per string (ns). -/
  psdiffSince : Vector (Option Nat) 8 := Vector.replicate 8 none
  /-- 08 R216 condition absent since (ns). -/
  psdiffClear : Vector (Option Nat) 8 := Vector.replicate 8 none
  /-- 08 SF12 reset (ns). -/
  flowOkSince : Vector (Option Nat) 8 := Vector.replicate 8 none
  /-- 08 SF16 reset (ns). -/
  blindOkSince : Vector (Option Nat) 8 := Vector.replicate 8 none
  /-- 08 SF17 reset (ns). -/
  sensOkSince : Vector (Option Nat) 8 := Vector.replicate 8 none
  /-- 08 SF20 reset (ns). -/
  supplyOkSince : Option Nat := none
  /-- 08 Table 8.3 function that shed the string (SF no.). -/
  shedBy : Vector Nat 8 := Vector.replicate 8 0
  /-- 08 R210 (node, run). -/
  nodeDisagree : List (Nat × Nat) := []
  /-- 08 Table 8.9 ESTOP_ACTIVE reset 1 (1). -/
  estopActive : Bool := true
  /-- 09 R244 latches that the STANDBY twin reports (8). -/
  peerMask : BitVec 8 := 0
  /-- 08 SF20 has acted and its reset condition has not been met (1). -/
  sf20 : Bool := false
  /-- 08 SF21 latched until a power cycle (1). -/
  sf21 : Bool := false
  deriving DecidableEq, Repr

/-- A lease (09 Table 9.3, R240-R242). -/
structure Lease where
  /-- 09 held by this member (1). -/
  held : Bool := false
  /-- 09 held by the twin (1). -/
  peer : Bool := false
  /-- 09 R240 journaled (32). -/
  epoch : BitVec 32 := 0
  /-- 09 R241 (ns). -/
  expiry : Nat := 0
  /-- 09 R242 has had a holder since this member's reset (1). -/
  everHeld : Bool := false
  /-- 09 R242 the holder sent RELEASE for it (1). -/
  released : Bool := false
  deriving DecidableEq, Repr

/-- A twin-link lane (09 R235, Table 9.14). -/
structure TwinLane where
  /-- 09 Table 9.14 (1). -/
  up : Bool := false
  deriving DecidableEq, Repr

/-- Twin link, roles, leases (09). -/
structure Twin where
  /-- 09 Table 9.11 (3). -/
  role : Role := .alone
  /-- 09 Table 9.11 (1). -/
  formed : Bool := false
  /-- 09 Table 9.11 (1). -/
  solo : Bool := false
  /-- 09 Table 9.11 (1). -/
  activeOut : Bool := false
  /-- 09 Table 9.11 (2). -/
  activeIn : Line3 := .low
  /-- 09 Table 9.11 (1). -/
  fenceOut : Bool := false
  /-- 09 Table 9.11 (1). -/
  fenceConf : Bool := false
  /-- 09 Table 9.11 (1). -/
  fenceIn : Bool := false
  /-- 09 Table 9.11 (1). -/
  releasing : Bool := false
  /-- 08 R212 a fault in itself found: leases are no longer renewed (1). -/
  selfFault : Bool := false
  /-- 09 Table 9.11, Table 9.8. -/
  resync : ResyncStep := .idle
  /-- 09 R260 an attempt failed: only RESYNC starts another (1). -/
  resyncTried : Bool := false
  /-- 09 Table 9.11 (1). -/
  timeLock : Bool := false
  /-- 09 Table 9.13 (16). -/
  resCode : BitVec 16 := 0
  /-- 09 Table 9.13 (16). -/
  resDetail : BitVec 16 := 0
  /-- 09 TWIN_PEER last heartbeat. -/
  peer : Option Heartbeat := none
  /-- 09 Table 9.14 (1). -/
  hbOk : Bool := false
  /-- 09 Table 9.14. -/
  lane0 : TwinLane := {}
  /-- 09 Table 9.14. -/
  lane1 : TwinLane := {}
  /-- 09 R235 highest sequence number of a frame taken (32). -/
  rxSeq : BitVec 32 := 0
  /-- 09 R235 numbers below it of which no good copy has come (numbers). -/
  rxGaps : List (BitVec 32) := []
  /-- 09 R261 stamp of the last heartbeat taken (64). -/
  hbTsc : Nat := 0
  /-- 09 R259 TSC at which the last TIME frame arrived (64). -/
  timeIn : Nat := 0
  /-- 10 R279 the twin's PAIR_HELLO up to its signature (115 bytes). -/
  peerHello : List (BitVec 8) := []
  /-- 09 R235 (32). -/
  txSeq : BitVec 32 := 0
  /-- 09 TWIN_TSC_OFS (32, 0.25 ns). -/
  tscOfs : Int := 0
  /-- 09 TWIN_PTP_DIFF (32, ns). -/
  ptpDiff : Int := 0
  /-- 09 Table 9.3. -/
  str : Vector Lease 8 := Vector.replicate 8 {}
  /-- 09 Table 9.3. -/
  ring : Vector Lease 8 := Vector.replicate 8 {}
  /-- 09 Table 9.3. -/
  pack : Vector Lease 192 := Vector.replicate 192 {}
  /-- 09 Table 9.3. -/
  hist : Lease := {}
  /-- 09 R246 copies held (8 x 512 bytes). -/
  ctl : Vector CtlRecord 8 := Vector.replicate 8 {}
  /-- 09 R248 boundaries without a record (count). -/
  ctlMiss : Vector Nat 8 := Vector.replicate 8 0
  /-- 09 R248 bank cycles without a record (count). -/
  estMiss : Nat := 0
  /-- 09 R251 (1). -/
  fenceHalfA : Bool := false
  /-- 09 R251 (1). -/
  fenceHalfB : Bool := false
  /-- 09 R251 member 1 waits 2 us (1). -/
  fenceWait : Bool := false
  /-- 09 R258 BOOT_COUNT when the fence was asserted (32). -/
  fenceBoot : BitVec 32 := 0
  /-- 09 R258 valid heartbeat since (ns). -/
  peerHbSince : Option Nat := none
  /-- 09 R253 fence confirmed, claims to follow (1). -/
  takeover : Bool := false
  /-- 09 R256 (1). -/
  takeoverUnsynced : Bool := false
  /-- 09 R257. -/
  hand : HandStep := .none
  /-- 09 R261 (bank cycles). -/
  cfgDiffRun : Nat := 0
  /-- 09 R250 (1). -/
  failDetected : Bool := false
  /-- 09 R243 outputs hold, both lines low (1). -/
  hold : Bool := false
  /-- 09 Table 9.4 the contacts stood open when both lines fell low (1). -/
  pcsLast : Bool := true
  /-- 09 R243 privileged outputs driven by this member (1). -/
  outDriven : Bool := false
  /-- 10 R279 pair keys (peer to own) (256). -/
  peerKey : Option Nat := none
  /-- 10 R279 (own to peer) (256). -/
  ownKey : Option Nat := none
  /-- 10 R279 (1). -/
  helloSent : Bool := false
  /-- 10 R279 the own PAIR_HELLO up to its signature (115 bytes). -/
  hello : List (BitVec 8) := []
  /-- 10 R279 frames since the keys (count). -/
  frames : Nat := 0
  /-- 10 R279 frames taken since the keys (count). -/
  framesIn : Nat := 0
  /-- 10 R279 when the keys took effect (ns). -/
  keyUp : Nat := 0
  /-- 10 R279 (cycle). -/
  rekeyAt : Option Nat := none
  /-- 10 R279 own key that a rekey has agreed (256). -/
  nextOwn : Option Nat := none
  /-- 10 R279 twin's key that a rekey has agreed (256). -/
  nextPeer : Option Nat := none
  /-- 09 R239 (ns). -/
  formSince : Option Nat := none
  /-- 07 R197 closed sets that the copied states do not cover (sets). -/
  gapSets : List EstSet := []
  /-- 07 R197 sets since the last copy, as history takes them (stamp, FLAGS, body). -/
  gapHist : List (Nat × Nat × List (BitVec 8)) := []
  /-- 09 Table 9.8 start of the attempt (ns). -/
  resyncUp : Nat := 0
  /-- 09 R261 TSC offset beyond 10 ns since (ns). -/
  ofsSince : Option Nat := none
  /-- 09 R259 PTP views differ by more than 1 us since (ns). -/
  ptpSince : Option Nat := none
  /-- 09 R261 TWIN_TIME_UNLOCK recorded for this excursion (1). -/
  timeLost : Bool := false
  /-- 09 R259 TWIN_PTP_DIFF recorded for this excursion (1). -/
  ptpLost : Bool := false
  /-- 09 R257 cycle in which the handover runs (64). -/
  handCycle : Nat := 0
  /-- 09 R261 disagreements standing, each recorded once (rows). -/
  disagree : List Nat := []
  /-- 09 R250 no valid heartbeat for 40 us (1). -/
  silent : Bool := false
  /-- 09 R256 strings that the unsynced takeover under way took to FAULT (8). -/
  unsyncedStrs : BitVec 8 := 0
  /-- 09 R260 the state copy has gone to a twin that resyncs (1). -/
  serving : Bool := false
  /-- 09 R259 TSC at which the last own TIME frame left (64). -/
  timeOut : Nat := 0
  /-- 09 R259 TSC at which the twin's last TIME frame left (64). -/
  timeTsc : Nat := 0
  deriving DecidableEq, Repr

/-- An enrolled owner key (10 Table 10.1). -/
structure OwnerKey where
  /-- 10 R263 fingerprint (128). -/
  id : BitVec 128 := 0
  /-- 10 R263 compressed point (392). -/
  point : Nat := 0
  /-- 10 Table 10.5 USAGE (5). -/
  usage : BitVec 5 := 0
  deriving DecidableEq, Repr

/-- An owner root (10 Table 10.1). -/
structure RootKey where
  /-- 10 R263 (128). -/
  id : BitVec 128 := 0
  /-- 10 R263 (392). -/
  point : Nat := 0
  deriving DecidableEq, Repr

/-- An owner token (10 Table 10.3). -/
structure Token where
  /-- 10 Table 10.3 (32). -/
  magic : BitVec 32 := 0
  /-- 10 Table 10.3 (16). -/
  kind : BitVec 16 := 0
  /-- 10 Table 10.3 (16). -/
  length : BitVec 16 := 0
  /-- 10 Table 10.3 (64). -/
  serial : BitVec 64 := 0
  /-- 10 Table 10.3 (64). -/
  serial2 : BitVec 64 := 0
  /-- 10 Table 10.3 (32). -/
  ownerGen : BitVec 32 := 0
  /-- 10 Table 10.3 (32). -/
  counter : BitVec 32 := 0
  /-- 10 Table 10.3 (64). -/
  notAfter : BitVec 64 := 0
  /-- 10 Table 10.3 (128). -/
  signer : BitVec 128 := 0
  /-- 10 Table 10.3 (bytes). -/
  body : List (BitVec 8) := []
  /-- 10 Table 10.3 (96 bytes). -/
  sig : List (BitVec 8) := []
  deriving DecidableEq, Repr

/-- Trust core non-volatile store (10 R271-R273; survives reset). -/
structure TrustNv where
  /-- 10 Table 10.14 (2). -/
  owner : Ownership := .unowned
  /-- 10 Table 10.1 (1-4). -/
  roots : List RootKey := []
  /-- 10 Table 10.1 (up to 16). -/
  keys : List OwnerKey := []
  /-- 10 Table 10.5 TLS certificate serials (up to 1024). -/
  revoked : List (Nat × BitVec 128) := []
  /-- 10 TRUST_OWNER_GEN (32). -/
  ownerGen : BitVec 32 := 0
  /-- 10 TRUST_TOKEN_CTR (32). -/
  tokenCtr : BitVec 32 := 0
  /-- 10 R283 update lock (1). -/
  lock : Bool := false
  /-- 10 R285 (1). -/
  tampered : Bool := false
  /-- 10 R269 (32). -/
  secVersion : BitVec 32 := 0
  /-- 10 TRUST_BOOT_COUNT, saturating (32). -/
  bootCount : BitVec 32 := 0
  /-- 10 R282 (64). -/
  reportSeq : BitVec 64 := 0
  /-- 10 R262 public point of the DIK; TRUST_DIK_ID is its fingerprint (392). -/
  dikPt : Nat := 0
  /-- 10 TRUST_RSK_ID (128). -/
  rsk : BitVec 128 := 0
  /-- 10 R273 generation of RSK, TLS key and record MAC key. -/
  rskGen : Nat := 0
  /-- 10 R264, Table 10.1 public point of the TLS server key (392). -/
  tlsPt : Nat := 0
  /-- 10 R272 BINDING bodies stored (192 bytes each). -/
  bindings : List (List (BitVec 8)) := []
  /-- 10 R264 TRK present in the island (1). -/
  trk : Bool := true
  deriving DecidableEq, Repr

/-- Trust core (10). -/
structure Trust where
  /-- 10. -/
  nv : TrustNv := {}
  /-- 10 TRUST_RESULT (16). -/
  resCode : BitVec 16 := 0
  /-- 10 TRUST_RESULT (16). -/
  resDetail : BitVec 16 := 0
  /-- 10 Table 10.14 POLICY_REPORT (island copy) (1). -/
  policyReport : Bool := false
  /-- 10 Table 10.14 (1). -/
  backupLow : Bool := false
  /-- 10 Table 10.14 (1). -/
  backupFail : Bool := false
  /-- 10 TRUST_BACKUP (16 mV). -/
  backupMv : BitVec 16 := 0
  /-- 10 TRUST_BACKUP (1). -/
  charging : Bool := false
  /-- 10 Table 10.14 (1). -/
  bankFallback : Bool := false
  /-- 10 Table 10.14 (1). -/
  fwBank : Bool := false
  /-- 10 R268 (1). -/
  bootHalt : Bool := false
  /-- 10 Table 10.14 TOKEN_PENDING. -/
  pending : Option Token := none
  /-- 10 R274 its bytes, which PREPARE carries (<= 4096 bytes). -/
  pendRaw : List (BitVec 8) := []
  /-- 10 R274 the twin's READY or REFUSE in hand (1). -/
  pendingReady : Option Bool := none
  /-- 10 R274 the T0 that PREPARE announced (64). -/
  pendTarget : Option Nat := none
  /-- 10 R274 DECIDE sent: the token takes effect (1). -/
  pendGo : Bool := false
  /-- 10 R274 the token that the twin prepares. -/
  peerToken : Option Token := none
  /-- 10 R274 its T0 (64). -/
  peerTarget : Nat := 0
  /-- 10 R274 DECIDE received for it (1). -/
  peerGo : Bool := false
  /-- 10 R272 token buffer (<= 4096 bytes). -/
  buffer : List (BitVec 8) := []
  /-- 10 R272 a token stands in the buffer (1). -/
  bufferOk : Bool := false
  /-- 10 TRUST_MSEL (3). -/
  msel : BitVec 3 := 0
  /-- 10 R267 M0-M7 (8 x 384). -/
  meas : Vector (BitVec 384) 8 := Vector.replicate 8 0
  /-- 10 R277 strings whose next enumeration sets BIND (8). -/
  bindRing : BitVec 8 := 0
  /-- 10 R278 strings whose next gate-driver session sets BIND (8). -/
  bindGd : BitVec 8 := 0
  /-- 10 R285 source, RTC time (last 8). -/
  tamperLog : List (Nat × Nat) := []
  /-- 10 R286 session keys cleared (1). -/
  keysErased : Bool := false
  deriving DecidableEq, Repr

/-- An admission that awaits the twin (11 R299; 09 R249). -/
structure HistWait where
  /-- 11 R299 (64). -/
  rseq : Nat := 0
  /-- 11 Table 11.4 KIND (16). -/
  kind : BitVec 16 := 0
  /-- 12 R325 the NOTE that it answers. -/
  req : Option Req := none
  deriving DecidableEq, Repr

/-- Refusals of one KIND in the open run (11 R301). -/
structure HistTally where
  /-- 11 R301 (16). -/
  kind : BitVec 16 := 0
  /-- 11 R301 (count). -/
  count : Nat := 0
  /-- 11 R301 (64). -/
  firstTsc : Nat := 0
  /-- 11 R301 (64). -/
  lastTsc : Nat := 0
  deriving DecidableEq, Repr

/-- One copy of the store (11 R305, Table 11.9). -/
structure HistCopy where
  /-- 11 Table 11.9 (4). -/
  state : CopyState := .absent
  /-- 11 Table 11.9 (28). -/
  rebuilt : Nat := 0
  /-- 11 R306 a namespace is attached (1). -/
  ns : Bool := false
  /-- 11 R292 capacity of the namespace (bytes). -/
  capBytes : Nat := 0
  /-- 11 R306 label on the namespace (128). -/
  storeId : BitVec 128 := 0
  /-- 11 R307 (1). -/
  blank : Bool := true
  /-- 11 R306 sealed segments to copy (segments). -/
  rebuildTo : Nat := 0
  /-- 11 R305 commands that have been reissued (commands). -/
  reissued : List Nat := []
  /-- 11 Table 11.10 reservation held (1). -/
  reserved : Bool := false
  /-- 11 R299 last RSEQ whose write has completed on this copy (64). -/
  doneRseq : Nat := 0
  deriving DecidableEq, Repr

/-- A segment sealed before its bytes were read back, and the header of the one opened after it (11 R294, R308). -/
structure SegLate where
  /-- 11 R294 (64). -/
  seg : Nat := 0
  /-- 11 Table 11.3 trailer up to FLAGS (32 bytes). -/
  head : List (BitVec 8) := []
  /-- 11 Table 11.3 FLAGS (32). -/
  flags : Nat := 0
  /-- 11 Table 11.3 SIGNER_ID (128). -/
  rsk : BitVec 128 := 0
  /-- 10 Table 10.1 generation of the key that signs. -/
  gen : Nat := 0
  /-- 11 Table 11.2 header of the next segment, PREV_LINK zero; empty while none is open (256 bytes). -/
  next : List (BitVec 8) := []
  deriving DecidableEq, Repr

/-- History write state kept in the journal MRAM (01 Table 1.8, 11 R299). -/
structure HistNv where
  /-- 11 R299 intake ring, oldest first (12 MiB). -/
  ring : List HistRec := []
  /-- 11 R297 (64). -/
  nextRseq : Nat := 1
  /-- 11 R294 number of the open segment (64). -/
  segNo : Nat := 0
  /-- 11 R294 next record offset in the open segment (32). -/
  offset : Nat := 0x100
  /-- 11 R294 a segment is open (1). -/
  segOpen : Bool := false
  /-- 11 Table 11.3 RECORDS (32). -/
  segRecords : Nat := 0
  /-- 11 Table 11.2 FLAGS FIRST (1). -/
  segFirst : Bool := false
  /-- 11 Table 11.2 WRITER (1). -/
  segWriter : Bool := false
  /-- 11 Table 11.2 EPOCH (32). -/
  segEpoch : BitVec 32 := 0
  /-- 11 R296 RUN_DIGEST of the last CHECKPOINT (384). -/
  ckDigest : BitVec 384 := 0
  /-- 11 R296 OFFSET of the last CHECKPOINT (32). -/
  ckOffset : Nat := 0
  /-- 11 HIST_HEAD_LINK (384). -/
  headLink : BitVec 384 := 0
  /-- 11 HIST_HEAD_SEG (64). -/
  headSeg : Nat := 0
  /-- 11 HIST_STORE_ID (128). -/
  storeId : BitVec 128 := 0
  /-- 11 HIST_FREE_SEG (32). -/
  freeSeg : Nat := 0
  /-- 11 Table 11.10 PROFILE (4). -/
  profile : BitVec 4 := 0
  /-- 11 R299 last RSEQ whose ring space is freed (64). -/
  freedTo : Nat := 0
  /-- 11 R298 base record of this segment (per string: VALID, values per node). -/
  base : List (Nat × Nat × List (List (BitVec 16))) := []
  deriving DecidableEq, Repr

/-- History engine (11). -/
structure Hist where
  /-- 11. -/
  nv : HistNv := {}
  /-- 11 Table 11.10 (4). -/
  state : HistState := .absent
  /-- 11 Table 11.10 (1). -/
  low : Bool := false
  /-- 11 Table 11.10 (1). -/
  refusing : Bool := false
  /-- 11 Table 11.10 (1). -/
  raw : Bool := false
  /-- 11 HIST_RESULT (16). -/
  resCode : BitVec 16 := 0
  /-- 11 HIST_RATE (32). -/
  rate : BitVec 32 := 0
  /-- 11 R300 (100 ms window: ns, bytes). -/
  winBytes : List (Nat × Nat) := []
  /-- 11 HIST_RATE accumulating this second (bytes). -/
  secBytes : Nat := 0
  /-- 11. -/
  a : HistCopy := {}
  /-- 11. -/
  b : HistCopy := {}
  /-- 11 HIST_CAP_SEG (30). -/
  capSeg : Nat := 0
  /-- 11 HIST_WSEQ (64). -/
  wseq : Nat := 0
  /-- 11 R301 (per KIND). -/
  tallies : List HistTally := []
  /-- 11 R299 ring space freed since the run of refusals began (1). -/
  freed : Bool := true
  /-- 11 R304 the store is full (1). -/
  full : Bool := false
  /-- 11 R301 the next record admitted is a GAP (1). -/
  gapDue : Bool := false
  /-- 11 R302 effective at the next whole second (4, cause). -/
  profNext : Option (BitVec 4 × Nat) := none
  /-- 11 R299 admissions awaiting the twin. -/
  twinWait : List HistWait := []
  /-- 11 R294 bytes of the open segment, header first (4 MiB). -/
  segBytes : List (BitVec 8) := []
  /-- 11 R303 STEP_FREE crossings acted on (4). -/
  stepDone : BitVec 4 := 0
  /-- 11 R308 progress of the resumption read-back. -/
  resumeAt : Nat := 0
  /-- 11 R308 resumption follows a takeover (1). -/
  takeover : Bool := false
  /-- 11 R295, R308 seals made while the read-back is under way (seals). -/
  late : List SegLate := []
  /-- 11 R296, R308 a CHECKPOINT fell due while the read-back was under way (1). -/
  ckDue : Bool := false
  deriving DecidableEq, Repr

/-- Suppression tally of one code (11 R311). -/
structure FfrTally where
  /-- 11 R311 (16). -/
  code : BitVec 16 := 0
  /-- 11 R311 (32). -/
  count : Nat := 0
  /-- 11 R311 (64). -/
  firstTsc : Nat := 0
  /-- 11 R311 (64). -/
  lastTsc : Nat := 0
  deriving DecidableEq, Repr

/-- Recorder MRAM (11 R309; survives reset). -/
structure FfrNv where
  /-- 11 R309, newest first (33,550,336 bytes). -/
  recs : List FfrRec := []
  /-- 11 Table 11.7 SEQ of the next record (32). -/
  nextSeq : BitVec 32 := 0
  /-- 11 FFR_COMMIT_SEQ (32). -/
  commitSeq : BitVec 32 := 0
  /-- 11 FFR_STATUS FULL (1). -/
  full : Bool := false
  /-- 11 FFR_STATUS ARCHIVED (1). -/
  archived : Bool := false
  /-- 11 R314 RSEQ of the archive (64). -/
  archRseq : Nat := 0
  /-- 11 R309 bytes used in the record area (26). -/
  bytes : Nat := 0
  deriving DecidableEq, Repr

/-- First-fault recorder (11). -/
structure Ffr where
  /-- 11. -/
  nv : FfrNv := {}
  /-- 11 R311 (512 entries). -/
  queue : List Event := []
  /-- 11 R310 the last record is being written (commit not done) (1). -/
  writing : Bool := false
  /-- 11 R310 revision of the last record being written (REV, REPEAT, LAST_TSC). -/
  revising : Option (BitVec 32 × BitVec 16 × Nat) := none
  /-- 11 R315 copies awaiting the twin's confirmation (SEQs). -/
  mirroring : List Nat := []
  /-- 11 R311 (per code). -/
  tallies : List FfrTally := []
  /-- 11 R311 records written in the current second (per code). -/
  secCodes : List (BitVec 16 × Nat) := []
  /-- 11 R311 dropped since the last GAP (count). -/
  dropped : Nat := 0
  /-- 11 R311 (64). -/
  dropFirst : Nat := 0
  /-- 11 R311 (64). -/
  dropLast : Nat := 0
  /-- 11 FFR_RSEL (32). -/
  rsel : BitVec 32 := 0
  /-- 11 FFR_RESULT (16). -/
  resCode : BitVec 16 := 0
  /-- 11 R314 ARCHIVE awaiting the twin's copies (RSEQ). -/
  archPend : Option (Nat × Option Req) := none
  /-- 11 R311 SUMMARY, FFR_CLEARED and other records due before the queue. -/
  due : List FfrRec := []
  /-- 11 R315 copies of the twin that wait for the commit in progress (records). -/
  mirrorDue : List FfrRec := []
  /-- 11 R314 CLEAR waiting for the commit in progress. -/
  clearReq : Option Req := none
  deriving DecidableEq, Repr

/-- An open block transfer (12 R331, R332). -/
structure XferDesc where
  /-- 12 Table 12.3 (2). -/
  target : BitVec 2 := 1
  /-- 12 Table 12.1 TOTAL (32). -/
  total : Nat := 0
  /-- 12 Table 12.1 DIGEST (384). -/
  digest : BitVec 384 := 0
  /-- 12 R332 host identity that began it. -/
  ident : Nat := 0
  /-- 12 R331 blocks held (index, data). -/
  blocks : List (Nat × List (BitVec 8)) := []
  /-- 12 R332 session lost since (ns). -/
  lostUp : Option Nat := none
  deriving DecidableEq, Repr

/-- A response owed to a session (12 R325). -/
structure Resp where
  /-- 12 R323 MSG_ID (32). -/
  msg : Nat := 0
  /-- 12 R323 TYPE of the request (8). -/
  type : Nat := 0
  /-- 12 R325 STATUS and body once known (STATUS, body). -/
  ready : Option (Nat × List (BitVec 8)) := none
  deriving DecidableEq, Repr

/-- An LHP session (12 R319-R327). -/
structure Session where
  /-- 12 Table 12.7 session slot (8 = console) (3). -/
  id : Nat := 0
  /-- 12 R319 (2). -/
  role : HostRole := .read
  /-- 12 Table 12.7 (2). -/
  port : HostPort := .a
  /-- 12 R319 host identity (128). -/
  ident : Nat := 0
  /-- 10 R280 (1). -/
  provisional : Bool := false
  /-- 10 R273 root at which the client chain ends (128). -/
  rootId : BitVec 128 := 0
  /-- 10 Table 10.5 (160). -/
  certSerial : Nat := 0
  /-- 12 R327 (5). -/
  credits : Nat := 16
  /-- 12 R327 credits withheld (count). -/
  withheld : Nat := 0
  /-- 12 R327 requests in execution (count). -/
  inExec : Nat := 0
  /-- 12 R333 (8). -/
  minClass : Option (BitVec 8) := none
  /-- 12 R333 (32). -/
  skipped : Nat := 0
  /-- 10 R280 validity of the client chain (64). -/
  notBefore : Nat := 0
  /-- 10 R280 validity of the client chain (64). -/
  notAfter : Nat := 0
  /-- 12 R325 responses owed, in the order of the requests (<= 16). -/
  fifo : List Resp := []
  /-- 12 R333 TLS send buffer cannot take an event (1). -/
  bufFull : Bool := false
  /-- 01 R36 latched _HI registers and their values (address, 32 each). -/
  latch : List (Nat × BitVec 32) := []
  /-- 12 R326 (ns). -/
  idleUp : Nat := 0
  /-- 10 Table 10.8 records since the last key update (count). -/
  records : Nat := 0
  deriving DecidableEq, Repr

/-- A journaled write whose acknowledgement is held (12 R325, R329). -/
structure JWait where
  /-- 12. -/
  session : Nat := 0
  /-- 12 (32). -/
  msgId : Nat := 0
  /-- 12. -/
  ident : Nat := 0
  /-- 12 (64). -/
  wtag : BitVec 64 := 0
  /-- 12. -/
  entry : JEntry := {}
  /-- 00 R5 taken while no pair was formed: its journal write releases the acknowledgement (1). -/
  alone : Bool := false
  deriving DecidableEq, Repr

/-- A host port (12 Table 12.8). -/
structure LinkPort where
  /-- 12 Table 12.8 (1). -/
  up : Bool := false
  /-- 12 Table 12.8 (1). -/
  fitted : Bool := false
  /-- 12 Table 12.8 (1). -/
  los : Bool := false
  /-- 12 Table 12.8 (8). -/
  ptpState : BitVec 8 := 0
  deriving DecidableEq, Repr

/-- Host interface (12). -/
structure HostIf where
  /-- 12 R319, R321 (8 and console). -/
  sessions : List Session := []
  /-- 12. -/
  portA : LinkPort := {}
  /-- 12. -/
  portB : LinkPort := {}
  /-- 12 R332 (one per target). -/
  xfers : List XferDesc := []
  /-- 12 LHP_XFER_SEL (2). -/
  xferSel : BitVec 2 := 0
  /-- 12 LHP_RESULT (16). -/
  resCode : BitVec 16 := 0
  /-- 12 R325. -/
  jwait : List JWait := []
  /-- 01 R30 writes awaiting the next T0 (address, value). -/
  regWrites : List (Nat × BitVec 32) := []
  /-- 12 R330 journaled values not yet applied since the reset (1). -/
  reapplyDue : Bool := false
  deriving DecidableEq, Repr

/-- PTP and time registers (12). -/
structure Ptp where
  /-- 12 Table 12.10 (1). -/
  locked : Bool := false
  /-- 12 Table 12.10 reset 1 (1). -/
  holdover : Bool := true
  /-- 12 Table 12.10 (1). -/
  masterPending : Bool := false
  /-- 12 Table 12.10 (1). -/
  portB : Bool := false
  /-- 12 Table 12.10 (8). -/
  gmClass : BitVec 8 := 0xFF
  /-- 12 Table 12.11 reset 1 (1). -/
  servo : Bool := true
  /-- 12 Table 12.11 (2). -/
  profile : PtpProfile := .udp
  /-- 12 Table 12.11 (8). -/
  domain : BitVec 8 := 0
  /-- 12 Table 12.11 (8). -/
  classMax : BitVec 8 := 135
  /-- 12 PTP_RESULT (16). -/
  resCode : BitVec 16 := 0
  /-- 12 R337 (8). -/
  incrHiHeld : BitVec 8 := 2
  /-- 12 PTP_MASTER_OFS (32, 0.25 ns). -/
  masterOfs : Int := 0
  /-- 12 PTP_PATH_DELAY (32, 0.25 ns). -/
  pathDelay : Nat := 0
  /-- 12 PTP_GM_ID (64). -/
  gmId : BitVec 64 := 0
  /-- 12 PTP_ASYM_A (16). -/
  asymA : BitVec 16 := 0
  /-- 12 PTP_ASYM_B (16). -/
  asymB : BitVec 16 := 0
  /-- 12 R336 (last 17: own, master). -/
  syncs : List (Int × Int) := []
  /-- 12 R336 consecutive |offset| < 100 ns (count). -/
  goodRun : Nat := 0
  /-- 12 R336 (count). -/
  badRun : Nat := 0
  /-- 12 R339 a new master is being measured (1). -/
  newMaster : Bool := false
  /-- 12 R339 (64). -/
  oldGmId : BitVec 64 := 0
  /-- 12 R339 offset of the pending master (0.25 ns). -/
  pendOfs : Int := 0
  /-- 12 R334 ingress stamp of a two-step Sync awaiting its Follow_Up (stamp). -/
  twoStep : Option Int := none
  /-- 12 R334 best announce on J2A. -/
  annA : Option PtpAnn := none
  /-- 12 R334 best announce on J2B. -/
  annB : Option PtpAnn := none
  /-- 12 R334 master and own time of the last Sync (0.25 ns). -/
  lastSync : Option (Int × Int) := none
  /-- 12 R334 egress stamp of an outstanding Delay_Req or Pdelay_Req (stamp). -/
  delayTx : Option Int := none
  deriving DecidableEq, Repr

/-- A transmit buffer (13 Table 13.8 CANn_TXB). -/
structure CanBuf where
  /-- 13. -/
  frame : Option CanFrame := none
  /-- 13 (1). -/
  inTx : Bool := false
  /-- 13 R351 removal when the attempt fails (1). -/
  abort : Bool := false
  /-- 13 R350 load order (count). -/
  order : Nat := 0
  deriving DecidableEq, Repr

/-- A CAN FD port (13). -/
structure CanPort where
  /-- 13 Table 13.9 (2). -/
  err : CanErr := .active
  /-- 13 Table 13.9 (1). -/
  autoWait : Bool := false
  /-- 13 CANn_RESULT (16). -/
  resCode : BitVec 16 := 0
  /-- 13 CANn_ERR (16). -/
  tec : Nat := 0
  /-- 13 CANn_ERR (16). -/
  recv : Nat := 0
  /-- 13 CANn_TDC (7). -/
  tdcMeas : BitVec 7 := 0
  /-- 13 R348 (32). -/
  txq : List CanFrame := []
  /-- 13. -/
  bufs : Vector CanBuf 3 := Vector.replicate 3 {}
  /-- 13 R350 next buffer in turn (0-2). -/
  nextBuf : Nat := 0
  /-- 13 R350 (count). -/
  loads : Nat := 0
  /-- 13 R347 (32). -/
  q0 : List CanFrame := []
  /-- 13 R347 (32). -/
  q1 : List CanFrame := []
  /-- 13 R347 run of refusals (1). -/
  q0Run : Bool := false
  /-- 13 R347 (1). -/
  q1Run : Bool := false
  /-- 13 R348 run of refusals (1). -/
  txRun : Bool := false
  /-- 13 CANn_REF (6). -/
  cycleCount : BitVec 6 := 0
  /-- 13 Table 13.5 (48). -/
  refStamp : Nat := 0
  /-- 13 CANn_STATIONS (32). -/
  stations : BitVec 32 := 0
  /-- 13 R353 automatic recoveries in the last hour (ns). -/
  autoTimes : List Nat := []
  deriving DecidableEq, Repr

/-- A housekeeping target (13 Table 13.10). -/
structure HkTarget where
  /-- 13 (1). -/
  present : Bool := false
  /-- 13 (2). -/
  lastFail : BitVec 2 := 0
  /-- 13 R358 (count). -/
  failRun : Nat := 0
  /-- 13 R358 (<= 32 bytes). -/
  data : List (BitVec 8) := []
  deriving DecidableEq, Repr

/-- Housekeeping bus (13). -/
structure Hk where
  /-- 13 Table 13.10 (1). -/
  stuck : Bool := false
  /-- 13 Table 13.10 (1). -/
  alert : Bool := false
  /-- 13 Table 13.10 (1). -/
  alertHold : Bool := false
  /-- 13 Table 13.10 ORIGINATING. -/
  xact : HkXact := .none
  /-- 13 HK_RESULT (16). -/
  resCode : BitVec 16 := 0
  /-- 13 HK_ALERT_LAST (7). -/
  alertLast : BitVec 7 := 0
  /-- 13 R360 answers in this episode (count). -/
  episode : Nat := 0
  /-- 13. -/
  tgts : Vector HkTarget 32 := Vector.replicate 32 {}
  /-- 13 R360 alerts delivered to plant logic (address, stamp). -/
  alerts : List (Nat × Nat) := []
  /-- 13 R360 polls waiting (targets). -/
  due : List Nat := []
  deriving DecidableEq, Repr

/-- A current-loop input (14 R365-R367). -/
structure AnaIn where
  /-- 14 R365 filtered current (0.5 uA). -/
  filt : Option Rat := none
  /-- 14 Table 14.5 CLASS reset 7 (3). -/
  cls : Nat := 7
  /-- 14 Table 14.5 (1). -/
  clamp : Bool := false
  /-- 14 AIO_INi, binary32 (32). -/
  value : BitVec 32 := 0
  /-- 14 Table 14.4 input INVALID (1). -/
  invalid : Bool := false
  /-- 14 R366 a change to or from an INVALID class awaits CONFIRM since (ns). -/
  pendSince : Option Nat := none
  /-- 14 R365 stamp of the sample (64). -/
  sampleTsc : Nat := 0
  deriving DecidableEq, Repr

/-- A current-loop output (14 R368, R369). -/
structure AnaOut where
  /-- 14 Table 14.6 CURRENT (16, 0.5 uA). -/
  cmd : Nat := 0
  /-- 14 Table 14.6 FAILSIG reset 1 (1). -/
  fail : Bool := true
  /-- 14 Table 14.6 (1). -/
  hold : Bool := false
  /-- 14 Table 14.6 (1). -/
  highZ : Bool := false
  /-- 14 Table 14.6 (1). -/
  fault : Bool := false
  /-- 14 R368 plant logic has written it since reset (1). -/
  written : Bool := false
  /-- 14 AIO_ORBi (16, 0.5 uA). -/
  readBack : Nat := 0
  /-- 14 R369 read-back and command agree since (ns). -/
  agreeSince : Option Nat := none
  /-- 14 R369 they differ by more than 0.2 mA since (ns). -/
  differSince : Option Nat := none
  deriving DecidableEq, Repr

/-- A quadrature or pulse channel (14 R370-R373). -/
structure Qin where
  /-- 14 R370 accepted level of A (1). -/
  a : Bool := false
  /-- 14 R370 accepted level of B (1). -/
  b : Bool := false
  /-- 14 R371 a previous pair exists (1). -/
  seen : Bool := false
  /-- 14 R373 (32). -/
  count : BitVec 32 := 0
  /-- 14 Table 14.7 (1). -/
  uncertain : Bool := false
  /-- 14 Table 14.7 (1). -/
  suspect : Bool := false
  /-- 14 Table 14.7 (1). -/
  wrapped : Bool := false
  /-- 14 QINn_PRESET (32). -/
  preset : BitVec 32 := 0
  /-- 14 R372 instants of the last illegal transitions (ns). -/
  illegal : List Nat := []
  /-- 14 R373 steps of the last 100 ms (ns, steps). -/
  steps : List (Nat × Int) := []
  /-- 14 QINn_RESULT (16). -/
  resCode : BitVec 16 := 0
  /-- 14 R373 count taken at the scan's T0 (32). -/
  scanCount : BitVec 32 := 0
  /-- 14 R373 (32). -/
  scanRate : Int := 0
  /-- 14 R373 (64). -/
  scanTsc : Nat := 0
  /-- 14 R373 bank cycles beyond 2 of the active member's count (count). -/
  diffRun : Nat := 0
  deriving DecidableEq, Repr

/-- An ultrasonic flow channel (14 R374-R380). -/
structure Usf where
  /-- 14 Table 14.7 (1). -/
  valid : Bool := false
  /-- 14 Table 14.7 (1). -/
  xdcr : Bool := false
  /-- 14 Table 14.7 (2). -/
  lastFail : BitVec 2 := 0
  /-- 14 Table 14.7 (1). -/
  lastCause : Bool := false
  /-- 14 R377 last valid pair (ns). -/
  lastUp : Option Nat := none
  /-- 14 R376 (L/min). -/
  q : Rat := 0
  /-- 14 USFn_TDN (32, 10 ps). -/
  tdn : BitVec 32 := 0
  /-- 14 USFn_TUP (32, 10 ps). -/
  tup : BitVec 32 := 0
  /-- 14 USFn_SOS (16, 0.1 m/s). -/
  sos : BitVec 16 := 0
  /-- 14 USFn_QUAL (32). -/
  qual : BitVec 32 := 0
  /-- 14 R379 pairs with transducer 1's current out of range (count). -/
  run1 : Nat := 0
  /-- 14 R379 transducer 2 (count). -/
  run2 : Nat := 0
  /-- 14 R375 reference captures made (count). -/
  ref : Nat := 0
  /-- 14 CAPTURE_REF awaits a valid pair since (ns). -/
  capture : Option Nat := none
  /-- 14 USFn_RESULT (16). -/
  resCode : BitVec 16 := 0
  deriving DecidableEq, Repr

/-- Process I/O (14). -/
structure Io where
  /-- 14. -/
  ai : Vector AnaIn 16 := Vector.replicate 16 {}
  /-- 14. -/
  ao : Vector AnaOut 8 := Vector.replicate 8 {}
  /-- 14. -/
  qin : Vector Qin 8 := Vector.replicate 8 {}
  /-- 14. -/
  usf : Vector Usf 8 := Vector.replicate 8 {}
  /-- 14 SCAN_DIN (16). -/
  din : BitVec 16 := 0
  /-- 14 R381 stamp of the last change of the discrete inputs (64). -/
  dinTsc : Nat := 0
  /-- 14 SCAN_DOUT commanded (8). -/
  dout : BitVec 8 := 0
  /-- 14 SCAN_DOUT read-back (8). -/
  doutRb : BitVec 8 := 0
  /-- 14 R381 DO_FAULT recorded for this mismatch (8). -/
  doFault : BitVec 8 := 0
  /-- 09 Table 9.4 (1). -/
  doHold : Bool := false
  /-- 09 Table 9.4 (1). -/
  doHighZ : Bool := false
  /-- 14 AIO_STATUS SUPPLY_OK (1). -/
  supplyOk : Bool := true
  deriving DecidableEq, Repr

/-- An error item of the error task (15 R394). -/
structure ErrItem where
  /-- 15 R394 ERR.CODE (16). -/
  code : Nat := 0
  /-- 15 R394 ERR.SOURCE (12). -/
  source : Nat := 0
  /-- 15 R394 ERR.TSC (64). -/
  tsc : Nat := 0
  deriving DecidableEq, Repr

/-- The frozen image of the inputs of a scan (15 R388, Table 15.3). -/
structure ScanInputs where
  /-- 15 Table 15.3 discrete inputs (16). -/
  din : BitVec 16 := 0
  /-- 15 Table 15.3 auxiliary inputs (24). -/
  aux : BitVec 24 := 0
  /-- 15 Table 15.3 analogue inputs, with their substitutes (16 x 32). -/
  ai : List (BitVec 32) := []
  /-- 15 Table 15.3 their classes (16 x 3). -/
  aiCls : List Nat := []
  /-- 15 Table 15.3 WRAPPED, SUSPECT, POSITION_UNCERTAIN (8 x 3). -/
  qinFlags : List Nat := []
  /-- 15 Table 15.3 flow: validity, Q, sound speed (8). -/
  flow : List (Bool × BitVec 32 × BitVec 16) := []
  /-- 15 Table 15.3 poll results, with their substitutes (up to 32). -/
  hk : List (List (BitVec 8)) := []
  /-- 15 Table 15.3 station presence (4 x 32). -/
  present : List (BitVec 32) := []
  /-- 15 Table 15.3, R393 points of the remote stations, with their substitutes (values). -/
  points : List Nat := []
  /-- 15 Table 15.3 Status. -/
  status : List Int := []
  deriving DecidableEq, Repr

/-- Plant logic (15). -/
structure Scan where
  /-- 15 Table 15.6 reset 1 (2). -/
  state : ScanState := .stop
  /-- 15 Table 15.2 first scan at the first T0 after the image check (1). -/
  autoDue : Bool := false
  /-- 15 Table 15.6 (1). -/
  codeBank : Bool := false
  /-- 15 R391 a change awaits the scan boundary. -/
  pend : Option ScanState := none
  /-- 15 Table 15.6 (1). -/
  stepPend : Bool := false
  /-- 15 Table 15.2 the running scan is that of a STEP (1). -/
  stepScan : Bool := false
  /-- 15 R389 a scan is running (1). -/
  running : Bool := false
  /-- 15 R389 (ns). -/
  startUp : Nat := 0
  /-- 15 R390 SCAN.T0, the plant-logic clock (64). -/
  startT0 : Nat := 0
  /-- 01 R18 T0s until the next scan cycle begins, 0 at its T0 (T0s). -/
  scanIn : Nat := 0
  /-- 15 R388 the scan of this T0 has been begun or skipped (1). -/
  here : Bool := false
  /-- 15 SCAN_RESULT (16). -/
  resCode : BitVec 16 := 0
  /-- 15 SCAN_TIME (16). -/
  lastUs : Nat := 0
  /-- 15 SCAN_TIME (16). -/
  maxUs : Nat := 0
  /-- 15 SCAN_COUNT (64). -/
  count : Nat := 0
  /-- 15 R390 (ns). -/
  holdSince : Option Nat := none
  /-- 15 SCAN_HOLD_MS (ns). -/
  holdNs : Nat := 0
  /-- 15 R394. -/
  errs : List ErrItem := []
  /-- 15 R394 ERR.LOST in the next run (1). -/
  errLost : Bool := false
  /-- 15 R385 the data area (values). -/
  data : List Nat := []
  /-- 15 Table 15.2 non-RETAIN variables initialised at the next scan (1). -/
  initDue : Bool := false
  /-- 15 R387 second of the last RETAIN write (s). -/
  retainSec : Nat := 0
  /-- 15 R395 an online change is due; the old variables (identifiers and types). -/
  olc : Option (List (Nat × Nat)) := none
  /-- 15 R388 the other inputs latched. -/
  inputs : ScanInputs := {}
  /-- 15 R388 frames taken at the scan start (64). -/
  inFrames : List CanFrame := []
  /-- 15 R388 alerts taken. -/
  inAlerts : List (Nat × Nat) := []
  /-- 15 R393 stations, targets and inputs lost now (as bad). -/
  lost : List Nat := []
  /-- 15 R393 stations (source), targets (0x400 + t) and inputs (0x500 + i) on substitutes. -/
  bad : List Nat := []
  deriving DecidableEq, Repr

/-- Supply and hold-up (16). -/
structure Pwr where
  /-- 16 Table 16.9 (1). -/
  dip : Bool := false
  /-- 16 R400 (ns). -/
  dipUp : Nat := 0
  /-- 16 Table 16.9 (1). -/
  fail : Bool := false
  /-- 16 Table 16.9 (1). -/
  full : Bool := false
  /-- 16 Table 16.9 (1). -/
  weak : Bool := false
  /-- 16 Table 16.9 (1). -/
  test : Bool := false
  /-- 16 Table 16.9 (1). -/
  high : Bool := false
  /-- 16 PWR_RESULT (16). -/
  resCode : BitVec 16 := 0
  /-- 16 PWR_INPUT (16, 10 mV). -/
  inV : BitVec 16 := 2400
  /-- 16 PWR_INPUT (16, mA). -/
  inI : BitVec 16 := 0
  /-- 16 PWR_HOLDUP (16, 0.01 mF). -/
  cap : BitVec 16 := 470
  /-- 16 PWR_HOLDUP (8, %). -/
  energy : BitVec 8 := 0
  /-- 16 PWR_LOAD (16, 10 mW). -/
  load : BitVec 16 := 0
  /-- 16 Table 16.2 (1). -/
  quiesced : Bool := false
  /-- 16 Table 16.2, 10 R288: only the island runs (1). -/
  shelf : Bool := false
  /-- 16 R410 latch of the island (1). -/
  shutLatch : Bool := false
  /-- 16 CLK_STATUS (25). -/
  clkOk : BitVec 25 := 0x1FFFFFF
  /-- 16 CLK_GK (2). -/
  gkDiv : BitVec 2 := 0
  /-- 01 R35 when a domain of class S last ran before it slept: its registers read as they stood then (domain, ns). -/
  sleepAt : List (Nat × Nat) := []
  deriving DecidableEq, Repr

/-- Salamander (16). -/
structure Thm where
  /-- 16 Table 16.10 reset 1 (3). -/
  band : Band := .normal
  /-- 16 R408 confirmed change awaiting the guard window. -/
  pend : Option Band := none
  /-- 16 R408 change confirmed while another is still taking effect. -/
  next : Option Band := none
  /-- 16 R408 (ns). -/
  riseSince : Option Nat := none
  /-- 16 R408 (ns). -/
  fallSince : Option Nat := none
  /-- 16 Table 16.10 (1). -/
  shutPend : Bool := false
  /-- 16 Table 16.10 (1). -/
  sensorFault : Bool := false
  /-- 16 Table 16.10 (1). -/
  holdLast : Bool := false
  /-- 16 Table 16.10 (12). -/
  valid : BitVec 12 := 0
  /-- 16 R407 junction sensors judged invalid (12). -/
  bad : BitVec 12 := 0
  /-- 16 THM_J0-11 (16, 0.01 C). -/
  j : Vector (BitVec 16) 12 := Vector.replicate 12 0x8000
  /-- 16 THM_BP0-1 (16, 0.01 C). -/
  bp : Vector (BitVec 16) 2 := Vector.replicate 2 0x8000
  /-- 16 THM_SAFA (16, 0.01 C). -/
  safA : BitVec 16 := 0x8000
  /-- 16 THM_SAFB (16, 0.01 C). -/
  safB : BitVec 16 := 0x8000
  /-- 16 THM_COOL_REQ (%). -/
  cool : Nat := 0
  /-- 16 R407 (0.01 C). -/
  junction : Int := 0
  /-- 16 Table 16.6 Ring receive taps and port latency (set). -/
  taps : Band := .normal
  /-- 16 Table 16.6 receiver preset of twin lane 0 (set). -/
  lane0 : Band := .normal
  /-- 16 Table 16.6 receiver preset of twin lane 1 (set). -/
  lane1 : Band := .normal
  /-- 16 Table 16.6 receiver presets of PCIe and SFP+ (set). -/
  serdes : Band := .normal
  /-- 16 Table 16.6 band of the MRAM write pulse (set). -/
  mram : Band := .normal
  deriving DecidableEq, Repr

/-- Service door, console and card (19 R447). -/
structure Hw where
  /-- 19 R447 (1). -/
  doorOpen : Bool := false
  /-- 19 R447 (1). -/
  console : Bool := false
  /-- 01 Table 1.8 RTC of the island as read at the start (ns). -/
  rtc : Nat := 0
  /-- 01 Table 1.8 wake cause: the 24 V input (10 R288) (1). -/
  wake : Bool := false
  deriving DecidableEq, Repr

/-- A stored partner package (17 R422). -/
structure PartStore where
  /-- 17 Table 17.3 (384 bytes). -/
  hdr : PkgHdr := {}
  /-- 17 R422 (<= 4 MiB). -/
  data : List (BitVec 8) := []
  deriving DecidableEq, Repr

/-- A running partner transfer or activation (17 R428, R429). -/
structure PartXfer where
  /-- 17 Table 17.9 PART_KIND (1). -/
  gd : Bool := false
  /-- 17 Table 17.9 STRING (3). -/
  str : Fin 8 := 0
  /-- 17 Table 17.9 POSITION (5). -/
  pos : Nat := 1
  /-- 17 R428 (32). -/
  offset : Nat := 0
  /-- 17 R428 FW_ACTIVATE is outstanding (1). -/
  activate : Bool := false
  deriving DecidableEq, Repr

/-- A partner activation awaiting READ_INFO (17 R428). -/
structure PartPend where
  /-- 17 R428 (1). -/
  gd : Bool := false
  /-- 17 R428 (3). -/
  str : Fin 8 := 0
  /-- 17 R428 (5). -/
  pos : Nat := 1
  /-- 17 R428 (16). -/
  version : Nat := 0
  deriving DecidableEq, Repr

/-- Firmware update (17). -/
structure Upd where
  /-- 17 Table 17.8 (4). -/
  state : UpdState := .idle
  /-- 17 R422; the firmware that the module is shipped with. -/
  bank0 : FwInfo := { valid := true }
  /-- 17 R422. -/
  bank1 : FwInfo := {}
  /-- 17 Table 17.8 RUN_BANK (1). -/
  runBank : Bool := false
  /-- 17 Table 17.8 NEXT_BANK (1). -/
  nextBank : Bool := false
  /-- 17 R424, R425 the mark was made by ACTIVATE before this reset (1). -/
  marked : Bool := false
  /-- 17 UPD_RESULT (16). -/
  resCode : BitVec 16 := 0
  /-- 17 UPD_RESULT (16). -/
  resDetail : BitVec 16 := 0
  /-- 17 Table 17.8 (1). -/
  sdCard : Bool := false
  /-- 17 R420 the card mounts (1). -/
  sdMounts : Bool := false
  /-- 16 Table 16.3 PD_SD (1). -/
  sdPower : Bool := false
  /-- 17 R420 a load from the card is running (image or package). -/
  sdLoad : Option Bool := none
  /-- 17 R422 the installation of a MODULE package is running. -/
  installing : Option PkgHdr := none
  /-- 17 R422 contents written to the bank (bytes). -/
  staging : List (BitVec 8) := []
  /-- 17 R424 target T0 (cycle). -/
  armedAt : Option Nat := none
  /-- 17 R424 conditions passed: the module resets at the target T0 (1). -/
  armed : Bool := false
  /-- 17 UPD_PART_NODE (4 MiB). -/
  partNode : Option PartStore := none
  /-- 17 UPD_PART_GD (4 MiB). -/
  partGd : Option PartStore := none
  /-- 17 R428. -/
  xfer : Option PartXfer := none
  /-- 17 R428. -/
  pend : List PartPend := []
  /-- 17 Table 17.8 PART_PENDING (8). -/
  partPending : BitVec 8 := 0
  /-- 17 UPD_PROGRESS (32). -/
  progress : Nat := 0
  /-- 17 R415 strings whose start-up enumeration has been asked (8). -/
  enumDone : BitVec 8 := 0
  /-- 17 R416 STANDBY_AT_START has acted since this reset (1). -/
  standbyDone : Bool := false
  deriving DecidableEq, Repr

/-- Everything the spec gives one module. -/
structure State where
  /-- 01 R16-R25. -/
  clk : Clock := {}
  /-- 01 Table 1.10. -/
  ident : Ident := {}
  /-- 02. -/
  img : Img := {}
  /-- 03. -/
  ring : Vector RingPort 8 := Vector.replicate 8 {}
  /-- 04. -/
  sense : Vector RingSense 8 := Vector.replicate 8 {}
  /-- 04. -/
  sweep : Vector Sweep 8 := Vector.replicate 8 {}
  /-- 05. -/
  str : Vector StrEng 8 := Vector.replicate 8 {}
  /-- 06. -/
  rc : Vector RcCtl 8 := Vector.replicate 8 {}
  /-- 06. -/
  bank : Bank := {}
  /-- 07. -/
  est : Est := {}
  /-- 08. -/
  saf : Safety := {}
  /-- 09. -/
  twin : Twin := {}
  /-- 10. -/
  trust : Trust := {}
  /-- 11. -/
  hist : Hist := {}
  /-- 11. -/
  ffr : Ffr := {}
  /-- 12. -/
  host : HostIf := {}
  /-- 01 Table 1.8, 06, 07, 12. -/
  jrn : Journal := {}
  /-- 12. -/
  ptp : Ptp := {}
  /-- 13. -/
  can : Vector CanPort 4 := Vector.replicate 4 {}
  /-- 13. -/
  hk : Hk := {}
  /-- 18 R435-R437, Table 18.2: the counters, by register address (unlisted: 0) (16 or 32 each). -/
  ctr : List (Nat × Nat) := []
  /-- 18 R435 counters whose saturation is recorded (addresses). -/
  ctrSat : List Nat := []
  /-- 18 R437 journal mirror of the counters marked J (16 or 32 each). -/
  jctr : List (Nat × Nat) := []
  /-- 17. -/
  upd : Upd := {}
  /-- 14. -/
  io : Io := {}
  /-- 15. -/
  scan : Scan := {}
  /-- 16. -/
  pwr : Pwr := {}
  /-- 16. -/
  thm : Thm := {}
  /-- 19. -/
  hw : Hw := {}
  /-- MODEL: the free-value counter, not the spec's (count). -/
  free : Nat := 0
  /-- MODEL: what the module has sent, newest first. -/
  out : List Out := []
  /-- MODEL: commands waiting, first in first out. -/
  pending : List Instr := []
  deriving DecidableEq, Repr

/-- The machine right after its first reset: every field at the value its docstring names; nothing is pending. -/
def State.reset : State := {}

end Sys2Proof.Machine
end

