-- ==== Sys2Proof/Machine/Vec.lean ====
section
/-! DEFINITION. Replacing one element, or every element, of a fixed-length group of like things. -/

namespace Sys2Proof.Machine

/-- `v` with element `i` replaced by its image under `f`. -/
def Vec.upd {α : Type} {n : Nat} (v : Vector α n) (i : Fin n) (f : α → α) : Vector α n := v.set i (f v[i])

/-- `v` with every element replaced by its image under `f` at its own index. -/
def Vec.updAll {α : Type} {n : Nat} (v : Vector α n) (f : Fin n → α → α) : Vector α n := Vector.ofFn fun i => f i v[i]

end Sys2Proof.Machine
end

