-- ==== Sys2Proof/Machine/Update.lean ====
section
/-! DEFINITION. One named update per field of State: every meaning writes the state through these. -/

namespace Sys2Proof.Machine

/-- Replace `clk`, leaving every other field alone. -/
def State.modClk (s : State) (f : Clock → Clock) : State := { s with clk := f s.clk }

/-- Replace `ident`, leaving every other field alone. -/
def State.modIdent (s : State) (f : Ident → Ident) : State := { s with ident := f s.ident }

/-- Replace `img`, leaving every other field alone. -/
def State.modImg (s : State) (f : Img → Img) : State := { s with img := f s.img }

/-- Replace `ring`, leaving every other field alone. -/
def State.modRing (s : State) (i : Fin 8) (f : RingPort → RingPort) : State := { s with ring := Vec.upd s.ring i f }

/-- Replace `ring`, leaving every other field alone. -/
def State.mapAllRing (s : State) (f : Fin 8 → RingPort → RingPort) : State := { s with ring := Vec.updAll s.ring f }

/-- Replace `sense`, leaving every other field alone. -/
def State.modSense (s : State) (i : Fin 8) (f : RingSense → RingSense) : State := { s with sense := Vec.upd s.sense i f }

/-- Replace `sense`, leaving every other field alone. -/
def State.mapAllSense (s : State) (f : Fin 8 → RingSense → RingSense) : State := { s with sense := Vec.updAll s.sense f }

/-- Replace `sweep`, leaving every other field alone. -/
def State.modSweep (s : State) (i : Fin 8) (f : Sweep → Sweep) : State := { s with sweep := Vec.upd s.sweep i f }

/-- Replace `sweep`, leaving every other field alone. -/
def State.mapAllSweep (s : State) (f : Fin 8 → Sweep → Sweep) : State := { s with sweep := Vec.updAll s.sweep f }

/-- Replace `str`, leaving every other field alone. -/
def State.modStr (s : State) (i : Fin 8) (f : StrEng → StrEng) : State := { s with str := Vec.upd s.str i f }

/-- Replace `str`, leaving every other field alone. -/
def State.mapAllStr (s : State) (f : Fin 8 → StrEng → StrEng) : State := { s with str := Vec.updAll s.str f }

/-- Replace `rc`, leaving every other field alone. -/
def State.modRc (s : State) (i : Fin 8) (f : RcCtl → RcCtl) : State := { s with rc := Vec.upd s.rc i f }

/-- Replace `rc`, leaving every other field alone. -/
def State.mapAllRc (s : State) (f : Fin 8 → RcCtl → RcCtl) : State := { s with rc := Vec.updAll s.rc f }

/-- Replace `bank`, leaving every other field alone. -/
def State.modBank (s : State) (f : Bank → Bank) : State := { s with bank := f s.bank }

/-- Replace `est`, leaving every other field alone. -/
def State.modEst (s : State) (f : Est → Est) : State := { s with est := f s.est }

/-- Replace `saf`, leaving every other field alone. -/
def State.modSaf (s : State) (f : Safety → Safety) : State := { s with saf := f s.saf }

/-- Replace `twin`, leaving every other field alone. -/
def State.modTwin (s : State) (f : Twin → Twin) : State := { s with twin := f s.twin }

/-- Replace `trust`, leaving every other field alone. -/
def State.modTrust (s : State) (f : Trust → Trust) : State := { s with trust := f s.trust }

/-- Replace `hist`, leaving every other field alone. -/
def State.modHist (s : State) (f : Hist → Hist) : State := { s with hist := f s.hist }

/-- Replace `ffr`, leaving every other field alone. -/
def State.modFfr (s : State) (f : Ffr → Ffr) : State := { s with ffr := f s.ffr }

/-- Replace `host`, leaving every other field alone. -/
def State.modHost (s : State) (f : HostIf → HostIf) : State := { s with host := f s.host }

/-- Replace `jrn`, leaving every other field alone. -/
def State.modJrn (s : State) (f : Journal → Journal) : State := { s with jrn := f s.jrn }

/-- Replace `ptp`, leaving every other field alone. -/
def State.modPtp (s : State) (f : Ptp → Ptp) : State := { s with ptp := f s.ptp }

/-- Replace `can`, leaving every other field alone. -/
def State.modCan (s : State) (i : Fin 4) (f : CanPort → CanPort) : State := { s with can := Vec.upd s.can i f }

/-- Replace `can`, leaving every other field alone. -/
def State.mapAllCan (s : State) (f : Fin 4 → CanPort → CanPort) : State := { s with can := Vec.updAll s.can f }

/-- Replace `hk`, leaving every other field alone. -/
def State.modHk (s : State) (f : Hk → Hk) : State := { s with hk := f s.hk }

/-- Replace `ctr`, leaving every other field alone. -/
def State.setCtr (s : State) (v : List (Nat × Nat)) : State := { s with ctr := v }

/-- Replace `ctrSat`, leaving every other field alone. -/
def State.setCtrSat (s : State) (v : List Nat) : State := { s with ctrSat := v }

/-- Replace `jctr`, leaving every other field alone. -/
def State.setJctr (s : State) (v : List (Nat × Nat)) : State := { s with jctr := v }

/-- Replace `upd`, leaving every other field alone. -/
def State.modUpd (s : State) (f : Upd → Upd) : State := { s with upd := f s.upd }

/-- Replace `io`, leaving every other field alone. -/
def State.modIo (s : State) (f : Io → Io) : State := { s with io := f s.io }

/-- Replace `scan`, leaving every other field alone. -/
def State.modScan (s : State) (f : Scan → Scan) : State := { s with scan := f s.scan }

/-- Replace `pwr`, leaving every other field alone. -/
def State.modPwr (s : State) (f : Pwr → Pwr) : State := { s with pwr := f s.pwr }

/-- Replace `thm`, leaving every other field alone. -/
def State.modThm (s : State) (f : Thm → Thm) : State := { s with thm := f s.thm }

/-- Replace `hw`, leaving every other field alone. -/
def State.modHw (s : State) (f : Hw → Hw) : State := { s with hw := f s.hw }

/-- Replace `free`, leaving every other field alone. -/
def State.setFree (s : State) (v : Nat) : State := { s with free := v }

/-- Replace `out`, leaving every other field alone. -/
def State.setOut (s : State) (v : List Out) : State := { s with out := v }

/-- Replace `pending`, leaving every other field alone. -/
def State.setPending (s : State) (v : List Instr) : State := { s with pending := v }

end Sys2Proof.Machine
end

