-- ==== Sys2Proof/Machine/Bits.lean ====
section
/-! DEFINITION. Bit fields, byte order, sparse tables and small arithmetic used by every block. -/

namespace Sys2Proof.Machine

/-- Bits [hi:lo] of `w` as a number (00 Notation). -/
def bits (w : Nat) (hi lo : Nat) : Nat := w / 2 ^ lo % 2 ^ (hi + 1 - lo)

/-- Bit `i` of `w`. -/
def bit (w : Nat) (i : Nat) : Bool := w / 2 ^ i % 2 == 1

/-- A truth value as a bit. -/
def b2n (b : Bool) : Nat := if b then 1 else 0

/-- Numbers as message fields. -/
def ints (l : List Nat) : List Int := l.map fun v => (v : Int)

/-- The bits of a register from its fields, each a value and its lowest bit. -/
def fields (fs : List (Nat × Nat)) : Nat := fs.foldl (fun a f => a + f.1 * 2 ^ f.2) 0

/-- A register word from its fields, each a value and the position of its lowest bit. -/
def pack (fs : List (Nat × Nat)) : Word := BitVec.ofNat 32 (fs.foldl (fun a f => a + f.1 * 2 ^ f.2) 0)

/-- A list of truth values as a mask, first in bit 0. -/
def maskOf (l : List Bool) : Nat := l.foldr (fun b a => b2n b + 2 * a) 0

/-- A signed value in `n` bits, two's complement. -/
def twos (n : Nat) (v : Int) : Nat := (v % (2 ^ n : Int)).toNat

/-- The signed value of the low `n` bits of `w`. -/
def signed (n : Nat) (w : Nat) : Int := if w % 2 ^ n ≥ 2 ^ (n - 1) then (w % 2 ^ n : Int) - 2 ^ n else (w % 2 ^ n : Int)

/-- A value held to the range of `n` signed bits (saturating). -/
def satInt (n : Nat) (v : Int) : Int := max (-(2 ^ (n - 1))) (min (2 ^ (n - 1) - 1) v)

/-- A value held to the range `lo` to `hi`. -/
def clampI (lo hi v : Int) : Int := max lo (min hi v)

/-- A value held to the range `lo` to `hi`. -/
def clampQ (lo hi v : Rat) : Rat := max lo (min hi v)

/-- The magnitude of a rational. -/
def absQ (v : Rat) : Rat := if v < 0 then -v else v

/-- The nearest integer, halves away from zero. -/
def roundQ (v : Rat) : Int := if v < 0 then -((-v + 1 / 2).floor) else (v + 1 / 2).floor

/-- The number that bytes spell, least significant byte first (00 R13). -/
def leNat : List Byte → Nat
  | [] => 0
  | b :: t => b.toNat + 256 * leNat t

/-- The `n` bytes of a number, least significant first (00 R13). -/
def leBytes : Nat → Nat → List Byte
  | 0, _ => []
  | n + 1, v => BitVec.ofNat 8 v :: leBytes n (v / 256)

/-- `n` bytes of `l` from offset `o`. -/
def slice (l : List Byte) (o n : Nat) : List Byte := (l.drop o).take n

/-- Values of `n` bytes each, two's complement, in order. -/
def valBytes (n : Nat) (l : List Int) : List Byte := (l.map fun v => leBytes n (twos (8 * n) v)).flatten

/-- The field of `n` bytes at offset `o`, least significant byte first (00 R13). -/
def field (l : List Byte) (o n : Nat) : Nat := leNat (slice l o n)

/-- One step of a reflected CRC with polynomial `poly` over the low bit. -/
def crcBits (poly : Nat) : Nat → Nat → Nat
  | 0, c => c
  | n + 1, c => crcBits poly n (if c % 2 = 1 then (c / 2) ^^^ poly else c / 2)

/-- A reflected 32-bit CRC, initial value and final XOR 0xFFFF_FFFF; `poly` is the reversed polynomial. -/
def crcReflected (poly : Nat) (l : List Byte) : Nat :=
  (l.foldl (fun c b => crcBits poly 8 (c ^^^ b.toNat)) 0xFFFFFFFF) ^^^ 0xFFFFFFFF

/-- CRC-32 with polynomial 0x04C1_1DB7 (02 R60). -/
def crc32 (l : List Byte) : Nat := crcReflected 0xEDB88320 l

/-- CRC-32C with polynomial 0x1EDC_6F41 (03 R68). -/
def crc32c (l : List Byte) : Nat := crcReflected 0x82F63B78 l

/-- The bytes of an ASCII text. -/
def ascii (t : String) : List Byte := t.toList.map fun c => BitVec.ofNat 8 c.toNat

/-- The value of a binary32 word, `none` for a NaN or an infinity. -/
def f32 (w : Word) : Option Rat :=
  let e := bits w.toNat 30 23
  let m := bits w.toNat 22 0
  let sg : Rat := if bit w.toNat 31 then -1 else 1
  if e = 255 then none
  else if e = 0 then some (sg * m * (1 / 2 ^ 149))
  else some (sg * (m + 2 ^ 23) * (if e ≥ 150 then 2 ^ (e - 150) else 1 / 2 ^ (150 - e)))

/-- The value of a finite binary32 word, 0 for any other. -/
def f32v (w : Word) : Rat := (f32 w).getD 0

/-- The nearest integer, halves to even, of a non-negative rational. -/
def roundEven (q : Rat) : Nat :=
  let n := q.num.toNat / q.den
  let r := 2 * (q.num.toNat % q.den)
  if r > q.den || (r = q.den && n % 2 = 1) then n + 1 else n

/-- The binary32 word nearest to a rational, halves to even; overflow gives an infinity. -/
def toF32 (q : Rat) : Word :=
  if q = 0 then 0
  else
    let a : Rat := if q < 0 then -q else q
    let sg : Nat := if q < 0 then 2 ^ 31 else 0
    let g : Int := (a.num.toNat.log2 : Int) - (a.den.log2 : Int)
    let scale (e : Int) : Rat := if e ≥ 0 then a * 2 ^ e.toNat else a / 2 ^ (-e).toNat
    let e : Int := max (-126) (if scale (-g) < 1 then g - 1 else g)
    let m := roundEven (scale (23 - e))
    let w := if m ≥ 2 ^ 23 then ((e + 127).toNat * 2 ^ 23 + (m - 2 ^ 23)) else m
    BitVec.ofNat 32 (sg + min w (255 * 2 ^ 23))

/-- The binary16 half-word nearest to a rational, halves to even; overflow gives an infinity (09 R247). -/
def toF16 (q : Rat) : BitVec 16 :=
  if q = 0 then 0
  else
    let a : Rat := if q < 0 then -q else q
    let sg : Nat := if q < 0 then 2 ^ 15 else 0
    let g : Int := (a.num.toNat.log2 : Int) - (a.den.log2 : Int)
    let scale (e : Int) : Rat := if e ≥ 0 then a * 2 ^ e.toNat else a / 2 ^ (-e).toNat
    let e : Int := max (-14) (if scale (-g) < 1 then g - 1 else g)
    let m := roundEven (scale (10 - e))
    let w := if m ≥ 2 ^ 10 then ((e + 15).toNat * 2 ^ 10 + (m - 2 ^ 10)) else m
    BitVec.ofNat 16 (sg + min w (31 * 2 ^ 10))

/-- The value of a finite binary16 half-word, 0 for any other. -/
def f16v (w : BitVec 16) : Rat :=
  let e := bits w.toNat 14 10
  let m := bits w.toNat 9 0
  let sg : Rat := if bit w.toNat 15 then -1 else 1
  if e = 31 then 0
  else if e = 0 then sg * m * (1 / 2 ^ 24)
  else sg * (m + 2 ^ 10) * (if e ≥ 25 then 2 ^ (e - 25) else 1 / 2 ^ (25 - e))

/-- A rational rounded to the nearest count and held to an unsigned field. -/
def fixU (n : Nat) (v : Rat) : Nat := min (2 ^ n - 1) (roundQ v).toNat

/-- A rational rounded to the nearest count and held to a signed field of `n` bits. -/
def fixS (n : Nat) (v : Rat) : Nat := twos n (satInt n (roundQ v))

/-- A value in 24-bit fixed point of a given scale, saturating (09 R247). -/
def fix24 (scale v : Rat) : Int := clampI (-8388608) 8388607 (roundQ (v / scale))

/-! ### Functions that the spec names by their mathematical name (log 8) -/

/-- A rational on the grid of 2^-40, halves away from zero. -/
def grid40 (v : Rat) : Rat := (roundQ (v * 2 ^ 40) : Rat) / 2 ^ 40

/-- The ratio of a circle's circumference to its diameter, to 20 digits. -/
def piQ : Rat := 314159265358979323846 / 100000000000000000000

/-- The fraction of a turn. -/
def fracQ (v : Rat) : Rat := v - v.floor

/-- The sine of `x` turns, `x` from 0 to 1/4: the series to the 15th power. -/
def sinQuarter (x : Rat) : Rat :=
  let t := 2 * piQ * x
  let u := t * t
  t * (1 - u / 6 * (1 - u / 20 * (1 - u / 42 * (1 - u / 72 * (1 - u / 110 * (1 - u / 156 * (1 - u / 210)))))))

/-- The sine of a number of turns (04 R115; 06 R161), within 2^-36; the two half turns are exact opposites. -/
def sinTurn (x : Rat) : Rat :=
  let f := fracQ x
  let h := if f < 1 / 2 then f else f - 1 / 2
  let v := grid40 (sinQuarter (if h ≤ 1 / 4 then h else 1 / 2 - h))
  if f < 1 / 2 then v else -v

/-- The cosine of a number of turns. -/
def cosTurn (x : Rat) : Rat := sinTurn (x + 1 / 4)

/-- The square root of a non-negative rational, rounded down to 2^-40 (06 R165). -/
def sqrtQ (v : Rat) : Rat := (Nat.sqrt (v * 2 ^ 80).floor.toNat : Rat) / 2 ^ 40

/-- The arc tangent in radians of `z` from 0 to 1: the angle halved twice, then the series to the 13th power. -/
def atanUnit (z : Rat) : Rat :=
  let half (z : Rat) : Rat := z / (1 + sqrtQ (1 + z * z))
  let w := half (half z)
  let u := w * w
  4 * w * (1 - u * (1 / 3 - u * (1 / 5 - u * (1 / 7 - u * (1 / 9 - u * (1 / 11 - u / 13))))))

/-- The phase of a complex value in degrees, above −180 and up to 180 (04 R122). -/
def phaseDeg (re im : Rat) : Rat :=
  let a := absQ re
  let b := absQ im
  if a = 0 && b = 0 then Config.phaseZero
  else
    let q := (if b ≤ a then atanUnit (b / a) else piQ / 2 - atanUnit (a / b)) * 180 / piQ
    let h := if re < 0 then 180 - q else q
    grid40 (if im < 0 then -h else h)

/-- The exponential of minus a non-negative rational (14 R365): the series to the 10th power of a part of it below 1/8, raised back. -/
def expNeg (x : Rat) : Rat :=
  let k := (8 * x).floor.toNat + 1
  let y := x / k
  let e := 1 - y * (1 - y / 2 * (1 - y / 3 * (1 - y / 4 * (1 - y / 5 * (1 - y / 6 * (1 - y / 7 * (1 - y / 8 * (1 - y / 9 * (1 - y / 10)))))))))
  grid40 (e ^ k)

/-- A rational at the precision of binary32. -/
def roundF32 (v : Rat) : Rat := f32v (toF32 v)

/-- The word that stands for a value that is not a number (04 Table 4.16). -/
def nanWord : Word := 0x7FC00000

/-- The value listed for `k`, if any. -/
def Sparse.find {β : Type} (l : List (Nat × β)) (k : Nat) : Option β := (l.find? (fun e => e.1 == k)).map (·.2)

/-- The value listed for `k`, `d` where none is. -/
def Sparse.get {β : Type} (l : List (Nat × β)) (k : Nat) (d : β) : β := (Sparse.find l k).getD d

/-- `l` without an entry for `k`. -/
def Sparse.erase {β : Type} (l : List (Nat × β)) (k : Nat) : List (Nat × β) := l.filter (fun e => e.1 != k)

/-- `l` with the entry for `k` set to `v`, keys rising. -/
def Sparse.put {β : Type} : List (Nat × β) → Nat → β → List (Nat × β)
  | [], k, v => [(k, v)]
  | (j, w) :: t, k, v => if k < j then (k, v) :: (j, w) :: t else if k = j then (k, v) :: t else (j, w) :: Sparse.put t k v

/-- `l` with the entry for `k` set to `v`, and no entry where `v` is 0: the one canonical form of a table of numbers. -/
def Sparse.set (l : List (Nat × Nat)) (k v : Nat) : List (Nat × Nat) := if v = 0 then Sparse.erase l k else Sparse.put l k v

/-- Keys rise strictly. -/
def Sparse.sorted {β : Type} : List (Nat × β) → Bool
  | [] => true
  | [_] => true
  | a :: b :: t => a.1 < b.1 && Sparse.sorted (b :: t)

/-- `a` put before the first entry that it may precede. -/
def insertBy {α : Type} (le : α → α → Bool) (a : α) : List α → List α
  | [] => [a]
  | x :: t => if le a x then a :: x :: t else x :: insertBy le a t

/-- `l` in the order `le`, equal entries in their first order. -/
def sortBy {α : Type} (le : α → α → Bool) (l : List α) : List α := l.foldr (insertBy le) []

/-- The mask `m` with bit `i` set or cleared. -/
def setBit {n : Nat} (m : BitVec n) (i : Nat) (v : Bool) : BitVec n :=
  if v then m ||| (1#n <<< i) else m &&& ~~~(1#n <<< i)

end Sys2Proof.Machine
end

