-- ==== Sys2Proof/Machine/Ops.lean ====
section
/-! DEFINITION. Operations shared by every block: time, events, counters, open values, messages out, and the path of a host
request from its credit to its response. -/

namespace Sys2Proof.Machine

/-! ### Time -/

/-- The TSC in ns (01 The time-stamp counter). -/
def State.now (s : State) : Nat := s.clk.tscFix / 2 ^ 32

/-- The clock moved forward to the TSC value `t` in ns: of a correction, 1 us for each ms of counted time is absorbed on the way, and the
rest of what is counted has elapsed (01 R19; log 4). -/
def Clock.moveTo (t : Nat) (c : Clock) : Clock :=
  let d : Int := t * 2 ^ 32 - c.tscFix
  let step := clampI (-(d / 1000)) (d / 1000) c.slewRem
  { c with tscFix := t * 2 ^ 32, slewRem := c.slewRem - step, upNs := c.upNs + ((d - step) / 2 ^ 32).toNat }

/-- The TSC moved forward to `ofs` ns after the T0 of this bank cycle, never backward (01 Table 1.5; log 4). -/
def State.atCycle (ofs : Nat) (s : State) : State := if s.now < s.clk.cycleT0 + ofs then s.modClk (Clock.moveTo (s.clk.cycleT0 + ofs)) else s

/-- The TSC moved forward to the instant `t` in ns, never backward (log 4). -/
def State.atTsc (t : Nat) (s : State) : State := if s.now < t then s.modClk (Clock.moveTo t) else s

/-- Elapsed time in ns since the instant `t`, both counted since power-on. -/
def State.since (s : State) (t : Nat) : Nat := s.clk.upNs - t

/-! ### Open values and messages out -/

/-- The state with the next open value consumed. -/
def State.tick (s : State) : State := s.setFree (s.free + 1)

/-- A fresh open number (log 3). -/
def State.freshNat (s : State) : Nat := Config.freeNat s.free

/-- A fresh open rational (log 3). -/
def State.freshRat (s : State) : Rat := Config.freeRat s.free

/-- Send a message or change a line. -/
def State.send (chan : OutChan) (ix : Nat) (what : String) (args : List Int) (s : State) : State :=
  s.setOut ({ chan := chan, ix := ix, what := what, args := args } :: s.out)

/-- Send the bytes of a frame. -/
def State.sendBytes (chan : OutChan) (ix : Nat) (what : String) (b : List Byte) (s : State) : State :=
  s.send chan ix what (b.map fun x => (x.toNat : Int))

/-- A MAC field: the first 64 bits of the AES-CMAC of `m`, zero where no key is in use (03 Tables 3.1, 3.3). -/
def macField (key : Option Nat) (m : List Byte) : List Byte :=
  match key with
  | some k => leBytes 8 (Config.cmac k m).toNat
  | none => List.replicate 8 0#8

/-! ### Frames to the twin (09 R235) -/

/-- The bytes of a twin-link frame with the next SEQ: TYPE, FLAGS, LEN, SEQ, TSC at send, the payload, the MAC under
the own key, CRC-32C (09 R235; log 93). Without a key, as for PAIR_HELLO, the MAC is zero (10 R279). -/
def State.twinBytes (type : Nat) (key : Option Nat) (payload : List Byte) (s : State) : List Byte :=
  let b := leBytes 1 type ++ leBytes 1 0 ++ leBytes 2 payload.length ++ leBytes 4 (s.twin.txSeq + 1).toNat ++ leBytes 8 s.now ++ payload
  let m := b ++ macField key b
  m ++ leBytes 4 (crc32c m)

/-- A frame to the twin, on both lanes, once the pair key exists: its bytes, and what they carry (09 R235; 10 R279). -/
def State.twinFrame (m : TwinMsg) (what : String) (type : Nat) (payload : List Byte) (s : State) : State :=
  if s.twin.ownKey.isNone then s
  else
    let b := s.twinBytes type s.twin.ownKey payload
    let s := s.modTwin fun w => { w with txSeq := w.txSeq + 1, frames := w.frames + 1 }
    s.setOut ({ chan := .twin, what := what, args := b.map fun x => (x.toNat : Int), msg := m } :: s.out)

/-- A frame whose TYPE no section gives, with its payload. -/
def State.twinPut (m : TwinMsg) (what : String) (payload : List Byte) (s : State) : State := s.twinFrame m what (Config.twinType what) payload

/-- A frame whose layout no section gives (log 93). -/
def State.twinRecord (m : TwinMsg) (what : String) (s : State) : State := s.twinPut m what (Config.twinBody m)

/-- A frame of plain numbers whose layout no section gives (log 93). -/
def State.twinSend (what : String) (l : List Int) (s : State) : State := s.twinRecord (.nums l) what

/-- Apply `f` only where `c` holds. -/
def State.when (c : Bool) (f : State → State) (s : State) : State := if c then f s else s

/-- Apply `f` once for each element of `l`, in order. -/
def State.forEach {α : Type} (l : List α) (f : α → State → State) (s : State) : State := l.foldl (fun s a => f a s) s

/-! ### Events -/

/-- Does event `a` come before or with event `b` (01 R25). -/
def Event.le (a b : Event) : Bool :=
  a.tsc < b.tsc || (a.tsc == b.tsc && (a.source < b.source || (a.source == b.source && (b2n a.member ≤ b2n b.member))))

/-- An event put into a queue kept in the order of 01 R25. -/
def Event.enqueue : List Event → Event → List Event
  | [], e => [e]
  | x :: t, e => if Event.le x e then x :: Event.enqueue t e else e :: x :: t

/-- The stamp that source `src` gives its next item: the TSC, or 1 ns after its previous item (01 R24). -/
def State.stampOf (src : Nat) (s : State) : Nat := max s.now (Sparse.get s.clk.lastStamp src 0 + 1)

/-- The source's last stamp recorded (01 R24). -/
def State.stamped (src : Nat) (s : State) : State :=
  s.modClk fun c => { c with lastStamp := Sparse.put c.lastStamp src (s.stampOf src) }

/-- The stamp that source `src` gives an item whose instant is `t`: 1 ns after its previous item where `t` is not later (01 R23, R24). -/
def State.stampAt (src t : Nat) (s : State) : Nat := max t (Sparse.get s.clk.lastStamp src 0 + 1)

/-- The source's last stamp is that of its item of instant `t` (01 R24). -/
def State.stampedAt (src t : Nat) (s : State) : State :=
  s.modClk fun c => { c with lastStamp := Sparse.put c.lastStamp src (s.stampAt src t) }

/-- The largest value a counter register holds (00 R11, 18 Table 18.2). -/
def Counter.max (addr : Nat) : Nat :=
  let o := addr % 0x1000
  let w32 :=
    (0x100000 ≤ addr && addr < 0x108000 && (o == 0x44 || o == 0x50 || o == 0x380)) ||
    (0x080000 ≤ addr && addr < 0x088000 && (o == 0x208 || o == 0x20C || o == 0x218 || o == 0x410)) ||
    addr == 0x180208 || addr == 0x190100 || addr == 0x190104 || addr == 0x1C0100 || addr == 0x1C0120 ||
    addr == 0x24010C || addr == 0x280100 || addr == 0x280108 ||
    addr == 0x2C0100 || addr == 0x2C0104 || addr == 0x2C0108 || addr == 0x2C010C ||
    addr == 0x030200 || addr == 0x030208 || addr == 0x030214 || addr == 0x02010C ||
    (0x300000 ≤ addr && addr < 0x304000 && (o == 0x108 || o == 0x10C || o == 0x110 || o == 0x114)) ||
    addr == 0x340100 || addr == 0x340108 ||
    (0x3C0000 ≤ addr && addr < 0x3C2000 && addr % 0x100 == 0x20)
  if w32 then 0xFFFFFFFF else 0xFFFF

/-- The source number of the block that holds a counter (18 R435). -/
def Counter.source (addr : Nat) : Nat :=
  if addr < 0x020000 then 0x0F0
  else if addr < 0x030000 then 0x090
  else if addr < 0x040000 then 0x080
  else if addr < 0x080000 then 0x050
  else if addr < 0x100000 then 0x010 + addr / 0x1000 % 8
  else if addr < 0x180000 then 0x020 + addr / 0x1000 % 8
  else if addr < 0x1C0000 then 0x030
  else if addr < 0x200000 then 0x002
  else if addr < 0x240000 then 0x040
  else if addr < 0x280000 then 0x050
  else if addr < 0x2C0000 then 0x060
  else if addr < 0x300000 then 0x070
  else if addr < 0x340000 then 0x0A0 + addr / 0x1000 % 4
  else if addr < 0x380000 then 0x0B0
  else if addr < 0x3C0000 then 0x0C0
  else if addr < 0x3C1000 then 0x0C8
  else if addr < 0x400000 then 0x0D0
  else if addr < 0x440000 then 0x0E0
  else 0x050

/-- The value of the counter at a register address. -/
def State.counter (addr : Nat) (s : State) : Nat := Sparse.get s.ctr addr 0

/-- The counter raised by one, holding at its saturation value (00 R11). -/
def State.countOnly (addr : Nat) (s : State) : State := s.setCtr (Sparse.set s.ctr addr (min (Counter.max addr) (s.counter addr + 1)))

/-- The member index that stamps carry: the pin's, and 0 in a module whose image declares no pair (01 R25; log 57). -/
def State.memberIx (s : State) : Bool := s.ident.member && s.img.cfg.paired

/-- The event as its block stamps it: TIME_PROVISIONAL while TSC_VALID is clear (01 R20, R23). -/
def State.stampEvent (code src : Nat) (body : List Int) (s : State) : Event :=
  { code := BitVec.ofNat 16 code, source := src, member := s.memberIx, tsc := s.stampOf src, prov := !s.clk.tscValid, noMac := s.trust.keysErased, body := body }

/-- An event that finds the queue full: it is dropped, with the first and last stamps for the GAP record (11 R311). -/
def State.dropEvent (e : Event) (s : State) : State :=
  s.modFfr fun f => { f with dropped := f.dropped + 1, dropFirst := if f.dropped = 0 then e.tsc else f.dropFirst, dropLast := e.tsc }

/-- Capacity of the first-fault queue (11 R311, 18 Table 18.1). -/
def Ffr.capacity : Nat := 512

/-- Deliver an event to the first-fault queue, or drop it where the queue is full (11 R311). -/
def State.deliver (e : Event) (s : State) : State :=
  if s.ffr.queue.length < Ffr.capacity
  then s.modFfr fun f => { f with queue := Event.enqueue f.queue e }
  else (s.dropEvent e).countOnly 0x2C0100

/-- Record an event: stamped, delivered, the source's last stamp kept (00 R8). -/
def State.emit (code src : Nat) (body : List Int) (s : State) : State :=
  (s.deliver (s.stampEvent code src body)).stamped src

/-- Record COUNTER_SATURATED once when the counter stands at its saturation value (18 R435). -/
def State.noteSaturated (addr : Nat) (s : State) : State :=
  if s.counter addr = Counter.max addr ∧ addr ∉ s.ctrSat
  then (s.setCtrSat (addr :: s.ctrSat)).emit 0x4001 (Counter.source addr) [addr]
  else s

/-- Count one (00 R8, R11; 18 R435). -/
def State.bump (addr : Nat) (s : State) : State := (s.countOnly addr).noteSaturated addr

/-- Count `n` at once (00 R8, R11; 18 R435). -/
def State.bumpBy (addr n : Nat) (s : State) : State :=
  (s.setCtr (Sparse.set s.ctr addr (min (Counter.max addr) (s.counter addr + n)))).noteSaturated addr

/-! ### Addresses and source numbers -/

/-- Source number of string engine `n` (01 Table 1.4). -/
def Src.str (n : Fin 8) : Nat := 0x010 + n
/-- Source number of Ring port `n` (01 Table 1.4). -/
def Src.ring (n : Fin 8) : Nat := 0x020 + n
/-- Source number of the pack node at address `k + 1` of string `n` (01 Table 1.4). -/
def Src.node (n : Fin 8) (k : Fin 24) : Nat := 0x100 + n * 24 + k
/-- Source number of the gate driver of phase `p` of string `n` (01 Table 1.4). -/
def Src.gd (n : Fin 8) (p : Fin 6) : Nat := 0x1C0 + n * 6 + p
/-- A register of string engine `n` (01 Table 1.9). -/
def Reg.str (n : Fin 8) (o : Nat) : Nat := 0x080000 + n * 0x1000 + o
/-- A register of Ring port `n` (01 Table 1.9). -/
def Reg.ring (n : Fin 8) (o : Nat) : Nat := 0x100000 + n * 0x1000 + o

/-- The source numbers that Table 1.4 assigns; every other number is reserved and never emitted (01 R26). -/
def Src.listed (v : Nat) : Bool :=
  v ≤ 0x002 || (0x010 ≤ v && v ≤ 0x017) || (0x020 ≤ v && v ≤ 0x027) || (v % 0x10 == 0 && 0x030 ≤ v && v ≤ 0x0F0) || (0x0A0 ≤ v && v ≤ 0x0A3) ||
    v == 0x0C8 || (0x100 ≤ v && v ≤ 0x1EF) || (0x200 ≤ v && v ≤ 0x27F) || (0x300 ≤ v && v ≤ 0x3FF)

/-- An event code that is not reserved: bits [13:12] zero (00 R15). -/
def Event.codeOk (code : BitVec 16) : Bool := bits code.toNat 13 12 == 0

/-! ### The host's requests -/

/-- The open session in a slot. -/
def State.session (s : State) (id : Nat) : Option Session := s.host.sessions.find? (fun x => x.id == id)

/-- One session replaced. -/
def State.modSession (id : Nat) (f : Session → Session) (s : State) : State :=
  s.modHost fun h => { h with sessions := h.sessions.map fun x => if x.id == id then f x else x }

/-- Does way `i` (1 to 4) of SW2 read on: both channels agree on it; a difference reads off for SW2-1 to SW2-3 and on for
SW2-4 (02 R58). -/
def State.sw2 (i : Nat) (s : State) : Bool :=
  let a := bit s.saf.a.sw2.toNat (i - 1)
  let b := bit s.saf.b.sw2.toNat (i - 1)
  if a == b then a else i == 4

/-- The role a session holds now: the console's follows SW2-3 (12 R321). -/
def State.roleOf (x : Session) (s : State) : HostRole :=
  if x.port == .console then (if s.sw2 3 then .service else .read) else x.role

/-- The operate and service roles (12 Table 12.1). -/
def HostRole.mayWrite (r : HostRole) : Bool := r != .read

/-- Responses leave in the order of their requests, each while it is known (12 R325). -/
def Resp.ready? (r : Resp) : Bool := r.ready.isSome

/-- Are credits withheld from a session (12 R327): history refuses intake, or 16 requests are in execution. -/
def State.withholds (x : Session) (s : State) : Bool := s.hist.refusing || x.inExec ≥ 16

/-- The bytes of an LHP message of the module: VERSION, TYPE, FLAGS, LEN, MSG_ID, CREDIT, STATUS, body (12 R323, Table 12.2). -/
def lhpBytes (type msg credit status : Nat) (body : List Byte) : List Byte :=
  leBytes 1 1 ++ leBytes 1 type ++ leBytes 2 0 ++ leBytes 4 body.length ++ leBytes 4 msg ++ leBytes 2 credit ++ leBytes 2 status ++ body

/-- One response sent: TYPE + 0x80, MSG_ID, credits returned, STATUS, body (12 R323). -/
def State.sendResp (id : Nat) (r : Resp) (credit : Nat) (s : State) : State :=
  match r.ready with
  | none => s
  | some (st, body) => s.sendBytes .lhp id "RESPONSE" (lhpBytes (r.type + 0x80) r.msg credit st body)

/-- An event message: TYPE 0xC0, MSG_ID and STATUS 0 (12 R323, R333). -/
def State.sendEvent (id credit : Nat) (body : List Byte) (s : State) : State := s.sendBytes .lhp id "EVENT" (lhpBytes 0xC0 0 credit 0 body)

/-- One owed response leaves the front of the session's list, with its credit unless credits are withheld (12 R327). -/
def State.flushOne (id : Nat) (s : State) : State :=
  match s.session id with
  | none => s
  | some x =>
    match x.fifo with
    | [] => s
    | r :: t =>
      if !r.ready? then s
      else
        let paid := r.type ≥ 0x100
        let held := s.withholds { x with inExec := x.inExec - (if paid then 0 else 1) }
        let back := if held then 0 else (if paid then 0 else 1) + x.withheld
        let ended := if paid then 0 else 1
        let kept := if held then x.withheld + (if paid then 0 else 1) else 0
        (s.modSession id fun x =>
          { x with fifo := t, inExec := x.inExec - ended, credits := x.credits + back, withheld := kept }).sendResp id
            { r with type := r.type % 0x100 } back

/-- Responses leave while the oldest owed one is known (12 R325). -/
def State.flush (id : Nat) : Nat → State → State
  | 0, s => s
  | n + 1, s => State.flush id n (s.flushOne id)

/-- Withheld credits of one session go back once nothing withholds them: in an event message without a record, where no response is due (12
R327; log 101). -/
def State.payOne (x : Session) (s : State) : State :=
  if x.withheld = 0 || s.withholds x then s
  else (s.modSession x.id fun y => { y with credits := y.credits + y.withheld, withheld := 0 }).sendEvent x.id x.withheld []

/-- Withheld credits go back as soon as the condition ends (12 R327). -/
def State.payWithheld (s : State) : State := State.forEach s.host.sessions State.payOne s

/-- The STATUS and body of a request become known (12 R323, R325). -/
def State.reply (q : Req) (status : Nat) (body : List Byte) (s : State) : State :=
  State.flush q.session 17 (s.modSession q.session fun x =>
    { x with fifo := x.fifo.map fun r => if r.msg == q.msg && r.ready.isNone then { r with ready := some (status, body) } else r })

/-- A request refused: counted and answered with its code (00 R7, 12 R323). -/
def State.refuseReq (q : Req) (code : Nat) (s : State) : State := (s.reply q code []).bump 0x030200

/-- A request enters: the idle timer restarts, a credit is spent, its response is owed (12 R325, R326, R327). -/
def State.enter (q : Req) (type : Nat) (s : State) : State :=
  s.modSession q.session fun x =>
    { x with idleUp := s.clk.upNs, credits := x.credits - 1, inExec := x.inExec + 1, fifo := x.fifo ++ [{ msg := q.msg, type := type }] }

/-- A request without a credit: refused with LHP_NO_CREDIT at no cost, and counted (12 R327). The type is marked as one that
holds no credit. -/
def State.noCredit (q : Req) (type : Nat) (s : State) : State :=
  ((s.modSession q.session fun x =>
    { x with idleUp := s.clk.upNs, fifo := x.fifo ++ [{ msg := q.msg, type := type + 0x100, ready := some (0x0C03, []) }] }).flush q.session 17).bump 0x030204

/-- Does J70 answer only a few reads: in BOOT_HALT, and once the module is zeroised (10 R268, R287). -/
def State.dark (s : State) : Bool := s.trust.bootHalt || s.trust.nv.owner == .zeroised

/-- A request of a type on its way to `body`: credit first, then the roles of 12 Table 12.1 (12 R322, R327). A message of a
session that is not open cannot arrive: nothing changes (log 5). A dark module answers no request but a read. -/
def State.withReq (q : Req) (type : Nat) (may : HostRole → Bool) (body : Session → State → State) (s : State) : State :=
  match s.session q.session with
  | none => s
  | some x =>
    if s.dark && type != 0x01 then s
    else if x.credits = 0 then s.noCredit q type
    else if may (s.roleOf x) then body x (s.enter q type)
    else (s.enter q type).refuseReq q 0x0C02

/-- What a write of one word does: its refusal code, 0 where it is accepted, and the state after. -/
abbrev Write := Session → State → Nat × State

/-- An LHP WRITE of one word (12 R328): the effect, then the response with STATUS. -/
def State.hostWrite (q : Req) (w : Write) (s : State) : State :=
  s.withReq q 0x02 HostRole.mayWrite fun x s =>
    let r := w x s
    if r.1 = 0 then r.2.reply q 0 [] else r.2.refuseReq q r.1

/-- A command register's write: the block's RESULT takes the code, and the effect happens where the code is 0 (00 R14). -/
def Write.cmd (check : Session → State → Nat) (result : Nat → State → State) (effect : State → State) : Write :=
  fun x s => if check x s = 0 then (0, effect (result 0 s)) else (check x s, result (check x s) s)

/-- A session closed: its slot and credits are released; an open transfer whose identity has no session left starts its 10 min
(12 R319, R332). -/
def State.closeSession (id : Nat) (s : State) : State :=
  match s.session id with
  | none => s
  | some x =>
    let rest := s.host.sessions.filter fun y => y.id != id
    (s.modHost fun h => { h with sessions := rest, xfers := h.xfers.map fun t => if t.ident == x.ident && !(rest.any fun y => y.ident == x.ident) then { t with lostUp := some s.clk.upNs } else t }).send .lhp id "CLOSE" []

/-- Every session that satisfies `p` closed. -/
def State.closeWhere (p : Session → Bool) (s : State) : State :=
  State.forEach ((s.host.sessions.filter p).map (·.id)) State.closeSession s

/-- The first code of a list of checks that is not 0: checks are made in the order given. -/
def firstCode : List (Bool × Nat) → Nat
  | [] => 0
  | (c, k) :: t => if c then k else firstCode t

/-- The ALLOWLIST identity of a gate driver (10 Table 10.6). -/
def Cfg.gdIdent (c : Cfg) (n : Fin 8) (p : Fin 6) : BitVec 128 := Sparse.get c.gdAllow (n * 6 + p) 0

/-- The ALLOWLIST identity of a pack node (10 Table 10.6). -/
def Cfg.nodeIdent (c : Cfg) (n : Fin 8) (k : Fin 24) : BitVec 128 := Sparse.get c.nodeAllow (n * 24 + k) 0

/-! ### Signatures -/

/-- A signature of 96 bytes by a key of the module: 0 the DIK, 1 + g the RSK of generation g; a zeroised module signs nothing, and the field is zero
(10 R265, R287). -/
def State.signWith (key : Nat) (m : List Byte) (s : State) : List Byte :=
  if s.trust.nv.owner == .zeroised then List.replicate 96 0#8 else leBytes 96 (Config.ecdsaSign key (Config.sha384 m))

/-- A signature by the record signing key (10 Table 10.1). -/
def State.rskSign (m : List Byte) (s : State) : List Byte := s.signWith (1 + s.trust.nv.rskGen) m

/-! ### Roles in a pair -/

/-- Is the member ALONE or ACTIVE (09 R238). -/
def State.leads (s : State) : Bool := s.twin.role == .alone || s.twin.role == .active

/-- Is the module one of a pair that has formed, with the twin following (00 R5). -/
def State.paired (s : State) : Bool := s.twin.formed && s.twin.role != .alone && !s.twin.solo

/-- Does newly accepted work go to the twin: in a formed pair, and to a twin whose resync is served from its snapshot on (09 R249, R260). -/
def State.copies (s : State) : Bool := s.paired || s.twin.serving

/-! ### Frames from the twin (09 R235) -/

/-- Check and MAC failures of a lane: the two halves of TWIN_LANE_ERR_CNT, counted each on its own (09 Table 9.10). -/
def Twin.laneCtr (lane1 : Bool) : Nat := if lane1 then 0x200109 else 0x200108

/-- Does a frame pass its check and its MAC under the pair key. -/
def State.frameOk (f : TwinFrame) (s : State) : Bool := f.crcOk && f.macOk && s.twin.peerKey.isSome

/-- Has a good copy of the frame with a number been taken already: it is not above the highest one, and is none of those that both lanes
passed over (09 R235). -/
def Twin.taken (q : BitVec 32) (w : Twin) : Bool := (q - w.rxSeq).toInt ≤ 0 && q ∉ w.rxGaps

/-- A frame's number kept as taken, with the numbers passed over on the way, up to 4,096 of them (09 R235; log 92). -/
def Twin.take (q : BitVec 32) (w : Twin) : Twin :=
  let d := (q - w.rxSeq).toInt
  if d ≤ 0 then { w with rxGaps := w.rxGaps.filter fun g => g != q }
  else { w with rxSeq := q, rxGaps := w.rxGaps ++ (List.range (min (d.toNat - 1) 4096)).map fun i => w.rxSeq + 1 + BitVec.ofNat 32 i }

/-- A frame of the twin taken: the first good copy; its second copy is discarded by its number, whichever lane lags; a bad one is discarded and
counted for its lane. Without the pair's keys no frame is used (09 R235; 10 R275). -/
def State.withFrame (f : TwinFrame) (body : State → State) (s : State) : State :=
  if s.twin.peerKey.isNone then s
  else if !s.frameOk f then s.bump (Twin.laneCtr f.lane1)
  else if s.twin.taken f.seq then s
  else body (s.modTwin fun w => { w.take f.seq with framesIn := w.framesIn + 1 })

end Sys2Proof.Machine
end

