-- ==== Sys2Proof/Machine/History.lean ====
section
/-! DEFINITION. The lifetime history store (spec 11, R291-R308): intake, segments, copies, and the HIST_ commands. -/

namespace Sys2Proof.Machine

/-! ### Intake -/

/-- Does this member write the store: alone, or holding the HISTORY lease (11 R293). -/
def State.writes (s : State) : Bool := s.twin.role == .alone || s.twin.hist.held

/-- Capacity of the intake ring in bytes (11 R299). -/
def Hist.ringCapacity : Nat := 12 * 1024 * 1024

/-- Bytes that wait in the intake ring. -/
def Hist.ringBytes (h : Hist) : Nat := (h.nv.ring.map (·.len)).foldl (· + ·) 0

/-- Bytes admitted in the last 100 ms (11 R300). -/
def State.windowBytes (s : State) : Nat :=
  ((s.hist.winBytes.filter fun w => s.clk.upNs < w.1 + 100000000).map (·.2)).foldl (· + ·) 0

/-- First byte offset past a segment's record area (11 R294). -/
def Hist.recordEnd : Nat := 0x3FFF00

/-- LEN of a record with a body of `n` bytes: the header and the body padded to 8 (11 R297). -/
def Hist.recLen (n : Nat) : Nat := 32 + (n + 7) / 8 * 8

/-- LINK: SHA-384(PREV_LINK ‖ SEG_DIGEST) (11 Table 11.3). -/
def Hist.link (prev seg : BitVec 384) : BitVec 384 := Config.sha384 (leBytes 48 prev.toNat ++ leBytes 48 seg.toNat)

/-- The 32 bytes of a record's header (11 Table 11.4). -/
def HistRec.header (r : HistRec) : List Byte :=
  leBytes 4 r.len ++ leBytes 2 r.kind.toNat ++ leBytes 2 (r.source + 0x1000 * b2n r.member) ++ leBytes 8 r.tsc ++ leBytes 8 r.rseq ++ leBytes 2 r.flags.toNat ++ leBytes 6 0

/-- The bytes of a record: header, body, padding (11 R297). -/
def HistRec.bytes (r : HistRec) : List Byte := r.header ++ r.body ++ List.replicate (r.len - 32 - r.body.length) 0#8

/-- A trailer up to FLAGS, as the segment stands (11 Table 11.3). -/
def State.trailerHead (flags : Nat) (s : State) : List Byte :=
  let h := s.hist
  leBytes 4 0x5453584C ++ leBytes 4 h.nv.offset ++ leBytes 8 (h.nv.nextRseq - 1) ++ leBytes 8 s.now ++ leBytes 4 h.nv.segRecords ++ leBytes 4 flags

/-- The trailer up to SIGNATURE of a segment: its head, the digest of the whole segment before it, LINK and the signer (11 Table 11.3). -/
def Hist.trailer (head bytes : List Byte) (prev : BitVec 384) (rsk : BitVec 128) : List Byte :=
  let d := Config.sha384 (bytes ++ List.replicate (Hist.recordEnd - bytes.length) 0#8 ++ head)
  head ++ leBytes 48 d.toNat ++ leBytes 48 (Hist.link prev d).toNat ++ leBytes 16 rsk.toNat

/-- LINK of a trailer. -/
def Hist.linkOf (t : List Byte) : BitVec 384 := BitVec.ofNat 384 (field t 0x50 48)

/-- Does a copy take what the writer writes: IN_SYNC, or while it is rebuilt (11 R299, R306). -/
def HistCopy.takes (c : HistCopy) : Bool := c.state == .inSync || c.state == .rebuilding

/-- The two copies of the store. -/
def Hist.copy (h : Hist) (b : Bool) : HistCopy := if b then h.b else h.a

/-- Bytes written at a byte address of the store, to each copy that takes them (11 R291, R292, R299, R306). -/
def State.shelfWrite (what : String) (seg off : Nat) (b : List Byte) (s : State) : State :=
  State.forEach ([false, true].filter fun c => (s.hist.copy c).takes)
    (fun c s => s.send .shelf (b2n c) what ((seg * 4194304 + off : Nat) :: b.map fun x => (x.toNat : Int))) s

/-- A segment's head of the chain told to the twin (11 R295). -/
def State.tellSeal (seg : Nat) (link : BitVec 384) (s : State) : State :=
  s.when s.copies (State.twinRecord (.work (.historySealed seg link)) "HISTORY_SEALED")

/-- A sealed segment written: what is left of its last chunk, then the signed trailer; LINK is the new head of the chain (11 R294, R295, R299). -/
def State.writeSeal (seg gen : Nat) (bytes t : List Byte) (s : State) : State :=
  let from_ := bytes.length / 262144 * 262144
  let s := (s.shelfWrite "WRITE_CHUNK" seg from_ (bytes.drop from_)).shelfWrite "SEAL" seg Hist.recordEnd (t ++ s.signWith (1 + gen) t ++ leBytes 16 0)
  (s.modHist fun h => { h with nv := { h.nv with headLink := Hist.linkOf t, headSeg := seg } }).tellSeal seg (Hist.linkOf t)

/-- Seal the open segment with trailer flags. While the read-back is under way the segment's bytes are not known: the seal is kept until they are (11
R294, R295, R308; log 131). -/
def State.sealSegment (flags : Nat) (s : State) : State :=
  if !s.hist.nv.segOpen then s
  else
    let t := s.trailerHead flags
    let n := s.hist.nv.segNo
    let b := s.hist.segBytes
    if s.hist.state == .resuming then
      s.modHist fun h => { h with segBytes := [], late := h.late ++ [{ seg := n, head := t, flags := flags, rsk := s.trust.nv.rsk, gen := s.trust.nv.rskGen }], nv := { h.nv with segOpen := false } }
    else
      (s.modHist fun h => { h with segBytes := [], nv := { h.nv with segOpen := false } }).writeSeal n s.trust.nv.rskGen b (Hist.trailer t b s.hist.nv.headLink s.trust.nv.rsk)

/-- The header of segment `n` as it is opened now (11 Table 11.2). -/
def State.segHeader (n : Nat) (first : Bool) (s : State) : List Byte :=
  leBytes 4 0x4753584C ++ leBytes 2 1 ++ leBytes 2 (b2n first) ++ leBytes 8 n ++ leBytes 16 s.hist.nv.storeId.toNat ++ leBytes 48 s.hist.nv.headLink.toNat ++ leBytes 8 s.now ++
    leBytes 8 s.hist.nv.nextRseq ++ leBytes 2 (b2n s.memberIx) ++ leBytes 2 0 ++ leBytes 4 (if s.twin.role == .alone then 0 else s.twin.hist.epoch.toNat) ++ leBytes 152 0

/-- Open the next segment (11 R294). -/
def State.openSegment (s : State) : State :=
  if s.hist.nv.segOpen then s
  else
    let first := s.hist.nv.segRecords = 0 && s.hist.nv.segFirst
    let n := if first then s.hist.nv.segNo else s.hist.nv.segNo + 1
    let b := s.segHeader n first
    let keep (l : List SegLate) : List SegLate := match l.reverse with | [] => [] | x :: t => ({ x with next := b } :: t).reverse
    (s.modHist fun h => { h with segBytes := b, late := if h.state == .resuming then keep h.late else h.late, nv := { h.nv with segOpen := true, segNo := n, offset := 0x100, segRecords := 0, segFirst := false, segWriter := s.memberIx, segEpoch := if s.twin.role == .alone then 0 else s.twin.hist.epoch, freeSeg := h.capSeg - (n + 1), base := [] } }).when
      (s.hist.late.isEmpty || s.hist.state != .resuming) (State.shelfWrite "OPEN" n 0 b)

/-- The segment that a record of `len` bytes goes into: sealed and the next one opened where it does not fit (11 R295). -/
def State.fitSegment (len : Nat) (s : State) : State :=
  State.openSegment (if s.hist.nv.segOpen && s.hist.nv.offset + len > Hist.recordEnd then s.sealSegment 0 else s)

/-- The record that the open segment takes next, of the member that produced it (11 R297, R299). -/
def State.newRecord (member : Bool) (kind : BitVec 16) (src tsc flags : Nat) (body : List Byte) (s : State) : HistRec :=
  { kind := kind, len := Hist.recLen body.length, source := src, member := member, tsc := tsc, rseq := s.hist.nv.nextRseq, flags := BitVec.ofNat 16 (flags + b2n (!s.clk.tscValid)), seg := s.hist.nv.segNo, offset := s.hist.nv.offset, body := body }

/-- A chunk of 256 KiB of the open segment that `upto` has passed since `from_` is written; none while the read-back is under way (11 R299, R308). -/
def State.writeChunks (from_ upto : Nat) (s : State) : State :=
  if s.hist.state == .resuming then s
  else State.forEach ((List.range 16).filter fun c => from_ / 262144 ≤ c && c < upto / 262144)
    (fun c s => s.shelfWrite "WRITE_CHUNK" s.hist.nv.segNo (c * 262144) (slice s.hist.segBytes (c * 262144) 262144)) s

/-- A record put into the ring with its RSEQ and byte address, after any seal its size demands; each completed 256 KiB chunk of the segment is
written (11 R295, R299). In a formed pair it awaits the twin's copy. -/
def State.placeOf (member : Bool) (kind : BitVec 16) (src tsc flags : Nat) (body : List Byte) (s : State) : State :=
  let s := s.fitSegment (Hist.recLen body.length)
  let r := s.newRecord member kind src tsc flags body
  let s := s.modHist fun h => { h with segBytes := h.segBytes ++ r.bytes, nv := { h.nv with ring := h.nv.ring ++ [r], nextRseq := h.nv.nextRseq + 1, offset := h.nv.offset + r.len, segRecords := h.nv.segRecords + 1 }, winBytes := (h.winBytes.filter fun w => s.clk.upNs < w.1 + 100000000) ++ [(s.clk.upNs, r.len)], secBytes := h.secBytes + r.len }
  let s := s.writeChunks r.offset (r.offset + r.len)
  let s := s.when s.paired fun s => s.modHist fun h => { h with twinWait := h.twinWait ++ [{ rseq := r.rseq, kind := kind }] }
  s.when s.copies (State.twinPut (.work (.history r)) "HISTORY_RECORD" r.bytes)

/-- A record of this member placed. -/
def State.placeRecord (kind : BitVec 16) (src tsc flags : Nat) (body : List Byte) (s : State) : State := s.placeOf s.memberIx kind src tsc flags body

/-- The tally of a KIND raised (11 R301). -/
def Hist.addTally (kind : BitVec 16) (tsc : Nat) (l : List HistTally) : List HistTally :=
  if l.any (fun t => t.kind == kind)
  then l.map fun t => if t.kind == kind then { t with count := t.count + 1, lastTsc := tsc } else t
  else l ++ [{ kind := kind, count := 1, firstTsc := tsc, lastTsc := tsc }]

/-- A refused record: counted, tallied, and the start of a run recorded once; a run that the rate or the ring began lasts until ring space is freed (11
R299 to R301). -/
def State.refuseRecord (kind : BitVec 16) (busy : Bool) (s : State) : State :=
  let first := !s.hist.refusing
  let s := (s.modHist fun h => { h with refusing := true, gapDue := true, freed := if busy then false else h.freed, tallies := Hist.addTally kind s.now h.tallies }).bump 0x280100
  s.when first (State.emit 0x4B14 0x060 [(kind.toNat : Int)])

/-- The body of a GAP record: of each KIND its tally with the first and last TSC (11 R301; log 105). -/
def Hist.gapBody (h : Hist) : List Byte := (h.tallies.map fun t => valBytes 8 (ints [t.kind.toNat, t.count, t.firstTsc, t.lastTsc])).flatten

/-- Does the next record admitted come after a GAP: a run of refusals is open and space has returned (11 R299, R301). -/
def Hist.gapNow (h : Hist) : Bool := h.gapDue && h.freed

/-- The GAP record that comes first when space returns; the tallies restart and the run of refusals ends (11 R301; 12 R327). -/
def State.gapRecord (s : State) : State :=
  if s.hist.gapNow then
    (((s.placeRecord 4 0x060 (((s.hist.tallies.head?).map (·.firstTsc)).getD s.now) 0 s.hist.gapBody).modHist
      fun h => { h with refusing := false, gapDue := false, tallies := [] }).bump 0x280104).payWithheld
  else s

/-- The bytes that a record takes with the GAP that comes before it. -/
def Hist.withGap (len : Nat) (h : Hist) : Nat := if h.gapNow then len + Hist.recLen h.gapBody.length else len

/-- HIST_BUSY where a record, with the GAP before it, passes the rate or finds the ring full (11 R299, R300). -/
def State.pipeCode (len : Nat) (s : State) : Nat :=
  let n := s.hist.withGap len
  firstCode [(s.windowBytes + n > 4800000, 0x0B02), (s.hist.ringBytes + n > Hist.ringCapacity, 0x0B02)]

/-- Have only the last 16 segments remained, with STORE_FULL still to come (11 R304). -/
def State.storeEnds (s : State) : Bool := s.hist.nv.freeSeg ≤ 16 && !s.hist.full && s.hist.capSeg > 0 && s.writes

/-- The code that refuses a record now, 0 where it is admitted: the store full, or the rate or the ring exceeded; STORE_FULL comes before any other record
(11 R300, R304). -/
def State.intakeCode (len : Nat) (s : State) : Nat := firstCode [(s.hist.full, 0x0B01), (s.storeEnds, 0x0B02), (s.pipeCode len ≠ 0, 0x0B02)]

/-! ### Free space (11 R302 to R304) -/

/-- A profile chosen for the next whole second, with its cause: 0 the host, 1 a step-down (11 R302). -/
def State.chooseProfile (k : BitVec 4) (cause : Nat) (s : State) : State := s.modHist fun h => { h with profNext := some (k, cause) }

/-- HIST_SPACE_LOW once for each crossing of WARN_FREE (11 R303). -/
def State.spaceWarn (s : State) : State :=
  let low := s.hist.nv.freeSeg * 100 < s.img.cfg.policy.warnFree * s.hist.capSeg
  let fresh := low && !s.hist.low
  (s.modHist fun h => { h with low := low }).when fresh (State.emit 0x4B13 0x060 [s.hist.nv.freeSeg])

/-- The profiles whose STEP_FREE the free space has just fallen below (11 R303). -/
def State.stepsCrossed (s : State) : List (Fin 4) :=
  [0, 1, 2, 3].filter fun (k : Fin 4) => decide (s.hist.nv.freeSeg * 100 < s.img.cfg.policy.stepFree[k] * s.hist.capSeg) && !bit s.hist.stepDone.toNat k

/-- The crossings of STEP_FREE: with AUTO_STEP one step-down to the highest profile of lower intake among them, without it only the report (11 R303). -/
def State.stepDowns (s : State) : State :=
  let l := s.stepsCrossed
  let auto (k : Fin 4) : Bool := bit s.img.cfg.policy.autoStep.toNat k
  let below (k : Fin 4) : Bool := decide (s.hist.nv.freeSeg * 100 < s.img.cfg.policy.stepFree[k] * s.hist.capSeg)
  let s := State.forEach (l.filter fun k => !auto k) (fun _ s => s.emit 0x4B13 0x060 [s.hist.nv.freeSeg]) s
  let s := s.modHist fun h => { h with stepDone := BitVec.ofNat 4 (maskOf ([0, 1, 2, 3].map below)) }
  match (l.filter fun k => auto k && k > s.hist.nv.profile.toNat).getLast? with
  | none => s
  | some k => (s.chooseProfile (BitVec.ofNat 4 k) 1).bump 0x280118

/-- The store is full when 16 segments remain: STORE_FULL once the pipeline takes it, the seal, HIST_FULL, then every record refused (11 R300, R301,
R304). -/
def State.fullCheck (s : State) : State :=
  if s.storeEnds && s.pipeCode 40 = 0 then
    (((s.gapRecord.placeRecord 6 0x060 s.now 0 (leBytes 8 s.now)).sealSegment 9).modHist
      fun h => { h with full := true, state := if h.state == .resuming then h.state else .full }).emit 0x8B19 0x060 []
  else s

/-- The free space judged once it may have changed (11 R303, R304). -/
def State.spaceCheck (s : State) : State := s.spaceWarn.stepDowns.fullCheck

/-! ### Admission -/

/-- Admission of a record of a member with its own stamp: refused with a code, or placed in the ring, after which the free space is judged (11 R297, R299
to R304). A member that does not write the store admits nothing. -/
def State.admitOf (member : Bool) (kind : BitVec 16) (src tsc flags : Nat) (body : List Byte) (s : State) : Nat × State :=
  if !s.writes then (0x0B04, s)
  else
    let c := s.intakeCode (Hist.recLen body.length)
    if c = 0 then (0, (s.gapRecord.placeOf member kind src tsc flags body).spaceCheck) else (c, s.refuseRecord kind (c == 0x0B02))

/-- Admission of a record of this member. -/
def State.admitAt (kind : BitVec 16) (src tsc flags : Nat) (body : List Byte) (s : State) : Nat × State := s.admitOf s.memberIx kind src tsc flags body

/-- Admission of a record stamped now (log 107). -/
def State.intoHistory (kind : BitVec 16) (src : Nat) (body : List Byte) (s : State) : State := (s.admitAt kind src s.now 0 body).2

/-- The segment that a record goes into where it will be admitted, with the GAP before it: what the record says of its place is then known (11 R296,
R298). -/
def State.makeRoom (len : Nat) (s : State) : State := if !s.writes || s.intakeCode len ≠ 0 then s else s.gapRecord.fitSegment len

/-- HISTORY_ADMISSION (11 R299). -/
def execHistoryAdmission (kind : BitVec 16) (source : Nat) (body : List Byte) (s : State) : Host.Outcome State Fault Refusal :=
  .next (s.when (Src.listed source) (State.intoHistory kind source body))

/-- The body of a CERT record: the device certificate and the DIK-signed certificate of an RSK (11 Table 11.5). -/
def State.certBody (rsk : BitVec 128) (s : State) : List Byte := Config.deviceCert s.trust.nv.dikPt ++ Config.rskCert s.trust.nv.dikPt rsk

/-- A CERT record. -/
def State.certRecord (rsk : BitVec 128) (s : State) : State := s.intoHistory 2 0x060 (s.certBody rsk)

/-- The CERT record of the twin, at each formation of the pair (11 Table 11.5): the DIK is that of its PAIR_HELLO. -/
def State.certTwin (s : State) : State :=
  let dik := field s.twin.peerHello 66 49
  s.when s.writes (State.intoHistory 2 0x060 (Config.deviceCert dik ++ Config.rskCert dik (Config.twinRsk s.twin.peerHello)))

/-- The admission of a record whose copy the twin did not confirm before the pair ended: counted, tallied, a NOTE answered with HIST_BUSY. The record keeps
its place in the store (00 R7; 09 R249; log 104). -/
def State.refuseCopy (w : HistWait) (s : State) : State :=
  let s := s.refuseRecord w.kind false
  match w.req with
  | none => s
  | some q => s.refuseReq q 0x0B02

/-! ### Cell sets -/

/-- The bytes of one value: whole in a KEY block or a RAW record, else a signed byte of difference or the escape, which 0xFFFF always
takes (11 R298). -/
def CellSet.value (key : Bool) (old new : BitVec 16) : List Byte :=
  let d : Int := (new.toNat : Int) - old.toNat
  if key then leBytes 2 new.toNat
  else if -127 ≤ d ∧ d ≤ 127 ∧ new ≠ 0xFFFF then [BitVec.ofNat 8 (twos 8 d)]
  else 0x80#8 :: leBytes 2 new.toNat

/-- The block of one string: STRING, BFLAGS, CELLS, zero, VALID, then the values, padded to 4 bytes (11 R298). In a KEY block and in a RAW
record every value is whole. -/
def CellSet.block (n : Fin 8) (key raw split : Bool) (cells valid : Nat) (old new : List (List (BitVec 16))) : List Byte :=
  let vals := (List.zipWith (fun o w => (List.zipWith (CellSet.value (key || raw)) (if o.isEmpty then w else o) w).flatten) old new).flatten
  let b := [BitVec.ofNat 8 n, BitVec.ofNat 8 (b2n key + 2 * b2n split), BitVec.ofNat 8 cells, 0#8] ++ leBytes 4 valid ++ vals
  b ++ List.replicate ((4 - b.length % 4) % 4) 0#8

/-! ### Profiles, space, copies -/

/-- One copy changed. -/
def Hist.modCopy (b : Bool) (f : HistCopy → HistCopy) (h : Hist) : Hist := if b then { h with b := f h.b } else { h with a := f h.a }

/-- Capacity in segments: the smaller of the attached namespaces, divided by 4 MiB and rounded down, at most 2^30 (11 R292). -/
def Hist.capacity (h : Hist) : Nat :=
  let on (c : HistCopy) := c.state == .inSync || c.state == .rebuilding || c.state == .labelling
  let caps := ((if on h.a then [h.a.capBytes] else []) ++ (if on h.b then [h.b.capBytes] else []))
  min (2 ^ 30) ((match caps with | [] => 0 | c :: t => t.foldl min c) / 4194304)

/-- STATE WRITING or STALLED follows the copies while this member writes (11 R305, Table 11.10). -/
def Hist.settle (h : Hist) : Hist :=
  if h.state == .writing || h.state == .stalled
  then { h with state := if h.a.state == .inSync || h.b.state == .inSync then .writing else .stalled } else h

/-- SHELF_WRITE_DONE (11 R299): the covered records leave the ring, the freed point goes to the twin. -/
def execShelfWriteDone (rseq : Nat) (s : State) : Host.Outcome State Fault Refusal :=
  .next <|
    let on (c : HistCopy) := if c.state == .inSync then { c with doneRseq := rseq } else c
    let s := s.modHist fun h => { h with nv := { h.nv with ring := h.nv.ring.filter (fun r => r.rseq > rseq), freedTo := max h.nv.freedTo rseq }, wseq := rseq, freed := true, a := on h.a, b := on h.b }
    let s := s.when s.copies (State.twinRecord (.work (.historyFreed rseq)) "HISTORY_FREED")
    s.spaceCheck

/-- SHELF_COMMAND_FAIL (11 R305): counted; each command is reissued once; a second failure of it fails the copy, and a FAILED copy's commands are not
reissued. -/
def execShelfCommandFail (copyB : Bool) (cmd : Nat) (s : State) : Host.Outcome State Fault Refusal :=
  .next <|
    let s := s.bump 0x280108
    let c := s.hist.copy copyB
    if c.state == .failed then s
    else if cmd ∉ c.reissued then (s.modHist (Hist.modCopy copyB fun c => { c with reissued := cmd :: c.reissued })).send .shelf (b2n copyB) "REISSUE" [(cmd : Int)]
    else ((s.modHist fun h => (h.modCopy copyB fun c => { c with state := .failed, reissued := [] }).settle).bump 0x280114).emit
      0x8B17 0x060 [b2n copyB]

/-- The low 48 bits of a serial under 0x4C58: a member's reservation key (11 R293). -/
def Hist.shelfKey (serial : Nat) : Nat := 0x4C58 * 2 ^ 48 + serial % 2 ^ 48

/-- The bytes of a segment from its read-back, with the records that the ring holds beyond them. -/
def Hist.withRing (seg : Nat) (data : List Byte) (h : Hist) : List Byte :=
  data ++ ((h.nv.ring.filter fun r => r.seg == seg && r.offset ≥ data.length).map HistRec.bytes).flatten

/-- What the read-back of the segment that was open says of it: its header's place in the chain, its bytes, or, where a trailer stands, that it was
sealed (11 R294, R308). -/
def Hist.readBack (data : List Byte) (h : Hist) : Hist :=
  if data.length < 256 then h
  else if data.length > Hist.recordEnd then
    { h with segBytes := [], nv := { h.nv with segOpen := false, segNo := field data 8 8, headSeg := field data 8 8, headLink := BitVec.ofNat 384 (field data (Hist.recordEnd + 0x50) 48) } }
  else { h with segBytes := h.withRing (field data 8 8) data, nv := { h.nv with headLink := BitVec.ofNat 384 (field data 0x20 48), headSeg := field data 8 8 - 1 } }

/-- A seal kept during the read-back is written now that the segment's bytes are known, and the header of the segment after it with its PREV_LINK; a
damaged segment's trailer says so (11 R294, R308; log 131). -/
def State.lateSeal (damaged : Bool) (l : SegLate) (s : State) : State :=
  let b := s.hist.segBytes
  let head := l.head.take 28 ++ leBytes 4 (if damaged && !bit l.flags 2 then l.flags + 4 else l.flags)
  let s := s.writeSeal l.seg l.gen b (Hist.trailer head b s.hist.nv.headLink l.rsk)
  if l.next.isEmpty then s.modHist fun h => { h with segBytes := [] }
  else
    let hd := l.next.take 0x20 ++ leBytes 48 s.hist.nv.headLink.toNat ++ l.next.drop 0x50
    (s.modHist fun h => { h with segBytes := h.withRing (field hd 8 8) hd }).shelfWrite "OPEN" (field hd 8 8) 0 hd

/-- The seals kept during the read-back, oldest first: only the first segment was read back. -/
def State.lateSeals (damaged : Bool) (s : State) : State :=
  match s.hist.late with
  | [] => s
  | x :: t => State.forEach t (State.lateSeal false) ((s.modHist fun h => { h with late := [] }).lateSeal damaged x)

/-- Does the read-back agree with the last CHECKPOINT of the segment: its running digest over the bytes before it (11 R296, R308). -/
def Hist.checkOk (data : List Byte) (h : Hist) : Bool := h.nv.ckOffset = 0 || Config.sha384 (data.take h.nv.ckOffset) == h.nv.ckDigest

/-- Resumption starts: every item of the ring is written again, the open segment is read back (11 R308). -/
def State.resumeHistory (takeover : Bool) (s : State) : State :=
  (s.modHist fun h => { h with state := .resuming, takeover := takeover, resumeAt := h.nv.ring.length }).send .shelf 0 "RESUME"
    (s.hist.nv.ring.map fun r => (r.rseq : Int))

/-- The writer's reservation on one attached namespace (11 R293). -/
def State.reserveCopy (copyB : Bool) (s : State) : State :=
  s.when (s.hist.copy copyB).ns (State.send .shelf (b2n copyB) "RESERVE" [Hist.shelfKey s.ident.serial.toNat])

/-- The writer's reservation on both namespaces (11 R293). -/
def State.reserveShelf (s : State) : State := (s.reserveCopy false).reserveCopy true

/-- The body of a CHECKPOINT at the place where the segment stands: SEG_NO, OFFSET, RUN_DIGEST, SIGNER_ID, and the signature over the record header
and the 80 bytes before it (11 R296). -/
def State.checkpointBody (s : State) : List Byte :=
  let b := leBytes 8 s.hist.nv.segNo ++ leBytes 4 s.hist.nv.offset ++ leBytes 4 0 ++ leBytes 48 (Config.sha384 s.hist.segBytes).toNat ++ leBytes 16 s.trust.nv.rsk.toNat
  b ++ s.rskSign ((s.newRecord s.memberIx 3 0x060 s.now 0 (b ++ List.replicate 96 0#8)).header ++ b)

/-- A CHECKPOINT of the open segment, and its partial chunk written (11 R296, R299). -/
def State.checkpoint (s : State) : State :=
  let s := s.makeRoom 208
  let r := s.admitAt 3 0x060 s.now 0 s.checkpointBody
  if r.1 ≠ 0 then r.2
  else
    let from_ := s.hist.nv.offset / 262144 * 262144
    (r.2.modHist fun h => { h with nv := { h.nv with ckDigest := Config.sha384 s.hist.segBytes, ckOffset := s.hist.nv.offset } }).shelfWrite "WRITE_PARTIAL" s.hist.nv.segNo from_ (r.2.hist.segBytes.drop from_)

/-- CHECKPOINT (11 R296): at a whole second, into the segment that is open; during the read-back it waits for the segment's bytes (log 131). HIST_RATE
takes the second's intake. -/
def execCheckpoint (s : State) : Host.Outcome State Fault Refusal :=
  .next <|
    let s := s.modHist fun h => { h with rate := BitVec.ofNat 32 h.secBytes, secBytes := 0 }
    if !(s.hist.nv.segOpen && s.writes) then s
    else if s.hist.state == .resuming then s.modHist fun h => { h with ckDue := true }
    else s.checkpoint

/-- The end of the resumption read-back: the seals kept, or a failed check that seals with DAMAGED; the chunks completed meanwhile are written; a takeover
adds SWITCHOVER (old and new writer, both epochs, the last RSEQ held) and seals; a full store takes nothing more (11 R304, R308, Table 11.5; log 105). -/
def State.resumed (ok : Bool) (s : State) : State :=
  let kept := !s.hist.late.isEmpty
  let first := ((s.hist.late.head?).map (·.seg)).getD s.hist.nv.segNo
  let s := s.modHist fun h => ({ h with state := if h.full then .full else .writing, resumeAt := 0 }).settle
  let s := s.when (!ok) fun s => (s.bump 0x28010C).emit 0x8B18 0x060 [(first : Int)]
  let s := (s.lateSeals (!ok)).when (!ok && !kept) (State.sealSegment 5)
  let s := s.writeChunks 0 s.hist.nv.offset
  let e := s.twin.hist.epoch.toNat
  let s := s.when s.hist.takeover fun s =>
    ((s.intoHistory 5 0x060 (valBytes 8 (ints [b2n !s.memberIx, b2n s.memberIx, e - 1, e, s.hist.nv.nextRseq - 1]))).sealSegment 3).modHist fun h => { h with takeover := false }
  (s.modHist fun h => { h with ckDue := false }).when (s.hist.ckDue && s.hist.nv.segOpen) State.checkpoint

/-- SHELF_READ_DONE (11 R293, R306, R308). -/
def execShelfReadDone (copyB : Bool) (r : ShelfDone) (s : State) : Host.Outcome State Fault Refusal :=
  .next <|
    match r with
    | .openSegment d => if s.hist.state == .resuming then (s.modHist (Hist.readBack d)).resumed (s.hist.checkOk d) else s
    | .sealedSegment ok =>
      if (s.hist.copy copyB).state == .rebuilding
      then (s.modHist (Hist.modCopy copyB fun c => { c with rebuilt := c.rebuilt + 1 })).when (!ok) (State.bump 0x28010C) else s
    | .reservation => s.modHist (Hist.modCopy copyB fun c => { c with reserved := true })

/-! ### HIST_CMD -/

/-- HIST_RESULT's code (11 Table 11.9). -/
def State.histResult (c : Nat) (s : State) : State := s.modHist fun h => { h with resCode := BitVec.ofNat 16 c }

/-- ATTACH of a copy (11 R293, R306): the copy must be FAILED or ABSENT, or FOREIGN (log 108); another store's namespace needs FORCE and the service role.
The writer reserves it, and has every sealed segment and the open one up to its release point copied from the IN_SYNC copy; with none there is nothing to
copy, and a namespace of this store is IN_SYNC. -/
def Hist.attach (copyB force : Bool) (ns : ShelfNs) : Write :=
  Write.cmd
    (fun x s => firstCode [(!s.writes, 0x0B04),
      ((s.hist.copy copyB).state != .failed && (s.hist.copy copyB).state != .absent && (s.hist.copy copyB).state != .foreign, 0x0B05),
      (!ns.blank && ns.storeId != s.hist.nv.storeId && !(force && s.roleOf x == .service), 0x0B05)])
    State.histResult
    fun s =>
      let src := s.hist.a.state == .inSync || s.hist.b.state == .inSync
      let own := !ns.blank && ns.storeId == s.hist.nv.storeId
      let st : CopyState := if src then .rebuilding else if own then .inSync else .labelling
      let s := (s.modHist fun h => (h.modCopy copyB fun _ => { state := st, ns := true, capBytes := ns.capBytes, storeId := ns.storeId, blank := ns.blank, rebuildTo := h.nv.headSeg + 1 }).settle).modHist fun h => { h with capSeg := h.capacity, nv := { h.nv with freeSeg := h.capacity - (h.nv.segNo + 1) } }
      let s := s.reserveCopy copyB
      if src then s.send .shelf (b2n copyB) "COPY" (ints [0, s.hist.nv.headSeg + 1, s.hist.nv.segNo, s.hist.nv.offset])
      else s.when own (State.emit 0x0B10 0x060 [b2n copyB])

/-- ATTACH_A (11 R306). -/
def execAttachA (q : Req) (force : Bool) (ns : ShelfNs) (s : State) : Host.Outcome State Fault Refusal :=
  .next (s.hostWrite q (Hist.attach false force ns))

/-- ATTACH_B (11 R306). -/
def execAttachB (q : Req) (force : Bool) (ns : ShelfNs) (s : State) : Host.Outcome State Fault Refusal :=
  .next (s.hostWrite q (Hist.attach true force ns))

/-- HIST_ATTACHED (11 R306): the rebuild of a copy completes. -/
def execHistAttached (copyB : Bool) (s : State) : Host.Outcome State Fault Refusal :=
  .next <|
    if (s.hist.copy copyB).state == .rebuilding
    then (s.modHist fun h => (h.modCopy copyB fun c => { c with state := .inSync, storeId := h.nv.storeId, blank := false }).settle).emit
      0x0B10 0x060 [b2n copyB]
    else s

/-- The serials of the members, member 0 first; alone, the own one and zero (11 Table 11.5 LABEL). -/
def State.serials (s : State) : List Byte :=
  let own := leBytes 8 s.ident.serial.toNat
  if !s.img.cfg.paired then own ++ leBytes 8 0
  else if s.memberIx then leBytes 8 s.img.cfg.pair.twinSerial ++ own else own ++ leBytes 8 s.img.cfg.pair.twinSerial

/-- NEW_STORE (11 R293, R307): seals the old store, opens segment 0 of the new one on the namespaces attached, writes LABEL, then CERT, as its first
records; a GAP comes after them. -/
def Hist.newStore : Write :=
  Write.cmd
    (fun x s => firstCode [(!s.writes, 0x0B04), (s.roleOf x != .service, 0x0B07),
      (!(s.hist.full || (s.hist.a.blank && s.hist.b.blank)), 0x0B05)])
    State.histResult
    fun s =>
      let old := s.hist.nv.storeId
      let s := s.sealSegment 1
      let id := BitVec.ofNat 128 s.freshNat
      let on (c : HistCopy) : HistCopy := if c.state == .failed || !c.ns then c else { c with state := .inSync, storeId := id, blank := false }
      let s := s.tick.modHist fun h => { h with full := false, state := if h.state == .resuming then h.state else .writing, freed := true, a := on h.a, b := on h.b, nv := { h.nv with storeId := id, segNo := 0, segFirst := true, segRecords := 0, segOpen := false } }
      let s := (s.modHist fun h => ({ h with capSeg := h.capacity, low := false, stepDone := 0 }).settle).reserveShelf
      let s := s.placeRecord 1 0x060 s.now 0 (leBytes 16 id.toNat ++ leBytes 16 old.toNat ++ leBytes 8 s.now ++ s.serials ++ leBytes 4 s.hist.capSeg ++ leBytes 4 0)
      s.placeRecord 2 0x060 s.now 0 (s.certBody s.trust.nv.rsk)

/-- NEW_STORE. -/
def execNewStore (q : Req) (s : State) : Host.Outcome State Fault Refusal := .next (s.hostWrite q Hist.newStore)

/-- SEAL (11 R295): the open segment is sealed with SHORT; with none open there is nothing to seal (log 20). -/
def Hist.sealCmd : Write :=
  Write.cmd (fun _ s => firstCode [(!s.writes, 0x0B04), (!s.hist.nv.segOpen, 0x0B05)]) State.histResult (State.sealSegment 1)

/-- SEAL. -/
def execSeal (q : Req) (s : State) : Host.Outcome State Fault Refusal := .next (s.hostWrite q Hist.sealCmd)

/-- SELECT_PROFILE (11 R302): above 3 it names no profile. -/
def Hist.selectProfile (p : BitVec 4) : Write :=
  Write.cmd (fun _ s => firstCode [(!s.writes, 0x0B04), (p.toNat > 3, 0x0C12)]) State.histResult fun s => s.chooseProfile p 0

/-- SELECT_PROFILE. -/
def execSelectProfile (q : Req) (profile : BitVec 4) (s : State) : Host.Outcome State Fault Refusal :=
  .next (s.hostWrite q (Hist.selectProfile profile))

/-- PROFILE_CHANGE_APPLY (11 R302): the chosen profile takes effect and a PROFILE record is written. -/
def execProfileChangeApply (s : State) : Host.Outcome State Fault Refusal :=
  .next <|
    match s.hist.profNext with
    | none => s
    | some (k, cause) =>
      let old := s.hist.nv.profile
      ((s.modHist fun h => { h with profNext := none, nv := { h.nv with profile := k } }).intoHistory 7 0x060 (valBytes 8 (ints [old.toNat, k.toNat, cause]))).emit 0x0B11 0x060 [old.toNat, k.toNat, cause]

/-! ### The standby's copy (11 R295, R299, R302, R304) -/

/-- A copied record in the ring by its RSEQ. -/
def Hist.insert (r : HistRec) : List HistRec → List HistRec
  | [] => [r]
  | x :: t => if r.rseq < x.rseq then r :: x :: t else if r.rseq = x.rseq then x :: t else x :: Hist.insert r t

/-- A history record of the writer in the standby's ring, under its RSEQ and address, in the order of RSEQ whatever the order of arrival; one already freed
is not taken again. The standby keeps where the open segment stands, its last CHECKPOINT, the profile in force and whether the store is full, which a
takeover needs (00 R3; 11 R296, R299, R302, R304, R308). -/
def Hist.copied (r : HistRec) (h : Hist) : Hist :=
  if r.rseq ≤ h.nv.freedTo then h
  else
    let ahead := r.rseq ≥ h.nv.nextRseq
    let same := r.seg == h.nv.segNo
    let n := { h.nv with ring := Hist.insert r h.nv.ring }
    let n := if ahead then { n with nextRseq := r.rseq + 1, segNo := r.seg, offset := r.offset + r.len, segOpen := true, segRecords := if same then n.segRecords + 1 else 1, ckOffset := if same then n.ckOffset else 0, freeSeg := h.capSeg - (r.seg + 1) }
      else { n with segRecords := if same then n.segRecords + 1 else n.segRecords }
    let n := if r.kind == 3 && r.seg == n.segNo && r.offset > n.ckOffset then { n with ckOffset := r.offset, ckDigest := BitVec.ofNat 384 (field r.body 16 48) } else n
    { h with full := (h.full || r.kind == 6) && r.kind != 1, nv := if r.kind == 7 && ahead then { n with profile := BitVec.ofNat 4 (field r.body 8 8) } else n }

/-- The freed point of the writer: the standby's ring is freed to it (11 R299). -/
def Hist.freedCopy (rseq : Nat) (h : Hist) : Hist := { h with nv := { h.nv with ring := h.nv.ring.filter (fun r => r.rseq > rseq), freedTo := max h.nv.freedTo rseq } }

/-- The writer has sealed a segment: the head of the chain (11 R295). -/
def Hist.sealedCopy (seg : Nat) (link : BitVec 384) (h : Hist) : Hist :=
  { h with nv := { h.nv with headSeg := seg, headLink := link, segOpen := h.nv.segOpen && h.nv.segNo != seg } }

end Sys2Proof.Machine
end

