-- ==== Sys2Proof/Machine/Recorder.lean ====
section
/-! DEFINITION. The first-fault recorder (spec 11, R309-R316): its queue, writer, archive and mirror copies. -/

namespace Sys2Proof.Machine

/-- Bytes of the record area (11 R309). -/
def Ffr.area : Nat := 33550336

/-- LEN of a body of `n` fields of 8 bytes: 16 to 1,024 (11 Table 11.7; log 21). -/
def FfrRec.bodyLen (n : Nat) : Nat := min 1024 (max 16 (8 * n))

/-- Bytes a record takes (11 R309). -/
def FfrRec.size (r : FfrRec) : Nat := 80 + r.len

/-- Header and body of a record (11 Table 11.7). -/
def FfrRec.head (r : FfrRec) : List Byte :=
  let src := r.ev.source + 0x1000 * b2n r.ev.member + 0x2000 * b2n r.ev.prov + 0x4000 * b2n r.mirror
  leBytes 2 r.len ++ leBytes 2 r.ev.code.toNat ++ leBytes 2 src ++ leBytes 2 r.flags.toNat ++ leBytes 8 r.ev.tsc ++
    leBytes 4 r.seq.toNat ++ leBytes 4 0 ++ (valBytes 8 r.ev.body ++ List.replicate r.len 0#8).take r.len

/-- A tail: REV, REPEAT, LAST_TSC and the MAC over the head and them (11 R309). -/
def FfrRec.tail (gen : Nat) (rev : Nat) (rep : BitVec 16) (lastTsc : Nat) (r : FfrRec) : List Byte :=
  let t := leBytes 4 rev ++ leBytes 2 rep.toNat ++ leBytes 2 0 ++ leBytes 8 lastTsc
  t ++ if r.ev.noMac then leBytes 8 0 else macField (some gen) (r.head ++ t)

/-- The bytes of a record, with `other` in the place of the tail that is not in force; COMMIT stands once it is committed (11 R309, R310). -/
def FfrRec.laid (other : List Byte) (r : FfrRec) : List Byte :=
  let t := r.tail r.gen r.rev.toNat r.rep r.lastTsc
  r.head ++ (if r.rev.toNat % 2 = 0 then t ++ other else other ++ t) ++
    if r.committed then leBytes 4 0x5246464C ++ leBytes 2 r.len ++ leBytes 2 0 else leBytes 8 0

/-- A record with only its tail in force: the other tail is zero (11 R314; 12 R333; log 106). -/
def FfrRec.bytes (r : FfrRec) : List Byte := r.laid (List.replicate 24 0#8)

/-- A record as stored, with both tails (11 Table 11.7, R310). -/
def FfrRec.stored (r : FfrRec) : List Byte :=
  r.laid (if r.rev = 0 then List.replicate 24 0#8 else r.tail r.oldGen (r.rev.toNat - 1) r.oldRep r.oldTsc)

/-- A revision in the tail numbered by it, under the record MAC key of the day; the tail before it stays (11 R309, R310). -/
def FfrRec.revise (gen : Nat) (rev : BitVec 32) (rep : BitVec 16) (lastTsc : Nat) (r : FfrRec) : FfrRec :=
  { r with gen := gen, oldGen := r.gen, rev := rev, rep := rep, lastTsc := lastTsc, oldRep := r.rep, oldTsc := r.lastTsc }

/-- The recorder's own item: SUMMARY, GAP, FULL and FFR_CLEARED carry source 0x070 (11 R311, R312, R314). -/
def State.ffrEvent (code : BitVec 16) (tsc : Nat) (body : List Int) (s : State) : Event :=
  { code := code, source := 0x070, member := s.memberIx, tsc := tsc, prov := !s.clk.tscValid, noMac := s.trust.keysErased, body := body }

/-- FFR_EVENT_DELIVERY (11 R311). -/
def execFfrEventDelivery (code : BitVec 16) (source : Nat) (body : List Int) (s : State) : Host.Outcome State Fault Refusal :=
  .next (s.when (Event.codeOk code && Src.listed source) (State.emit code.toNat source body))

/-! ### The writer -/

/-- The newest record changed. -/
def Ffr.modLast (f : FfrRec → FfrRec) (r : Ffr) : Ffr :=
  match r.nv.recs with
  | [] => r
  | x :: t => { r with nv := { r.nv with recs := f x :: t } }

/-- Start writing a record, under the record MAC key of the day: the FULL record takes its place where less than 96 bytes would be left, and after it nothing
is written (11 R309, R310, R312). -/
def State.startRecord (r : FfrRec) (s : State) : State :=
  if s.ffr.nv.full then s
  else if s.ffr.nv.bytes + r.size + 96 > Ffr.area then
    s.modFfr fun f => { f with writing := true, nv := { f.nv with full := true, nextSeq := f.nv.nextSeq + 1, bytes := f.nv.bytes + 96, recs := { len := 16, flags := 4, gen := s.trust.nv.rskGen, seq := f.nv.nextSeq, lastTsc := r.ev.tsc, ev := s.ffrEvent 0x8B1A r.ev.tsc [r.ev.tsc, 0] } :: f.nv.recs } }
  else
    s.modFfr fun f => { f with writing := true, nv := { f.nv with nextSeq := f.nv.nextSeq + 1, bytes := f.nv.bytes + r.size, recs := { r with seq := f.nv.nextSeq, gen := s.trust.nv.rskGen, committed := false } :: f.nv.recs } }

/-- The coalescing window of a code (11 R311). -/
def Policy.window (p : Policy) (code : Nat) : Nat := Sparse.get p.ffrWindows code p.ffrWindow

/-- Can an event be coalesced into the last record (11 R311). -/
def FfrRec.takes (p : Policy) (r : FfrRec) (e : Event) : Bool :=
  r.committed && r.ev.code == e.code && r.ev.source == e.source && r.ev.member == e.member && !r.mirror && r.flags == 0 &&
    r.rev.toNat < 0xFFFFFFFF && p.window e.code.toNat > 0 && e.tsc - r.lastTsc ≤ p.window e.code.toNat

/-- The records a code already has in the running second (11 R311). -/
def Ffr.inSecond (f : Ffr) (c : BitVec 16) : Nat := (((f.secCodes.find? fun e => e.1 == c)).map (·.2)).getD 0

/-- One more record of a code in the running second. -/
def Ffr.countSecond (c : BitVec 16) (f : Ffr) : Ffr :=
  { f with secCodes := (c, f.inSecond c + 1) :: f.secCodes.filter fun e => e.1 != c }

/-- The suppression tally of a code raised (11 R311). -/
def Ffr.tally (e : Event) (f : Ffr) : Ffr :=
  if f.tallies.any (fun t => t.code == e.code)
  then { f with tallies := f.tallies.map fun t => if t.code == e.code then { t with count := t.count + 1, lastTsc := e.tsc } else t }
  else { f with tallies := f.tallies ++ [{ code := e.code, count := 1, firstTsc := e.tsc, lastTsc := e.tsc }] }

/-- The writer treats one event: coalesced, suppressed, or a new record (11 R311). -/
def State.treatEvent (e : Event) (s : State) : State :=
  let p := s.img.cfg.policy
  if s.ffr.nv.full then s.bump 0x2C0108
  else if (s.ffr.nv.recs.head?.map fun r => r.takes p e).getD false then
    (s.modFfr fun f => { f with revising := f.nv.recs.head?.map fun r => (r.rev + 1, if r.rep = 0xFFFF then r.rep else r.rep + 1, e.tsc) }).bump 0x2C010C
  else if s.ffr.inSecond e.code ≥ p.ffrRate then (s.modFfr (Ffr.tally e)).bump 0x2C0104
  else (s.modFfr (Ffr.countSecond e.code)).startRecord { len := FfrRec.bodyLen e.body.length, ev := e, lastTsc := e.tsc }

/-- The GAP record with the count and the first and last dropped stamps (11 R311). -/
def State.ffrGap (s : State) : State :=
  let r : FfrRec := { len := 24, flags := 2, lastTsc := s.ffr.dropFirst, ev := s.ffrEvent 0x4B16 s.ffr.dropFirst [s.ffr.dropped, s.ffr.dropFirst, s.ffr.dropLast] }
  (s.startRecord r).modFfr fun f => { f with dropped := 0 }

/-- FFR_WRITER_TAKE (11 R311): nothing while a commit is in progress; then a GAP as soon as an entry is free, a SUMMARY that is due, or the first entry at least
5 µs old. -/
def execFfrWriterTake (s : State) : Host.Outcome State Fault Refusal :=
  .next <|
    if s.ffr.writing || s.ffr.revising.isSome then s
    else
      if s.ffr.dropped > 0 ∧ s.ffr.queue.length < Ffr.capacity then s.ffrGap
      else
        match s.ffr.due with
        | r :: t => (s.modFfr fun f => { f with due := t }).startRecord r
        | [] =>
          match s.ffr.queue with
          | [] => s
          | e :: t => if e.tsc + 5000 ≤ s.now then (s.modFfr fun f => { f with queue := t }).treatEvent e else s

/-- The session's class filter passes an event (12 R333, 00 R15). -/
def Session.wants (x : Session) (code : BitVec 16) : Bool :=
  match x.minClass with
  | none => false
  | some m => m.toNat ≤ code.toNat / 0x4000

/-- A record sent to each subscribed session, or skipped and counted where its send buffer is full (12 R333). -/
def State.notify (r : FfrRec) (s : State) : State :=
  State.forEach (s.host.sessions.filter fun x => x.wants r.ev.code) (fun x s =>
    if x.bufFull then (s.modSession x.id fun x => { x with skipped := x.skipped + 1 }).bump 0x030208
    else
      let pre := if x.skipped = 0 then [] else leBytes 4 x.skipped
      (s.modSession x.id fun x => { x with skipped := 0 }).sendEvent x.id 0 (pre ++ r.bytes)) s

/-- A committed record or revision published: FFR_COMMIT_SEQ, subscribers, the twin, and history as EVENT (11 R310, R311, R315). An ARCHIVE that
awaits the twin no longer covers every record (11 R314). -/
def State.publish (r : FfrRec) (s : State) : State :=
  let s := s.modFfr fun f => { f with archPend := none, nv := { f.nv with commitSeq := f.nv.commitSeq + 1, archived := false } }
  let s := s.notify r
  let s := s.when (s.paired && !r.mirror) fun s =>
    (s.modFfr fun f => { f with mirroring := f.mirroring ++ [r.seq.toNat] }).twinPut (.ffr r) "FFR_RECORD" (r.bytes)
  s.when (s.writes && r.rev == 0) fun s =>
    (s.admitOf r.ev.member 0x20 r.ev.source r.ev.tsc 0 (r.bytes)).2

/-- FFR_CMD's result code (11 Table 11.11). -/
def State.ffrResult (c : Nat) (s : State) : State := s.modFfr fun f => { f with resCode := BitVec.ofNat 16 c }

/-- The newest record published (11 R310). -/
def State.publishLast (s : State) : State :=
  match s.ffr.nv.recs with
  | [] => s
  | r :: _ => s.publish r

/-- COMMIT written after the newest record (11 R310). -/
def State.commitLast (s : State) : State := (s.modFfr fun f => { f.modLast fun r => { r with committed := true } with writing := false }).publishLast

/-- Is a record the copy of the twin's record `r` (11 R315). -/
def FfrRec.copyOf (r x : FfrRec) : Bool := x.mirror && x.ev.code == r.ev.code && x.ev.source == r.ev.source && x.ev.tsc == r.ev.tsc

/-- A copy of the twin's record or revision committed under this member's own SEQ, without coalescing or rate limit, and confirmed once it is held; a
full recorder takes none and confirms none (00 R5; 11 R312, R315). -/
def State.takeMirror (r : FfrRec) (s : State) : State :=
  let confirm (s : State) : State := s.twinSend "FFR_CONFIRM" [r.seq.toNat]
  match (if r.rev = 0 then none else s.ffr.nv.recs.find? r.copyOf) with
  | some x =>
    let y := x.revise s.trust.nv.rskGen r.rev r.rep r.lastTsc
    confirm ((s.modFfr fun f => { f with nv := { f.nv with recs := f.nv.recs.map fun z => if z.seq == x.seq then y else z } }).publish y)
  | none =>
    if s.ffr.nv.full then s.bump 0x2C0108
    else
      let s := (s.startRecord { r with mirror := true }).commitLast
      s.when ((s.ffr.nv.recs.head?.map (·.mirror)).getD false) confirm

/-- FFR_COMMIT_DONE (11 R310): the record being written or the revision is committed, then the copies that waited for it (R315); a CLEAR that met
it is refused (R314). `full` names the sessions whose TLS send buffer cannot take an event now (12 R333). -/
def execFfrCommitDone (full : List Nat) (s : State) : Host.Outcome State Fault Refusal :=
  .next <|
    let s := s.modHost fun h => { h with sessions := h.sessions.map fun x => { x with bufFull := x.id ∈ full } }
    let s := match s.ffr.revising with
      | some (rv, rp, lt) =>
        (s.modFfr fun f => { f.modLast (FfrRec.revise s.trust.nv.rskGen rv rp lt) with revising := none }).publishLast
      | none => if s.ffr.writing then s.commitLast else s
    let s := State.forEach s.ffr.mirrorDue State.takeMirror (s.modFfr fun f => { f with mirrorDue := [] })
    match s.ffr.clearReq with
    | none => s
    | some q => ((s.modFfr fun f => { f with clearReq := none }).ffrResult 0x0B06).refuseReq q 0x0B06

/-- FFR_SECOND_END (11 R311): one SUMMARY record for each tallied code; a new rate window opens. -/
def execFfrSecondEnd (s : State) : Host.Outcome State Fault Refusal :=
  .next <| s.modFfr fun f => { f with secCodes := [], tallies := [], due := f.due ++ f.tallies.map fun t => { len := 24, flags := 1, lastTsc := t.firstTsc, ev := s.ffrEvent 0x4B15 t.firstTsc [t.code.toNat + t.count * 2 ^ 32, t.firstTsc, t.lastTsc] } }

/-! ### ARCHIVE, CLEAR and the mirror -/

/-- Every committed record admitted to history in order, until one is refused: its code, 0 where all were (11 R314). -/
def State.archiveAll : List FfrRec → State → Nat × State
  | [], s => (0, s)
  | r :: t, s =>
    let a := s.admitAt 0x21 0x070 r.ev.tsc 0 (r.bytes)
    if a.1 = 0 then State.archiveAll t a.2 else (a.1, a.2)

/-- ARCHIVE (11 R314): this member admits the records itself, or sends them to the writer over the twin link. -/
def Ffr.archive : Write := fun _ s =>
  let recs := s.ffr.nv.recs.reverse.filter (·.committed)
  if s.writes then
    if s.hist.refusing then (0x0B02, s.ffrResult 0x0B02)
    else
      let a := s.archiveAll recs
      if a.1 ≠ 0 then (0x0B02, a.2.ffrResult 0x0B02)
      else if a.2.paired && !recs.isEmpty then (0, (a.2.ffrResult 0).modFfr fun f => { f with archPend := some (a.2.hist.nv.nextRseq - 1, none) })
      else (0, (a.2.ffrResult 0).modFfr fun f => { f with nv := { f.nv with archived := true, archRseq := a.2.hist.nv.nextRseq - 1 } })
  else if s.paired then
    (0, State.forEach recs (fun r => State.twinPut (.work (.archive r)) "FFR_ARCHIVE" (r.bytes)) ((s.ffrResult 0).modFfr fun f => { f with archPend := some (0, none) }))
  else (0x0B04, s.ffrResult 0x0B04)

/-- ARCHIVE. -/
def execArchive (q : Req) (s : State) : Host.Outcome State Fault Refusal := .next (s.hostWrite q Ffr.archive)

/-- The record area emptied; FFR_CLEARED, written at once, is its first new record (11 R314). -/
def State.clearRecords (s : State) : State :=
  let first := ((s.ffr.nv.recs.getLast?).map (·.seq.toNat)).getD 0
  let last := ((s.ffr.nv.recs.head?).map (·.seq.toNat)).getD 0
  let r : FfrRec := { len := 16, lastTsc := s.now, ev := s.ffrEvent 0x0B12 s.now [first + last * 2 ^ 32, s.ffr.nv.archRseq] }
  (s.modFfr fun f => { f with nv := { f.nv with recs := [], bytes := 0, full := false } }).startRecord r

/-- FFR_CLEAR (11 R314): the service role; a commit in progress completes first and makes the CLEAR fail; else ARCHIVED is tested. -/
def execFfrClear (q : Req) (s : State) : Host.Outcome State Fault Refusal :=
  .next <| s.withReq q 0x02 HostRole.mayWrite fun x s =>
    if s.roleOf x != .service then (s.ffrResult 0x0B07).refuseReq q 0x0B07
    else if s.ffr.writing || s.ffr.revising.isSome then s.modFfr fun f => { f with clearReq := some q }
    else if !s.ffr.nv.archived then (s.ffrResult 0x0B06).refuseReq q 0x0B06
    else ((s.ffrResult 0).clearRecords).reply q 0 []

/-- FFR_MIRROR_RECEIVED (11 R315): a copy that arrives while a commit is in progress waits for it. -/
def execFfrMirrorReceived (f : TwinFrame) (r : FfrRec) (s : State) : Host.Outcome State Fault Refusal :=
  .next (s.withFrame f fun s => if s.ffr.writing || s.ffr.revising.isSome then s.modFfr fun f => { f with mirrorDue := f.mirrorDue ++ [r] } else s.takeMirror r)

/-- FFR_MIRROR_TIMEOUT (11 R315): an unconfirmed copy is counted. -/
def execFfrMirrorTimeout (seq : BitVec 32) (s : State) : Host.Outcome State Fault Refusal :=
  .next <|
    if seq.toNat ∈ s.ffr.mirroring
    then (s.modFfr fun f => { f with mirroring := f.mirroring.filter (· != seq.toNat) }).bump 0x2C0114
    else s

end Sys2Proof.Machine
end

