-- ==== Sys2Proof/Machine/Trust.lean ====
section
/-! DEFINITION. The trust core (spec 10): tokens, the update lock, partner sessions of the gate drivers, attestation, reports,
tamper and the backup cell. -/

namespace Sys2Proof.Machine

/-! ### Keys and tokens -/

/-- The fingerprint of a compressed point: the first 16 bytes of its SHA-384 (10 R263). -/
def Trust.fingerprint (point : List Byte) : BitVec 128 := (Config.sha384 point).extractLsb' 0 128

/-- TRUST_DIK_ID: the fingerprint of the device identity key (10 R263, Table 10.15). -/
def TrustNv.dik (t : TrustNv) : BitVec 128 := Trust.fingerprint (leBytes 49 t.dikPt)

/-- The point as a number. -/
def Trust.pointNat (point : List Byte) : Nat := leNat point

/-- Does an owner key hold a usage: 0 IMAGE, 1 FW, 2 LOCK, 3 HOST, 4 RING (10 Table 10.5). -/
def OwnerKey.may (k : OwnerKey) (usage : Nat) : Bool := bit k.usage.toNat usage

/-- The point of an owner root named by a fingerprint. -/
def TrustNv.root (t : TrustNv) (id : BitVec 128) : Option Nat := (t.roots.find? fun r => r.id == id).map (·.point)

/-- The point of an enrolled owner key named by a fingerprint, with a usage. -/
def TrustNv.ownerKey (t : TrustNv) (id : BitVec 128) (usage : Nat) : Option Nat :=
  (t.keys.find? fun k => k.id == id && k.may usage).map (·.point)

/-- The token that the buffer's bytes spell: MAGIC, LENGTH, KIND within 10 Table 10.3 (10 R272). -/
def Token.parse (b : List Byte) : Option Token :=
  let len := field b 6 2
  if b.length < 152 || field b 0 4 != 0x4B54584C || len != b.length || len > 4096 || field b 4 2 < 1 || field b 4 2 > 7 then none
  else some { magic := BitVec.ofNat 32 (field b 0 4), kind := BitVec.ofNat 16 (field b 4 2), length := BitVec.ofNat 16 len, serial := BitVec.ofNat 64 (field b 8 8), serial2 := BitVec.ofNat 64 (field b 16 8), ownerGen := BitVec.ofNat 32 (field b 24 4), counter := BitVec.ofNat 32 (field b 28 4), notAfter := BitVec.ofNat 64 (field b 32 8), signer := BitVec.ofNat 128 (field b 40 16), body := slice b 56 (len - 152), sig := slice b (len - 96) 96 }

/-- The roots a CLAIM or TRANSFER body lists (10 Table 10.5). -/
def Token.rootsOf (b : List Byte) : List (List Byte) := (List.range (field b 0 1)).map fun i => slice b (4 + 49 * i) 49

/-- The owner keys a TRANSFER body keeps (10 Table 10.5). -/
def Token.keptOf (b : List Byte) : List (BitVec 128) :=
  let o := 4 + 49 * field b 0 1
  (List.range (field b o 1)).map fun i => BitVec.ofNat 128 (field b (o + 4 + 16 * i) 16)

/-- The entries of a REVOKE body, 36 bytes each (10 Table 10.5). -/
def Token.entriesOf (b : List Byte) : List (List Byte) := (List.range (field b 0 2)).map fun i => slice b (4 + 36 * i) 36

/-- Is a REVOKE entry an owner key: 20 zero bytes after the fingerprint (10 Table 10.5). -/
def Token.isKeyEntry (e : List Byte) : Bool := field e 16 20 == 0

/-- Are the lengths and reserved fields of the body those of its KIND (10 Table 10.5). -/
def Token.bodyOk (t : Token) : Bool :=
  let b := t.body
  let n := field b 0 1
  match t.kind.toNat with
  | 1 => 1 ≤ n && n ≤ 4 && b.length == 4 + 49 * n && field b 1 3 == 0
  | 2 =>
    let o := 4 + 49 * n
    let k := field b o 1
    1 ≤ n && n ≤ 4 && field b 1 3 == 0 && field b (o + 1) 3 == 0 && b.length == o + 4 + 16 * k + 96
  | 3 => b.length == 53 && n < 32 && field b 1 3 == 0
  | 4 => b.length == 4 + 36 * field b 0 2 && field b 2 2 == 0
  | 5 => b.isEmpty
  | 6 => b.isEmpty
  | 7 => b.length == 192
  | _ => false

/-- The point of the key that may sign a token of this KIND, if SIGNER_ID names one (10 Table 10.5). -/
def TrustNv.signerOf (v : TrustNv) (t : Token) : Option Nat :=
  match t.kind.toNat with
  | 1 => match Token.rootsOf t.body with
    | [] => none
    | r :: _ => if Trust.fingerprint r == t.signer then some (Trust.pointNat r) else none
  | 5 => v.root t.signer <|> v.ownerKey t.signer 2
  | 6 => v.root t.signer <|> v.ownerKey t.signer 2
  | _ => v.root t.signer

/-- Is a TRANSFER's NEW_SIG a signature by the first new root over what precedes it (10 Table 10.5). -/
def Token.newSigOk (all : List Byte) (t : Token) : Bool :=
  match t.kind.toNat, Token.rootsOf t.body with
  | 2, r :: _ => Config.ecdsaOk (Trust.pointNat r) (Config.sha384 (all.take (all.length - 192))) (slice t.body (t.body.length - 96) 96)
  | 2, [] => false
  | _, _ => true

/-- The fingerprint of the key that signed the current image, if one is current. -/
def State.imageKey (s : State) : Option (BitVec 128) := if s.img.cur.valid then some s.img.cur.hdr.keyId else none

/-- The conditions of KIND, check 6 of 10 Table 10.4. -/
def State.tokenKindCode (t : Token) (x : Session) (s : State) : Nat :=
  match t.kind.toNat with
  | 1 => firstCode [(s.trust.nv.owner != .unowned, 0x0A06), (x.port != .console || !s.sw2 3, 0x0A08)]
  | 2 => firstCode [(s.trust.nv.owner != .owned, 0x0A06),
      (!(s.bank.state == .off || s.bank.state == .standby || s.bank.state == .stop), 0x0A06),
      (s.roleOf x != .service, 0x0A07),
      ((s.imageKey.map fun k => !((Token.rootsOf t.body).map Trust.fingerprint).contains k && !((Token.keptOf t.body).contains k && s.trust.nv.keys.any fun e => e.id == k)).getD false, 0x0A06)]
  | 3 => firstCode [(s.trust.nv.keys.length ≥ 16, 0x0A09)]
  | 4 => firstCode [(s.trust.nv.revoked.length + ((Token.entriesOf t.body).filter fun e => !Token.isKeyEntry e).length > 1024, 0x0A09),
      ((s.imageKey.map fun k => (Token.entriesOf t.body).any fun e => Token.isKeyEntry e && BitVec.ofNat 128 (field e 0 16) == k).getD false, 0x0A06)]
  | _ => 0

/-- Checks 1 to 5 of 10 Table 10.4 on the bytes of a token. A non-zero NOT_AFTER needs TSC_VALID. -/
def State.tokenChecks (b : List Byte) (s : State) : Nat :=
  match Token.parse b with
  | none => 0x0A01
  | some t =>
    let twin := BitVec.ofNat 64 s.img.cfg.pair.twinSerial
    let here := s.ident.serial
    let target := if s.img.cfg.paired then (t.serial == here && t.serial2 == twin) || (t.serial == twin && t.serial2 == here)
      else (t.serial == here && t.serial2 == 0) || (t.serial == 0 && t.serial2 == here)
    let gen := if t.kind == 1 then t.ownerGen == 0 else t.ownerGen == s.trust.nv.ownerGen
    firstCode [(!t.bodyOk, 0x0A01), (!target, 0x0A02), (!(gen && t.counter.toNat > s.trust.nv.tokenCtr.toNat), 0x0A03),
      (t.notAfter != 0 && (!s.clk.tscValid || s.now > t.notAfter.toNat), 0x0A04),
      (!(((s.trust.nv.signerOf t).map fun k => Config.ecdsaOk k (Config.sha384 (b.take (b.length - 96))) t.sig).getD false && t.newSigOk b), 0x0A05)]

/-- Checks 0 to 6 of 10 Table 10.4 on the token buffer; a member that does not lead applies no token of its own (log 109). -/
def State.tokenCode (x : Session) (s : State) : Nat :=
  let c := s.tokenChecks s.trust.buffer
  let k := ((Token.parse s.trust.buffer).map fun t => s.tokenKindCode t x).getD 0
  firstCode [(s.trust.nv.owner == .zeroised, 0x0A0A), (s.trust.pending.isSome, 0x0A0B), (!s.leads, 0x0A06), (c != 0, c), (k != 0, k)]

/-- TRUST_RESULT (10 Table 10.13). -/
def State.trustResult (c detail : Nat) (s : State) : State :=
  s.modTrust fun t => { t with resCode := BitVec.ofNat 16 c, resDetail := BitVec.ofNat 16 detail }

/-- APPLY_TOKEN (10 R272-R274): checked at once; it takes effect at the next T0, in a pair after the twin's READY. -/
def Trust.applyToken : Write := fun x s =>
  let kind := ((Token.parse s.trust.buffer).map (·.kind.toNat)).getD 0
  let c := s.tokenCode x
  if c = 0 then (0, (s.trustResult 0 kind).modTrust fun t => { t with pending := Token.parse t.buffer, pendRaw := t.buffer, pendingReady := none, pendTarget := none, pendGo := false })
  else (c, (s.trustResult c kind).bump 0x240110)

/-- APPLY_TOKEN. -/
def execApplyToken (q : Req) (s : State) : Host.Outcome State Fault Refusal := .next (s.hostWrite q Trust.applyToken)

/-! ### What a token does -/

/-- A signed report: the envelope of 240 bytes, then its content (10 R282, Table 10.10). -/
def State.reportBytes (kind nonce : Nat) (content : List Byte) (s : State) : List Byte :=
  let h := leBytes 4 0x5450524C ++ leBytes 2 kind ++ leBytes 2 1 ++ leBytes 8 s.ident.serial.toNat ++ leBytes 32 nonce ++ leBytes 8 s.now ++ leBytes 8 (s.trust.nv.reportSeq + 1).toNat ++
    leBytes 4 content.length ++ leBytes 12 0 ++ leBytes 48 (Config.sha384 content).toNat ++ leBytes 16 s.trust.nv.rsk.toNat
  h ++ s.rskSign h ++ content

/-- REPORT_SEQ raised: it is never reused (10 R282). -/
def State.countReport (s : State) : State := s.modTrust fun t => { t with nv := { t.nv with reportSeq := t.nv.reportSeq + 1 } }

/-- A signed report that the module issues itself (10 R282). -/
def State.signedReport (kind nonce : Nat) (content : List Byte) (s : State) : State :=
  s.countReport.sendBytes .report kind "REPORT" (s.reportBytes kind nonce content)

/-- New RSK, TLS server key and record MAC key, generated inside (10 Tables 10.1, 10.5); the record MAC key is that of the generation. -/
def State.newOwnerKeys (s : State) : State :=
  s.tick.tick.modTrust fun t => { t with nv := { t.nv with rskGen := t.nv.rskGen + 1, rsk := BitVec.ofNat 128 s.freshNat, tlsPt := s.tick.freshNat } }

/-- The roots of a token body as the store holds them. -/
def Token.newRoots (b : List Byte) : List RootKey := (Token.rootsOf b).map fun r => { id := Trust.fingerprint r, point := Trust.pointNat r }

/-- The effect of a token's KIND on the trust store and what depends on it (10 Table 10.5, R273, R280); a root that stays is no outgoing one. -/
def State.tokenKind (t : Token) (s : State) : State :=
  match t.kind.toNat with
  | 1 => s.newOwnerKeys.modTrust fun u => { u with nv := { u.nv with owner := .owned, roots := Token.newRoots t.body, ownerGen := 1 } }
  | 2 =>
    let old := s.trust.nv.roots
    let oldRsk := s.trust.nv.rsk
    let s := s.when s.writes (State.sealSegment 1)
    let s := s.newOwnerKeys.modTrust fun u => { u with nv := { u.nv with roots := Token.newRoots t.body, keys := u.nv.keys.filter fun k => (Token.keptOf t.body).contains k.id, ownerGen := u.nv.ownerGen + 1 } }
    let s := (s.certRecord oldRsk).certRecord s.trust.nv.rsk
    s.closeWhere fun x => old.any (fun r => r.id == x.rootId) && !s.trust.nv.roots.any fun r => r.id == x.rootId
  | 3 =>
    let id := Trust.fingerprint (slice t.body 4 49)
    s.modTrust fun u => { u with nv := { u.nv with keys := (u.nv.keys.filter fun k => k.id != id) ++ [{ id := id, point := Trust.pointNat (slice t.body 4 49), usage := BitVec.ofNat 5 (field t.body 0 1) }] } }
  | 4 =>
    let es := Token.entriesOf t.body
    let gone := (es.filter Token.isKeyEntry).map fun e => BitVec.ofNat 128 (field e 0 16)
    let certs := (es.filter fun e => !Token.isKeyEntry e).map fun e => (field e 0 20, BitVec.ofNat 128 (field e 20 16))
    let s := s.modTrust fun u => { u with nv := { u.nv with keys := u.nv.keys.filter fun k => !gone.contains k.id, revoked := u.nv.revoked ++ certs } }
    s.closeWhere fun x => gone.contains x.rootId || certs.contains (x.certSerial, x.rootId)
  | 5 => s.modTrust fun u => { u with nv := { u.nv with lock := true } }
  | 6 => s.modTrust fun u => { u with nv := { u.nv with lock := false } }
  | _ => s.modTrust fun u => { u with nv := { u.nv with bindings := u.nv.bindings ++ [t.body] } }

/-- A token takes effect: its store change, COUNTER, records and TOKEN_RECEIPT (10 R273, R282). -/
def State.tokenEffect (t : Token) (s : State) : State :=
  let s := (s.tokenKind t).modTrust fun u => { u with pending := none, pendingReady := none, pendTarget := none, pendGo := false, peerToken := none, peerGo := false, nv := { u.nv with tokenCtr := t.counter } }
  let s := s.when (t.kind == 1 || t.kind == 2) (State.emit 0x0A11 0x050 [(t.kind.toNat : Int), (t.counter.toNat : Int)])
  let s := s.when (t.kind == 5 || t.kind == 6) (State.emit 0x0A12 0x050 [(t.kind.toNat : Int), (t.counter.toNat : Int)])
  s.signedReport 4 0 (leBytes 4 t.kind.toNat ++ leBytes 4 t.counter.toNat)

/-- A pending token that the twin does not take: refused, with its result and count (10 R274, Table 10.4). -/
def State.tokenRefused (s : State) : State :=
  match s.trust.pending with
  | none => s
  | some t => ((s.modTrust fun u => { u with pending := none, pendingReady := none, pendTarget := none, pendGo := false }).trustResult 0x0A0C t.kind.toNat).bump 0x240110

/-- At T0 − 300 us the ACTIVE member decides on a token that it has prepared: it takes effect with the twin's READY, and is refused without (10 R274; 02
Table 2.7). -/
def State.tokenDecide (s : State) : State :=
  if s.trust.pending.isNone || s.trust.pendTarget.isNone || s.trust.pendGo then s
  else
    let go := s.paired && s.trust.pendingReady == some true
    let s := s.twinSend "DECIDE_TOKEN" [(b2n go : Int)]
    if go then s.modTrust fun t => { t with pendGo := true } else s.tokenRefused

/-- The T0 of a token that this member holds: alone at the next T0, in a pair at the T0 that PREPARE announced, once it is decided (10 R273, R274). -/
def State.ownToken (s : State) : State :=
  match s.trust.pending, s.trust.pendTarget with
  | some t, none => if s.paired then s else s.tokenEffect t
  | some t, some at_ => if s.now < at_ then s else if s.trust.pendGo then s.tokenEffect t else s.tokenRefused
  | none, _ => s

/-- The T0 of a token that the twin prepared: it takes effect with DECIDE; without DECIDE it waits for what the ACTIVE member did (10 R274; log 100). -/
def State.peerTokenT0 (s : State) : State :=
  match s.trust.peerToken with
  | none => s
  | some t =>
    if s.now < s.trust.peerTarget || !s.trust.peerGo then s else s.tokenEffect t

/-- The first estimation record that the ACTIVE member sends after the T0 of a token whose DECIDE was lost tells its last COUNTER: the token takes effect
where it did there, and is dropped where it did not (10 R274; log 100). -/
def State.tokenTold (t0 : Nat) (ctr : BitVec 32) (s : State) : State :=
  match s.trust.peerToken with
  | none => s
  | some t =>
    if t0 < s.trust.peerTarget then s
    else if ctr == t.counter then s.tokenEffect t
    else s.modTrust fun u => { u with peerToken := none, peerGo := false }

/-- TOKEN_EFFECT (10 R273, R274): at the T0, on both members of a pair or on neither. -/
def execTokenEffect (s : State) : Host.Outcome State Fault Refusal := .next s.ownToken.peerTokenT0

/-! ### Other trust commands -/

/-- The firmware bank that runs. -/
def State.running (s : State) : FwInfo := if s.trust.fwBank then s.upd.bank1 else s.upd.bank0

/-- SEC_COMMIT (10 R269): the service role; the running version must be higher than the one held. -/
def Trust.secCommit : Write :=
  Write.cmd
    (fun x s => firstCode [(s.roleOf x != .service, 0x0A07), (s.running.secVersion ≤ s.trust.nv.secVersion.toNat, 0x0A06)])
    (fun c s => s.trustResult c 0)
    fun s => s.modTrust fun t => { t with nv := { t.nv with secVersion := BitVec.ofNat 32 s.running.secVersion } }

/-- SEC_COMMIT. -/
def execSecCommit (q : Req) (s : State) : Host.Outcome State Fault Refusal := .next (s.hostWrite q Trust.secCommit)

/-- The strings a mask names. -/
def stringsOf (mask : Byte) : List (Fin 8) := [0, 1, 2, 3, 4, 5, 6, 7].filter fun n => bit mask.toNat n

/-- One gate driver's entry changed. -/
def State.modGd (n : Fin 8) (p : Fin 6) (f : GdPhase → GdPhase) (s : State) : State := s.modStr n fun e => { e with gd := Vec.upd e.gd p f }

/-- The RING key whose signature a BINDING body carries (10 Table 10.5). -/
def TrustNv.bindSigner (t : TrustNv) (body : List Byte) : Option (BitVec 128) :=
  (t.keys.find? fun k => k.may 4 && Config.ecdsaOk k.point (Config.sha384 (ascii "LX-RING-BIND" ++ leBytes 16 t.dik.toNat)) (slice body 0 96)).map (·.id)

/-- The BINDING token that a session uses, with its RING key: the newest whose key is enrolled. The spec names the token whose key
matches the node's pin, and no message tells the module that pin (log 68). -/
def TrustNv.binding (t : TrustNv) : Option (List Byte × BitVec 128) :=
  t.bindings.reverse.findSome? fun b => (t.bindSigner b).map fun k => (b, k)

/-- HELLO: E_M, N_M, FLAGS, and with BIND the fingerprint of the RING key (10 Table 10.7 step 1). -/
def State.helloMsg (bind : Bool) (s : State) : List Byte :=
  [1#8] ++ leBytes 49 s.freshNat ++ leBytes 16 s.tick.freshNat ++ leBytes 1 (b2n bind) ++
    if bind then leBytes 16 ((s.trust.nv.binding.map (·.2.toNat)).getD 0) else []

/-- A session that begins with HELLO (10 Table 10.7). -/
def State.newSess (bind : Bool) (s : State) : SessRun := { step := 1, bind := bind, msgs := s.helloMsg bind, startUp := s.clk.upNs }

/-- The digest of a session transcript (10 R276 Hk). -/
def SessRun.hash (m : List Byte) : BitVec 384 := Config.sha384 m

/-- The transcript after NODE_ID, whose digest is H3 (10 Table 10.7 step 2). -/
def SessRun.afterId (r : SessRun) (f : SessFrame) : List Byte := r.msgs ++ [2#8] ++ leBytes 49 f.point ++ leBytes 49 f.eph

/-- A key of a session: HKDF over Z, with N_M as salt and the label, SERIAL, the string, the address or phase, and H3 (10 R276,
R278). -/
def SessRun.keyOf (m : List Byte) (label : String) (serial str addr : Nat) : Nat :=
  Config.deriveKey (slice m 1 49 ++ m.drop (m.length - 49) ++ slice m 50 16 ++ ascii label ++ leBytes 8 serial ++ leBytes 1 str ++ leBytes 1 addr ++ leBytes 48 (SessRun.hash m).toNat)

/-- May a session go on after NODE_ID and NODE_SIG: the identity that ALLOWLIST gives, its signature over H3, and a BINDING token to
answer with (10 R276 to R278). -/
def State.partnerOk (ident : BitVec 128) (r : SessRun) (f : SessFrame) (s : State) : Bool :=
  Trust.fingerprint (leBytes 49 f.point) == ident && Config.ecdsaOk f.point (SessRun.hash (r.afterId f)) f.sig && s.trust.nv.binding.isSome

/-- MODULE_ID and MODULE_SIG: the DIK point with the binding's signature, then the DIK's signature over H5 and what follows it; `m` is
the transcript after NODE_SIG (10 Table 10.7 steps 4 and 5). -/
def State.moduleMsgs (gd : Bool) (m wrapped : List Byte) (s : State) : List Byte × List Byte :=
  let b := (s.trust.nv.binding.map (·.1)).getD []
  let id := [4#8] ++ leBytes 49 s.trust.nv.dikPt ++ slice b (if gd then 96 else 0) 96
  (id, [5#8] ++ leBytes 96 (Config.ecdsaSign 0 (SessRun.hash (m ++ id))) ++ wrapped)

/-- What DONE must carry: the CMAC under the key over H6 (10 Table 10.7 step 6). -/
def SessRun.doneMac (r : SessRun) : BitVec 128 := Config.cmac r.key (leBytes 48 (SessRun.hash r.msgs).toNat)

/-- A frame to a gate driver outside the DUTY stream: the comma K28.1, the body, the MAC under the session key, the check. The spec gives only the
comma and the key (10 R278; 17 R429; log 110). -/
def GdFrame.bytes (body : List Byte) (key : Option Nat) : List Byte :=
  let c := body ++ macField key body
  [0x3C#8] ++ c ++ leBytes 4 (crc32c c)

/-- Such a frame sent; a fenced member's transmitters are dark (09 R252). -/
def State.gdSend (n : Fin 8) (p : Fin 6) (what : String) (body : List Byte) (key : Option Nat) (s : State) : State :=
  s.when (!s.twin.fenceIn) (State.sendBytes .gateDriver (n * 6 + p) what (GdFrame.bytes body key))

/-- A command to a gate driver under its session key: opcode, length, payload (17 R429; log 110). -/
def State.gdCommand (n : Fin 8) (p : Fin 6) (opcode : BitVec 16) (payload : List Byte) (s : State) : State :=
  s.gdSend n p "COMMAND" (leBytes 2 opcode.toNat ++ leBytes 2 payload.length ++ payload) s.str[n].gd[p].key

/-- HELLO of a gate-driver session (10 R278, Table 10.7): BIND is set in the next session of a string named by BIND_RING. A zeroised module opens none
(R287). -/
def State.gdHello (n : Fin 8) (p : Fin 6) (s : State) : State :=
  if s.trust.keysErased then s.modGd n p fun g => { g with session := false, key := none, sess := none } else
  let b := bit s.trust.bindGd.toNat n
  (s.tick.tick.modGd n p fun g => { g with session := false, key := none, sess := some (s.newSess b) }).gdSend n p "SESSION" (s.helloMsg b) none

/-- New sessions with the six gate drivers of a string; BIND is then spent (10 R278). -/
def State.gdSessions (n : Fin 8) (s : State) : State :=
  (State.forEach [0, 1, 2, 3, 4, 5] (fun p => State.gdHello n p) s).modTrust fun t => { t with bindGd := setBit t.bindGd n false }

/-- GD_SESSION (10 R278): only strings in DISABLED, OFF, SHED, FAULT or SERVICE. -/
def Trust.gdSession (mask : Byte) : Write :=
  Write.cmd
    (fun _ s => if (stringsOf mask).all fun n => !(s.str[n].state == .precharge || s.str[n].state == .run || s.str[n].state == .hold) then 0 else 0x0A06)
    (fun c s => s.trustResult c mask.toNat)
    (State.forEach (stringsOf mask) State.gdSessions)

/-- GD_SESSION. -/
def execGdSession (q : Req) (mask : Byte) (s : State) : Host.Outcome State Fault Refusal := .next (s.hostWrite q (Trust.gdSession mask))

/-- BIND_RING (10 R277, R278): the service role; BIND in the next enumeration and the next gate-driver session of each string. -/
def Trust.bindCmd (mask : Byte) : Write :=
  Write.cmd (fun x s => firstCode [(s.roleOf x != .service, 0x0A07)]) (fun c s => s.trustResult c mask.toNat)
    fun s => s.modTrust fun t => { t with bindRing := t.bindRing ||| mask, bindGd := t.bindGd ||| mask }

/-- BIND_RING. -/
def execBindRing (q : Req) (mask : Byte) (s : State) : Host.Outcome State Fault Refusal := .next (s.hostWrite q (Trust.bindCmd mask))

/-- A gate-driver session fails: counted and recorded (10 R275, R278). -/
def State.gdAuthFail (n : Fin 8) (p : Fin 6) (s : State) : State :=
  ((s.modGd n p fun g => { g with session := false, key := none, sess := none }).bump 0x240104).emit 0x8A17 (Src.gd n p) [n, p]

/-- GD_SESSION_FRAME (10 R278): NODE_ID and NODE_SIG are checked against ALLOWLIST and answered with MODULE_ID and MODULE_SIG when a
BINDING token stands; DONE proves the key. Every deadline is 10 ms. -/
def execGdSessionFrame (n : Fin 8) (p : Fin 6) (f : SessFrame) (s : State) : Host.Outcome State Fault Refusal :=
  .next <|
    match s.str[n].gd[p].sess with
    | none => s
    | some r =>
      if s.since r.startUp > 10000000 then s.gdAuthFail n p
      else if r.step = 1 ∧ f.step = 2 then
        if s.partnerOk (s.img.cfg.gdIdent n p) r f then
          let m := r.afterId f
          let a := s.moduleMsgs true (m ++ [3#8] ++ f.sig) []
          let run : SessRun := { r with step := 5, msgs := m ++ [3#8] ++ f.sig ++ a.1 ++ a.2, key := SessRun.keyOf m "LX-GD-LINK" s.ident.serial.toNat n p, startUp := s.clk.upNs }
          ((s.modGd n p fun g => { g with sess := some run }).gdSend n p "SESSION" a.1 none).gdSend n p "SESSION" a.2 none
        else s.gdAuthFail n p
      else if r.step = 5 ∧ f.step = 6 then
        if f.mac == r.doneMac
        then (s.modGd n p fun g => { g with session := true, key := some r.key, sess := none }).gdCommand n p 0x0040 []
        else s.gdAuthFail n p
      else s.gdAuthFail n p

/-- The role that a member reports (09 Table 9.1; 10 Table 10.9). -/
def Role.code : Role → Nat
  | .alone => 0 | .active => 1 | .standby => 2 | .unsynced => 3 | .fenced => 4

/-- The attestation message up to SIGNATURE (10 Table 10.9). -/
def State.attestBody (nonce : Nat) (s : State) : List Byte :=
  let t := s.trust
  let flags := maskOf [s.clk.tscValid, t.nv.owner == .owned, t.nv.tampered, t.policyReport, t.nv.lock, t.bankFallback, s.img.cfg.paired]
  leBytes 4 0x41545458 ++ leBytes 2 1 ++ leBytes 2 0x320 ++ leBytes 8 s.ident.serial.toNat ++ leBytes 32 nonce ++ leBytes 8 s.now ++ leBytes 4 flags ++ leBytes 4 t.nv.bootCount.toNat ++
    leBytes 4 s.ident.version.toNat ++ leBytes 4 t.nv.secVersion.toNat ++ leBytes 4 t.nv.ownerGen.toNat ++ leBytes 1 s.twin.role.code ++ leBytes 1 (b2n s.memberIx) ++
    leBytes 1 ((s.img.profActive.map (·.toNat)).getD 0) ++ leBytes 1 0 ++ (t.meas.toList.map fun d => leBytes 48 d.toNat).flatten ++ leBytes 48 s.img.cur.hdr.digest.toNat ++
    leBytes 48 (if s.img.stg.valid then s.img.stg.hdr.digest.toNat else 0) ++ leBytes 4 s.saf.a.profCrc.toNat ++ leBytes 4 s.saf.b.profCrc.toNat ++
    leBytes 48 (Config.sha384 ((t.nv.roots.map fun r => leBytes 16 r.id.toNat).flatten)).toNat ++ leBytes 16 t.nv.rsk.toNat ++ leBytes 48 s.hist.nv.headLink.toNat ++
    leBytes 8 s.hist.nv.headSeg ++ leBytes 16 0

/-- ATTEST (10 R281): any role; the DIK signs; a zeroised module signs nothing (R287). -/
def execAttest (q : Req) (nonce : Nat) (s : State) : Host.Outcome State Fault Refusal :=
  .next <| s.withReq q 0x07 (fun _ => true) fun _ s =>
    if s.trust.nv.owner == .zeroised then s.refuseReq q 0x0A0A
    else s.reply q 0 (s.attestBody nonce ++ s.signWith 0 (s.attestBody nonce))

/-! ### Tamper and the backup cell -/

/-- The trust store without a key: what the TRK wrapped is lost for good (10 R287, Table 10.1). -/
def TrustNv.keyless (v : TrustNv) : TrustNv :=
  { v with owner := .zeroised, trk := false, roots := [], keys := [], bindings := [], dikPt := 0, rsk := 0, tlsPt := 0 }

/-- The TRK is erased: every key of the store and every session key is cleared, every session and every SESSION exchange ends, nothing is signed
again (10 R286, R287). -/
def State.zeroise (s : State) : State :=
  let s := s.modTrust fun t => { t with keysErased := true, nv := t.nv.keyless, pending := none, pendRaw := [], pendTarget := none, pendGo := false, pendingReady := none, peerToken := none, peerGo := false }
  let s := s.mapAllStr fun _ e => { e with gd := Vec.updAll e.gd fun _ g => { g with key := none, session := false, sess := none } }
  let s := s.mapAllRing fun _ r => { r with bcastKey := none, enumRun := r.enumRun.map fun e => { e with sess := none }, nodes := Vec.updAll r.nodes fun _ k => { k with key := none } }
  let s := s.modTwin fun t => { t with ownKey := none, peerKey := none, nextOwn := none, nextPeer := none, rekeyAt := none }
  s.closeWhere fun _ => true

/-- TAMPER_DETECTED (10 R285, R286): ZEROISE is the default and applies while UNOWNED; else REPORT. -/
def execTamperDetected (source rtc : Nat) (s : State) : Host.Outcome State Fault Refusal :=
  .next <|
    let s := (s.modTrust fun t => { t with tamperLog := (t.tamperLog ++ [(source, rtc)]).drop (t.tamperLog.length - 7) }).bump 0x240114
    if s.trust.policyReport && s.trust.nv.owner != .unowned
    then (s.modTrust fun t => { t with nv := { t.nv with tampered := true } }).emit 0xCA1A 0x0F0 [source]
    else (s.zeroise.emit 0xCA1A 0x0F0 [source]).emit 0xCA1B 0x050 []

/-- BACKUP_LOW (10 R289): below 2.7 V, recorded once for each fall. -/
def execBackupLow (mv : BitVec 16) (s : State) : Host.Outcome State Fault Refusal :=
  .next <|
    let fresh := !s.trust.backupLow && mv.toNat < 2700
    (s.modTrust fun t => { t with backupMv := mv, backupLow := mv.toNat < 2700 }).when fresh (State.emit 0x4A14 0x0F0 [mv.toNat])

/-- BACKUP_FAIL (10 R289): below 2.4 V, or the charger fails. -/
def execBackupFail (mv : BitVec 16) (charger : Bool) (s : State) : Host.Outcome State Fault Refusal :=
  .next <|
    let bad := charger || mv.toNat < 2400
    let fresh := !s.trust.backupFail && bad
    (s.modTrust fun t => { t with backupMv := mv, backupFail := bad }).when fresh (State.emit 0x8A19 0x0F0 [mv.toNat, b2n charger])

end Sys2Proof.Machine
end

