-- ==== Sys2Proof/Machine/Host.lean ====
section
/-! DEFINITION. Host ports, TLS sessions, subscriptions, notes and the opening and filling of block transfers (spec 12, R317-R333;
spec 10, R280). -/

namespace Sys2Proof.Machine

/-- One host port changed; the console is no host port. -/
def State.modPort (p : HostPort) (f : LinkPort → LinkPort) (s : State) : State :=
  match p with
  | .a => s.modHost fun h => { h with portA := f h.portA }
  | .b => s.modHost fun h => { h with portB := f h.portB }
  | .console => s

/-- The state of a host port. -/
def State.portOf (p : HostPort) (s : State) : LinkPort :=
  match p with
  | .a => s.host.portA
  | .b => s.host.portB
  | .console => {}

/-- What the port's module shows for a cause (12 R318, Table 12.8). -/
def LinkPort.cause (why : LinkDown) (l : LinkPort) : LinkPort :=
  match why with
  | .los => { l with los := true }
  | .lock => l
  | .unfitted => { l with fitted := false, los := false }

/-- HOST_LINK_DOWN (12 R318): recorded, counted, every session of the port closed. -/
def execHostLinkDown (p : HostPort) (why : LinkDown) (s : State) : Host.Outcome State Fault Refusal :=
  .next <|
    let up := (s.portOf p).up
    let s := s.modPort p fun l => { l.cause why with up := false }
    if up
    then ((s.bump 0x03020C).emit 0x4C32 0x080 [b2n (p == .b)]).closeWhere fun x => x.port == p
    else s

/-- HOST_LINK_UP (12 R318). -/
def execHostLinkUp (p : HostPort) (s : State) : Host.Outcome State Fault Refusal :=
  .next (s.modPort p fun l => { l with up := true, fitted := true, los := false })

/-- HOST_FRAME_DISCARD (12 R317): counted. -/
def execHostFrameDiscard (_p : HostPort) (s : State) : Host.Outcome State Fault Refusal := .next (s.bump 0x030214)

/-- Sessions on the two host ports (12 R319). -/
def State.tlsSessions (s : State) : Nat := (s.host.sessions.filter fun x => x.port != .console).length

/-- The first free session slot (12 Table 12.7). -/
def State.freeSlot (s : State) : Nat := ((List.range 8).find? fun i => !(s.host.sessions.any fun x => x.id == i)).getD 8

/-- The tolerance of certificate validity while TSC_VALID is clear: 7 days (10 R280). -/
def State.tolerance (s : State) : Nat := if s.clk.tscValid then 0 else 7 * 86400 * 1000000000

/-- Is a client chain valid now: signer, signature, usage, validity, not revoked (10 Table 10.8). -/
def State.chainOk (c : TlsConn) (s : State) : Bool :=
  let signer := s.trust.nv.root c.signer <|> s.trust.nv.ownerKey c.signer 3
  1 ≤ c.certs && c.certs ≤ 2 && ((signer.map fun k => Config.ecdsaOk k c.digest c.sig).getD false) && c.digSig &&
    c.notBefore ≤ s.now + s.tolerance && s.now ≤ c.notAfter + s.tolerance && !s.trust.nv.revoked.contains (c.serial, c.signer)

/-- A handshake or chain refused (10 R275, Table 10.13). -/
def State.tlsRefused (c : TlsConn) (s : State) : State :=
  (s.bump 0x24010C).emit 0x4A15 0x080 [b2n (c.port == .b), c.ident]

/-- A hexadecimal digit. DESIGN CHOICE (log 139): capital letters. -/
def hexDigit (d : Nat) : Byte := BitVec.ofNat 8 (if d < 10 then 48 + d else 55 + d)

/-- The serial in 16 hexadecimal digits, the highest first: the subject CN of the server certificate (10 Table 10.8). -/
def State.serialHex (s : State) : List Byte := (List.range 16).map fun i => hexDigit (s.ident.serial.toNat / 16 ^ (15 - i) % 16)

/-- The certificates that the server sends: that of the TLS key by the DIK, then the device certificate (10 Table 10.8). -/
def State.serverChain (s : State) : List Byte :=
  Config.tlsCert s.trust.nv.dikPt s.trust.nv.tlsPt s.serialHex ++ Config.deviceCert s.trust.nv.dikPt

/-- TLS_CONNECT (10 R280, 12 R319): the handshake's own checks, one HelloRetryRequest where the client sent no share of the group, the server's chain; then
the session limit after the server Finished, then the client's chain. -/
def execTlsConnect (c : TlsConn) (s : State) : Host.Outcome State Fault Refusal :=
  .next <|
    if s.pwr.quiesced || !(s.portOf c.port).up || s.trust.nv.owner != .owned || s.trust.bootHalt then s
    else if !(c.tls13 && c.suiteOk) then s.tlsRefused c
    else
    let s := s.when (!c.share) (State.send .lhp 8 "HELLO_RETRY_REQUEST" [])
    if !(c.groupOk && c.sigAlgOk) then s.tlsRefused c
    else
    let s := s.sendBytes .lhp 8 "CERTIFICATE" s.serverChain
    if s.tlsSessions ≥ 8 then (s.bump 0x030200).send .lhp 8 "ALERT_USER_CANCELED" []
    else
      match c.ou with
      | none => s.tlsRefused c
      | some r =>
        if s.chainOk c
        then s.modHost fun h => { h with sessions := h.sessions ++ [{ id := s.freeSlot, role := r, port := c.port, ident := c.ident, provisional := !s.clk.tscValid, rootId := c.signer, certSerial := c.serial, notBefore := c.notBefore, notAfter := c.notAfter, idleUp := s.clk.upNs }] }
        else s.tlsRefused c

/-- TLS_KEY_UPDATE (10 Table 10.8). -/
def execTlsKeyUpdate (session : Nat) (s : State) : Host.Outcome State Fault Refusal :=
  .next <|
    if (s.session session).isSome
    then (s.modSession session fun x => { x with records := 0 }).send .lhp session "KEY_UPDATE" [] else s

/-- TLS_SESSION_CLOSED (12 R319). -/
def execTlsSessionClosed (session : Nat) (s : State) : Host.Outcome State Fault Refusal := .next (s.closeSession session)

/-- SESSION_IDLE_TIMEOUT (12 R326): 30 s with no message. -/
def execSessionIdleTimeout (session : Nat) (s : State) : Host.Outcome State Fault Refusal :=
  .next <|
    match s.session session with
    | none => s
    | some x => if s.since x.idleUp ≥ 30000000000 then s.closeSession session else s

/-- UNDEFINED_MESSAGE (12 R324): LHP_FORMAT, or the session closed for a LEN above 65,544. -/
def execUndefinedMessage (q : Req) (type len : Nat) (s : State) : Host.Outcome State Fault Refusal :=
  .next <|
    if len > 65544 then (s.send .lhp q.session "ALERT_DECODE_ERROR" []).closeSession q.session
    else s.withReq q (type % 0x80) (fun _ => true) fun _ s => s.refuseReq q 0x0C01

/-- KEEPALIVE (12 R326). -/
def execKeepalive (q : Req) (s : State) : Host.Outcome State Fault Refusal :=
  .next (s.withReq q 0x0C (fun _ => true) fun _ s => s.reply q 0 [])

/-- SUBSCRIBE (12 R333): MIN_CLASS 0 to 3, or 0xFF to end; another value is a format error (log 22). -/
def execSubscribe (q : Req) (minClass : Byte) (s : State) : Host.Outcome State Fault Refusal :=
  .next <| s.withReq q 0x0B (fun _ => true) fun _ s =>
    if minClass.toNat ≤ 3 then (s.modSession q.session fun x => { x with minClass := some minClass }).reply q 0 []
    else if minClass = 0xFF then (s.modSession q.session fun x => { x with minClass := none, skipped := 0 }).reply q 0 []
    else s.refuseReq q 0x0C01

/-- NOTE (11 R299, R300, 12 Table 12.1): 1 to 4,000 bytes, admitted as HOST_NOTE, in a formed pair answered once the twin holds it, or refused
with the intake's code. -/
def execNote (q : Req) (text : List Byte) (s : State) : Host.Outcome State Fault Refusal :=
  .next <| s.withReq q 0x0A HostRole.mayWrite fun _ s =>
    if text.length = 0 ∨ text.length > 4000 then s.refuseReq q 0x0C01
    else
      let a := s.admitAt 0x30 0x080 s.now 0 text
      if a.1 ≠ 0 then a.2.refuseReq q a.1
      else if a.2.paired then a.2.modHist fun h => { h with twinWait := h.twinWait.map fun w => if some w.rseq = ((h.twinWait.filter fun v => v.kind == 0x30).getLast?).map (·.rseq) then { w with req := some q } else w }
      else a.2.reply q 0 []

/-! ### Block transfers -/

/-- The open transfer of a target. -/
def State.xfer (target : Nat) (s : State) : Option XferDesc := s.host.xfers.find? fun t => t.target.toNat == target

/-- One transfer changed. -/
def State.modXfer (target : Nat) (f : XferDesc → XferDesc) (s : State) : State :=
  s.modHost fun h => { h with xfers := h.xfers.map fun t => if t.target.toNat == target then f t else t }

/-- The transfer of a target ended. -/
def State.dropXfer (target : Nat) (s : State) : State :=
  s.modHost fun h => { h with xfers := h.xfers.filter fun t => t.target.toNat != target }

/-- May a role open or feed a transfer to a target: OPERATE for IMAGE and TOKEN, SERVICE for all (12 Table 12.1). -/
def HostRole.mayXfer (r : HostRole) (target : Nat) : Bool := r == .service || (r == .operate && (target == 1 || target == 3))

/-- Is TOTAL within the target's range (12 Table 12.3). -/
def Xfer.totalOk (target total : Nat) : Bool :=
  match target with
  | 1 => 256 ≤ total && total ≤ 16 * 1024 * 1024
  | 2 => 1 ≤ total && total ≤ 64 * 1024 * 1024
  | 3 => 152 ≤ total && total ≤ 4096
  | _ => false

/-- The staged slot is overwritten from now on: not valid, no plan, no match with the twin; a completed plan can no longer be reversed (02
R43, R54). -/
def State.beginImageLoad (s : State) : State :=
  (s.modImg fun i => { i with stg := {}, plan := .none, peerMatch := false, loading := true }).modJrn fun j => { j with stepsDone := 0, planOpen := false }

/-- A refused image load, command or step: result, counter, record (02 R41, R63). -/
def State.imgRefused (code detail : Nat) (s : State) : State :=
  ((s.modImg fun i => { i with resCode := BitVec.ofNat 16 code, resDetail := BitVec.ofNat 16 detail }).bump 0x040014).emit 0x4153 0x050 [code, detail]

/-- UPD_RESULT and the count of a refused package or command (17). -/
def State.updRefused (code detail : Nat) (s : State) : State :=
  (s.modUpd fun u => { u with resCode := BitVec.ofNat 16 code, resDetail := BitVec.ofNat 16 detail }).bump 0x440100

/-- May a role send a block message naming this target at all (12 R322, Table 12.1): READ none, OPERATE not the package's; a target that
does not exist is left to the later checks. -/
def HostRole.mayBlock (r : HostRole) (target : Nat) : Bool := r.mayXfer target || (r != .read && (target == 0 || target > 3))

/-- BLOCK_BEGIN (12 R331, R332): role, target and TOTAL, then the test of the target before any byte is written (02 R43; 17 Table
17.4), then a transfer that belongs to another identity. -/
def execBlockBegin (q : Req) (target : Nat) (restart : Bool) (total : Nat) (digest : BitVec 384) (s : State) : Host.Outcome State Fault Refusal :=
  .next <| s.withReq q 0x03 (fun r => r.mayBlock target) fun x s =>
    let other := ((s.xfer target).map fun t => t.ident != x.ident).getD false
    if !Xfer.totalOk target total then s.refuseReq q 0x0C01
    else if other && !(restart && s.roleOf x == .service) then s.refuseReq q 0x0C0B
    else if target = 1 ∧ (s.img.plan = .partly ∨ s.img.plan = .pending) then (s.imgRefused 0x010A 0).refuseReq q 0x010A
    else if target = 2 ∧ s.trust.nv.lock then (s.updRefused 0x0401 0).refuseReq q 0x0401
    else
      let s := s.when (target == 1) State.beginImageLoad
      ((s.dropXfer target).modHost fun h => { h with xfers := h.xfers ++ [{ target := BitVec.ofNat 2 target, total := total, digest := digest, ident := x.ident }] }).reply q 0 []

/-- Does a block keep the rule of 12 R331: its offset, its size, and within TOTAL. -/
def Xfer.blockOk (total offset len : Nat) : Bool :=
  offset % 65536 == 0 && 1 ≤ len && len ≤ 65536 && offset + len ≤ total && (len == 65536 || offset + len == total)

/-- BLOCK_DATA (12 R331, R332): a block again at the same offset replaces the earlier one. -/
def execBlockData (q : Req) (target offset : Nat) (data : List Byte) (s : State) : Host.Outcome State Fault Refusal :=
  .next <| s.withReq q 0x04 (fun r => r.mayBlock target) fun x s =>
    match s.xfer target with
    | none => s.refuseReq q 0x0C0C
    | some t =>
      if t.ident != x.ident then s.refuseReq q 0x0C0C
      else if !Xfer.blockOk t.total offset data.length then s.refuseReq q 0x0C09
      else (s.modXfer target fun t => { t with lostUp := none, blocks := Sparse.put t.blocks (offset / 65536) data }).reply q 0 []

/-- The bytes a transfer holds, in order. -/
def XferDesc.bytes (t : XferDesc) : List Byte := (t.blocks.map (·.2)).flatten

/-- TRANSFER_EXPIRY (12 R332): 10 min without a session. -/
def execTransferExpiry (target : Nat) (s : State) : Host.Outcome State Fault Refusal :=
  .next <|
    match s.xfer target with
    | none => s
    | some t =>
      match t.lostUp with
      | none => s
      | some u => if s.since u ≥ 600000000000 then (s.dropXfer target).when (target == 1) fun s => s.modImg fun i => { i with loading := false } else s

/-- FORGET_IDENTITY (12 R320): the service role; an index that holds no identity names nothing. -/
def HostIf.forget (index : Nat) : Write :=
  Write.cmd (fun x s => firstCode [(s.roleOf x != .service, 0x0C02), (!(s.jrn.idents.any fun h => h.slot == index), 0x0C12)])
    (fun c s => s.modHost fun h => { h with resCode := BitVec.ofNat 16 c })
    fun s => s.modJrn fun j => { j with idents := j.idents.filter fun h => h.slot != index }

/-- FORGET_IDENTITY. -/
def execForgetIdentity (q : Req) (index : Nat) (s : State) : Host.Outcome State Fault Refusal := .next (s.hostWrite q (HostIf.forget index))

end Sys2Proof.Machine
end

