-- ==== Sys2Proof/Machine/Time.lean ====
section
/-! DEFINITION. The time-stamp counter and PTP (spec 01, R19-R21; spec 12, R334-R340). -/

namespace Sys2Proof.Machine

/-! ### The counter -/

/-- One 2 ns tick: the increment, and of the correction at most 0.002 ns (01 The time-stamp counter, R19; log 1). -/
def Clock.tick (c : Clock) : Clock :=
  let step : Int := clampI (-8589934) 8589934 c.slewRem
  { c with tscFix := ((c.tscFix : Int) + c.incr.toNat + step).toNat % 2 ^ 96, slewRem := c.slewRem - step, upNs := c.upNs + 2 }

/-- Nanoseconds as the slew's unit of 2^-32 ns. -/
def Clock.fix (ns : Int) : Int := ns * 2 ^ 32

/-- Would a correction of `ns` make the remainder exceed ±1 s (01 R19). -/
def State.tooLarge (ns : Int) (s : State) : Bool :=
  let r := s.clk.slewRem + Clock.fix ns
  r > Clock.fix 1000000000 || r < -Clock.fix 1000000000

/-- A phase correction: added to the remainder, or refused, counted and recorded (01 R19). -/
def State.correct (ns : Int) (s : State) : Nat × State :=
  if s.tooLarge ns then (0x0C20, (s.bump 0x020108).emit 0x8C36 0x090 [ns])
  else (0, s.modClk fun c => { c with slewRem := c.slewRem + Clock.fix ns })

/-- Does a report of this kind go before another of the same instant: TIME_SET reports under source 0x080, PTP under 0x090 (01 R25). -/
def SrcKind.wins : SrcKind → SrcKind → Bool
  | .timeSet, .ptp => true
  | _, _ => false

/-- A report requests the single set: the request that comes first in R25 order takes it, and a TIME_SET that does not waits for its
correction (01 R20; 12 R340). -/
def State.requestSet (r : TimeReport) (s : State) : State :=
  let wait (x : TimeReport) (s : State) : State := if x.kind = .timeSet then s.modClk fun c => { c with setWait := c.setWait ++ [x] } else s
  match s.clk.setReq with
  | none => s.modClk fun c => { c with setReq := some r }
  | some x =>
    if r.atUp = x.atUp && r.kind.wins x.kind then wait x (s.modClk fun c => { c with setReq := some r })
    else wait r s

/-- TIME_SET (12 R340). -/
def execTimeSet (q : Req) (tai : Nat) (s : State) : Host.Outcome State Fault Refusal :=
  .next <| s.withReq q 0x09 HostRole.mayWrite fun _ s =>
    if s.ptp.servo && s.ptp.locked then s.refuseReq q 0x0C21
    else if !s.leads then s.refuseReq q 0x0C08
    else
      let r : TimeReport := { kind := .timeSet, value := tai, atUp := s.clk.upNs, req := some q }
      if !s.clk.tscValid then s.requestSet r
      else
        let a := s.correct ((tai : Int) - s.now)
        if a.1 = 0 then a.2.reply q 0 [] else a.2.refuseReq q a.1

/-- One Ring idled by a backward single set: no BEACON until it is enumerated (04 R103). -/
def State.stepRing (old new : Nat) (n : Fin 8) (s : State) : State :=
  ((s.modSense n fun r => { r with enumNeeded := true }).modRing n fun r => { r with mode := .idle }).emit 0x8318 (Src.ring n) (ints [old, new])

/-- A single set of the TSC: a backward one idles every CLOSED or SPLIT Ring, with a record per Ring, or one under Ring port 0 where none
is (04 R103). -/
def State.chorusTimeStep (old new : Nat) (s : State) : State :=
  let hit := (List.finRange 8).filter fun n => s.ring[n].mode == .closed || s.ring[n].mode == .split
  if old ≤ new then s
  else if hit.isEmpty then s.emit 0x8318 0x020 (ints [old, new])
  else State.forEach hit (State.stepRing old new) s

/-- A TIME_SET that waited for the set becomes a phase correction and is answered (12 R340). -/
def State.waitedSet (r : TimeReport) (s : State) : State :=
  let a := s.correct (r.value + (s.since r.atUp : Int) - s.now)
  match r.req with
  | none => a.2
  | some q => if a.1 = 0 then a.2.reply q 0 [] else a.2.refuseReq q a.1

/-- TSC_SET (01 R20): at a whole millisecond the first-requested report sets the TSC once; the record of the set, TSC_VALID, the
PROVISIONAL chains checked again (10 R280), a TIME_SET answered (12 R340). -/
def execTscSet (s : State) : Host.Outcome State Fault Refusal :=
  .next <|
    match s.clk.setReq, s.clk.tscValid with
    | some r, false =>
      let old := s.now
      let new := (r.value + (s.since r.atUp : Int)).toNat
      let s := s.modClk fun c => { c with tscFix := new * 2 ^ 32, setReq := none, cycleT0 := new / 1000000 * 1000000, cycleNo := new / 1000000 }
      let s := s.emit 0x0C31 0x090 (ints [old, new])
      let s := (s.modClk fun c => { c with tscValid := true }).chorusTimeStep old new
      let bad (x : Session) := x.provisional && !(x.notBefore ≤ new && new ≤ x.notAfter && !s.trust.nv.revoked.contains (x.certSerial, x.rootId))
      let s := (s.closeWhere bad).modHost fun h => { h with sessions := h.sessions.map fun x => { x with provisional := false } }
      let s := match r.req with
        | none => s
        | some q => s.reply q 0 []
      (State.forEach s.clk.setWait State.waitedSet s).modClk fun c => { c with setWait := [] }
    | _, _ => s

/-! ### PTP messages -/

/-- A discarded PTP message, counted (12 Table 12.9). -/
def State.ptpBad (s : State) : State := s.bump 0x02010C

/-- The fixed correction and the asymmetry of a port's ingress timestamp, in 0.25 ns (12 R335, Table 12.6). -/
def State.ingress (p : HostPort) (raw : Int) (s : State) : Int :=
  let fast := bit s.img.cfg.io.portFast.toNat (b2n (p == .b))
  let asym := signed 16 (if p == .b then s.ptp.asymB else s.ptp.asymA).toNat
  raw - (if fast then 194 else 848) + asym

/-- The fixed correction and the asymmetry of a port's egress timestamp, in 0.25 ns (12 R335, Table 12.6). -/
def State.egress (p : HostPort) (raw : Int) (s : State) : Int :=
  let fast := bit s.img.cfg.io.portFast.toNat (b2n (p == .b))
  let asym := signed 16 (if p == .b then s.ptp.asymB else s.ptp.asymA).toNat
  raw + (if fast then 144 else 656) - asym

/-- Does a message belong to the instance: transport, profile and domain of IO (12 Table 12.5). -/
def State.ptpMine (ok : Bool) (domain : BitVec 8) (s : State) : Bool := ok && domain == s.img.cfg.io.ptpDomain

/-- The port in SLAVE. -/
def Ptp.slavePort (p : Ptp) : HostPort := if p.portB then .b else .a

/-- The increment after the frequency ratio over the last 16 intervals, changed by at most 100 ppm of nominal (12 R336). -/
def Ptp.steeredIncr (p : Ptp) (incr : Nat) : Nat :=
  match p.syncs.head?, p.syncs.getLast? with
  | some a, some b =>
    if p.syncs.length < 17 ∨ b.2 - a.2 ≤ 0 then incr
    else
      let want : Int := roundQ ((incr : Rat) * ((b.1 - a.1 : Int) : Rat) / ((b.2 - a.2 : Int) : Rat))
      (clampI ((incr : Int) - 858993) ((incr : Int) + 858993) want).toNat
  | _, _ => incr

/-- LOCKED and its record (12 R336): set after 16 Syncs below 100 ns, cleared after 16 at or above it. -/
def State.lockUpdate (ofs : Int) (s : State) : State :=
  let good := -400 < ofs ∧ ofs < 400
  let s := s.modPtp fun p => if good then { p with goodRun := p.goodRun + 1, badRun := 0 } else { p with goodRun := 0, badRun := p.badRun + 1 }
  let can := s.ptp.servo && s.leads && !s.ptp.holdover && s.clk.tscValid
  if can && !s.ptp.locked && s.ptp.goodRun ≥ 16 then (s.modPtp fun p => { p with locked := true }).emit 0x0C30 0x090 []
  else if s.ptp.badRun ≥ 16 then s.modPtp fun p => { p with locked := false }
  else s

/-- The servo's work at a Sync: the increment, and the net correction where it exceeds 50 ns (12 R336). -/
def State.steer (ofs : Int) (s : State) : State :=
  let s := s.modClk fun c => { c with incr := BitVec.ofNat 40 (s.ptp.steeredIncr c.incr.toNat) }
  let net : Int := -(ofs * 2 ^ 30) - s.clk.slewRem
  if net > 50 * 2 ^ 32 ∨ net < -(50 * 2 ^ 32)
  then (s.correct (net / 2 ^ 32)).2
  else s

/-- The offset of a new master is judged after 16 Syncs: slewed, held pending, or refused (12 R339). -/
def State.judgeMaster (ofs : Int) (s : State) : State :=
  let ns : Int := ofs / 4
  let s := (s.emit 0x4C34 0x090 [(s.ptp.oldGmId.toNat : Int), (s.ptp.gmId.toNat : Int), ns]).bump 0x020104
  let s := s.modPtp fun p => { p with newMaster := false }
  if -1000000 ≤ ns ∧ ns ≤ 1000000 then (s.modPtp fun p => { p with holdover := false }).steer ofs
  else s.modPtp fun p => { p with masterPending := true, pendOfs := ofs }

/-- One Sync measured (12 R336): the offset, the report for the single set after 16, then the servo. -/
def State.syncMeasured (t1 t2 : Int) (s : State) : State :=
  let ofs := t2 - t1 - s.ptp.pathDelay
  let s := s.modPtp fun p => { p with masterOfs := satInt 32 ofs, lastSync := some (t1, t2), syncs := (p.syncs ++ [(t1, t2)]).drop (p.syncs.length - 16) }
  let full := s.ptp.syncs.length ≥ 16
  if !s.ptp.servo then s
  else if !s.leads then s
  else if !s.clk.tscValid then
    s.when full (State.requestSet { kind := .ptp, value := (s.now : Int) - ofs / 4, atUp := s.clk.upNs })
  else if s.ptp.newMaster then (if full then (s.judgeMaster ofs).lockUpdate ofs else s)
  else if s.ptp.masterPending then s
  else
    let s := s.when s.ptp.holdover fun s => if full then s.modPtp fun p => { p with holdover := false } else s
    if s.ptp.holdover then s else (s.steer ofs).lockUpdate ofs

/-- The port states that follow the choice: SLAVE (UNCALIBRATED until a Sync has come and the offset is judged) and PASSIVE or LISTENING (12 Table 12.8). -/
def State.ptpPorts (s : State) : State :=
  let st (has slave : Bool) : BitVec 8 := if slave && has then (if s.ptp.newMaster || s.ptp.syncs.isEmpty then 3 else 4) else if has then 2 else 1
  s.modHost fun h => { h with portA := { h.portA with ptpState := st s.ptp.annA.isSome (s.ptp.gmId != 0 && !s.ptp.portB) }, portB := { h.portB with ptpState := st s.ptp.annB.isSome (s.ptp.gmId != 0 && s.ptp.portB) } }

/-- PTP_SYNC_RECEIVED (12 R334-R336): a Sync of the adopted master on the port in SLAVE. -/
def execPtpSyncReceived (m : PtpMsg) (s : State) : Host.Outcome State Fault Refusal :=
  .next <|
    if !(s.ptpMine m.transportOk m.domain) then s.ptpBad
    else if m.port != s.ptp.slavePort || m.source != s.ptp.gmId || s.ptp.gmId == 0 then s.ptpBad
    else if m.twoStep then s.modPtp fun p => { p with twoStep := some (s.ingress m.port m.raw) }
    else (s.syncMeasured m.t1 (s.ingress m.port m.raw)).ptpPorts

/-- PTP_FOLLOW_UP (12 R334): the origin time of the two-step Sync. -/
def execPtpFollowUp (m : PtpMsg) (s : State) : Host.Outcome State Fault Refusal :=
  .next <|
    if !(s.ptpMine m.transportOk m.domain) || m.source != s.ptp.gmId then s.ptpBad
    else
      match s.ptp.twoStep with
      | none => s.ptpBad
      | some t2 => ((s.modPtp fun p => { p with twoStep := none }).syncMeasured m.t1 t2).ptpPorts

/-- PTP_DELAY_REQ_DUE (12 Table 12.5): Delay_Req, or Pdelay_Req on the power profile. -/
def execPtpDelayReqDue (raw : Int) (s : State) : Host.Outcome State Fault Refusal :=
  .next <|
    let t := s.egress s.ptp.slavePort raw
    (s.modPtp fun p => { p with delayTx := some t }).send .ptp (b2n s.ptp.portB)
      (if s.img.cfg.io.ptpProfile == .power then "PDELAY_REQ" else "DELAY_REQ") [t]

/-- PTP_DELAY_RESP (12 R334): the mean path delay, or the peer delay on the power profile. -/
def execPtpDelayResp (m : PtpMsg) (s : State) : Host.Outcome State Fault Refusal :=
  .next <|
    if !(s.ptpMine m.transportOk m.domain) then s.ptpBad
    else
      match s.ptp.delayTx with
      | none => s.ptpBad
      | some t3 =>
        let s := s.modPtp fun p => { p with delayTx := none }
        if s.img.cfg.io.ptpProfile == .power
        then s.modPtp fun p => { p with pathDelay := (((s.ingress m.port m.raw - t3) - (m.t2 - m.t1)) / 2).toNat }
        else
          match s.ptp.lastSync with
          | none => s
          | some (t1, t2) => s.modPtp fun p => { p with pathDelay := (((t2 - t1) + (m.t1 - t3)) / 2).toNat }

/-- PTP_PDELAY_REQ (12 Table 12.5): answered two-step on the power profile, else discarded and counted. -/
def execPtpPdelayReq (m : PtpMsg) (s : State) : Host.Outcome State Fault Refusal :=
  .next <|
    if s.ptpMine m.transportOk m.domain && s.img.cfg.io.ptpProfile == .power
    then (s.send .ptp (b2n (m.port == .b)) "PDELAY_RESP" [s.ingress m.port m.raw]).send .ptp (b2n (m.port == .b)) "PDELAY_RESP_FOLLOW_UP"
      [s.egress m.port (s.now * 4)]
    else s.ptpBad

/-- Is announce `a` better than `b`: the standard's order of the data sets (12 Table 12.5). -/
def PtpAnn.better (a b : PtpAnn) : Bool :=
  let key (x : PtpAnn) : List Nat := [x.prio1, x.cls, x.accuracy, x.variance, x.prio2, x.gm.toNat, x.steps, b2n (x.port == .b)]
  let rec lt : List Nat → List Nat → Bool
    | x :: t, y :: u => x < y || (x == y && lt t u)
    | _, _ => false
  lt (key a) (key b)

/-- The best announce of the two ports. -/
def Ptp.best (p : Ptp) : Option PtpAnn :=
  match p.annA, p.annB with
  | some a, some b => if a.better b then some a else some b
  | some a, none => some a
  | none, b => b

/-- PTP_ANNOUNCE (12 R334, R339): a new grandmaster is adopted only at or below CLASS_MAX; the servo then measures it over 16 Syncs
with the TSC in holdover. -/
def execPtpAnnounce (m : PtpAnn) (s : State) : Host.Outcome State Fault Refusal :=
  .next <|
    if !(s.ptpMine m.transportOk m.domain) then s.ptpBad
    else
      let s := s.modPtp fun p => if m.port == .b then { p with annB := some m } else { p with annA := some m }
      match s.ptp.best with
      | none => s
      | some b =>
        if b.gm == s.ptp.gmId then (s.modPtp fun p => { p with gmClass := BitVec.ofNat 8 b.cls, portB := b.port == .b }).ptpPorts
        else if b.cls > s.img.cfg.io.ptpClassMax.toNat then s.ptpPorts
        else
          (s.modPtp fun p => { p with oldGmId := p.gmId, gmId := b.gm, gmClass := BitVec.ofNat 8 b.cls, portB := b.port == .b, newMaster := p.gmId != 0, masterPending := false, holdover := true, locked := false, syncs := [], goodRun := 0, badRun := 0 }).ptpPorts

/-- PTP_MASTER_LOST (12 R338). -/
def execPtpMasterLost (s : State) : Host.Outcome State Fault Refusal :=
  .next <|
    (((s.modPtp fun p => { p with holdover := true, locked := false, syncs := [], goodRun := 0, twoStep := none, annA := if p.portB then p.annA else none, annB := if p.portB then none else p.annB }).bump 0x020100).emit
      0x4C33 0x090 [s.ptp.gmId.toNat]).ptpPorts

/-! ### Commands -/

/-- PTP_RESULT's code (12 Table 12.9). -/
def State.ptpResult (c : Nat) (s : State) : State := s.modPtp fun p => { p with resCode := BitVec.ofNat 16 c }

/-- ACCEPT_MASTER (12 R339): beyond ±1 s the correction is refused and the module stays in holdover. -/
def Ptp.accept : Write := fun _ s =>
  if !s.ptp.masterPending then (0x0C22, s.ptpResult 0x0C22)
  else
    let a := s.correct (-(s.ptp.pendOfs / 4))
    if a.1 = 0
    then (0, (a.2.ptpResult 0).modPtp fun p => { p with masterPending := false, holdover := false })
    else (a.1, a.2.ptpResult a.1)

/-- ACCEPT_MASTER. -/
def execAcceptMaster (q : Req) (s : State) : Host.Outcome State Fault Refusal := .next (s.hostWrite q Ptp.accept)

/-- PTP_INCREMENT_HI (12 R337): held until the _LO write. -/
def Ptp.incrHi (value : Word) : Write := fun _ s => (0, s.modPtp fun p => { p with incrHiHeld := BitVec.ofNat 8 (value.toNat % 256) })

/-- PTP_INCREMENT_HI. -/
def execPtpIncrementHi (q : Req) (value : Word) (s : State) : Host.Outcome State Fault Refusal := .next (s.hostWrite q (Ptp.incrHi value))

/-- PTP_INCREMENT_LO (12 R337, Table 12.9): refused while SERVO is set; 1.9 ns to 2.1 ns. -/
def Ptp.incrLo (value : Word) : Write := fun _ s =>
  let v := s.ptp.incrHiHeld.toNat * 2 ^ 32 + value.toNat
  let c := firstCode [(s.ptp.servo, 0x0C21), (v * 10 < 19 * 2 ^ 32 || v * 10 > 21 * 2 ^ 32, 0x0C12)]
  if c = 0 then (0, (s.ptpResult 0).modClk fun k => { k with incr := BitVec.ofNat 40 v }) else (c, s.ptpResult c)

/-- PTP_INCREMENT_LO. -/
def execPtpIncrementLo (q : Req) (value : Word) (s : State) : Host.Outcome State Fault Refusal := .next (s.hostWrite q (Ptp.incrLo value))

/-- PTP_OFFSET (01 R19, 12 R337): refused while SERVO is set, or while TSC_VALID is clear. -/
def Ptp.offset (value : Word) : Write := fun _ s =>
  let c := firstCode [(s.ptp.servo, 0x0C21), (!s.clk.tscValid, 0x0C23)]
  if c ≠ 0 then (c, s.ptpResult c)
  else
    let a := s.correct (signed 32 value.toNat)
    (a.1, a.2.ptpResult a.1)

/-- PTP_OFFSET. -/
def execPtpOffset (q : Req) (value : Word) (s : State) : Host.Outcome State Fault Refusal := .next (s.hostWrite q (Ptp.offset value))

end Sys2Proof.Machine
end

