-- ==== Sys2Proof/Machine/Image.lean ====
section
/-! DEFINITION. Structure images (spec 02): verification, plans, the commands of IMG_CMD, the exchange with the twin, and the
sealed switches. -/

namespace Sys2Proof.Machine

/-! ### Verification -/

/-- The header fields of an image (02 Table 2.1). -/
def ImgHeader.parse (b : List Byte) : ImgHeader :=
  { magic := BitVec.ofNat 32 (field b 0 4), format := BitVec.ofNat 16 (field b 4 2), sectionCount := field b 6 2, length := field b 8 4, bankId := BitVec.ofNat 16 (field b 12 2), flags := BitVec.ofNat 16 (field b 14 2), fwMin := field b 16 2, fwMax := field b 18 2, serial := field b 20 4, tool := BitVec.ofNat 32 (field b 24 4), digest := BitVec.ofNat 384 (field b 32 48), keyId := BitVec.ofNat 128 (field b 0xB0 16), baseDigest := BitVec.ofNat 384 (field b 0xC0 48) }

/-- FLAGS of the header (02 Table 2.1). -/
def ImgHeader.paired (h : ImgHeader) : Bool := bit h.flags.toNat 0
/-- FLAGS [1]. -/
def ImgHeader.delta (h : ImgHeader) : Bool := bit h.flags.toNat 1
/-- FLAGS [2]. -/
def ImgHeader.notSplittable (h : ImgHeader) : Bool := bit h.flags.toNat 2
/-- FLAGS [3]. -/
def ImgHeader.safetyChanged (h : ImgHeader) : Bool := bit h.flags.toNat 3

/-- Is entry `i` of the section table sound: type, zero flags, 256-byte boundary, extent, CRC-32 (02 R38, R39). -/
def Image.entryOk (b : List Byte) (i : Nat) : Bool :=
  let e := slice b (0x100 + 16 * i) 16
  let ty := field e 0 2
  let off := field e 4 4
  let len := field e 8 4
  1 ≤ ty && ty ≤ 11 && field e 2 2 == 0 && off % 256 == 0 && off ≥ 0x100 + 16 * field b 6 2 && off + len ≤ b.length && crc32 (slice b off len) == field e 12 4

/-- The end of the last section (02 Table 2.1 IMAGE_LENGTH). -/
def Image.lastEnd (b : List Byte) : Nat :=
  ((List.range (field b 6 2)).map fun i => field b (0x100 + 16 * i + 4) 4 + field b (0x100 + 16 * i + 8) 4).foldl max 0

/-- Check 1 of 02 Table 2.3: MAGIC, FORMAT, lengths, section table, section CRCs; each type at most once. -/
def Image.formatOk (b : List Byte) : Bool :=
  let h := ImgHeader.parse b
  let types := (List.range h.sectionCount).map fun i => field b (0x100 + 16 * i) 2
  h.magic == 0x4D49584C && h.format == 3 && h.length == b.length && h.length == Image.lastEnd b && (h.delta || h.baseDigest == 0) && b.length ≤ 16 * 1024 * 1024 && 1 ≤ h.sectionCount && h.sectionCount ≤ 32 &&
    h.flags.toNat < 16 && field b 28 4 == 0 && field b 0xF0 16 == 0 && decide types.Nodup && (List.range h.sectionCount).all (Image.entryOk b)

/-- The point of the key that signed the image: an owner root, or an owner key with IMAGE usage (02 Table 2.3 check 2). -/
def State.imageSigner (h : ImgHeader) (s : State) : Option Nat := s.trust.nv.root h.keyId <|> s.trust.nv.ownerKey h.keyId 0

/-- The header with its SIGNATURE field taken as zero (02 Table 2.1). -/
def Image.signedHeader (b : List Byte) : List Byte := slice b 0 0x50 ++ List.replicate 96 0#8 ++ slice b 0xB0 0x50

/-- Check 3 of 02 Table 2.3: SIGNATURE, then IMAGE_DIGEST. -/
def Image.signatureOk (key : Nat) (b : List Byte) : Bool :=
  let h := ImgHeader.parse b
  Config.ecdsaOk key (Config.sha384 (Image.signedHeader b)) (slice b 0x50 96) && Config.sha384 ((b.drop 0x100).take (h.length - 0x100)) == h.digest

/-- The running version as major.minor (02 Table 2.1, 01 Table 1.11). -/
def State.majorMinor (s : State) : Nat := s.ident.version.toNat / 65536

/-- Checks 1 to 4 of 02 Table 2.3, each with its code. -/
def State.imageChecks14 (b : List Byte) (s : State) : List (Bool × Nat) :=
  let h := ImgHeader.parse b
  [(!Image.formatOk b, 0x0101), ((s.imageSigner h).isNone, 0x0102),
   (!(((s.imageSigner h).map fun k => Image.signatureOk k b).getD false), 0x0103),
   (s.majorMinor < h.fwMin || s.majorMinor > h.fwMax, 0x0104)]

/-- Is a string within the levels and limits of 00 Table 0.1: packs, cells, the cell window, the string current of ±400 A, the bus of
1,500 V. The string side's 960 V to 1,420 V follow from 384 LFP cells and are no bound of their own (log 58). -/
def StrCfg.withinLimits (c : StrCfg) : Bool :=
  !c.declared || (c.packs ≤ 24 && 8 ≤ c.cells && c.cells ≤ 16 && 20000 ≤ c.vLo && c.vLo ≤ c.vHi && c.vHi ≤ 45000 &&
    c.iRated ≤ 4000 && c.iChgMax ≤ 4000 && c.iDisMax ≤ 4000 && c.vbusHi ≤ 15000)

/-- Check 7 of 02 Table 2.3: levels and limits within 00 R2, a scan cycle of 1 to 1,000 ms (01 R18), and FALLBACK tables in CELL_MODEL (07
R188). -/
def Cfg.withinLimits (c : Cfg) : Bool :=
  c.extraStrs == 0 && c.strs.toList.all StrCfg.withinLimits && c.disp.vHi ≤ 15000 && 1 ≤ c.io.scanMs && c.io.scanMs ≤ 1000 && !c.model.fallback.isEmpty

/-- The configuration that an image carries whole (02 R40). -/
def Image.cfg (b : List Byte) : Cfg := { Config.imageCfg b with paired := (ImgHeader.parse b).paired }

/-- The steps of a split delta, at most 64; the last leaves the image's own configuration behind (02 R40, Step plans and envelopes). -/
def Image.plan (b : List Byte) : List Step :=
  let l := if (ImgHeader.parse b).delta then (Config.imagePlan b).take 64 else []
  l.zipIdx.map fun x => if x.2 + 1 = l.length then { x.1 with cfg := Image.cfg b } else x.1

/-- Is a plan of steps partly applied (02 R43). -/
def State.planOpen (s : State) : Bool := s.img.plan == .partly || s.img.plan == .pending

/-- All checks of 02 Table 2.3 in their order. -/
def State.imageChecks (b : List Byte) (s : State) : List (Bool × Nat) :=
  let h := ImgHeader.parse b
  let cur := s.img.cur
  s.imageChecks14 b ++
  [(cur.valid && h.bankId != cur.hdr.bankId, 0x0105), (cur.valid && h.serial ≤ cur.hdr.serial, 0x0106),
   (!(Image.cfg b).withinLimits, 0x0107), (h.delta && !(cur.valid && h.baseDigest == cur.hdr.digest), 0x0108),
   ((h.notSplittable || (!h.delta && cur.valid)) && !(s.bank.state == .off || s.bank.state == .stop), 0x0109), (s.planOpen, 0x010A)]

/-- The slot that an image's bytes fill. -/
def Slot.ofBytes (b : List Byte) : Slot := { data := b, hdr := ImgHeader.parse b, valid := true, cfg := Image.cfg b, plan := Image.plan b }

/-- A loaded image verified (02 R41): the staged slot set valid with IMG_STAGED, or left invalid with the code. In a pair the active
member forwards it (02 R55). The base's configuration digest is journaled (02 R47). -/
def State.verifyImage (b : List Byte) (s : State) : Nat × State :=
  let c := firstCode (s.imageChecks b)
  let s := s.beginImageLoad.modImg fun i => { i with loading := false }
  if c = 0 then
    let s := s.modImg fun i => { i with stg := Slot.ofBytes b, plan := .ready, resCode := 0, resDetail := 0 }
    let s := s.modJrn fun j => { j with baseDigest := Config.cfgDigest s.img.cfg }
    let s := s.emit 0x0150 0x050 [s.img.stg.hdr.digest.toNat]
    (0, s.when (s.paired && s.twin.role == .active) (State.twinSend "IMAGE" (b.map fun x => (x.toNat : Int))))
  else (c, s.imgRefused c 0)

/-- IMAGE_FORWARD_RECEIVED (02 R43, R55): the standby verifies on its own and confirms a match; while a plan of its own is partly applied
it refuses the load at its start, and no byte of the staged slot is written. -/
def execImageForwardReceived (f : TwinFrame) (data : List Byte) (s : State) : Host.Outcome State Fault Refusal :=
  .next <| s.withFrame f fun s =>
    if !(s.twin.role == .standby || s.twin.role == .unsynced) then s
    else if s.planOpen then s.imgRefused 0x010A 0
    else
      let a := s.beginImageLoad.verifyImage data
      a.2.when (a.1 == 0) (State.twinSend "PEER_MATCH" [a.2.img.stg.hdr.digest.toNat])

/-- PEER_MATCH_CONFIRM (02 R55). -/
def execPeerMatchConfirm (f : TwinFrame) (digest : BitVec 384) (s : State) : Host.Outcome State Fault Refusal :=
  .next (s.withFrame f fun s => s.modImg fun i => { i with peerMatch := i.stg.valid && i.stg.hdr.digest == digest })

/-! ### IMG_CMD -/

/-- The steps of the plan in force: of the staged image, or of the current one once the plan is complete (02 R43, R54). -/
def Img.steps (i : Img) : List Step := if i.plan == .complete then i.cur.plan else i.stg.plan

/-- PLAN_STATE while no step is pending (02 Table 2.11). DESIGN CHOICE (log 59): a valid staged image without a step plan reads READY. -/
def Img.restPlan (i : Img) (k : Nat) : PlanState :=
  if i.plan == .complete then .complete
  else if !i.stg.valid then .none
  else if k = 0 then .ready
  else if k ≥ i.stg.plan.length then .complete
  else .partly

/-- The configuration that is in force once `k` steps are complete (02 R44). -/
def Img.cfgAt (i : Img) (k : Nat) : Cfg :=
  let base := if i.plan == .complete then i.stg.cfg else i.cur.cfg
  if k = 0 then base else (((Img.steps i)[k - 1]?).map (·.cfg)).getD base

/-- The pending change that a command starts, or the code that refuses it; `k` completed steps of `n` (02 R45, R54). -/
def Img.request (i : Img) (kind : StepKind) (k : Nat) : Nat :=
  let n := (Img.steps i).length
  match kind with
  | .commit => if !i.stg.valid || !i.stg.plan.isEmpty then 0x0117 else 0
  | .forward => if !(i.stg.valid) || n = 0 || k ≥ n || i.plan == .complete then 0x0117 else 0
  | .reverse => if k = 0 then 0x0117 else 0

/-- IMG_RESULT, and on a refusal the count and the record (02 R41, R63). -/
def State.imgResult (c detail : Nat) (s : State) : State :=
  if c = 0 then s.modImg fun i => { i with resCode := 0, resDetail := 0 } else s.imgRefused c detail

/-- A change made pending: built in the shadow from now on (02 R46, R47). -/
def State.makePending (kind : StepKind) (all : Bool) (s : State) : State :=
  let k := s.jrn.stepsDone
  let idx := match kind with | .commit => 0 | .forward => k + 1 | .reverse => k
  let cfg := match kind with
    | .commit => s.img.stg.cfg
    | .forward => s.img.cfgAt (k + 1)
    | .reverse => s.img.cfgAt (k - 1)
  (s.modImg fun i => { i with plan := .pending, pend := some { kind := kind, all := all, index := idx, cfg := cfg, wasComplete := i.plan == .complete } }).modJrn
    fun j => { j with planPend := true }

/-- COMMIT, STEP_NEXT, STEP_ALL, ROLLBACK and ROLLBACK_ALL (02 R45, R46, R55): PLAN_BUSY while a step is pending; nothing to act on;
in a pair only on a leading member and with PEER_MATCH; a member ALONE has no twin to match (log 60). -/
def Img.change (kind : StepKind) (all : Bool) : Write :=
  Write.cmd
    (fun _ s => firstCode [(s.img.pend.isSome, 0x0114), (s.img.request kind s.jrn.stepsDone != 0, 0x0117),
      (s.img.cfg.paired && (!s.leads || (kind != .reverse && !s.img.peerMatch && s.twin.role != .alone)), 0x0115)])
    (fun c s => s.imgResult c 0) (State.makePending kind all)

/-- COMMIT (02 R45). -/
def execCommit (q : Req) (s : State) : Host.Outcome State Fault Refusal := .next (s.hostWrite q (Img.change .commit false))
/-- STEP_NEXT (02 R45). -/
def execStepNext (q : Req) (s : State) : Host.Outcome State Fault Refusal := .next (s.hostWrite q (Img.change .forward false))
/-- STEP_ALL (02 R45). -/
def execStepAll (q : Req) (s : State) : Host.Outcome State Fault Refusal := .next (s.hostWrite q (Img.change .forward true))
/-- ROLLBACK (02 R45). -/
def execRollback (q : Req) (s : State) : Host.Outcome State Fault Refusal := .next (s.hostWrite q (Img.change .reverse false))
/-- ROLLBACK_ALL (02 R45). -/
def execRollbackAll (q : Req) (s : State) : Host.Outcome State Fault Refusal := .next (s.hostWrite q (Img.change .reverse true))

/-- DISCARD (02 R45): the staged slot is invalidated; SLOT_BUSY while a plan is partly applied. -/
def Img.discard : Write :=
  Write.cmd
    (fun _ s => firstCode [(s.img.pend.isSome, 0x0114), (s.img.plan == .partly, 0x010A), (!s.img.stg.valid, 0x0117)])
    (fun c s => s.imgResult c 0)
    fun s => (s.modImg fun i => { i with stg := {}, plan := .none, peerMatch := false }).modJrn fun j => { j with stepsDone := 0, planOpen := false }

/-- DISCARD. -/
def execDiscard (q : Req) (s : State) : Host.Outcome State Fault Refusal := .next (s.hostWrite q Img.discard)

/-! ### A pending change -/

/-- The pending change refused: the configuration stays, the plan rests (02 R48). -/
def State.refusePending (c detail : Nat) (s : State) : State :=
  let back := match s.img.pend with | some p => p.wasComplete | none => false
  let s := s.modImg fun i => { i with pend := none, plan := if back then .complete else .none }
  let s := s.modImg fun i => { i with plan := i.restPlan s.jrn.stepsDone }
  (s.modJrn fun j => { j with decided := none, planPend := false }).imgRefused c detail

/-- The digest that the pending change must leave behind, where it is checked (02 R47). -/
def State.pendDigest (p : PendStep) (s : State) : Option (BitVec 384) :=
  let steps := if p.wasComplete then s.img.cur.plan else s.img.stg.plan
  match p.kind with
  | .commit => none
  | .forward => (steps[p.index - 1]?).map (·.digest)
  | .reverse => if p.index ≤ 1 then some s.jrn.baseDigest else (steps[p.index - 2]?).map (·.digest)

/-- SHADOW_READY (02 R47): the shadow's digest is checked, or the step refused with STEP_DIGEST_MISMATCH. -/
def execShadowReady (s : State) : Host.Outcome State Fault Refusal :=
  .next <|
    match s.img.pend with
    | none => s
    | some p =>
      if ((s.pendDigest p).map fun d => d != Config.cfgDigest p.cfg).getD false then s.refusePending 0x0111 p.index
      else s.modImg fun i => { i with pend := some { p with shadowReady := some s.now } }

/-- STEP_PREPARE (02 R56, 10 R274): at T0 − 500 µs the active member sends PREPARE for a step whose shadow is ready, or for a token. -/
def execStepPrepare (s : State) : Host.Outcome State Fault Refusal :=
  .next <|
    let s := s.atCycle 500000
    if s.twin.role == .active then
      let t0 := s.clk.cycleT0 + 1000000
      let s := match s.img.pend with
        | some p =>
          if p.shadowReady.isSome
          then (s.modImg fun i => { i with pend := some { p with prepared := true, target := t0 } }).twinSend "PREPARE" (ints [p.index, (Config.cfgDigest p.cfg).toNat, t0])
          else s
        | none => s
      s.when (s.paired && s.trust.pending.isSome && s.trust.pendTarget.isNone) fun s =>
        (s.modTrust fun t => { t with pendTarget := some t0 }).twinSend "PREPARE_TOKEN" ([(t0 : Int)] ++ s.trust.pendRaw.map fun b => (b.toNat : Int))
    else s

/-- PREPARE_RECEIVED (02 R56, 10 R274): READY only with its own shadow built and its digest checked; to a token, with its own checks passed. -/
def execPrepareReceived (f : TwinFrame) (p : Prepare) (s : State) : Host.Outcome State Fault Refusal :=
  .next <| s.withFrame f fun s =>
    if s.twin.role != .standby then s
    else if p.token then
      let ok := s.trust.nv.owner != .zeroised && s.tokenChecks p.data = 0
      (s.modTrust fun t => { t with peerToken := if ok then Token.parse p.data else none, peerTarget := p.target, peerGo := false }).twinSend (if ok then "READY" else "REFUSE") []
    else
      let cfg := match p.kind with
        | .commit => s.img.stg.cfg
        | .forward => s.img.cfgAt p.index
        | .reverse => s.img.cfgAt (p.index - 1)
      let ok := s.img.stg.valid && Config.cfgDigest cfg == p.digest
      (s.modImg fun i => { i with peer := some { index := p.index, digest := p.digest, target := p.target, kind := p.kind, ready := ok } }).twinSend (if ok then "READY" else "REFUSE") [p.index]

/-- STEP_PEER_ANSWER (02 R56, 10 R274): it counts up to its deadline, T0 − 300 us. -/
def execStepPeerAnswer (f : TwinFrame) (token ready : Bool) (s : State) : Host.Outcome State Fault Refusal :=
  .next <| s.withFrame f fun s =>
    if token then s.modTrust fun t => { t with pendingReady := t.pendTarget.bind fun t0 => if s.now + 300000 ≤ t0 then some ready else t.pendingReady }
    else s.modImg fun i => { i with pend := i.pend.map fun p => { p with peerReady := if p.prepared && s.now + 300000 ≤ p.target then some ready else p.peerReady } }

/-- The completed steps that a change leaves, 255 for a whole image: what its decision journals (02 R44, R48). -/
def StepKind.outcome (k : StepKind) (index : Nat) : Nat := match k with | .commit => 255 | .forward => index | .reverse => index - 1

/-- DECIDE_RECEIVED (02 R56; 10 R274): a step's decision is journaled on receipt; a token's is kept for its T0. -/
def execDecideReceived (f : TwinFrame) (token commit : Bool) (s : State) : Host.Outcome State Fault Refusal :=
  .next <| s.withFrame f fun s =>
    if token then s.modTrust fun t => { t with peerToken := if commit then t.peerToken else none, peerGo := commit && t.peerToken.isSome } else
    match s.img.peer with
    | none => s
    | some p =>
      let s := s.modImg fun i => { i with peer := some { p with decided := some commit } }
      s.when commit fun s => s.modJrn fun j => { j with decided := some (p.kind.outcome p.index, p.target) }

/-! ### Sealed switches and profiles -/

/-- MEMBER_SELECT_CHANGED (01 R37): recorded; no effect until the next reset. -/
def execMemberSelectChanged (pin : Bool) (s : State) : Host.Outcome State Fault Refusal :=
  .next <|
    if pin != s.ident.memberPin
    then (s.modIdent fun i => { i with memberPin := pin }).emit 0x4154 0x040 [b2n pin] else s

/-- The readings on which the channels differ: SW1, then SW2-4 to SW2-1 (02 R58). -/
def Safety.switchDiff (t : Safety) : BitVec 5 :=
  BitVec.ofNat 5 (16 * b2n (t.a.sw1 != t.b.sw1) + (t.a.sw2 ^^^ t.b.sw2).toNat)

/-- The bytes of a safety profile. -/
def Cfg.profile (c : Cfg) (p : BitVec 4) : List Byte := c.safety[p.toFin]

/-- Does the image define a profile: FLAGS [0] (02 R59, 08 Table 8.6). -/
def Cfg.defined (c : Cfg) (p : BitVec 4) : Bool := bit (field (c.profile p) 0 2) 0

/-- A channel's copy of the active profile read anew, and its CRC-32 (02 R60; 08 R206). -/
def SafChan.readProfile (data : List Byte) (c : SafChan) : SafChan := { c with prof := data, profCrc := BitVec.ofNat 32 (crc32 data) }

/-- Each channel reads the active profile into its own copy and computes the CRC-32 of that; where the two differ, or no profile is active, nothing
may be enabled (02 R60; 08 R206). `bad` is a channel (true: B) that reads wrong, with the bytes that it reads. -/
def State.profileCrcsWith (bad : Option (Bool × List Byte)) (s : State) : State :=
  match s.img.profActive with
  | none => s.modSaf fun t => { t with a := { t.a with prof := [] }, b := { t.b with prof := [] }, profileOk := false }
  | some p =>
    let of (chan : Bool) : List Byte := match bad with | some (b, v) => if b == chan then v else s.img.cfg.profile p | none => s.img.cfg.profile p
    s.modSaf fun t =>
      let a := t.a.readProfile (of false)
      let b := t.b.readProfile (of true)
      { t with a := a, b := b, profileOk := a.profCrc == b.profCrc }

/-- The copies of two channels that read the profile right (02 R60). -/
def State.profileCrcs (s : State) : State := s.profileCrcsWith none

/-- The agreed SW1 reading taken at reset, or first agreed after it: it selects a profile that the image defines (02 R59). -/
def State.selectProfile (p : BitVec 4) (s : State) : State :=
  (s.modImg fun i => { i with profSelected := p, profPending := false, profPos := some p, profActive := if s.img.cfg.defined p then some p else none }).profileCrcs

/-- SWITCH_CHANGE (02 R58, R59): a difference is recorded once when it begins; an agreed change of SW1 sets PROFILE_PENDING, or
clears it on a return to the active profile's position. -/
def execSwitchChange (channelB : Bool) (sw1 sw2 : BitVec 4) (s : State) : Host.Outcome State Fault Refusal :=
  .next <|
    let old := s.saf.switchDiff
    let s := s.modSaf fun t => if channelB then { t with b := { t.b with sw1 := sw1, sw2 := sw2 } } else { t with a := { t.a with sw1 := sw1, sw2 := sw2 } }
    let now := s.saf.switchDiff
    let s := s.modImg fun i => { i with swDisagree := now }
    let s := s.when (now &&& ~~~old != 0) (State.emit 0x4822 0x000 (ints [s.saf.a.sw1.toNat, s.saf.b.sw1.toNat, s.saf.a.sw2.toNat, s.saf.b.sw2.toNat]))
    if s.saf.a.sw1 != s.saf.b.sw1 then s
    else
      let p := s.saf.a.sw1
      match s.img.profPos with
      | none => s.selectProfile p
      | some a => s.modImg fun i => { i with profSelected := p, profPending := p != a }

/-- PROFILE_CRC_CHECK (02 R60): every 10 s. -/
def execProfileCrcCheck (bad : Option (Bool × List Byte)) (s : State) : Host.Outcome State Fault Refusal := .next (s.profileCrcsWith bad)

/-- A pending SW1 position is adopted as the bank enters OFF or STOP (02 R59). -/
def State.adoptProfile (s : State) : State := s.when s.img.profPending fun s => s.selectProfile s.img.profSelected

end Sys2Proof.Machine
end

