-- ==== Sys2Proof/Machine/Impedance.lean ====
section
/-! DEFINITION. Impedance results (04 R119, R122, R125; 07 R185): the results of a sweep, the tables of the cell model, the resistances that a
sweep gives. -/

namespace Sys2Proof.Machine

/-- The string's part of TOPOLOGY and CONTROL in force. -/
def State.topo (n : Fin 8) (s : State) : StrCfg := s.img.cfg.strs[n]

/-- The cells of a string, 1 to packs × cells per pack. -/
def StrCfg.cellCount (c : StrCfg) : Nat := c.packs * c.cells

/-- The results of the sweep in progress: a temperature point keeps its own (04 R124). -/
def Sweep.work (w : Sweep) : List (Nat × PointRes) := if w.tpt then w.tptRes else w.results

/-- The result of one point of the sweep in progress changed. -/
def Sweep.modPoint (p : Nat) (f : PointRes → PointRes) (w : Sweep) : Sweep :=
  let l := Sparse.put w.work p (f (Sparse.get w.work p {}))
  if w.tpt then { w with tptRes := l } else { w with results := l }

/-! ### Tables and cells -/

/-- Linear interpolation between two points. -/
def lerp (x x0 y0 x1 y1 : Rat) : Rat := if x1 = x0 then y0 else y0 + (y1 - y0) * (x - x0) / (x1 - x0)

/-- A row of the phase table at a state of charge (04 R122): 20, 50 and 80 %, linear between. DESIGN CHOICE (log 79): outside 20 % to 80 %
the nearer of the two lines goes on. -/
def CellModel.phiAt (soc : Rat) (r : Rat × Rat × Rat × Rat) : Rat :=
  if soc ≤ 50 then lerp soc 20 r.2.1 50 r.2.2.1 else lerp soc 50 r.2.2.1 80 r.2.2.2

/-- The temperature at which the table equals a phase; none outside the table (04 R122). -/
def CellModel.tempOf (m : CellModel) (soc phi : Rat) : Option Rat :=
  (m.phiTab.zip (m.phiTab.drop 1)).findSome? fun e =>
    let a := CellModel.phiAt soc e.1
    let b := CellModel.phiAt soc e.2
    if (a ≤ phi && phi ≤ b) || (b ≤ phi && phi ≤ a) then some (lerp phi a e.1.1 b e.2.1) else none

/-- A cell's index b in the tables of 07 R201: string × 384 + (node − 1) × 16 + cell − 1. -/
def cellIndex (n : Fin 8) (c number : Nat) : Nat := n * 384 + (number - 1) / c * 16 + (number - 1) % c

/-- One cell's model changed. -/
def State.modCell (b : Nat) (f : Cell → Cell) (s : State) : State :=
  s.modEst fun e => { e with cells := Sparse.put e.cells b (f (Sparse.get e.cells b {})) }

/-- One cell's model. -/
def State.cell (b : Nat) (s : State) : Cell := Sparse.get s.est.cells b {}

/-! ### Resistances (04 R125) -/

/-- A cell's complete results of the sweep by rising frequency (04 R125): frequency, real part, imaginary part. -/
def Sweep.curve (w : Sweep) (number : Nat) : List (Nat × Rat × Rat) :=
  let l := (w.work.filterMap fun e => let z := Sparse.get e.2.cells number {}; if z.complete then some (e.2.freq, f32v z.re, f32v z.im) else none)
  sortBy (fun a b => a.1 ≤ b.1) l

/-- R_ohm: the real part where the imaginary part crosses zero, or the highest point's with NO_CROSSING (04 R125). -/
def curveOhm (l : List (Nat × Rat × Rat)) : Option (Rat × Bool) :=
  match (l.zip (l.drop 1)).findSome? fun e => if (e.1.2.2 ≤ 0 && 0 ≤ e.2.2.2) || (e.2.2.2 ≤ 0 && 0 ≤ e.1.2.2) then some (lerp 0 e.1.2.2 e.1.2.1 e.2.2.2 e.2.2.1) else none with
  | some r => some (r, false)
  | none => l.getLast?.map fun e => (e.2.1, true)

/-- The real part at a frequency. DESIGN CHOICE (log 81): linear between adjacent points, as the spec has it for R_ohm. -/
def curveAt (l : List (Nat × Rat × Rat)) (f : Nat) : Option Rat :=
  (l.zip (l.drop 1)).findSome? fun e => if e.1.1 ≤ f && f ≤ e.2.1 then some (lerp f e.1.1 e.1.2.1 e.2.1 e.2.2.1) else none

/-- A baseline moved by 5 % of the difference (07 R185). -/
def moveBaseline (base v : Rat) : Rat := base + (v - base) / 20

/-- The resistances of one cell after a sweep, with IMPEDANCE_DRIFT against its learned baseline; the baselines follow, unless the result
is flagged NO_CROSSING or the cell IMPEDANCE_DRIFT (04 R125, 07 R185). DESIGN CHOICE (log 80): two complete points are enough. -/
def State.resistances (n : Fin 8) (number : Nat) (s : State) : State :=
  let l := s.sweep[n].curve number
  let b := cellIndex n (s.topo n).cells number
  let m := s.img.cfg.model
  match curveOhm l with
  | none => s
  | some (r, no) =>
    if l.length < 2 then s
    else
      let ct := (curveAt l m.fCt).map fun v => v - r
      let x := s.cell b
      let drift := (x.learn.rOhm > 0 && r > x.learn.rOhm * (1 + m.thrOhm / 100)) || (x.learn.rCt > 0 && (ct.map fun v => decide (v > x.learn.rCt * (1 + m.thrCt / 100))).getD false)
      let moves := !no && !drift && !x.drift
      let learn (q : LearnCell) : LearnCell := if moves then { q with rOhm := moveBaseline q.rOhm r, rCt := (ct.map fun v => moveBaseline q.rCt v).getD q.rCt } else q
      let s := s.modCell b fun x => { x with rOhm := some (r, no), rCt := ct, drift := drift, learn := learn x.learn }
      s.when drift (State.emit 0x4317 0x030 [n, number])

/-- What is derived after every sweep, aborted ones included: each cell's resistances, and with the temperatures a record in history
(04 R120, R125; log 82). -/
def State.deriveSweep (n : Fin 8) (s : State) : State :=
  let cells := (List.range (s.topo n).cellCount).map (· + 1)
  let s := State.forEach cells (State.resistances n) s
  let one (c : Nat) : List Int :=
    let x := s.cell (cellIndex n (s.topo n).cells c)
    [(c : Int), (((x.rOhm.map fun r => toF32 r.1).getD nanWord).toNat : Int), (((x.rCt.map toF32).getD nanWord).toNat : Int), ((x.tInt.map fun t => roundQ (100 * t.1)).getD (-32768))]
  let b := (cells.map one).flatten
  s.intoHistory 0x13 (Src.str n) (valBytes 4 (ints [n, 0xFF, s.sweep[n].id.toNat] ++ b))

end Sys2Proof.Machine
end

