-- ==== Sys2Proof/Machine/PlantOps.lean ====
section
/-! DEFINITION. What several blocks do to a string or to the bank: state transitions, trips, safe states, contactor drives, the
enable halves, and the aborting of sweeps (spec 05, 06, 08). -/

namespace Sys2Proof.Machine

/-! ### Configuration in force -/

/-- P_NOM in steps of 78.125 ps, rounded (05 R126). -/
def StrCfg.pNom (c : StrCfg) : Nat := (2 * 12800000000 + c.fc) / (2 * c.fc)

/-- I_RATED in mA. -/
def StrCfg.ratedMa (c : StrCfg) : Nat := 100 * c.iRated

/-- The active safety profile, empty where none is selected (02 R59, 08 Table 8.6). -/
def State.prof (s : State) : List Byte := match s.img.profActive with | some p => s.img.cfg.profile p | none => []

/-- A field of the active safety profile (08 Table 8.6). -/
def State.profNat (o n : Nat) (s : State) : Nat := field s.prof o n

/-- A flag of the active safety profile (08 Table 8.6 FLAGS). -/
def State.profFlag (i : Nat) (s : State) : Bool := bit (s.profNat 0 2) i

/-- A channel. -/
def Safety.chan (t : Safety) (b : Bool) : SafChan := if b then t.b else t.a

/-- A field of a channel's own profile copy (08 R206, Table 8.6). -/
def SafChan.profNat (o n : Nat) (c : SafChan) : Nat := field c.prof o n

/-- A flag of a channel's own profile copy; DEADLINE_TRIP, flag 1, reads set while no profile is active, for R132 enables it by default (08 Table
8.6). -/
def SafChan.profFlag (i : Nat) (c : SafChan) : Bool := if c.prof.isEmpty then i == 1 else bit (c.profNat 0 2) i

/-- A flag that either channel's copy sets in the fabric (08 R205, Table 8.6): EXT_PCS or PCS_ON_STRING. -/
def Safety.anyFlag (i : Nat) (t : Safety) : Bool := t.a.profFlag i || t.b.profFlag i

/-- The eight strings. -/
def strings : List (Fin 8) := [0, 1, 2, 3, 4, 5, 6, 7]

/-- The six phases. -/
def phases : List (Fin 6) := [0, 1, 2, 3, 4, 5]

/-- The nodes of a string that TOPOLOGY declares. -/
def StrCfg.nodes (c : StrCfg) : List (Fin 24) := (List.finRange 24).filter fun k => (k : Nat) < c.packs

/-! ### Numbers of the states -/

/-- STATE of STRn_STATUS (05 Table 5.14). -/
def StrState.code : StrState → Nat
  | .disabled => 0 | .off => 1 | .precharge => 2 | .run => 3 | .hold => 4 | .shed => 5 | .fault => 6 | .service => 7

/-- The bank state in EST_BANK_STATUS (06 Table 6.6). -/
def BankState.code : BankState → Nat
  | .off => 0 | .standby => 1 | .precharge => 2 | .run => 3 | .hold => 4 | .stop => 5 | .fault => 6 | .service => 7

/-- BAND of THM_STATUS (16 Table 16.10). -/
def Band.code : Band → Nat
  | .cold => 0 | .normal => 1 | .warm => 2 | .hot => 3

/-- The band in force by its number. -/
def Thm.bandCode (t : Thm) : Nat := t.band.code

/-- PRECHARGE, RUN or HOLD. -/
def StrState.active : StrState → Bool
  | .precharge | .run | .hold => true
  | _ => false

/-- RUN or HOLD. -/
def StrState.running : StrState → Bool
  | .run | .hold => true
  | _ => false

/-- RUN or HOLD of the bank. -/
def BankState.flowing : BankState → Bool
  | .run | .hold => true
  | _ => false

/-! ### Sweeps end with RUN (04 R120) -/

/-- The running sweep aborted and the pending slot emptied, with their events; what it has completed is kept, and derived from (04 R120,
R125). A temperature point, or a sweep that has not started, leaves the last host sweep's state as it is. The held shares are free again
(06 R174). DESIGN CHOICE (log 134): where no point was complete, the last complete point in SWEEP_ABORTED is 0, as for point 0. -/
def State.abortSweep (n : Fin 8) (reason : Nat) (s : State) : State :=
  let w := s.sweep[n]
  let own := !w.tpt && !w.startNext
  let s := s.when w.running.isSome fun s =>
    let s := (s.when own (State.deriveSweep n)).modSweep n fun w =>
      { w with state := if own then .aborted else w.state, running := none, startNext := false, tpt := false, cal := false, lastStatus := if own then 1 else w.lastStatus, redoList := [], redoPass := false, ackDue := none }
    (s.modBank fun b => { b with shares := Vec.upd b.shares n fun h => { h with heldP := none } }).emit 0x4312 (Src.str n) [reason, if w.startNext then 0 else w.lastComplete]
  match w.pending with
  | none => s
  | some r => (s.modSweep n fun w => { w with pending := none }).emit 0x4313 (Src.str n) [r.id.toNat]

/-! ### Strings -/

/-- A transition of Table 5.11, recorded as STRING_STATE (05 R155); leaving RUN aborts the sweep (04 R120). -/
def State.strTo (n : Fin 8) (new : StrState) (cause : Nat) (s : State) : State :=
  let old := s.str[n].state
  if old == new then s
  else
    let s := (s.modStr n fun e => { e with state := new, okRun := if new == .off then Vector.replicate 10 0 else e.okRun }).emit 0x0510 (Src.str n) [old.code, new.code, cause]
    s.when (old == .run) (State.abortSweep n 1)

/-- STRn_STATUS.LEASE: the string-loop lease held, or the module runs alone (05 Table 5.14, R158). -/
def State.strLease (n : Fin 8) (s : State) : Bool := s.twin.role == .alone || s.twin.str[n].held

/-- The larger magnitude of ISTR_A and ISTR_B in mA, none where a current channel is invalid (05 R154). -/
def StrEng.maxCurrent (e : StrEng) : Option Nat :=
  if bit e.snsValid.toNat 8 && bit e.snsValid.toNat 9 then some (max e.smp.istrA.natAbs e.smp.istrB.natAbs) else none

/-- Coil drives set: each drive that turns on pulls in at full voltage for 100 ms, each that changed awaits its auxiliary input
(05 R151, R152). -/
def StrEng.drive (d : BitVec 3) (e : StrEng) : StrEng :=
  { e with drives := d, pullin := (e.pullin &&& d) ||| (d &&& ~~~e.drives), auxDue := (d ^^^ e.aux) }

/-- Does a string's set latch, or GLOBAL, hold its outputs off (08 R203). -/
def State.latched (n : Fin 8) (s : State) : Bool :=
  let f := s.saf.fab
  f.global || bit f.latchLoop.toNat n || bit f.latchGd.toNat n || bit f.latchOc.toNat n

/-- The own ACTIVE line of a paired member is low: a term of the power-stage enable (09 Table 9.4). -/
def State.noActive (s : State) : Bool := s.twin.role != .alone && !s.twin.activeOut

/-- Do a string's outputs carry the off pattern, or the idle or darkness that stands in its place (08 R203, R205; 09 Table 9.4, R252). -/
def State.offPattern (n : Fin 8) (s : State) : Bool :=
  s.latched n || s.twin.fenceIn || s.saf.fab.cfgMismatch || !(bit s.saf.a.pwm.toNat n && bit s.saf.b.pwm.toNat n) || s.noActive

/-- What the six out fibres of a string carry: dark while fenced; the off pattern under a set latch; where only the enable or ACTIVE is absent, idle
while the own line is low; else the frames (05 R147; 09 R244, R252). -/
def State.fibre (n : Fin 8) (s : State) : String :=
  if s.twin.fenceIn then "DARK"
  else if s.latched n then "OFF_PATTERN"
  else if s.noActive then "IDLE"
  else if s.offPattern n then "OFF_PATTERN"
  else "FRAMES"

/-- The coils of a string that have power: those that its engine drives, while both channels' coil enable halves stand, the threshold
copies agree, FENCE_IN is inactive and the emergency stop's timer has not cut the supply (08 R202, R203, R205, R220). -/
def State.coilPower (n : Fin 8) (s : State) : BitVec 3 :=
  let f := s.saf.fab
  if bit s.saf.a.coil.toNat n && bit s.saf.b.coil.toNat n && !f.cfgMismatch && !f.coilPowerOff && !s.twin.fenceIn then s.str[n].drives else 0

/-- A change after which the lines on J40 and the out fibres follow (05 R147, R151; 08 R202, R203; 09 R244). -/
def State.withOutputs (change : State → State) (s : State) : State :=
  let t := change s
  let t := State.forEach (strings.filter fun n => t.coilPower n != s.coilPower n) (fun n u => u.send .line n "COILS" [((u.coilPower n).toNat : Int)]) t
  State.forEach (strings.filter fun n => t.fibre n != s.fibre n) (fun n u => u.send .gateDriver (n * 6) (u.fibre n) [(n : Nat)]) t

/-- Drives of a string set, with the lines on J40 (05 R151). -/
def State.driveCoils (n : Fin 8) (d : BitVec 3) (s : State) : State :=
  if s.str[n].drives == d then s else s.withOutputs (fun s => s.modStr n (StrEng.drive d))

/-- Both coil enable halves of a string set or withdrawn (08 R203). -/
def State.coilHalves (n : Fin 8) (v : Bool) (s : State) : State :=
  s.withOutputs (fun s => s.modSaf fun t => { t with a := { t.a with coil := setBit t.a.coil n v }, b := { t.b with coil := setBit t.b.coil n v } })

/-- Both output enable halves of a string set or withdrawn (08 R203). -/
def State.pwmHalves (n : Fin 8) (v : Bool) (s : State) : State :=
  s.withOutputs (fun s => s.modSaf fun t => { t with a := { t.a with pwm := setBit t.a.pwm n v }, b := { t.b with pwm := setBit t.b.pwm n v } })

/-- An opening whose contacts all read open is done: a normal opening or a failed precharge enters its target (05 R153, R154). -/
def State.openDone (n : Fin 8) (s : State) : State :=
  let e := s.str[n]
  if e.opening == .waitAux && e.aux == 0 && e.drives == 0 then
    let s := (s.modStr n fun e => { e with opening := .none, prech := .idle, lowEnable := false }).coilHalves n false
    s.when e.state.active (State.strTo n e.target e.tripCause)
  else s

/-- All three coils de-energised, with the coil enable halves withdrawn at that instant (05 R154, 08 R203). -/
def State.openAll (n : Fin 8) (s : State) : State :=
  (((s.driveCoils n 0).coilHalves n false).modStr n fun e => { e with opening := .waitAux, prech := .idle }).openDone n

/-- The contactor opening after a trip begins: at once where no coil is driven (05 R154). -/
def State.tripOpen (n : Fin 8) (s : State) : State :=
  if s.str[n].drives == 0 then s.modStr n fun e => { e with opening := .none, prech := .idle, lowEnable := false }
  else s.modStr n fun e => { e with opening := .tripWait, tripUp := s.clk.upNs, prech := .idle, lowEnable := false }

/-- A normal opening begins: the reference ramps to zero (05 R144, R154). -/
def State.rampDown (n : Fin 8) (target : StrState) (cause : Nat) (s : State) : State :=
  s.modStr n fun e => { e with opening := .rampDown, target := target, tripCause := cause, lowRun := 0, prech := .idle, loop := { e.loop with ramping := false, rampZero := true } }

/-! ### The bank -/

/-- The bank cycle number: the TSC of T0 divided by 1,000,000 (03 Table 3.2). -/
def State.cycle (s : State) : Nat := s.clk.cycleNo

/-- A command waiting reaches a terminal status, journaled with the cycle (06 R169). -/
def State.terminate (e : DispEntry) (st : TermStatus) (s : State) : State :=
  let s := s.modJrn fun j => { j with disp := j.disp.map (fun d => if d.seq == e.seq then { d with status := st, cycle := s.cycle } else d), doneSeq := max j.doneSeq e.seq }
  match st with
  | .expired => s.bump 0x190108
  | .lapsed => s.bump 0x19010C
  | _ => s

/-- Commands that wait for a terminal status, in order of sequence number (06 R169). -/
def State.waitingDisp (s : State) : List DispEntry := sortBy (fun a b => a.seq ≤ b.seq) (s.jrn.disp.filter fun d => d.status == .waiting)

/-- Every waiting command lapses (06 R169). -/
def State.lapseWaiting (s : State) : State := State.forEach s.waitingDisp (fun e => State.terminate e .lapsed) s

/-- The bank leaves RUN and HOLD: the command in force is cleared and every waiting command lapses (06 R169). -/
def State.lapseAll (s : State) : State :=
  s.lapseWaiting.modBank fun b => { b with inForce := none, target := 0, short := 0, limited := false, ramping := false, eligible := 0, lead := 0xF }

/-- A transition of Table 6.1, recorded as BANK_STATE (06 R166). -/
def State.bankTo (new : BankState) (cause : Nat) (s : State) : State :=
  let old := s.bank.state
  if old == new then s
  else
    let s := (s.modBank fun b => { b with state := new }).emit 0x0620 0x030 [old.code, new.code, cause]
    s.when (old.flowing && !new.flowing) State.lapseAll

/-! ### Safe states -/

/-- The first cause since the last CLEAR (08 Table 8.8 SAF_CAUSE). -/
def State.noteCause (n : Fin 8) (code : Nat) (s : State) : State :=
  s.modSaf fun t => { t with cause := Vec.upd t.cause n fun c => if c == 0 then BitVec.ofNat 16 code else c }

/-- PCS_TRIP opened (08 R221). -/
def State.pcsOpen (s : State) : State :=
  if s.saf.fab.pcsOpen then s else (s.modSaf fun t => { t with fab := { t.fab with pcsOpen := true } }).send .line 0 "PCS_TRIP" [1]

/-- A trip or safe reaction acts on a string: recorded, and STRING FAULT from PRECHARGE, RUN or HOLD (05 R155, 08 Table 8.2).
With PCS_ON_STRING the fabric opens PCS_TRIP (08 R221). -/
def State.stringTrip (n : Fin 8) (code : Nat) (s : State) : State :=
  let s := ((s.noteCause n code).emit 0xC813 (Src.str n) [code]).abortSweep n 2
  if s.str[n].state.active then
    let s := ((s.strTo n .fault code).modStr n fun e => { e with tripCause := code, loop := { e.loop with ramping := false, rampZero := false } }).tripOpen n
    s.when (s.saf.anyFlag 3) State.pcsOpen
  else s

/-- A safety-commanded shed: the enable halves go at once and the contactors open under R154 (05 R156, 08 Table 8.2). -/
def State.safetyShed (n : Fin 8) (code : Nat) (s : State) : State :=
  let s := s.noteCause n code
  if s.str[n].state.active then
    ((s.strTo n .shed code).modStr n fun e => { e with tripCause := code, loop := { e.loop with ramping := false, rampZero := false } }).tripOpen n
  else s

/-- BANK FAULT: every string in PRECHARGE, RUN or HOLD to STRING FAULT with both its enable halves withdrawn, PCS_TRIP open, the bank to
FAULT (08 Table 8.2). -/
def State.bankFault (code : Nat) (s : State) : State :=
  let s := State.forEach (strings.filter fun n => s.str[n].state.active) (fun n s => (s.pwmHalves n false).stringTrip n code) s
  (s.pcsOpen).when (!(s.bank.state == .off || s.bank.state == .service)) fun s =>
    (s.modBank fun b => { b with faultCauses := code :: b.faultCauses.filter (· != code) }).bankTo .fault code

/-- All enable halves of one channel withdrawn (08 R209). -/
def SafChan.withdrawAll (c : SafChan) : SafChan := { c with pwm := 0, coil := 0 }

/-- What ends with a change of role: a token between its PREPARE and its T0 is not applied (10 R274); where the member stops being ALONE or
ACTIVE, LOCKED clears and its housekeeping controller falls silent (12 R336; 13 R357). -/
def State.roleEnds (s : State) : State :=
  let s := s.modTrust fun t => { t with pending := if t.pendTarget.isSome then none else t.pending, pendTarget := none, pendGo := false, pendingReady := none, peerToken := none, peerGo := false }
  s.when (!s.leads) fun s => (s.modPtp fun p => { p with locked := false }).modHk fun h => { h with xact := .none, due := [] }

/-- A row of Table 9.2, recorded as TWIN_ROLE with its cause: an event code, or 0 (09 R238). The ACTIVE member's time is the lock's; a member that
leaves ACTIVE has none until it measures (09 Table 9.11). -/
def State.roleTo (new : Role) (cause : Nat) (s : State) : State :=
  let old := s.twin.role
  if old == new then s else (s.modTwin fun w => { w with role := new, timeLock := new == .active || (old != .active && w.timeLock) }).roleEnds.emit 0x0910 0x040 [old.code, new.code, cause]

/-! ### Outputs that follow the ACTIVE lines (09 R243) -/

/-- The analogue and discrete outputs held, released to high impedance, or driven (09 Table 9.4). -/
def Io.follow (hold highZ : Bool) (i : Io) : Io := { i with ao := i.ao.map (fun o => { o with hold := hold, highZ := highZ }), doHold := hold, doHighZ := highZ }

/-- The privileged and holding outputs after a change of either ACTIVE line: driven, bypassed and released while the twin's is high or OPEN, or
held with the coils at their economiser duty (09 R236, Table 9.4). -/
def State.followLines (s : State) : State :=
  let w := s.twin
  if w.activeOut then (s.modTwin fun w => { w with outDriven := true, hold := false }).modIo (Io.follow false false)
  else if w.activeIn != .low then
    let s := (s.modTwin fun w => { w with outDriven := false, hold := false }).modIo (Io.follow false true)
    ((State.forEach (strings.filter fun n => s.str[n].drives != 0) (fun n => State.driveCoils n 0) s).modTwin fun w => { w with pcsLast := false }).send .line 0 "PCS_BYPASS" [1]
  else if w.outDriven || !w.hold then
    State.forEach strings (fun n s => s.modStr n fun e => { e with pullin := 0 }) ((s.modTwin fun w => { w with outDriven := false, hold := true, pcsLast := if w.outDriven then s.saf.fab.pcsOpen else w.pcsLast }).modIo (Io.follow true false))
  else s

/-- Do the PCS_TRIP contacts stand open: as the safety channels have them, bypassed while fenced or while the twin is or may be active, their last state
in the hold-up with both lines low, and open after it (08 R221; 09 R236, Table 9.4, R252). -/
def State.pcsStands (s : State) : Bool :=
  let w := s.twin
  if w.fenceIn then false
  else if w.role == .alone || w.activeOut then s.saf.fab.pcsOpen
  else if w.activeIn != .low then false
  else if w.hold then w.pcsLast
  else true

/-- The own ACTIVE line driven high or low. -/
def State.setActive (v : Bool) (s : State) : State :=
  ((s.withOutputs fun s => s.modTwin fun w => { w with activeOut := v }).send .line 0 "ACTIVE" [b2n v]).followLines

/-- The reaction to a fault that the member has found in itself (08 R212): alone, BANK FAULT; ACTIVE, the enables and ACTIVE_OUT
fall without RELEASING and the leases are no longer renewed; STANDBY, only the role changes. -/
def State.memberFault (code : Nat) (s : State) : State :=
  match s.twin.role with
  | .alone => s.bankFault code
  | .active =>
    let s := s.withOutputs (fun s => s.modSaf fun t => { t with a := t.a.withdrawAll, b := t.b.withdrawAll })
    ((s.modTwin fun w => { w with hand := .none, releasing := false, selfFault := true }).setActive false).roleTo .unsynced code
  | .standby => s.roleTo .unsynced code
  | _ => s

/-! ### Phase health (05 R148) -/

/-- Is a phase healthy in both views (05 R148). -/
def GdPhase.healthy (g : GdPhase) : Bool := !g.dataFault && !g.mgmtFault

/-- Control cycles in the management view's window: three, or, while no DUTY frame goes out, the longer of three and 150 us (05 R148). -/
def State.mgmtWindow (n : Fin 8) (s : State) : Nat :=
  let p := (s.topo n).pNom
  if s.offPattern n || !s.strLease n then max 3 ((1920000 + p - 1) / p) else 3

/-- The management view of a phase (05 R148): FLAGS [3:0] or [7], or no valid STATUS in as many whole control cycles as the window has:
the cycle in which the last one came is none of them; faulted until the first one. -/
def GdPhase.mgmt (window : Nat) (g : GdPhase) : Bool := g.flags.toNat % 16 ≠ 0 || bit g.flags.toNat 7 || !g.heard || g.statusRun > window

/-- The management view formed anew, stamped where it changes (05 R148). -/
def GdPhase.view (window now : Nat) (g : GdPhase) : GdPhase :=
  { g with mgmtFault := g.mgmt window, mgmtTsc := if g.mgmt window == g.mgmtFault then g.mgmtTsc else now }

/-- Views that differ for longer than the window: DISAGREE once, with both views and their stamps, counted (05 R148, 08 R210). -/
def State.gdViews (n : Fin 8) (p : Fin 6) (s : State) : State :=
  let w := s.mgmtWindow n
  let s := s.modGd n p (GdPhase.view w s.now)
  let g := s.str[n].gd[p]
  if g.dataFault == g.mgmtFault then s.modGd n p fun g => { g with diffRun := 0, disagree := false }
  else if g.diffRun > w && !g.disagree then
    let s := (s.modGd n p fun g => { g with disagree := true }).modStr n fun e => { e with evt := setBit e.evt 4 true }
    (s.emit 0x4822 (Src.str n) (ints [p, b2n g.dataFault, g.dataTsc, b2n g.mgmtFault, g.mgmtTsc])).bump (Reg.str n 0x220)
  else s

end Sys2Proof.Machine
end

