-- ==== Sys2Proof/Machine/Ring.lean ====
section
/-! DEFINITION. The Ring ports (spec 03): enumeration, breaks, the return to CLOSED, the fault loop, and the queue of command
exchanges. -/

namespace Sys2Proof.Machine

/-! ### Shared -/

/-- One node's entry at its port changed. -/
def State.modNode (n : Fin 8) (k : Fin 24) (f : NodeEntry → NodeEntry) (s : State) : State :=
  s.modRing n fun r => { r with nodes := Vec.upd r.nodes k f }

/-- STATUS.LEASE: the Ring-master lease held, or the module runs alone (03 Table 3.14). -/
def State.ringLease (n : Fin 8) (s : State) : Bool := s.twin.role == .alone || s.twin.ring[n].held

/-- STATUS.REPEATING: a port of a paired member without the lease repeats between its ends (03 R96, Table 3.14). -/
def State.repeating (n : Fin 8) (s : State) : Bool := s.img.cfg.paired && !s.ringLease n

/-- RINGn_RESULT; a refusal that is no LHP request's counts nowhere else (03 Table 3.16). -/
def State.ringResult (n : Fin 8) (code detail : Nat) (s : State) : State :=
  s.modRing n fun r => { r with resCode := BitVec.ofNat 16 code, resDetail := BitVec.ofNat 16 detail }

/-- The node at an address, 1 to 24. -/
def nodeAt (a : Nat) : Option (Fin 24) := if h : 1 ≤ a ∧ a ≤ 24 then some ⟨a - 1, by omega⟩ else none

/-! ### Frames sent (03 R66 to R69) -/

/-- A frame on the lane: preamble, start delimiter, header, payload, MAC over header and payload, check over all three, end delimiter
(03 Tables 3.1 and 3.2). -/
def RingFrame.bytes (type addr ctr set opcode : Nat) (payload : List Byte) (key : Option Nat) : List Byte :=
  let m := leBytes 1 type ++ leBytes 1 addr ++ leBytes 1 ctr ++ leBytes 1 set ++ leBytes 2 payload.length ++ leBytes 2 opcode ++ payload
  let c := m ++ macField key m
  [0x55#8, 0x55#8, 0xD3#8] ++ c ++ leBytes 4 (crc32c c) ++ [0x2C#8]

/-- Is an end held silent after a loss of signal (03 R88). -/
def RingPort.silent (r : RingPort) (endB : Bool) : Bool := if endB then r.silentB else r.silentA

/-- May the port launch at an end: under its lease, or measuring for its twin, and not held silent (03 R88, R96, R97). -/
def State.mayLaunch (n : Fin 8) (endB : Bool) (s : State) : Bool :=
  (s.ringLease n || ((s.ring[n].enumRun.map (·.peer)).getD false)) && !s.ring[n].silent endB

/-- A frame launched at an end: `shift` is the offset of its launch instant in 0.125 ns, `addr` the node address, UP is 0 and END the end
(03 R66, R78, Table 3.2). A port that may not launch sends nothing. -/
def State.sendRing (n : Fin 8) (endB : Bool) (what : String) (shift type addr ctr opcode : Nat) (payload : List Byte) (key : Option Nat) (s : State) : State :=
  if s.mayLaunch n endB
  then s.send .ring n what (ints (shift :: (RingFrame.bytes type (64 * b2n endB + addr) ctr (s.cycle % 256) opcode payload key).map (·.toNat)))
  else s

/-- A frame that fails its check, or passes it and fails its MAC, is discarded and counted (03 R67, R68). -/
def State.frameBad (n : Fin 8) (node : Nat) (crcOk : Bool) (s : State) : State :=
  if !crcOk then s.bump (Reg.ring n 0x044)
  else
    let src := match nodeAt node with | some k => Src.node n k | none => Src.ring n
    (s.bump (Reg.ring n 0x048)).emit 0x8213 src [n, node]

/-- Is an enumeration or a CLOSE of the Ring running (03 R75). -/
def RingPort.busy (r : RingPort) : Bool := r.enumRun.isSome || r.closeStep != .none

/-- Is a node served from end B: in SPLIT, the nodes above POS (03 R90, R92). -/
def RingPort.fromB (r : RingPort) (a : Nat) : Bool := r.both && a > r.pos.toNat

/-! ### Command exchanges (03 R84) -/

/-- Does a request go before another: the urgent ones first, then by stamp and source (03 R84, R93; 01 R25). -/
def RingCmdReq.before (a b : RingCmdReq) : Bool :=
  if a.urgent != b.urgent then a.urgent else a.stamp < b.stamp || (a.stamp == b.stamp && a.source < b.source)

/-- A request put into the queue in its order. -/
def RingCmdReq.insert : List RingCmdReq → RingCmdReq → List RingCmdReq
  | [], c => [c]
  | x :: t, c => if RingCmdReq.before c x then c :: x :: t else x :: RingCmdReq.insert t c

/-- The exchange outstanding at an end. -/
def RingPort.outAt (r : RingPort) (endB : Bool) : Option RingCmdReq := if endB then r.outB else r.outA

/-- The exchange outstanding at an end replaced. -/
def State.setExchange (n : Fin 8) (endB : Bool) (c : Option RingCmdReq) (s : State) : State :=
  s.modRing n fun r => if endB then { r with outB := c } else { r with outA := c }

/-- The end delimiter of the command outstanding at an end, TSC in ns. -/
def RingPort.cmdEnd (r : RingPort) (endB : Bool) : Nat := if endB then r.cmdEndB else r.cmdEndA

/-- Time on the lane of a frame with `p` bytes of payload: 160 ns for each byte (03 R64, Table 3.1). -/
def Lane.frameNs (p : Nat) : Nat := 160 * (24 + p)

/-- The longest exchange of a command: its frame, 30 us to the timing point of the REPLY, and a REPLY of 112 bytes (03 R66, R84; log
70). -/
def RingCmdReq.exchangeNs (c : RingCmdReq) : Nat := Lane.frameNs c.payload.length + 30000 + Lane.frameNs 112

/-- The command as it leaves in this cycle: SET_COMP applies at the second T0 after it is sent, WRAP and UNWRAP at 990 us of this cycle
(03 R93; 04 R101). -/
def State.timed (c : RingCmdReq) (s : State) : RingCmdReq :=
  if c.opcode == 0x0010 then { c with payload := c.payload.take 8 ++ leBytes 8 (s.clk.cycleT0 + 2000000) }
  else if c.opcode == 0x0002 || c.opcode == 0x0003 then { c with payload := c.payload.take 1 ++ leBytes 8 (s.clk.cycleT0 + 990000) }
  else c

/-- A COMMAND launched at an end, with the node's next counter, or the same one where it is sent again (03 R71, R84); a SET_COMP is counted (04
R106). -/
def State.launch (n : Fin 8) (endB : Bool) (c : RingCmdReq) (s : State) : State :=
  match nodeAt c.node with
  | none => s
  | some k =>
    let s := s.when (c.fails = 0) fun s => (s.modNode n k fun e => { e with ctr := e.ctr + 1 }).when (c.opcode == 0x0010) (State.bump (Reg.ring n 0x384))
    let c := s.timed c
    let done := s.now + Lane.frameNs c.payload.length
    let s := (s.setExchange n endB (some c)).modRing n fun r => if endB then { r with cmdEndB := done } else { r with cmdEndA := done }
    s.sendRing n endB "COMMAND" 0 0x03 c.node s.ring[n].nodes[k].ctr.toNat c.opcode.toNat c.payload s.ring[n].nodes[k].key

/-- May a node be sent a command: not isolated, and its counter known after a switchover (03 R71, R92). -/
def RingPort.reachable (r : RingPort) (node : Nat) : Bool :=
  match nodeAt node with
  | none => false
  | some k => !r.nodes[k].isolated && !r.nodes[k].ctrSync

/-- The first queued command that an end serves. -/
def RingPort.nextFor (r : RingPort) (endB : Bool) : Option RingCmdReq := r.queue.find? fun c => r.fromB c.node == endB && r.reachable c.node

/-- Can an exchange that begins now at an end complete by 985 us (03 R84 point 4). -/
def State.fits (c : RingCmdReq) (start : Nat) (s : State) : Bool := start + (s.timed c).exchangeNs ≤ s.clk.cycleT0 + 985000

/-- An end with no exchange outstanding launches its next queued command while the window is open (03 R84). -/
def State.pump (n : Fin 8) (endB : Bool) (s : State) : State :=
  let r := s.ring[n]
  match r.nextFor endB with
  | none => s
  | some c =>
    if r.windowOpen && (r.outAt endB).isNone && s.mayLaunch n endB && s.fits c s.now
    then (s.modRing n fun r => { r with queue := r.queue.erase c }).launch n endB c
    else s

/-- A block's request of a command (03 R84): queued and, where its end is idle in an open window, launched at once; refused with
RING_CMD_FULL and counted where 64 wait. The port's own WRAP and UNWRAP go ahead of every queued command and are never refused (R93). A
node that has been isolated is served nothing (R92). Answers whether the command was taken. -/
def State.ringRequest (n : Fin 8) (c : RingCmdReq) (s : State) : Bool × State :=
  if (match nodeAt c.node with | some k => s.ring[n].nodes[k].isolated | none => false) || c.payload.length > 256 then (false, s)
  else if s.ring[n].queue.length < 64 || c.urgent
  then (true, (s.modRing n fun r => { r with queue := RingCmdReq.insert r.queue { c with stamp := s.now, fails := 0 } }).pump n (s.ring[n].fromB c.node))
  else (false, (s.ringResult n 0x020D 0).bump (Reg.ring n 0x05C))

/-- A request whose refusal the requester does not act on. -/
def State.ringAsk (n : Fin 8) (c : RingCmdReq) (s : State) : State := (s.ringRequest n c).2

/-- RING_COMMAND_REQUEST (03 R84). -/
def execRingCommandRequest (n : Fin 8) (c : RingCmdReq) (s : State) : Host.Outcome State Fault Refusal := .next (s.ringAsk n c)

/-- WRAP or UNWRAP to the two nodes beside the break, ahead of every queued command, with effect at 990 us (03 R93). -/
def State.wrapCmds (n : Fin 8) (opcode : BitVec 16) (s : State) : State :=
  let p := s.ring[n].pos.toNat
  let cmd (a side : Nat) (s : State) : State :=
    if 1 ≤ a ∧ a ≤ (s.topo n).packs then s.ringAsk n { node := a, opcode := opcode, payload := [BitVec.ofNat 8 side], source := Src.ring n, urgent := true } else s
  cmd (p + 1) 0 (cmd p 1 s)

/-- Is an end ready for one exchange of UNWRAP that completes in this window: idle, or free early enough (03 R84, R93). -/
def State.unwrapFits (n : Fin 8) (endB : Bool) (s : State) : Bool :=
  let c : RingCmdReq := { opcode := 0x0002, payload := [0] }
  let free := match s.ring[n].outAt endB with | none => s.now | some _ => max s.now (s.ring[n].cmdEnd endB + 30000 + Lane.frameNs 112)
  s.ring[n].windowOpen && s.fits c free

/-- UNWRAP sent to both nodes in the first window in which both exchanges can complete (03 R93 step 1). -/
def State.tryUnwrap (n : Fin 8) (s : State) : State :=
  if s.ring[n].closeStep == .wait && s.unwrapFits n false && s.unwrapFits n true
  then (s.modRing n fun r => { r with closeStep := .unwrap }).wrapCmds n 0x0002 else s

/-- COMMAND_WINDOW_OPEN (03 R82, R84): at 665 us each serving end launches what it has queued; a CLOSE that waits begins (R93). -/
def execCommandWindowOpen (n : Fin 8) (s : State) : Host.Outcome State Fault Refusal :=
  .next <|
    let r := s.ring[n]
    let on := r.mode == .closed || r.mode == .split || r.mode == .lost
    (((((s.atCycle 665000).modRing n fun r => { r with windowOpen := on }).tryUnwrap n).pump n false).pump n true)

/-! ### Enumeration (03 R75 to R81) -/

/-- Every auxiliary input of the string reports open. -/
def StrEng.auxOpen (e : StrEng) : Bool := e.aux == 0

/-- The conditions of RINGn_CMD = ENUMERATE, in order: lease, busy, state (03 R75, R96). -/
def State.enumCode (n : Fin 8) (s : State) : Nat :=
  firstCode [(!s.ringLease n, 0x020B), (s.ring[n].busy, 0x020A), (s.str[n].state.active || !s.str[n].auxOpen, 0x0201)]

/-- An enumeration begins with 250 ms of silence, after which every node has lost its address and keys (03 R76, R85). BIND is then
spent (10 R277). -/
def State.enumStart (n : Fin 8) (s : State) : State :=
  let b := bit s.trust.bindRing.toNat n
  (s.modTrust fun t => { t with bindRing := setBit t.bindRing n false }).modRing n fun r =>
    { r with mode := .silent, both := false, nodeCount := 0, queue := [], outA := none, outB := none, windowOpen := false, closeStep := .none, splitNext := false, enumRun := some { phase := .silence, bind := b, beganUp := s.clk.upNs }, bcastKey := none, nodes := Vec.updAll r.nodes fun _ e => { e with enumerated := false, key := none, ctr := 0, ctrSync := false, missRun := 0, isolated := false, got := false, valid := false } }

/-- RINGn_CMD = ENUMERATE; in a pair the twin learns that its tables of the Ring no longer hold. -/
def State.enumBegin (n : Fin 8) (s : State) : State := (s.enumStart n).when s.paired (State.twinRecord (.work (.ringEnum n)) "RING_ENUM")

/-- RINGn_CMD = ENUMERATE. -/
def Ring.enumerate (n : Fin 8) : Write := Write.cmd (fun _ s => s.enumCode n) (fun c s => s.ringResult n c 0) (State.enumBegin n)

/-- RING_ENUMERATE (03 R75). -/
def execRingEnumerate (q : Req) (n : Fin 8) (s : State) : Host.Outcome State Fault Refusal := .next (s.hostWrite q (Ring.enumerate n))

/-- The session keys of a Ring, used until the nodes sleep (03 R69). -/
def RingPort.dropKeys (r : RingPort) : RingPort := { r with bcastKey := none, nodes := Vec.updAll r.nodes fun _ e => { e with key := none } }

/-- An enumeration's first failure ends it (03 R79): the nodes sleep, no BEACON is sent. -/
def State.enumFail (n : Fin 8) (code pos : Nat) (s : State) : State :=
  (((s.modRing n fun r => { r.dropKeys with mode := .enumFailed, enumRun := none, outA := none, outB := none, nodeCount := 0 }).ringResult n code pos).bump (Reg.ring n 0x068)).emit
    0x821B (Src.ring n) [code, pos]

/-- The running enumeration at a phase, unless it waits between two node steps (03 R80). -/
def RingPort.at (r : RingPort) (p : EnumPhase) : Option EnumRun := r.enumRun.filter fun e => e.phase == p && !e.held

/-- The running enumeration replaced. -/
def State.modEnum (n : Fin 8) (f : EnumRun → EnumRun) (s : State) : State := s.modRing n fun r => { r with enumRun := r.enumRun.map f }

/-- A run of measurements for the twin fails, and the twin is told the code and the position; the enumeration itself is the lease
holder's (03 R97). -/
def State.enumStop (n : Fin 8) (code pos : Nat) (s : State) : State :=
  match s.ring[n].enumRun with
  | none => s
  | some e =>
    if e.peer then (s.modRing n fun r => { r with enumRun := none }).twinRecord (.work (.ringMeasured n code pos [] [] 0)) "RING_MEASURED"
    else s.enumFail n code pos

/-- ASSIGN sent from end A with the next address as its payload, to the unassigned address 0 and without a key (03 R67, R77; log 71). -/
def State.sendAssign (n : Fin 8) (s : State) : State :=
  let k := (s.ring[n].enumRun.map (·.k)).getD 0
  (s.modEnum n fun e => { e with phase := .assign, sess := none, probes := [] }).sendRing n false "ASSIGN" 0 0x05 0 0 0 (leBytes 1 (k + 1)) none

/-- ENUM_SILENCE_END (03 R76): idle symbols leave both ends; of the silence, they were sent in its last 10 ms (log 138). -/
def execEnumSilenceEnd (n : Fin 8) (s : State) : Host.Outcome State Fault Refusal :=
  .next <| match s.ring[n].at .silence with
    | none => s
    | some _ =>
      let s := (s.modRing n fun r => { r with mode := .enum, bcastKey := if s.trust.keysErased then none else some s.freshNat }).tick
      ((s.send .ring n "IDLE" [0]).send .ring n "IDLE" [1]).sendAssign n

/-- A SESSION frame to the node under enumeration; Chapter 10 gives it no key, so its MAC field is zero (03 Table 3.3; log 71). -/
def State.sendSession (n : Fin 8) (k : Nat) (m : List Byte) (s : State) : State := s.sendRing n false "SESSION" 0 0x07 k 0 0 m none

/-- A SESSION with a node fails: counted and recorded, and the enumeration ends with ENUM_AUTH (10 R276). -/
def State.nodeAuthFail (n : Fin 8) (k : Nat) (s : State) : State :=
  let src := match nodeAt k with | some i => Src.node n i | none => Src.ring n
  (((s.bump 0x240100).emit 0x8A16 src [n, k])).enumFail n 0x0205 k

/-- IDENTITY_RECEIVED (03 R68, R77): the check, the count, then ALLOWLIST, then HELLO of the SESSION (10 R276),
which a zeroised module cannot open (R287). -/
def execIdentityReceived (n : Fin 8) (crcOk : Bool) (ident : BitVec 128) (s : State) : Host.Outcome State Fault Refusal :=
  .next <|
    if !crcOk then s.frameBad n 0 false
    else
      match s.ring[n].at .assign with
      | none => s
      | some e =>
        let k := e.k + 1
        if k > (s.topo n).packs then s.enumFail n 0x0203 k
        else
          match nodeAt k with
          | none => s.enumFail n 0x0203 k
          | some i =>
            if ident != s.img.cfg.nodeIdent n i then s.enumFail n 0x0204 k
            else if s.trust.keysErased then s.nodeAuthFail n k
            else (s.tick.tick.modEnum n fun e => { e with phase := .session, k := k, sess := some (s.newSess e.bind) }).sendSession n k (s.helloMsg e.bind)

/-- ENUM_TIMEOUT (03 R77): no IDENTITY, or no transit frame, within 1 ms. DESIGN CHOICE (log 72): the spec gives a PROBE no limit, so a run
whose PROBE_REPLY never comes waits on. -/
def execEnumTimeout (n : Fin 8) (s : State) : Host.Outcome State Fault Refusal :=
  .next <| match s.ring[n].enumRun with
    | none => s
    | some e =>
      match e.held, e.phase with
      | false, .assign => s.enumFail n 0x0202 (e.k + 1)
      | false, .transit => s.enumStop n 0x0202 ((s.topo n).packs + 1)
      | _, _ => s

/-- SESSION_DEADLINE (10 R276). -/
def execSessionDeadline (n : Fin 8) (s : State) : Host.Outcome State Fault Refusal :=
  .next <| match s.ring[n].at .session with
    | none => s
    | some e => s.nodeAuthFail n e.k

/-- The key of the node at an address. -/
def RingPort.keyAt (r : RingPort) (a : Nat) : Option Nat := match nodeAt a with | some k => r.nodes[k].key | none => none

/-- The next PROBE of a MEASURE run launched from an end; the launch instants go across a tick of 2 ns in steps of 0.125 ns (03 R78). -/
def State.sendProbe (n : Fin 8) (endB : Bool) (s : State) : State :=
  match s.ring[n].enumRun with
  | none => s
  | some e => s.sendRing n endB "PROBE" (e.probes.length % 16) 0x08 e.k 0 0 [] (s.ring[n].keyAt e.k)

/-- The node step that stands next: the first frame of its phase (03 R77, R97). -/
def State.stepGo (n : Fin 8) (s : State) : State :=
  match s.ring[n].enumRun with
  | none => s
  | some e =>
    let s := s.modEnum n fun e => { e with held := false }
    match e.phase with
    | .assign => s.sendAssign n
    | .measureA => s.sendProbe n false
    | .measureB => s.sendProbe n true
    | _ => s

/-- Between two node steps a band change that is due goes first, in the next guard window (03 R80). -/
def State.nodeStep (n : Fin 8) (s : State) : State :=
  if s.thm.pend.isSome then s.modEnum n fun e => { e with held := true } else s.stepGo n

/-- The transit frame at end A: an ASSIGN to an address that no node has, which every node now passes on (03 R77; log 71). -/
def State.sendTransit (n : Fin 8) (s : State) : State :=
  (s.modEnum n fun e => { e with phase := .transit }).sendRing n false "TRANSIT" 0 0x05 0 0 0 (leBytes 1 ((s.topo n).packs + 1)) none

/-- The broadcast key wrapped for a node under the session's wrap key, with the first 12 bytes of H3 as nonce (10 R276). -/
def State.wrappedKey (n : Fin 8) (k : Nat) (m : List Byte) (s : State) : List Byte :=
  leBytes 48 (Config.wrapKey (SessRun.keyOf m "LX-RING-WRAP" s.ident.serial.toNat n k) ((SessRun.hash m).toNat % 2 ^ 96) (s.ring[n].bcastKey.getD 0))

/-- RING_SESSION_FRAME (03 R68; 10 R276, R277): the node's identity and signature, then its proof of the key. -/
def execRingSessionFrame (n : Fin 8) (f : SessFrame) (s : State) : Host.Outcome State Fault Refusal :=
  .next <| match s.ring[n].at .session with
    | none => if f.crcOk && f.macOk then s else s.frameBad n 0 f.crcOk
    | some e =>
      if !(f.crcOk && f.macOk) then s.frameBad n e.k f.crcOk
      else
        match nodeAt e.k, e.sess with
        | some i, some r =>
          if r.step = 1 ∧ f.step = 2 then
            if s.partnerOk (s.img.cfg.nodeIdent n i) r f then
              let m := r.afterId f
              let a := s.moduleMsgs false (m ++ [3#8] ++ f.sig) (s.wrappedKey n e.k m)
              let run : SessRun := { r with step := 5, msgs := m ++ [3#8] ++ f.sig ++ a.1 ++ a.2, key := SessRun.keyOf m "LX-RING-NODE" s.ident.serial.toNat n e.k, startUp := s.clk.upNs }
              ((s.modEnum n fun e => { e with sess := some run }).sendSession n e.k a.1).sendSession n e.k a.2
            else s.nodeAuthFail n e.k
          else if r.step = 5 ∧ f.step = 6 then
            if f.mac == r.doneMac then
              let s := s.modNode n i fun d => { d with key := some r.key, ctr := 0 }
              (s.modEnum n fun e => { e with phase := .measureA, sess := none, probes := [] }).sendProbe n false
            else s.nodeAuthFail n e.k
          else s.nodeAuthFail n e.k
        | _, _ => s.nodeAuthFail n e.k

/-- H(k): hops between positions k − 1 and k, as this member's ends see them (03 R77). -/
def State.hops (n : Fin 8) (k : Nat) (s : State) : Nat :=
  if s.img.cfg.paired && ((s.ident.member && k = 1) || (!s.ident.member && k = (s.topo n).packs + 1)) then 2 else 1

/-- The mean of a MEASURE run in 0.25 ns, its values counted in 0.0625 ns (03 R78). DESIGN CHOICE (log 74): a tie is rounded up. -/
def EnumRun.mean (l : List Int) : Nat := ((l.foldl (· + ·) (0 : Int) + 2 * (l.length : Int)) / (4 * (l.length : Int))).toNat

/-- Compensation of a node for an end: 25,000 ns less the delay and the correction, to the nearest ns, halves up (04 R100). -/
def Comp.value (dly : Nat) (corr : Rat) : BitVec 16 := BitVec.ofNat 16 ((25000 - (dly : Rat) / 4 - corr + 1 / 2).floor.toNat)

/-- The SET_COMP command of a node; APPLY_T0 is set, and the command counted, as it is sent; one that the queue refuses is asked for again at the next
update (04 R101, R106, Table 4.1). -/
def State.setComp (n : Fin 8) (k : Fin 24) (s : State) : State :=
  let e := s.ring[n].nodes[k]
  let c := s.sense[n].nodes[k]
  let a := Comp.value e.dlyA.toNat c.corrA
  let b := Comp.value e.dlyB.toNat c.corrB
  let p := leBytes 2 a.toNat ++ leBytes 2 b.toNat ++ leBytes 4 0 ++ leBytes 8 0
  let q := s.ringRequest n { node := k + 1, opcode := 0x0010, payload := p, source := Src.ring n }
  if q.1
  then q.2.modSense n fun r => { r with compPending := true, nodes := Vec.upd r.nodes k fun c => { c with sentA := a, sentB := b } }
  else q.2

/-- Entering SPLIT (04 R105): every node's correction kept as it stood, no references, no sums. -/
def RingSense.enterSplit (c : RingSense) : RingSense :=
  { c with refA := none, refB := none, sumA := 0, sumB := 0, cntSegA := 0, cntSegB := 0, nodes := Vec.updAll c.nodes fun _ d => { d with keepA := d.corrA, keepB := d.corrB } }

/-- The delay tables of a finished run stored with L (03 R77). -/
def RingPort.tables (r : RingPort) (packs : Nat) (e : EnumRun) : RingPort :=
  { r with enumRun := none, nodeCount := packs, loopEnum := BitVec.ofNat 32 e.transit, loopNow := BitVec.ofNat 32 e.transit, pos := 0xFF, pos2 := 0xFF, both := false, closeBlocked := false, drift := false, driftSince := none, missedRet := 0, nodesMiss := 0, nodes := Vec.updAll r.nodes fun k d => if (k : Nat) < packs then { d with enumerated := true, dlyA := BitVec.ofNat 16 (e.dA.getD k 0), dlyB := BitVec.ofNat 16 (e.dB.getD k 0), missRun := 0, isolated := false } else d }

/-- The sensing of a Ring after an enumeration: no correction, no reference, no drift (04 R103, R104, R106). -/
def RingSense.fresh (r : RingSense) : RingSense :=
  { r with enumNeeded := false, alignUnc := false, dltA := 0, dltB := 0, deltaA := 0, deltaB := 0, sumNow := 0, cntNow := 0, refA := none, refB := none, cntSegA := 0, cntSegB := 0, nodes := Vec.updAll r.nodes fun _ c => { c with corrA := 0, corrB := 0 } }

/-- An enumeration succeeds: CLOSED, ENUM_DONE, SET_COMP and READ_INFO to every node (03 R77, R81; 05 R155; 04 R103, R106). -/
def State.enumDone (n : Fin 8) (e : EnumRun) (s : State) : State :=
  let packs := (s.topo n).packs
  let s := (s.modRing n fun r => { r.tables packs e with mode := .closed }).modSense n RingSense.fresh
  let s := (s.bump (Reg.ring n 0x064)).emit 0x0216 (Src.ring n) [packs]
  let s := s.modUpd fun u => { u with partPending := setBit u.partPending n false }
  let s := (s.modImg fun i => { i with reenum := setBit i.reenum n false }).modStr n fun e => { e with lockoutEnum := true }
  State.forEach (s.topo n).nodes (fun k s => (s.setComp n k).ringAsk n { node := k + 1, opcode := 0x0040, source := 0x030 }) s

/-- The own tables are complete (03 R81, R97): in a pair the tables and the session keys go to the twin, which measures from its own ends
while the holder launches nothing; a member without a twin is done. A run for the twin is answered with its tables, and the port takes a
copy of the served Ring's frames from then on (R96). -/
def State.ownTables (n : Fin 8) (e : EnumRun) (s : State) : State :=
  let keys := s.ring[n].nodes.toList.map (·.key)
  if e.peer then
    (s.modRing n fun r => { r.tables (s.topo n).packs e with mode := .closed }).twinRecord (.work (.ringMeasured n 0 0 e.dA e.dB e.transit)) "RING_MEASURED"
  else if s.paired then
    (s.modEnum n fun _ => { e with phase := .peer, probes := [] }).twinRecord (.work (.ringTables n keys s.ring[n].bcastKey e.dA e.dB e.transit)) "RING_TABLES"
  else s.enumDone n e

/-- A MEASURE run from end A is complete: the hop limit, then OPEN to the node; a run for the twin finds every node open and goes on to
the next (03 R77, R97). -/
def State.measuredA (n : Fin 8) (e : EnumRun) (d : Nat) (s : State) : State :=
  let prev := (e.dA.getLast?).getD 0
  if d > prev + 1800 * s.hops n e.k then s.enumStop n 0x0206 e.k
  else if !e.peer then
    (s.modEnum n fun e => { e with phase := .openCmd, dA := e.dA ++ [d], probes := [] }).launch n false { node := e.k, opcode := 0x0001, source := Src.ring n }
  else if e.k < (s.topo n).packs then (s.modEnum n fun e => { e with k := e.k + 1, dA := e.dA ++ [d], probes := [] }).nodeStep n
  else (s.modEnum n fun e => { e with dA := e.dA ++ [d], probes := [] }).sendTransit n

/-- The first node whose delays disagree with L by more than 6 ns (03 R77). -/
def EnumRun.delayBad (e : EnumRun) (packs : Nat) : Option Nat :=
  (List.range packs).find? fun i => ((e.dA.getD i 0 + e.dB.getD i 0 : Int) - e.transit).natAbs > 24

/-- A MEASURE run from end B is complete: on to the node below, and after node 1 the delay check (03 R77). -/
def State.measuredB (n : Fin 8) (e : EnumRun) (d : Nat) (s : State) : State :=
  let e := { e with dB := d :: e.dB, probes := [] }
  if e.k > 1 then (s.modEnum n fun _ => { e with k := e.k - 1 }).nodeStep n
  else
    match e.delayBad (s.topo n).packs with
    | some i => s.enumStop n 0x0207 (i + 1)
    | none => s.ownTables n e

/-- PROBE_REPLY_RECEIVED (03 R68, R78): `elapsed` is t1 − t0 in 0.125 ns, `turn` the node's turnaround in 0.25 ns. -/
def execProbeReplyReceived (n : Fin 8) (crcOk macOk : Bool) (elapsed turn : Nat) (s : State) : Host.Outcome State Fault Refusal :=
  .next <|
    if !(crcOk && macOk) then s.frameBad n ((s.ring[n].enumRun.map (·.k)).getD 0) crcOk
    else
      match s.ring[n].enumRun with
      | none => s
      | some e =>
        if e.held || !(e.phase == .measureA || e.phase == .measureB) then s
        else
          let l := e.probes ++ [(elapsed : Int) - 2 * turn]
          if l.length < 64 then (s.modEnum n fun e => { e with probes := l }).sendProbe n (e.phase == .measureB)
          else if e.phase == .measureA then s.measuredA n e (EnumRun.mean l)
          else s.measuredB n e (EnumRun.mean l)

/-- ASSIGN_AT_END_B (03 R77): every node is open; the count, then the transit frame. -/
def execAssignAtEndB (n : Fin 8) (s : State) : Host.Outcome State Fault Refusal :=
  .next <| match s.ring[n].at .assign with
    | none => s
    | some e => if e.k < (s.topo n).packs then s.enumFail n 0x0203 (e.k + 1) else s.sendTransit n

/-- TRANSIT_AT_END_B (03 R77): L, the last hop's limit, then the measurements from end B. -/
def execTransitAtEndB (n : Fin 8) (transit : Nat) (s : State) : Host.Outcome State Fault Refusal :=
  .next <| match s.ring[n].at .transit with
    | none => s
    | some e =>
      let packs := (s.topo n).packs
      if transit > (e.dA.getLast?).getD 0 + 1800 * s.hops n (packs + 1) then s.enumStop n 0x0206 (packs + 1)
      else (s.modEnum n fun e => { e with phase := .measureB, transit := transit, k := packs, probes := [] }).sendProbe n true

/-- The twin enumerates a Ring: this member's tables of it no longer hold (03 R76, R97). -/
def State.peerEnum (n : Fin 8) (s : State) : State :=
  s.modRing n fun r => { r.dropKeys with mode := .idle, both := false, enumRun := some { phase := .silence, peer := true }, nodes := Vec.updAll r.dropKeys.nodes fun _ e => { e with enumerated := false } }

/-- The twin's tables and keys arrive: kept as the twin's, and the own measurement begins at end A (03 R81, R97). -/
def State.peerTables (n : Fin 8) (keys : List (Option Nat)) (bcast : Option Nat) (dA dB : List Nat) (s : State) : State :=
  let s := s.modRing n fun r =>
    { r with bcastKey := bcast, enumRun := some { phase := .measureA, k := 1, peer := true }, nodes := Vec.updAll r.nodes fun k e => { e with key := keys.getD k none, tdlyA := BitVec.ofNat 16 (dA.getD k 0), tdlyB := BitVec.ofNat 16 (dB.getD k 0) } }
  s.sendProbe n false

/-- The twin's measurements arrive: a failure ends the enumeration with its code, else the twin's tables are kept and the enumeration
is done (03 R97). -/
def State.peerMeasured (n : Fin 8) (code pos : Nat) (dA dB : List Nat) (s : State) : State :=
  match s.ring[n].at .peer with
  | none => s
  | some e =>
    if code ≠ 0 then s.enumFail n code pos
    else (s.modRing n fun r => { r with nodes := Vec.updAll r.nodes fun k d => { d with tdlyA := BitVec.ofNat 16 (dA.getD k 0), tdlyB := BitVec.ofNat 16 (dB.getD k 0) } }).enumDone n e

/-- The pair ends while the twin measures: the holder's own tables stand (03 R97; log 73). -/
def State.peerGone (n : Fin 8) (s : State) : State := match s.ring[n].at .peer with | none => s | some e => s.enumDone n e

/-- The member no longer holds the Ring-master lease: an enumeration of its own ends with ENUM_ABORTED, its exchanges are over and it
repeats (03 R96, R97). -/
def State.loseRing (n : Fin 8) (s : State) : State :=
  let s := s.modRing n fun r => { r with outA := none, outB := none, windowOpen := false, closeStep := .none }
  match s.ring[n].enumRun with
  | none => s
  | some e => if e.peer then s else s.enumFail n 0x020C 0

/-! ### Loss of signal, breaks and SPLIT -/

/-- RING_LOS (03 R88): both transmitters of the end silent for 10 us. -/
def execRingLos (n : Fin 8) (endB : Bool) (s : State) : Host.Outcome State Fault Refusal :=
  .next <|
    ((s.modRing n fun r => if endB then { r with losB := true, silentB := true, losSetB := true } else { r with losA := true, silentA := true, losSetA := true }).bump (Reg.ring n 0x06C)).emit
      0x421A (Src.ring n) [b2n endB]

/-- Does the silence at the beginning of an enumeration forbid idle symbols still: in all but its last 10 ms of 250 ms (03 R76). -/
def State.enumSilence (n : Fin 8) (s : State) : Bool :=
  ((s.ring[n].at .silence).map fun e => !e.peer && decide (s.since e.beganUp < 240000000)).getD false

/-- LOS_SILENCE_END (03 R88): idle symbols again, unless an enumeration is silent (R76); a command that waited for the end leaves. -/
def execLosSilenceEnd (n : Fin 8) (endB : Bool) (s : State) : Host.Outcome State Fault Refusal :=
  .next <|
    let t := s.modRing n fun r => if endB then { r with silentB := false } else { r with silentA := false }
    (t.when (!s.enumSilence n) (State.send .ring n "IDLE" [b2n endB])).pump n endB

/-- The nodes that have reported a bit of NODE_STATUS in the set being received (03 R89, Table 3.7). -/
def RingPort.reporting (b : Nat) (r : RingPort) : Nat := maskOf (r.nodes.toList.map fun e => e.enumerated && e.got && bit e.status.toNat b)

/-- The nodes that report WRAP_A, or WRAP_B, in the current or the previous set: while a set is being received it is the current one, and after
its close the last closed one is (03 R89). -/
def RingPort.wraps (isB : Bool) (r : RingPort) : Nat :=
  let last := if isB then r.wrapB else r.wrapA
  let prev := if isB then r.wrapPrevB else r.wrapPrevA
  last.toNat ||| (if r.setClosed then prev.toNat else r.reporting (if isB then 28 else 29))

/-- Has an end lost signal in the current or the previous set (03 R89). -/
def RingPort.losSeen (r : RingPort) (endB : Bool) : Bool := if endB then r.losSetB || r.losPrevB else r.losSetA || r.losPrevA

/-- Does a node report WRAP in the current or the previous set, or has an end lost signal in one of them (03 R89). -/
def RingPort.wrapSeen (r : RingPort) : Bool :=
  r.losSeen false || r.losSeen true || r.wraps false ≠ 0 || r.wraps true ≠ 0

/-- The lowest node that reports WRAP_A, or WRAP_B. -/
def RingPort.wrapNode (isB : Bool) (r : RingPort) : Option Nat := ((List.range 24).find? fun i => bit (r.wraps isB) i).map (· + 1)

/-- The break position POS (03 R89). DESIGN CHOICE (log 132): 'the current set' of its last clause, in which an entry was missing, is the last
closed set, of which NODES_MISS tells; the rule does not say which set is current while one is being received. -/
def RingPort.breakPos (r : RingPort) (packs : Nat) : Nat :=
  match r.wrapNode true with
  | some k => k
  | none =>
    match r.wrapNode false with
    | some k => k - 1
    | none =>
      if r.losSeen false then 0
      else if r.losSeen true then packs
      else (((List.range packs).find? fun i => bit r.nodesMiss.toNat i)).getD packs

/-- MISSED_RETURN (03 R89, R90; R93 step 4): a break is declared at the first missed return where a wrap was seen, or at the
second; while CLOSE awaits its test launch, the Ring goes back to SPLIT. -/
def State.declareBreak (n : Fin 8) (s : State) : State :=
  let pos := s.ring[n].breakPos (s.topo n).packs
  ((s.modRing n fun r => { r with pos := BitVec.ofNat 8 pos, splitNext := true, missedRet := 0 }).bump (Reg.ring n 0x040)).emit 0x4210 (Src.ring n) [pos]

/-- The exchanges of WRAP or UNWRAP that need no node: the ends (03 R93), as a mask of 1 for POS and 2 for POS + 1. -/
def RingPort.endsDone (r : RingPort) (packs : Nat) : Nat := (if r.pos == 0 then 1 else 0) + (if r.pos.toNat ≥ packs then 2 else 0)

/-- The test launch of a CLOSE did not return in time or within 6 ns (03 R93 step 4). -/
def State.closeFailed (n : Fin 8) (s : State) : State :=
  ((s.modRing n fun r => { r with closeStep := .wrapBack, closeDone := r.endsDone (s.topo n).packs, closeBlocked := true, ignoreAbove := some r.pos.toNat }).ringResult n 0x0208 0).wrapCmds n 0x0003

/-- MISSED_RETURN (03 R89). -/
def execMissedReturn (n : Fin 8) (s : State) : Host.Outcome State Fault Refusal :=
  .next <|
    let r := s.ring[n]
    if r.closeStep == .awaitReturn then s.closeFailed n
    else if r.mode != .closed || !s.ringLease n then s
    else if r.wrapSeen || r.missedRet ≥ 1 then s.declareBreak n
    else s.modRing n fun r => { r with missedRet := 1 }

/-- The drift condition: |LOOP_NOW − LOOP_ENUM| above 10 ns, and since when (03 R94). -/
def State.driftCheck (n : Fin 8) (s : State) : State :=
  s.modRing n fun r =>
    if ((r.loopNow.toNat : Int) - r.loopEnum.toNat).natAbs > 40 then { r with driftSince := some (r.driftSince.getD s.clk.upNs) } else { r with driftSince := none, drift := false }

/-- BEACON_RETURN (03 R89, R90, R93, R94): the transit in CLOSED, a segment round trip in SPLIT, or the judgement of a CLOSE. The
sums feed the tracking of 04 R104 and R105. In CLOSED only a return at end B within L_now + 200 ns counts, L_now being LOOP_NOW of the cycle
before; a port without its lease expects none (R89, R96). -/
def execBeaconReturn (n : Fin 8) (endB : Bool) (transit : Nat) (s : State) : Host.Outcome State Fault Refusal :=
  .next <|
    let r := s.ring[n]
    if r.closeStep == .awaitReturn then
      if endB && ((transit : Int) - r.loopEnum.toNat).natAbs ≤ 24 then
        (((s.modRing n fun r => { r with mode := .closed, both := false, closeStep := .none, pos := 0xFF, loopNow := BitVec.ofNat 32 transit, missedRet := 0 }).ringResult n 0 0).modSense n fun c => { c with sumNow := 0, cntNow := 0, refA := none, refB := none, cntSegA := 0, cntSegB := 0 })
      else s.closeFailed n
    else if !s.ringLease n then s
    else if r.mode == .closed then
      if !endB || transit > r.loopNow.toNat + 800 then s
      else
      let s := (s.modRing n fun r => { r with loopNow := BitVec.ofNat 32 transit, missedRet := 0 }).modSense n fun c => { c with sumNow := c.sumNow + (transit - r.loopEnum.toNat), cntNow := c.cntNow + 1 }
      s.driftCheck n
    else if r.both then
      let first := if endB then s.sense[n].refB.isNone else s.sense[n].refA.isNone
      let s := s.modRing n fun r => if endB then { r with segBRT := BitVec.ofNat 32 transit } else { r with segART := BitVec.ofNat 32 transit }
      s.modSense n fun c =>
        if first then (if endB then { c with refB := some transit } else { c with refA := some transit })
        else if endB then { c with sumB := c.sumB + (transit - (c.refB.getD 0 : Nat)), cntSegB := c.cntSegB + 1 }
        else { c with sumA := c.sumA + (transit - (c.refA.getD 0 : Nat)), cntSegA := c.cntSegA + 1 }
    else s

/-- RING_DELAY_DRIFT (03 R94): reported, nothing else. -/
def execRingDelayDrift (n : Fin 8) (s : State) : Host.Outcome State Fault Refusal :=
  .next <|
    if s.ring[n].drift || !s.ringLease n then s
    else (s.modRing n fun r => { r with drift := true }).emit 0x4215 (Src.ring n) [s.ring[n].loopNow.toNat, s.ring[n].loopEnum.toNat]

/-! ### CLOSE (03 R93) -/

/-- Do both sides of the break report signal on both inputs (03 R93). -/
def RingPort.signalOk (r : RingPort) (packs : Nat) : Bool :=
  let p := r.pos.toNat
  let a := if p = 0 then !r.losA else match nodeAt p with | some k => bit r.nodes[k].status.toNat 26 | none => false
  let b := if p ≥ packs then !r.losB else match nodeAt (p + 1) with | some k => bit r.nodes[k].status.toNat 27 | none => false
  a && b

/-- RINGn_CMD = CLOSE: the refusals in order. -/
def State.closeCode (n : Fin 8) (s : State) : Nat :=
  let r := s.ring[n]
  firstCode [(!s.ringLease n, 0x020B), (r.busy, 0x020A), (r.mode != .split, 0x0209), (r.closeBlocked, 0x0208), (!r.signalOk (s.topo n).packs, 0x020E)]

/-- RINGn_CMD = CLOSE: UNWRAP goes out in this window where both exchanges can still complete, else in the next. -/
def Ring.close (n : Fin 8) : Write :=
  Write.cmd (fun _ s => s.closeCode n) (fun c s => s.ringResult n c 0) fun s =>
    (s.modRing n fun r => { r with closeStep := .wait, closeDone := r.endsDone (s.topo n).packs }).tryUnwrap n

/-- RING_CLOSE (03 R93). -/
def execRingClose (q : Req) (n : Fin 8) (s : State) : Host.Outcome State Fault Refusal := .next (s.hostWrite q (Ring.close n))

/-- One port in the guard window: an UNWRAP confirmed by both takes effect, and a WRAP sent back leaves SPLIT in force (03 R93). Where only
one exchange has completed, its node is asked again with the other in the next window, so that both take effect in one cycle (log
75). -/
def State.guardRing (n : Fin 8) (s : State) : State :=
  let s := s.modRing n fun r => { r with windowOpen := false }
  let r := s.ring[n]
  let packs := (s.topo n).packs
  match r.closeStep with
  | .unwrap =>
    if r.closeDone = 3 then s.modRing n fun r => { r with closeStep := .awaitReturn }
    else
      let p := r.pos.toNat
      let again (i a side : Nat) (s : State) : State :=
        if bit r.closeDone i && !bit (r.endsDone packs) i
        then s.ringAsk n { node := a, opcode := 0x0002, payload := [BitVec.ofNat 8 side], source := Src.ring n, urgent := true } else s
      (again 1 (p + 1) 0 (again 0 p 1 s)).modRing n fun r => { r with closeDone := r.endsDone packs }
  | .wrapBack => s.modRing n fun r => { r with closeStep := .none }
  | _ => s

/-- GUARD_WINDOW (03 R82, R93, R94; 16 R408): band changes and timed WRAP and UNWRAP take effect. -/
def State.guardWindow (s : State) : State := State.forEach strings State.guardRing (s.atCycle 985000)

/-- The side of the break that a node's UNWRAP or WRAP belongs to: 1 for POS, 2 for POS + 1 (03 R93). -/
def RingPort.sideMask (r : RingPort) (node : Nat) : Nat := if node = r.pos.toNat then 1 else if node = r.pos.toNat + 1 then 2 else 0

/-- WRAP to one node beside the break, ahead of every queued command (03 R93). -/
def State.wrapOne (n : Fin 8) (node : Nat) (s : State) : State :=
  let side := if node = s.ring[n].pos.toNat then 1 else 0
  s.ringAsk n { node := node, opcode := 0x0003, payload := [BitVec.ofNat 8 side], source := Src.ring n, urgent := true }

/-- An UNWRAP exchange failed (03 R93): RING_CLOSE_FAIL, WRAP to a node that accepted, and the Ring stays in SPLIT. -/
def State.unwrapFail (n : Fin 8) (s : State) : State :=
  let r := s.ring[n]
  if r.closeStep != .unwrap && r.closeStep != .wait then s
  else
    let p := r.pos.toNat
    let packs := (s.topo n).packs
    let s := (s.modRing n fun r => { r with closeStep := .wrapBack, queue := r.queue.filter fun c => c.opcode != 0x0002 }).ringResult n 0x020F 0
    let s := s.when (bit r.closeDone 0 && decide (1 ≤ p)) (State.wrapOne n p)
    s.when (bit r.closeDone 1 && decide (p < packs)) (State.wrapOne n (p + 1))

/-- A node accepted UNWRAP; one that accepts after the CLOSE has failed is wrapped again (03 R93). -/
def State.unwrapDone (n : Fin 8) (node : Nat) (s : State) : State :=
  let r := s.ring[n]
  match r.closeStep with
  | .unwrap => s.modRing n fun r => { r with closeDone := r.closeDone ||| r.sideMask node }
  | .wrapBack => s.wrapOne n node
  | _ => s

/-! ### The fault loop (03 R86) -/

/-- Table 3.10: the state for a loop current in uA. -/
def LoopState.ofCurrent (ua : Nat) : LoopState :=
  if ua < 4000 then .opened else if ua < 8000 then .abnLow else if ua ≤ 12000 then .closed else .abnHigh

/-- The port's own classification changes; a transition to OPEN or ABNORMAL is counted (03 R86, R87). The fabric's input follows. -/
def State.loopReads (n : Fin 8) (ua : BitVec 16) (s : State) : State :=
  let old := s.ring[n].floop
  let new := LoopState.ofCurrent ua.toNat
  let s := s.modRing n fun r => { r with floop := new, floopUa := ua, floopTsc := if (new == .opened) == (old == .opened) then r.floopTsc else s.now, floopAbn := r.floopAbn && (new == .abnLow || new == .abnHigh) }
  let s := s.modSaf fun t => { t with fab := { t.fab with inLoop := Vec.upd t.fab.inLoop n fun i => if new == .opened then { i with active := true } else if i.active then { active := false, inactiveUp := s.clk.upNs } else i } }
  s.when (old != new && new != .closed) (State.bump (Reg.ring n 0x060))

/-- FAULT_LOOP_STATE_CHANGE (03 R86, R87): nothing is enabled by a loop that closes. -/
def execFaultLoopStateChange (n : Fin 8) (current : BitVec 16) (s : State) : Host.Outcome State Fault Refusal := .next (s.loopReads n current)

/-- FAULT_LOOP_ABNORMAL (03 R86): after 10 ms both channels treat the loop as OPEN. -/
def execFaultLoopAbnormal (n : Fin 8) (s : State) : Host.Outcome State Fault Refusal :=
  .next <|
    let r := s.ring[n]
    if (r.floop == .abnLow || r.floop == .abnHigh) && !r.floopAbn
    then (s.modRing n fun r => { r with floopAbn := true }).emit 0xC219 (Src.ring n) [r.floopUa.toNat]
    else s

/-- A fabric input confirms: its latch is set and the off pattern follows within 40 ns; TRIP is recorded and counted, and the string
engine takes the trip (08 R202). -/
def State.fabricTrip (n : Fin 8) (input code : Nat) (latch : Fabric → Fabric) (s : State) : State :=
  let s := (s.withOutputs fun s => s.modSaf fun t => { t with fab := latch t.fab }).emit 0xC811 0x002 [input, n]
  (s.bump 0x1C0100).stringTrip n code

/-- FAULT_LOOP_OPEN (03 R86; 08 SF01, R222): the fabric's filter confirms. The current at the last boundary before the latch is kept for
the classification of a pack removal. -/
def execFaultLoopOpen (n : Fin 8) (current : BitVec 16) (s : State) : Host.Outcome State Fault Refusal :=
  .next <|
    let high := max s.str[n].smp.istrA.natAbs s.str[n].smp.istrB.natAbs ≥ 2000
    let fresh := !bit s.saf.fab.latchLoop.toNat n
    let s := (s.loopReads n current).emit 0xC214 (Src.ring n) [current.toNat]
    let s := s.when fresh fun s => s.modSaf fun t => { t with fab := { t.fab with loopCurr := setBit t.fab.loopCurr n high, loopPend := setBit t.fab.loopPend n true } }
    s.fabricTrip n 0 0xC214 fun f => { f with latchLoop := setBit f.latchLoop n true }

end Sys2Proof.Machine
end

