-- ==== Sys2Proof/Machine/Sense.lean ====
section
/-! DEFINITION. Synchronous cell sensing (spec 04): the frames of a set, the closing of a set at every port, tracking of the
alignment. -/

namespace Sys2Proof.Machine

/-- One node's sensing entry changed. -/
def State.modSenseNode (n : Fin 8) (k : Fin 24) (f : SenseNode → SenseNode) (s : State) : State :=
  s.modSense n fun r => { r with nodes := Vec.upd r.nodes k f }

/-! ### The chorus-aligned sample -/

/-- Gain and offset recorded for a sense channel, 1 and 0 where none is (05 R133). -/
def StrCfg.gain (c : StrCfg) (ch : Nat) : Rat × Rat := (c.gains[ch]?).getD (1, 0)

/-- A calibrated reading from an input in 0.1 mV (05 R133). -/
def StrCfg.cal (c : StrCfg) (ch : Nat) (raw : Int) : Int := roundQ ((c.gain ch).1 * raw + (c.gain ch).2)

/-! ### Frames of a set -/

/-- Is a Ring served: CLOSED, SPLIT or LOST (03 R82, R92). -/
def RingPort.served (r : RingPort) : Bool := r.mode == .closed || r.mode == .split || r.mode == .lost

/-- Is a SAMPLE late: another set, the wrong end, or after the set closed (03 R72). A port without the lease takes the copies that pass it, whichever end
they make for (R96). -/
def State.sampleLate (n : Fin 8) (k : Fin 24) (f : SampleFrame) (s : State) : Bool :=
  let r := s.ring[n]
  f.set.toNat != s.cycle % 256 || (s.ringLease n && f.endB != r.fromB (k + 1)) || r.setClosed

/-- Has a SAMPLE the cell count of TOPOLOGY (03 R73). -/
def State.cellsMatch (n : Fin 8) (f : SampleFrame) (s : State) : Bool := f.status.toNat % 32 == (s.topo n).cells

/-- A SAMPLE taken into its set (03 R71 to R73): a wrong cell count leaves the entry missing; the first after a switchover sets the
node's counter from CTR_LAST. -/
def State.takeSample (n : Fin 8) (k : Fin 24) (f : SampleFrame) (s : State) : State :=
  if !s.cellsMatch n f then s.emit 0x8218 (Src.node n k) [f.status.toNat % 32, (s.topo n).cells]
  else
    s.modNode n k fun e =>
      { e with ctr := if e.ctrSync then BitVec.ofNat 8 (bits f.status.toNat 15 8) else e.ctr, ctrSync := false, got := true, status := f.status, pri := f.pri, sec := f.sec, temps := if bit f.status.toNat 31 then f.temps else e.temps, tempsUp := if bit f.status.toNat 31 then some s.clk.upNs else e.tempsUp, ext := if bit f.status.toNat 30 then f.ext else [] }

/-! ### Closing a set (01 R28; 03 R92; 04 R106, R109; 08 R210) -/

/-- The cells of a valid entry compared: neither value 0xFFFF (04 R109). -/
def NodeEntry.compared (e : NodeEntry) (c : Nat) : Option Nat :=
  let p := (e.pri.getD c 0xFFFF).toNat
  let q := (e.sec.getD c 0xFFFF).toNat
  if p = 0xFFFF ∨ q = 0xFFFF then none else some ((p : Int) - q).natAbs

/-- PSDIFF_THR of the active profile in 100 uV, 15 mV where the profile gives none (04 R109). -/
def State.psThr (s : State) : Nat := let t := s.profNat 8 1; if t = 0 then 150 else 10 * t

/-- One cell of a valid entry against the threshold: the run of consecutive compared sets and the condition (04 R109). -/
def State.psCell (n : Fin 8) (k : Fin 24) (c : Nat) (s : State) : State :=
  let e := s.ring[n].nodes[k]
  let d := s.sense[n].nodes[k]
  match if e.valid then e.compared c else none with
  | none => s
  | some diff =>
    let run := if diff > s.psThr then d.psRun.getD c 0 + 1 else 0
    let on := run ≥ 10
    let s := s.modSenseNode n k fun d =>
      { d with psRun := (List.range 16).map (fun i => if i = c then min run 10 else d.psRun.getD i 0), psDiff := (List.range 16).map fun i => if i = c then on else d.psDiff.getD i false }
    s.when (on && !d.psDiff.getD c false) (State.emit 0x4314 (Src.node n k) [c + 1, (e.pri.getD c 0).toNat, (e.sec.getD c 0).toNat])

/-- The entry of an enumerated node judged valid or missing (01 R28; 03 R92, R93); the lease holder counts and records it. -/
def State.closeEntry (n : Fin 8) (k : Fin 24) (s : State) : State :=
  let r := s.ring[n]
  let e := r.nodes[k]
  let valid := e.got && !e.isolated && !((r.ignoreAbove.map fun p => decide ((k : Nat) + 1 > p)).getD false)
  let s := s.modNode n k fun e => { e with valid := valid, missRun := if valid then 0 else min 3 (e.missRun + 1) }
  let s := s.modRing n fun r => { r with nodesMiss := setBit r.nodesMiss k (!valid) }
  let s := s.when (!valid && s.ringLease n) (State.bump (Reg.ring n 0x050))
  s.when (!valid && e.missRun = 0 && s.ringLease n) (State.emit 0x8212 (Src.node n k) [n, (k : Nat) + 1])

/-- A second break position that the wraps locate, 0xFF where none does (03 R92). -/
def RingPort.secondBreak (r : RingPort) : Nat :=
  let p := r.pos.toNat
  let b := (List.finRange 24).find? fun k => r.nodes[k].enumerated && bit r.nodes[k].status.toNat 28 && k.val + 1 != p
  let a := (List.finRange 24).find? fun k => r.nodes[k].enumerated && bit r.nodes[k].status.toNat 29 && k.val != p
  match b, a with
  | some k, _ => k + 1
  | none, some k => k
  | none, none => 0xFF

/-- RING_LOSS: a node missing in three consecutive sets is isolated and the Ring is LOST (03 R92); the sweep ends (04 R120). -/
def State.ringLoss (n : Fin 8) (s : State) : State :=
  let r := s.ring[n]
  let gone := (List.finRange 24).filter fun k => r.nodes[k].enumerated && r.nodes[k].missRun ≥ 3 && !r.nodes[k].isolated
  if gone.isEmpty || !s.ringLease n then s
  else
    let s := s.unwrapFail n
    let s := s.modRing n fun r => { r with mode := .lost, pos2 := BitVec.ofNat 8 r.secondBreak, nodes := Vec.updAll r.nodes fun k e => if k ∈ gone then { e with isolated := true } else e }
    (s.emit 0xC211 (Src.ring n) [s.ring[n].nodesMiss.toNat]).abortSweep n 3

/-- The pack sum of a complete set: every enumerated node valid, no primary value 0xFFFF (05 R153). -/
def RingPort.packSum (r : RingPort) (packs cells : Nat) : Option Nat :=
  let es := (r.nodes.toList.take packs)
  if !es.isEmpty && es.all (fun e => e.enumerated && e.valid && (List.range cells).all fun c => e.pri.getD c 0xFFFF != 0xFFFF)
  then some ((es.map fun e => ((e.pri.take cells).map (·.toNat)).foldl (· + ·) 0).foldl (· + ·) 0) else none

/-- The string's two views of its nodes: an open loop, and a reported comparator or loop flag; a difference that persists in two
consecutive sets is a DISAGREE, with both views and their stamps (08 R210). -/
def State.nodeViews (n : Fin 8) (s : State) : State :=
  let r := s.ring[n]
  let data := r.floop == .opened
  let mgmt := r.nodes.toList.any fun e => e.valid && bits e.status.toNat 23 20 ≠ 0
  let s := s.when (mgmt != r.nodeFlag) (fun s => s.modRing n fun r => { r with nodeFlag := mgmt, nodeFlagTsc := s.now })
  let run := if data == mgmt then 0 else min 3 (Sparse.get s.saf.nodeDisagree n 0 + 1)
  let s := s.modSaf fun t => { t with nodeDisagree := Sparse.set t.nodeDisagree n run }
  s.when (run = 2) fun s => (s.emit 0x4822 (Src.ring n) (ints [b2n data, r.floopTsc, b2n mgmt, s.ring[n].nodeFlagTsc])).bump 0x1C0124

/-- Do the string's pack temperature sensors agree within 1.0 K: those of every pack with one another, and no pack without one (04
R123). -/
def RingPort.tempsAgree (r : RingPort) (packs : Nat) : Bool :=
  let of (e : NodeEntry) : List Int := (e.temps.filter fun v => v != 0x8000).map (·.toInt)
  let l := r.nodes.toList.take packs
  let t := (l.map of).flatten
  match t with
  | [] => false
  | h :: _ => l.all (fun e => !(of e).isEmpty) && t.foldl max h - t.foldl min h ≤ 100

/-- The wraps of the set that closes, beside those of the set before it (03 R89). -/
def RingPort.closeWraps (r : RingPort) : RingPort :=
  let of (b : Nat) : BitVec 24 := BitVec.ofNat 24 (maskOf (r.nodes.toList.map fun e => e.enumerated && e.valid && bit e.status.toNat b))
  { r with wrapA := of 29, wrapB := of 28, wrapPrevA := r.wrapA, wrapPrevB := r.wrapB, losPrevA := r.losSetA, losPrevB := r.losSetB, losSetA := false, losSetB := false }

/-- Does a sweep point measure in this cycle: from its first set to its last (04 R114). -/
def Sweep.measures (cycle : Nat) (w : Sweep) : Bool := w.running.isSome && !w.startNext && decide (w.startCycle ≤ cycle) && decide (cycle ≤ w.lastCycle)

/-- The set of one port closed at 665 us (01 R28). DESIGN CHOICE (log 132): a loss of signal at an end belongs to the set that is open when it
happens, and the boundary between two sets is this close, not T0; 03 R89 does not say. A point that is measured while ALIGN_UNCERTAIN is set is
marked (04 R106). -/
def State.closeSet (n : Fin 8) (s : State) : State :=
  let r := s.ring[n]
  if !r.served || s.str[n].state == .disabled then
    (s.modStr n fun e => { e with packSumOk := false }).modRing n fun r => { r with nodes := Vec.updAll r.nodes fun _ e => { e with valid := false } }
  else
    let nodes := (List.finRange 24).filter fun k => r.nodes[k].enumerated
    let s := State.forEach nodes (State.closeEntry n) s
    let s := s.ringLoss n
    let s := State.forEach nodes (fun k s => State.forEach (List.range (s.topo n).cells) (State.psCell n k) s) s
    let s := s.when (s.sense[n].nodes.toList.any fun d => d.psDiff.any id) (State.bump (Reg.ring n 0x380))
    let s := s.when s.sense[n].alignUnc (State.bump (Reg.ring n 0x388))
    let s := s.nodeViews n
    let s := s.modSweep n fun w => { w with agreeSince := if s.ring[n].tempsAgree (s.topo n).packs then some (w.agreeSince.getD s.clk.upNs) else none }
    let s := match s.ring[n].packSum (s.topo n).packs (s.topo n).cells with
      | some v => s.modStr n fun e => { e with packSum := v, packSumOk := true }
      | none => s.modStr n fun e => { e with packSumOk := false }
    (s.modRing n fun r => { r.closeWraps with setClosed := true }).modSweep n fun w =>
      if s.sense[n].alignUnc && w.measures s.cycle then w.modPoint w.point fun q => { q with uncertain := true } else w

/-! ### Tracking (04 R104 to R106) -/

/-- The correction added to a node in CLOSED: ΔL by distance (04 R104). -/
def trackClosed (dL : Rat) (dly loop : Nat) : Rat := if loop = 0 then 0 else dL * dly / loop

/-- Corrections from the CLOSED cycles since the last update (04 R104): units of 0.25 ns inside, ns in the corrections. -/
def State.trackLoop (n : Fin 8) (s : State) : State :=
  let c := s.sense[n]
  if c.cntNow = 0 then s
  else
    let dL : Rat := (c.sumNow : Rat) / c.cntNow / 4
    let l := s.ring[n].loopEnum.toNat
    s.modSense n fun c =>
      { c with sumNow := 0, cntNow := 0, dltA := dL, dltB := dL, deltaA := roundQ (4 * dL), deltaB := roundQ (4 * dL), nodes := Vec.updAll c.nodes fun k d => let e := s.ring[n].nodes[k]; { d with corrA := trackClosed dL e.dlyA.toNat l, corrB := trackClosed dL e.dlyB.toNat l } }

/-- Corrections from the SPLIT cycles since the last update, relative to those kept at entry, each end from its own returns (04 R105); an
end without a return keeps its corrections. -/
def State.trackSplit (n : Fin 8) (s : State) : State :=
  let c := s.sense[n]
  let dA : Rat := (c.sumA : Rat) / c.cntSegA / 8
  let dB : Rat := (c.sumB : Rat) / c.cntSegB / 8
  let onA : Bool := c.cntSegA ≠ 0
  let onB : Bool := c.cntSegB ≠ 0
  if !onA && !onB then s
  else
    let r := s.ring[n]
    let p := r.pos.toNat
    let endA := ((nodeAt p).map fun k => r.nodes[k].dlyA.toNat).getD 0
    let endB := ((nodeAt (p + 1)).map fun k => r.nodes[k].dlyB.toNat).getD 0
    s.modSense n fun c =>
      { c with sumA := 0, sumB := 0, cntSegA := 0, cntSegB := 0, dltA := if onA then dA else c.dltA, dltB := if onB then dB else c.dltB, deltaA := if onA then roundQ (4 * dA) else c.deltaA, deltaB := if onB then roundQ (4 * dB) else c.deltaB, nodes := Vec.updAll c.nodes fun k d => let e := r.nodes[k]; if k.val + 1 ≤ p then (if onA then { d with corrA := d.keepA + trackClosed dA e.dlyA.toNat endA } else d) else if onB then { d with corrB := d.keepB + trackClosed dB e.dlyB.toNat endB } else d }

/-- SET_COMP to every node whose rounded values changed since the last sent; one whose exchange failed counts as not sent (04 R101, R106). -/
def State.sendComps (n : Fin 8) (s : State) : State :=
  State.forEach ((List.finRange 24).filter fun k =>
    let e := s.ring[n].nodes[k]
    let d := s.sense[n].nodes[k]
    e.enumerated && !e.isolated && !(Comp.value e.dlyA.toNat d.corrA == d.sentA && Comp.value e.dlyB.toNat d.corrB == d.sentB)) (State.setComp n) s

/-- A delta beyond 40 ns: the sets are marked ALIGN_UNCERTAIN, recorded once (04 R106). -/
def State.alignCheck (n : Fin 8) (s : State) : State :=
  let c := s.sense[n]
  if (absQ c.dltA > 40 || absQ c.dltB > 40) && !c.alignUnc
  then (s.modSense n fun c => { c with alignUnc := true }).emit 0x4315 (Src.ring n) [c.deltaA, c.deltaB]
  else s

/-- The update of one Ring (04 R104 to R106). -/
def State.track (n : Fin 8) (s : State) : State :=
  let r := s.ring[n]
  if !r.served || !s.ringLease n then s
  else (((if r.both then s.trackSplit n else if r.mode == .closed then s.trackLoop n else s).alignCheck n)).sendComps n

/-- TRACKING_UPDATE (04 R104): every Ring, at a Ring cycle whose number is a multiple of 100. -/
def execTrackingUpdate (s : State) : Host.Outcome State Fault Refusal := .next (State.forEach strings State.track s)

end Sys2Proof.Machine
end

