-- ==== Sys2Proof/Machine/Sweep.lean ====
section
/-! DEFINITION. Impedance sweeps (spec 04): requests, points, results, remeasurement, temperature points and calibration. -/

namespace Sys2Proof.Machine

/-! ### Requests -/

/-- The request that the sweep registers spell now (04 R110). -/
def Sweep.request (w : Sweep) : SweepReq :=
  let c := w.regCfg.toNat
  let p := bits c 5 0
  { settle := bits c 31 28, acc := bits c 27 24, ampl := bits c 23 16, points := p, freqs := (List.range p).map fun i => Sparse.get w.regFreq i 0 }

/-- The bounds of CONTROL for a register, or those the spec prints (05 R139, 04 R110). -/
def StrCfg.bound (c : StrCfg) (o : Nat) (lo hi : Rat) : Rat × Rat := (((c.bounds.find? fun b => b.1 == o)).map (·.2)).getD (lo, hi)

/-- Is a value inside the bounds of a register. -/
def StrCfg.inBound (c : StrCfg) (o : Nat) (lo hi v : Rat) : Bool := let b := c.bound o lo hi; b.1 ≤ v && v ≤ b.2

/-- Does a change that passed take effect at this T0 and STEP_COMMIT is still to come (02 R48, R51). -/
def State.commitDue (s : State) : Bool :=
  if s.leads then (s.img.pend.map fun p => p.passed && decide (p.target ≤ s.now)).getD false
  else (s.img.peer.map fun p => p.decided == some true && decide (p.target ≤ s.now)).getD false

/-- The configuration whose bounds a write meets: at the T0 of a commit the one that is committed there (02 R51). -/
def State.boundCfg (s : State) : Cfg := if s.leads && s.commitDue then (s.img.pend.map (·.cfg)).getD s.img.cfg else s.img.cfg

/-- Are SETTLE, ACC, AMPL and POINTS within Table 4.14 and the bounds of CONTROL (04 R110; 02 Table 2.9): the bounds of the register's fields
stand under its offset with 1, 2, 0 and 3 added (log 7). -/
def StrCfg.swpOk (c : StrCfg) (v : Nat) : Bool :=
  let settle := bits v 31 28
  let acc := bits v 27 24
  let ampl := bits v 23 16
  let points := bits v 5 0
  1 ≤ settle && 1 ≤ acc && 5 ≤ ampl && ampl ≤ 50 && 1 ≤ points && points ≤ 48 && c.inBound 0xC01 1 15 settle && c.inBound 0xC02 1 15 acc &&
    c.inBound 0xC00 5 50 ampl && c.inBound 0xC03 1 48 points

/-- Is a frequency in mHz within Table 4.13 and the bounds of CONTROL (04 R110). -/
def StrCfg.swpFreqOk (c : StrCfg) (f : Nat) : Bool := 50 ≤ f && f ≤ 2000000 && c.inBound 0xC40 50 2000000 f

/-- Is a frequency within the bounds that CONTROL sets for STRn_SWP_FREQ, if it sets any (02 Table 2.9). -/
def StrCfg.swpFreqBound (c : StrCfg) (f : Nat) : Bool := c.inBound 0xC40 0 (2 ^ 24) f

/-- Is a request within the ranges of Table 4.14 and the bounds of CONTROL (04 R110). -/
def SweepReq.ok (c : StrCfg) (r : SweepReq) : Bool :=
  c.swpOk (fields [(r.settle, 28), (r.acc, 24), (r.ampl, 16), (r.points, 0)]) && r.freqs.all c.swpFreqOk

/-- Is a frequency within 2 Hz of a harmonic bin that the repetitive controller learns (04 R112): the bins of the grid period that it
holds, none while it holds none. -/
def State.onHarmonic (n : Fin 8) (f : Nat) (s : State) : Bool :=
  let g := s.rc[n].freq.toNat
  g ≠ 0 && (List.range 16).any fun h => bit (s.topo n).harmMask.toNat h && 2 ≤ h && h ≤ 12 && ((f : Int) - h * g).natAbs ≤ 2000

/-- The points of a request that R112 refuses now, as a mask. -/
def State.refusedMask (n : Fin 8) (r : SweepReq) (s : State) : Nat := maskOf (r.freqs.map fun f => s.onHarmonic n f)

/-- STRn_SWP_RESULT. -/
def State.swpResult (n : Fin 8) (c : Nat) (s : State) : State := s.modSweep n fun w => { w with resCode := BitVec.ofNat 16 c, resDetail := 0 }

/-- The refusals of SWP_CMD = START (04 R110, R111). -/
def State.sweepCode (n : Fin 8) (s : State) : Nat :=
  let r := s.sweep[n].request
  firstCode [(s.str[n].state != .run, 0x0302), (!r.ok (s.topo n), 0x0303), (r.freqs.all fun f => s.onHarmonic n f, 0x0304), (s.sweep[n].pending.isSome, 0x0301)]

/-- The SWEEP_ID after one: 0 is skipped (04 R110). -/
def SweepReq.nextId (i : BitVec 16) : BitVec 16 := if i == 0xFFFF then 1 else i + 1

/-- SWP_CMD = START: accepted with the next SWEEP_ID and the points that R112 refuses now, started at the next T0 or put into the pending
slot; a full slot is counted. -/
def Sweep.start (n : Fin 8) : Write := fun x s =>
  let c := s.sweepCode n
  let s := s.when (c = 0x0301) (State.bump (Reg.str n 0xC20))
  Write.cmd (fun _ s => s.sweepCode n) (fun c s => s.swpResult n c)
    (fun s => s.modSweep n fun w =>
      let r := { w.request with id := w.nextId, refused := BitVec.ofNat 48 (s.refusedMask n w.request) }
      let w := { w with nextId := SweepReq.nextId w.nextId }
      if w.running.isSome then { w with pending := some r } else { w with running := some r, startNext := true, tpt := false, cal := false, refused := r.refused }) x s

/-- SWEEP_START (04 R110, R111). -/
def execSweepStart (q : Req) (n : Fin 8) (s : State) : Host.Outcome State Fault Refusal := .next (s.hostWrite q (Sweep.start n))

/-- SWP_CMD = ABORT (04 R120). DESIGN CHOICE (log 134): with a pending request and no running sweep it is refused with SWEEP_NOT_RUNNING, and the request
stays pending. -/
def Sweep.abort (n : Fin 8) : Write :=
  Write.cmd (fun _ s => if s.sweep[n].running.isSome then 0 else 0x0305) (fun c s => s.swpResult n c) (State.abortSweep n 0)

/-- SWEEP_ABORT. -/
def execSweepAbort (q : Req) (n : Fin 8) (s : State) : Host.Outcome State Fault Refusal := .next (s.hostWrite q (Sweep.abort n))

/-- SWP_CMD = CANCEL_PENDING (04 R111). -/
def Sweep.cancel (n : Fin 8) : Write :=
  Write.cmd (fun _ s => if s.sweep[n].pending.isSome then 0 else 0x0305) (fun c s => s.swpResult n c) fun s =>
    match s.sweep[n].pending with
    | none => s
    | some r => (s.modSweep n fun w => { w with pending := none }).emit 0x4313 (Src.str n) [r.id.toNat]

/-- SWEEP_CANCEL_PENDING. -/
def execSweepCancelPending (q : Req) (n : Fin 8) (s : State) : Host.Outcome State Fault Refusal := .next (s.hostWrite q (Sweep.cancel n))

/-! ### Results -/

/-- The reported status of a point (04 Table 4.17). -/
def PointRes.code (r : PointRes) (cells : Nat) : Nat :=
  let all := (List.range cells).all fun c => (Sparse.get r.cells (c + 1) {}).complete
  if r.refused then 3 else if !r.done then 5 else if r.clips ≥ 2 && !all then 4
  else if !all then 2 else if r.cells.any fun e => e.2.redone then 1 else 0

/-- The points of the sweep in progress that are incomplete for some cell (04 R119). -/
def Sweep.incomplete (w : Sweep) (cells : Nat) : List Nat :=
  (w.work.filter fun e => e.2.done && !e.2.refused && !((List.range cells).all fun c => (Sparse.get e.2.cells (c + 1) {}).complete)).map (·.1)

/-- Do two phasors agree within 1 % in magnitude and 0.5° in phase (04 R118): the squared cosine of 0.5° is
0.99992384757819563 (to 17 digits). -/
def Phasor.agree (a b : Phasor) : Bool :=
  let ar := f32v a.re
  let ai := f32v a.im
  let br := f32v b.re
  let bi := f32v b.im
  let ma := ar * ar + ai * ai
  let mb := br * br + bi * bi
  let dot := ar * br + ai * bi
  (99 / 100 : Rat) ^ 2 * ma ≤ mb && mb ≤ (101 / 100 : Rat) ^ 2 * ma && dot > 0 && dot * dot ≥ (99992384757819563 / 100000000000000000 : Rat) * ma * mb

/-- The mean of two phasors. -/
def Phasor.mean (a b : Phasor) : Rat × Rat := ((f32v a.re + f32v b.re) / 2, (f32v a.im + f32v b.im) / 2)

/-- V / I in micro-ohms, as binary32 words (04 R118). -/
def impedance (v : BitVec 32 × BitVec 32) (i : Rat × Rat) : BitVec 32 × BitVec 32 :=
  let d := i.1 * i.1 + i.2 * i.2
  let re := (f32v v.1 * i.1 + f32v v.2 * i.2) / d
  let im := (f32v v.2 * i.1 - f32v v.1 * i.2) / d
  (toF32 (1000000 * re), toF32 (1000000 * im))

/-- Why a node's result of a point is not usable, in the order of the list of 04 R119; `whole` is the reason that spoils the point for every
cell. -/
def SenseNode.reason (d : SenseNode) (p cells whole : Nat) : Nat :=
  let held := d.heldPoint == some p && (List.range cells).all fun c => d.heldCells.any fun e => e.1 == c + 1
  if whole ≠ 0 then whole else if !held then 3 else if !bit d.heldStatus.toNat 0 then 1 else if bit d.heldStatus.toNat 1 then 2 else 0

/-- The cell results that a point's attempt gives, for the cells of one node (04 R118, R119). -/
def State.cellResults (n : Fin 8) (p : Nat) (i : Rat × Rat) (whole : Nat) (k : Fin 24) (old : PointRes) (s : State) : List (Nat × CellZ) :=
  let c := (s.topo n).cells
  let d := s.sense[n].nodes[k]
  let why := d.reason p c whole
  (List.range c).map fun j =>
    let b := k.val * c + j + 1
    let prev := Sparse.get old.cells b {}
    if prev.complete then (b, prev)
    else if why = 0 then
      let z := impedance (Sparse.get d.heldCells (j + 1) (0, 0)) i
      (b, { complete := true, redone := s.sweep[n].redoPass, re := z.1, im := z.2 })
    else (b, { complete := false, redone := s.sweep[n].redoPass, reason := why })

/-- A point's attempt judged (04 R118, R119): the currents, CLIPPED, ALIGN_UNCERTAIN while it was measured, then each node's result. The record in history names the
sweep, 0 for a temperature point (R124). -/
def State.judgePoint (n : Fin 8) (p : Nat) (s : State) : State :=
  let w := s.sweep[n]
  let old := Sparse.get w.work p {}
  let ok := w.curA.agree w.curB
  let unc := old.uncertain
  let whole := if old.clipped then 4 else if !ok then 5 else if unc then 6 else 0
  let i := w.curA.mean w.curB
  let cells := ((s.topo n).nodes.map fun k => s.cellResults n p i whole k old).flatten
  let res : PointRes := { old with done := true, disagree := !ok, uncertain := unc, curRe := toF32 i.1, curIm := toF32 i.2, cells := cells }
  let code := res.code (s.topo n).cellCount
  let s := s.modSweep n fun w => { (w.modPoint p fun _ => { res with status := BitVec.ofNat 8 code }) with ackDue := none, lastComplete := if code ≤ 1 then p else w.lastComplete }
  let s := s.when (!ok) (State.emit 0x4316 (Src.str n) [p, w.curA.re.toNat, w.curA.im.toNat, w.curB.re.toNat, w.curB.im.toNat])
  let id := (w.running.map (·.id.toNat)).getD 0
  let z : List Int := (cells.map fun c => ints [c.1, c.2.re.toNat, c.2.im.toNat, b2n c.2.complete + 2 * b2n c.2.redone + 16 * c.2.reason]).flatten
  (s.admitAt 0x13 (Src.str n) s.sweep[n].firstTsc 0 (valBytes 4 (ints [n, p, id, (toF32 i.1).toNat, (toF32 i.2).toNat] ++ z))).2

/-- SWEEP_ACK to one node: SWEEP_ID, POINT and a zero byte (04 R117). -/
def State.sweepAck (n : Fin 8) (k : Fin 24) (p : Nat) (s : State) : State :=
  let id := (s.sweep[n].running.map (·.id)).getD 0
  s.ringAsk n { node := k + 1, opcode := 0x0031, payload := leBytes 2 id.toNat ++ leBytes 1 p ++ [0], source := Src.str n }

/-- A result frame's cells taken (04 R117, Table 4.7); once every cell of the node is held, SWEEP_ACK. -/
def State.takeResult (n : Fin 8) (k : Fin 24) (ext : List Byte) (s : State) : State :=
  match s.sweep[n].ackDue with
  | none => s
  | some p =>
    let first := field ext 1 1
    let count := field ext 2 1
    if field ext 0 1 ≠ p ∨ first = 0 ∨ count = 0 ∨ count > 3 ∨ first + count > (s.topo n).cells + 1 ∨ ext.length < 4 + 8 * count then s
    else
      let d := s.sense[n].nodes[k]
      let had := if d.heldPoint == some p then d.heldCells else []
      let new := (List.range count).foldl (fun l j => Sparse.put l (first + j) (BitVec.ofNat 32 (field ext (4 + 8 * j) 4), BitVec.ofNat 32 (field ext (8 + 8 * j) 4))) had
      let s := s.modSenseNode n k fun d => { d with heldPoint := some p, heldCells := new, heldStatus := BitVec.ofNat 8 (field ext 3 1) }
      s.when (had.length < (s.topo n).cells && new.length ≥ (s.topo n).cells) (State.sweepAck n k p)

/-- Every enumerated node's result of the point is held. -/
def State.allHeld (n : Fin 8) (p : Nat) (s : State) : Bool :=
  (s.topo n).nodes.all fun k => s.sense[n].nodes[k].heldPoint == some p && s.sense[n].nodes[k].heldCells.length ≥ (s.topo n).cells

/-! ### Internal temperature and resistances (04 R122, R125) -/

/-- The mean of a pack's present temperature sensors in °C (04 R123). -/
def NodeEntry.meanTemp (e : NodeEntry) : Option Rat :=
  let t := (e.temps.filter fun v => v != 0x8000).map fun v => (v.toInt : Rat) / 100
  if t.isEmpty then none else some (t.foldl (· + ·) 0 / t.length)

/-- The internal temperature of one cell from its impedance at f_T, or, while CAL_TEMP runs, its calibration offset
(04 R122, R123). -/
def State.tempFrom (n : Fin 8) (number : Nat) (z : CellZ) (s : State) : State :=
  let c := (s.topo n).cells
  let b := cellIndex n c number
  let m := s.img.cfg.model
  let x := s.cell b
  let phi := phaseDeg (f32v z.re) (f32v z.im)
  if s.sweep[n].cal then
    let t := ((nodeAt ((number - 1) / c + 1)).bind fun k => s.ring[n].nodes[k].meanTemp)
    let row := t.bind fun t => (m.phiTab.zip (m.phiTab.drop 1)).findSome? fun e => if e.1.1 ≤ t && t ≤ e.2.1 then some (lerp t e.1.1 (CellModel.phiAt x.socE e.1) e.2.1 (CellModel.phiAt x.socE e.2)) else none
    match row with
    | none => s
    | some want => s.modCell b fun x => { x with learn := { x.learn with delta := some (phi - want) } }
  else s.modCell b fun x => { x with tInt := (m.tempOf x.socE (phi - x.learn.delta.getD 0)).map fun t => (t, s.now) }

/-- The point of a sweep whose frequency is the temperature frequency gives each complete cell's temperature (04 R122). -/
def State.tempsFrom (n : Fin 8) (p : Nat) (s : State) : State :=
  let r := Sparse.get s.sweep[n].work p {}
  if r.freq = s.img.cfg.model.fT then State.forEach (r.cells.filter fun e => e.2.complete) (fun e => State.tempFrom n e.1 e.2) s else s

/-! ### Points -/

/-- ceil(a / b). -/
def ceilDiv (a b : Nat) : Nat := if b = 0 then 0 else (a + b - 1) / b

/-- Ring cycles of a phase: the smallest whole number of periods that covers `periods` periods and `ms`, in whole ms (04 R114). -/
def pointSets (f periods ms : Nat) : Nat :=
  let k := max periods (ceilDiv (ms * f) 1000000)
  ceilDiv (k * 1000000) f

/-- Is a sweep or temperature point running on the string (04 R111). -/
def Sweep.busy (w : Sweep) : Bool := w.running.isSome

/-- The one-point request at f_T, with the settings of STRn_SWP_CFG and SWEEP_ID 0 (04 R123, R124). -/
def State.tempReq (n : Fin 8) (s : State) : SweepReq := { s.sweep[n].request with id := 0, points := 1, freqs := [s.img.cfg.model.fT] }

/-- The point that comes after the one in progress: the next of the sweep, or of the remeasurement (04 R114, R119). -/
def Sweep.following (w : Sweep) : Option Nat :=
  match w.running with
  | none => none
  | some r =>
    if w.redoPass then w.redoList.head?
    else
      let from_ := if w.startNext then 0 else w.point + 1
      if from_ < r.points then some from_ else none

/-- Points refused at acceptance or at their start, a remeasurement's among them, are skipped, with their status and bit (04 R112; log 35);
`fuel` bounds the search by the number of points. -/
def State.skipRefused (n : Fin 8) : Nat → State → State
  | 0, s => s
  | fuel + 1, s =>
    match s.sweep[n].following, s.sweep[n].running with
    | some p, some r =>
      let f := r.freqs.getD p 0
      if bit r.refused.toNat p || s.onHarmonic n f then
        let s := s.modSweep n fun w => { (w.modPoint p fun r => { r with freq := f, refused := true, status := 3 }) with point := p, startNext := false, redoList := if w.redoPass then w.redoList.drop 1 else w.redoList, refused := if w.tpt then w.refused else setBit w.refused p true }
        State.skipRefused n fuel s
      else s
    | _, _ => s

/-- The sweep ends: results and status reported, learning resumes, the resistances derived (04 R113, R119, R125). -/
def State.sweepDone (n : Fin 8) (s : State) : State :=
  let w := s.sweep[n]
  let id := (w.running.map (·.id)).getD 0
  let s := s.when (!w.tpt) (State.deriveSweep n)
  let s := s.modSweep n fun w => { w with state := if w.tpt then w.state else .done, running := none, redoPass := false, redoList := [], tpt := false, cal := false, lastStatus := if w.tpt then w.lastStatus else 0 }
  (s.modBank fun b => { b with shares := Vec.upd b.shares n fun h => { h with heldP := none } }).emit 0x0310 (Src.str n) [id.toNat, b2n w.tpt]

/-- After the last point: each incomplete point is measured once more, in ascending order, then the sweep is done (04 R119). -/
def State.sweepAdvance (n : Fin 8) (s : State) : State :=
  let w := s.sweep[n]
  match w.running with
  | none => s
  | some _ =>
    if w.following.isSome || w.ackDue.isSome || w.startNext then s
    else if w.redoPass then s.sweepDone n
    else
      let l := w.incomplete (s.topo n).cellCount
      if l.isEmpty then s.sweepDone n
      else
        s.modSweep n fun w => { w with redoPass := true, redoList := l, state := if w.tpt then w.state else .redo }

/-- A point's results are settled: judged, the temperatures derived, then on (04 R118, R119, R122). -/
def State.settlePoint (n : Fin 8) (s : State) : State :=
  match s.sweep[n].ackDue with
  | none => s
  | some p => ((s.judgePoint n p).tempsFrom n p).sweepAdvance n

/-- SWEEP_CFG to every node: SWEEP_ID, CELL_MASK of every cell, four zero bytes (04 R116). -/
def State.sweepCfg (n : Fin 8) (id : BitVec 16) (s : State) : State :=
  State.forEach ((s.topo n).nodes.filter fun k => !s.ring[n].nodes[k].isolated) (fun k s => s.ringAsk n { node := k + 1, opcode := 0x0030, payload := leBytes 2 id.toNat ++ leBytes 2 0xFFFF ++ leBytes 4 0, source := Src.str n }) s

/-- The next point begins at this T0: the harmonic check again, the settle phase, the share held; a remeasured point is counted and recorded
(04 R112, R114, R115, R119; 06 R174). -/
def State.startPoint (n : Fin 8) (s : State) : State :=
  let s := s.skipRefused n 49
  let w := s.sweep[n]
  match w.following, w.running with
  | some p, some r =>
    let f := r.freqs.getD p 0
    let st := pointSets f r.settle 20
    let ac := pointSets f r.acc 50
    let s := s.modSweep n fun w =>
      { (w.modPoint p fun q => { q with freq := f, clipped := false, uncertain := false }) with point := p, startNext := false, phase := .settle, startCycle := s.cycle, accFrom := s.cycle + st, lastCycle := s.cycle + st + ac - 1, tpUp := s.clk.upNs + 25000, accN := 0, accA := (0, 0), accB := (0, 0), holdLearn := true, redoList := if w.redoPass then w.redoList.drop 1 else w.redoList, state := if w.tpt then w.state else if w.redoPass then .redo else .running }
    let s := s.when w.redoPass fun s => (s.bump (Reg.str n 0xC24)).emit 0x4311 (Src.str n) [(p : Int)]
    s.modBank fun b => { b with shares := Vec.upd b.shares n fun h => { h with heldP := some h.p } }
  | _, _ => s.sweepAdvance n

/-- A host's sweep begins without results; a point refused at acceptance reports REFUSED_HARMONIC from the beginning (04 R112). -/
def Sweep.clearResults (r : SweepReq) (w : Sweep) : Sweep :=
  let w := { w with results := [], refused := r.refused, id := r.id, lastComplete := 0 }
  ((List.range r.points).filter fun p => bit r.refused.toNat p).foldl (fun w p => w.modPoint p fun q => { q with freq := r.freqs.getD p 0, refused := true, status := 3 }) w

/-- The point that starts at this T0 (04 R111, R112, R114). A pending request starts when no sweep runs; a sweep's first point sends
SWEEP_CFG and clears the results of the last one. -/
def State.pointStart (n : Fin 8) (s : State) : State :=
  let s := s.modSweep n fun w =>
    if w.running.isSome then w
    else if w.pending.isSome then { w with running := w.pending, pending := none, startNext := true }
    else if w.calPend then { w with running := some (s.tempReq n), calPend := false, startNext := true, tpt := true, cal := true }
    else w
  let w := s.sweep[n]
  match w.running with
  | none => s
  | some r =>
    let s := if w.startNext then (s.modSweep n fun w => if w.tpt then { w with tptRes := [], lastComplete := 0 } else (w.clearResults r)).sweepCfg n r.id else s
    s.startPoint n

/-- SWEEP_POINT_START: at the T0 of a point's first set, after BANK_CYCLE_START. -/
def execSweepPointStart (n : Fin 8) (s : State) : Host.Outcome State Fault Refusal := .next (s.pointStart n)

/-- SWEEP_ACCUMULATE_START (04 R114, R116): the first BEACON with ACC. -/
def execSweepAccumulateStart (n : Fin 8) (s : State) : Host.Outcome State Fault Refusal :=
  .next (s.modSweep n fun w => if w.running.isSome then { w with phase := .accumulate } else w)

/-- The phasor of a channel, 2 / M times its sums, corrected for the phase and gain of its external amplifier and filter (04 R116,
R118). DESIGN CHOICE (log 133): the correction recorded at commissioning is one complex factor per channel for every frequency, applied after the
sums; the rule does not say how it depends on frequency. -/
def Phasor.ofSums (cor : Rat × Rat) (m : Nat) (a : Rat × Rat) : Phasor :=
  let k : Rat := if m = 0 then 0 else 2 / m
  { re := toF32 (k * (a.1 * cor.1 - a.2 * cor.2)), im := toF32 (k * (a.1 * cor.2 + a.2 * cor.1)) }

/-- SWEEP_POINT_LAST_SET (04 R117, R118): the engine's two phasors stand, and the point's own results are now due: what a node held of an
earlier attempt is not of this one. A result of the point before that is still due is settled as it stands. -/
def execSweepPointLastSet (n : Fin 8) (s : State) : Host.Outcome State Fault Refusal :=
  .next <|
    let s := s.settlePoint n
    if s.sweep[n].running.isNone then s
    else
      let cor := (s.topo n).ampCor
      let s := s.modSense n fun d => { d with nodes := Vec.updAll d.nodes fun _ e => { e with heldPoint := none, heldCells := [], heldStatus := 0 } }
      s.modSweep n fun w => { w with phase := .waitStart, curA := Phasor.ofSums (cor.getD 0 (1, 0)) w.accN w.accA, curB := Phasor.ofSums (cor.getD 1 (1, 0)) w.accN w.accB, ackDue := some w.point }

/-- SWEEP_RESULT_DEADLINE (04 R117, R119): what is not held by now is incomplete. -/
def execSweepResultDeadline (n : Fin 8) (s : State) : Host.Outcome State Fault Refusal := .next (s.settlePoint n)

/-- SAMPLE_RECEIVED (03 R67, R68, R72, R73; 04 R117, R118). -/
def execSampleReceived (n : Fin 8) (k : Fin 24) (f : SampleFrame) (s : State) : Host.Outcome State Fault Refusal :=
  .next <|
    if !(f.crcOk && f.macOk) then s.frameBad n (k + 1) f.crcOk
    else if !s.ring[n].served || s.ring[n].nodes[k].isolated then s
    else if s.sampleLate n k f then s.bump (Reg.ring n 0x054)
    else
      let s := (s.takeSample n k f).when (bit f.status.toNat 30 && s.cellsMatch n f) (State.takeResult n k f.ext)
      match s.sweep[n].ackDue with
      | none => s
      | some p => s.when (s.allHeld n p) (State.settlePoint n)

/-! ### Temperature points -/

/-- TEMP_POINT_DUE (04 R124): run, or skipped and counted. -/
def execTempPointDue (n : Fin 8) (s : State) : Host.Outcome State Fault Refusal :=
  .next <|
    let w := s.sweep[n]
    if w.regTpt == 0 then s
    else
      let s := s.modSweep n fun w => { w with tptDueIn := w.regTpt.toNat }
      if s.str[n].state == .run && !w.busy && w.pending.isNone
      then s.modSweep n fun w => { w with running := some (s.tempReq n), startNext := true, tpt := true, cal := false }
      else s.bump (Reg.str n 0xC2C)

/-- The conditions of CAL_TEMP for one string (04 R123): every cell at a rest point, the sensors within 1.0 K for 2 h. -/
def State.calReady (n : Fin 8) (s : State) : Bool :=
  let c := s.topo n
  c.declared && (List.range c.cellCount).all (fun i => (s.cell (cellIndex n c.cells (i + 1))).restPoint) &&
    ((s.sweep[n].agreeSince.map fun t => decide (s.since t ≥ 7200000000000)).getD false)

/-- EST_ZCMD = CAL_TEMP; where a sweep runs on a string, its point waits for the sweep's end (04 R111). -/
def Sweep.calTemp (mask : Byte) : Write :=
  Write.cmd (fun _ s => if (stringsOf mask).all fun n => s.calReady n then 0 else 0x0306)
    (fun c s => s.modEst fun e => { e with zres := BitVec.ofNat 16 c })
    (State.forEach (stringsOf mask) fun n s => s.modSweep n fun w => if w.busy then { w with calPend := true } else { w with running := some (s.tempReq n), startNext := true, tpt := true, cal := true })

/-- CAL_TEMP (04 R123). -/
def execCalTemp (q : Req) (mask : Byte) (s : State) : Host.Outcome State Fault Refusal := .next (s.hostWrite q (Sweep.calTemp mask))

/-- The perturbation of the point in progress, in mA: A × sin(2π f (t − t_p)) from t_p to the end of its last set (04 R114, R115). -/
def State.perturb (n : Fin 8) (s : State) : Rat :=
  let w := s.sweep[n]
  match w.running with
  | none => 0
  | some r =>
    if w.startNext || s.cycle < w.startCycle || s.cycle > w.lastCycle || s.clk.upNs < w.tpUp || (Sparse.get w.work w.point {}).freq = 0 then 0
    else (r.ampl * (s.topo n).ratedMa : Rat) / 1000 * sinTurn (((Sparse.get w.work w.point {}).freq : Rat) * (s.clk.upNs - w.tpUp) / 1000000000000)

/-! ### The chorus-aligned sample (04 R99, R108) and the demodulation of the currents (04 R118) -/

/-- One sample of both channels in mA added to the sums of 04 R116, at `t` s after t_p. -/
def Sweep.addSample (f : Nat) (w : Sweep) (x : Rat × Int × Int) : Sweep :=
  let th : Rat := (f : Rat) / 1000 * x.1
  let co := cosTurn th
  let si := sinTurn th
  let a : Rat := (x.2.1 : Rat) / 1000
  let b : Rat := (x.2.2 : Rat) / 1000
  { w with accN := w.accN + 1, accA := (w.accA.1 + a * co, w.accA.2 - a * si), accB := (w.accB.1 + b * co, w.accB.2 - b * si) }

/-- The currents of an accumulation set demodulated: the routine sample up to 20 Hz, else 32 samples 31.25 us apart (04 R114, R116, R118;
log 83). -/
def Sweep.demodulate (c : StrCfg) (cycle : Nat) (raw : AlignedRaw) (w : Sweep) : Sweep :=
  if w.running.isNone || w.startNext || !(w.accFrom ≤ cycle && cycle ≤ w.lastCycle) then w
  else
    let f := (Sparse.get w.work w.point {}).freq
    let t : Rat := ((cycle - w.startCycle : Nat) : Rat) / 1000
    let fast := (List.range 32).map fun (m : Nat) => (t + (m : Rat) * 3125 / 100000000, c.cal 8 (raw.fastA.getD m 0), c.cal 9 (raw.fastB.getD m 0))
    (if f > 20000 then fast else [(t, c.cal 8 raw.istrA, c.cal 9 raw.istrB)]).foldl (Sweep.addSample f) w

/-- The chorus-aligned sample of one string: the three channels that 04 R108 names. DESIGN CHOICE (log 135): 05 R133 reads as all ten; VBUS and the phase
currents of that sample stay 0. -/
def StrEng.chorusSample (c : StrCfg) (raw : AlignedRaw) (e : StrEng) : StrEng :=
  { e with prevHigh := max e.chorus.istrA.natAbs e.chorus.istrB.natAbs ≥ 2000, chorusGot := true, chorus := { e.chorus with istrA := c.cal 8 raw.istrA, istrB := c.cal 9 raw.istrB, vstr := c.cal 1 raw.vstr } }

/-- COMMON_SAMPLE_INSTANT (04 R99, R108, R118): both current channels and the string voltage of every string: a sense domain is powered in
every string state (16 Table 16.3 class A). -/
def execCommonSampleInstant (raw : Vector AlignedRaw 8) (s : State) : Host.Outcome State Fault Refusal :=
  .next <| if s.pwr.shelf then s else
    let s := (s.atCycle 25000).mapAllStr fun n e => e.chorusSample (s.topo n) raw[n]
    s.mapAllSweep fun n w => w.demodulate (s.topo n) s.cycle raw[n]

end Sys2Proof.Machine
end

