-- ==== Sys2Proof/Machine/Ripple.lean ====
section
/-! DEFINITION. The repetitive controller of each string (spec 06 R159 to R165). -/

namespace Sys2Proof.Machine

/-- A time of `steps` × 78.125 ps in seconds. -/
def stepSeconds (steps : Nat) : Rat := (steps : Rat) / 12800000000

/-- The value of one memory cell in A. -/
def RcCtl.cell (r : RcCtl) (i : Nat) : Rat := Sparse.get r.mem (i % 1024) 0

/-- The memory read at a phase, linear between cells (06 R160). -/
def RcCtl.readAt (r : RcCtl) (ph : Rat) : Rat :=
  let x := fracQ ph * 1024
  let i := x.floor.toNat
  r.cell i + (r.cell (i + 1) - r.cell i) * (x - i)

/-- The period source at a boundary (06 R159): HOST is valid for 1 s after the write; MEASURED locks when its frequency lies from 45 to
65 Hz and its phase error has stayed within 2 degrees for 200 ms. -/
def RcCtl.track (b : BoundaryIn) (period : Nat) (hostFreq : BitVec 17) (hostOk : Bool) (r : RcCtl) : RcCtl :=
  if r.source then { r with locked := hostOk, freq := if hostOk then hostFreq else r.freq }
  else
    let good := b.ripple && 45000 ≤ b.gridFreq && b.gridFreq ≤ 65000 && b.phaseErr.natAbs ≤ 200
    let run := if good then r.lockRun + period else 0
    let on := run ≥ 2560000000
    { r with lockRun := min run 2560000000, locked := on, freq := if on then BitVec.ofNat 17 b.gridFreq else r.freq }

/-- The output scale moves by the period over 200 ms (06 R163). -/
def RcCtl.fadeStep (period : Nat) (r : RcCtl) : RcCtl :=
  if !r.fading then r
  else
    let d : Rat := (period : Rat) / 2560000000
    { r with fade := if r.fadeUp then min 1 (r.fade + d) else max 0 (r.fade - d) }

/-- A source that is valid again: learning resumes at the next wrap, a faded output rises back (06 R163). -/
def RcCtl.regain (r : RcCtl) : RcCtl :=
  if r.stopped && r.locked then { r with stopped := false, dirty := true, fading := r.fade < 1, fadeUp := r.fade < 1 } else r

/-- θ at a boundary (06 R159): MEASURED follows the tracker while it is locked; else the phase runs on from the last f_g (06 R163). -/
def RcCtl.phase (b : BoundaryIn) (period : Nat) (r : RcCtl) : Rat :=
  if !r.source && r.locked then (b.theta.toNat : Rat) / 65536 else fracQ (r.theta + (r.freq.toNat : Rat) / 1000 * stepSeconds period)

/-- One boundary of the controller: the source that CONTROL chooses (02 R50), the phase, the fade and the output read (06 R159, R160, R163). -/
def State.rcBoundary (n : Fin 8) (b : BoundaryIn) (s : State) : State :=
  let c := s.topo n
  let e := s.str[n]
  let period := e.period.toNat
  let hostOk := (s.bank.gridFreqUp.map fun t => decide (s.since t < 1000000000)).getD false
  let s := s.modRc n fun r =>
    let r := if r.source == c.rcHost then r else { r with source := c.rcHost, lockRun := 0 }
    let r := ((r.track b period s.bank.gridFreq hostOk).regain).fadeStep period
    { r with theta := r.phase b period, applied := e.state.running && !e.loop.ramping }
  let r := s.rc[n]
  let lim : Rat := c.rcLim / 100 * c.iRated / 10
  let u := if r.applied then clampQ (-lim) lim (r.readAt (r.theta + (c.rcLead : Rat) / 1024)) * r.fade else 0
  s.modStr n fun e => { e with uRc := u }

/-- The cycle's error added to its phase bin, and the conditions of learning (06 R161, R162). -/
def RcCtl.addError (err : Rat) (bad : Bool) (r : RcCtl) : RcCtl :=
  let i := (r.theta * 1024).floor.toNat % 1024
  let old := Sparse.get r.acc i (0, 0)
  { r with acc := Sparse.put r.acc i (old.1 + err, old.2 + 1), dirty := r.dirty || bad }

/-- The average of a phase bin (06 R161). -/
def RcCtl.bin (r : RcCtl) (i : Nat) : Rat :=
  match Sparse.find r.acc i with
  | some (v, k) => v / k
  | none => Config.emptyBin r.acc i

/-- The harmonics that HARM_MASK selects, from 2 to 12 (06 R161). -/
def StrCfg.harmonics (c : StrCfg) : List Nat := (List.range 13).filter fun h => 2 ≤ h && bit c.harmMask.toNat h

/-- The sum of `f i` over the 1,024 bins. -/
def sumBins (f : Nat → Rat) : Rat := (List.range 1024).foldl (fun a i => a + f i) 0

/-- The selected harmonics of the bins synthesised back at bin `i` (06 R161 steps 2 and 3). -/
def RcCtl.synth (r : RcCtl) (hs : List Nat) (i : Nat) : Rat :=
  (hs.map fun h =>
    let a := sumBins (fun j => r.bin j * cosTurn ((h * j : Rat) / 1024)) / 512
    let b := sumBins (fun j => r.bin j * sinTurn ((h * j : Rat) / 1024)) / 512
    a * cosTurn ((h * i : Rat) / 1024) + b * sinTurn ((h * i : Rat) / 1024)).foldl (· + ·) 0

/-- One learning update (06 R161 step 4, R165): every cell stays a binary32 value (06 R160); the residual in mA, and since when it has been above
1 % of I_RATED; a new memory generation (09 R246). -/
def RcCtl.learn (c : StrCfg) (up : Nat) (r : RcCtl) : RcCtl :=
  let hs := c.harmonics
  let kl := f32v r.gain
  let res := sqrtQ (sumBins (fun i => (r.synth hs i) ^ 2) / 1024) * 1000
  let mem := (List.range 1024).map fun i => (i, roundF32 (r.cell i + kl * r.synth hs i))
  let tooHigh := decide (res > (c.ratedMa : Rat) / 100)
  { r with mem := mem, memFreq := r.freq, learning := true, resid := BitVec.ofNat 16 (min 0xFFFF (roundQ res).toNat), above := tooHigh, highSince := if tooHigh then some (r.highSince.getD up) else none, genNo := r.genNo + 1, chunk := 0, high := r.high && tooHigh }

/-- Does the controller learn from the period just ended (06 R162, R163; 04 R113). -/
def State.rcMayLearn (n : Fin 8) (s : State) : Bool :=
  !s.rc[n].dirty && s.rc[n].locked && !s.rc[n].stopped && s.str[n].state.running && !s.sweep[n].holdLearn

/-- RC_LEARN (06 R161, R162): at a wrap of the phase the period is learned, or discarded whole and counted. -/
def execRcLearn (n : Fin 8) (s : State) : Host.Outcome State Fault Refusal :=
  .next <|
    let c := s.topo n
    let s := if s.rcMayLearn n then s.modRc n (RcCtl.learn c s.clk.upNs) else (s.modRc n fun r => { r with learning := false, highSince := none }).bump (Reg.str n 0x410)
    s.modRc n fun r => { r with acc := [], dirty := false }

/-- RC_PERIOD_LOST (06 R163): learning stops; under FADE the output scales to zero over 200 ms. -/
def execRcPeriodLost (n : Fin 8) (s : State) : Host.Outcome State Fault Refusal :=
  .next <|
    let hold := s.img.cfg.policy.rcLossHold
    ((s.modRc n fun r => { r with stopped := true, locked := false, learning := false, lockRun := 0, fading := !hold, fadeUp := false }).bump (Reg.str n 0x414)).emit 0x4625 (Src.str n) []

/-- RC_FADE_END (06 R163). -/
def execRcFadeEnd (n : Fin 8) (s : State) : Host.Outcome State Fault Refusal :=
  .next (s.modRc n fun r => if r.fading then { r with fading := false, fade := if r.fadeUp then 1 else 0 } else r)

/-- Has the residual stayed above 1 % of I_RATED for 5 s while learning (06 R165). -/
def State.rippleHigh (n : Fin 8) (s : State) : Bool :=
  s.rc[n].above && s.rc[n].learning && (s.rc[n].highSince.map fun t => decide (s.since t ≥ 5000000000)).getD false

/-- RIPPLE_HIGH (06 R165): recorded once while it lasts. -/
def execRippleHigh (n : Fin 8) (s : State) : Host.Outcome State Fault Refusal :=
  .next (if s.rc[n].high || !s.rippleHigh n then s else (s.modRc n fun r => { r with high := true }).emit 0x4624 (Src.str n) [s.rc[n].resid.toNat])

/-- A write of EST_GRID_FREQ (06 R159): 45,000 to 65,000 mHz, valid for 1 s; the reserved bits [31:17] are ignored (00 R14). -/
def Bank.gridWrite (value : Word) : Write := fun _ s =>
  let v := value.toNat % 2 ^ 17
  if 45000 ≤ v ∧ v ≤ 65000 then (0, s.modBank fun b => { b with gridFreq := BitVec.ofNat 17 v, gridFreqUp := some s.clk.upNs })
  else (0x0C12, s.modEst fun e => { e with resCode := 0x0C12 })

/-- GRID_FREQ_WRITE. -/
def execGridFreqWrite (q : Req) (value : Word) (s : State) : Host.Outcome State Fault Refusal := .next (s.hostWrite q (Bank.gridWrite value))

end Sys2Proof.Machine
end

