-- ==== Sys2Proof/Machine/StringLoop.lean ====
section
/-! DEFINITION. The control cycle of a string engine (spec 05 R126 to R149): boundaries, deadlines, sense inputs, the loops, the
gate-driver frames, and the timebase in SYNC mode. -/

namespace Sys2Proof.Machine

/-! ### Samples -/

/-- The ten channels calibrated (05 R133): voltages in 10 mV, currents in mA. -/
def StrCfg.samples (c : StrCfg) (raw : Vector Int 10) : Samples :=
  { vbus := c.cal 0 raw[0], vstr := c.cal 1 raw[1], iph := Vector.ofFn (fun (k : Fin 6) => c.cal (2 + k) (raw[(⟨2 + k.val, by omega⟩ : Fin 10)])), istrA := c.cal 8 raw[8], istrB := c.cal 9 raw[9] }

/-- One channel's runs: at or above +10.4 V, and below +10.0 V while the string is in OFF (05 R134). -/
def StrEng.senseRuns (raw : Vector Int 10) (e : StrEng) : StrEng :=
  { e with openRun := Vec.updAll e.openRun (fun i k => if raw[i] ≥ 104000 then min 3 (k + 1) else 0), okRun := Vec.updAll e.okRun fun i k => if e.state == .off && raw[i] < 100000 then min 100 (k + 1) else 0 }

/-- SENSE_OPEN of one channel: the third consecutive high sample makes it invalid and raises the sense trip request; a channel becomes
valid again in OFF after 100 good samples (05 R134). -/
def State.senseOpen (n : Fin 8) (c : Fin 10) (s : State) : State :=
  let e := s.str[n]
  if bit e.snsValid.toNat c && e.openRun[c] ≥ 3 then
    ((s.modStr n fun e => { e with snsValid := setBit e.snsValid c false, evt := setBit e.evt 2 true, sendReq := true }).bump (Reg.str n 0x210)).emit 0x8516 (Src.str n) [(c : Nat)]
  else if !bit e.snsValid.toNat c && e.state == .off && e.okRun[c] ≥ 100 then s.modStr n fun e => { e with snsValid := setBit e.snsValid c true }
  else s

/-- The mean string current in mA, or the one valid channel (05 R133, R135). -/
def StrEng.meanI (e : StrEng) : Rat :=
  if !bit e.snsValid.toNat 8 && bit e.snsValid.toNat 9 then e.smp.istrB
  else if bit e.snsValid.toNat 8 && !bit e.snsValid.toNat 9 then e.smp.istrA
  else ((e.smp.istrA + e.smp.istrB : Int) : Rat) / 2

/-- The first condition of R135: the phase currents against the string current, 3 % of I_RATED; not made with a phase invalid. -/
def StrEng.sumBad (c : StrCfg) (e : StrEng) : Bool :=
  bits e.snsValid.toNat 7 2 = 0x3F && (bit e.snsValid.toNat 8 || bit e.snsValid.toNat 9) &&
    absQ ((e.smp.iph.toList.foldl (· + ·) 0 : Int) - e.meanI) > (3 * c.ratedMa : Rat) / 100

/-- The second condition of R135: the two string currents, 2 % of I_RATED; not made with one invalid. -/
def StrEng.pairBad (c : StrCfg) (e : StrEng) : Bool :=
  bits e.snsValid.toNat 9 8 = 3 && 100 * (e.smp.istrA - e.smp.istrB).natAbs > 2 * c.ratedMa

/-- SENSE_MISMATCH after 10 consecutive cycles of either condition, handed to both safety channels (05 R135). -/
def State.senseMismatch (n : Fin 8) (s : State) : State :=
  let c := s.topo n
  let e := s.str[n]
  let r1 := if e.sumBad c then min 10 (e.misRun + 1) else 0
  let r2 := if e.pairBad c then min 10 (e.misRun2 + 1) else 0
  let on := r1 ≥ 10 || r2 ≥ 10
  let s := s.modStr n fun e => { e with misRun := r1, misRun2 := r2, mismatch := on }
  if on && !e.mismatch then
    ((s.modStr n fun e => { e with evt := setBit e.evt 3 true }).bump (Reg.str n 0x214)).emit 0x4514 (Src.str n) [e.smp.iph.toList.foldl (· + ·) 0, e.smp.istrA, e.smp.istrB]
  else s

/-- The running 1 ms summary takes one boundary's samples (01 Table 1.7). -/
def StrEng.summarise (e : StrEng) : StrEng :=
  let a := e.acc
  let i := (e.smp.istrA + e.smp.istrB) / 2
  let lo (x v : Int) : Int := if a.n = 0 then v else min x v
  let hi (x v : Int) : Int := if a.n = 0 then v else max x v
  { e with acc := { n := a.n + 1, iSum := a.iSum + i, iMin := lo a.iMin i, iMax := hi a.iMax i, vbSum := a.vbSum + e.smp.vbus, vbMin := lo a.vbMin e.smp.vbus, vbMax := hi a.vbMax e.smp.vbus, vsSum := a.vsSum + e.smp.vstr, vsMax := hi a.vsMax e.smp.vstr } }

/-! ### Deadlines (05 R132) -/

/-- A boundary that finds the computation unfinished (05 R132): abandoned, counted, recorded; the third of a run raises the
deadline trip request, whatever a run before it has left. -/
def State.missedDeadline (n : Fin 8) (s : State) : State :=
  let k := min 3 (s.str[n].missConsec + 1)
  let third := s.str[n].missConsec = 2
  let s := ((s.modStr n fun e => { e with computing := false, missConsec := k, missFlag := true }).bump (Reg.str n 0x200)).emit 0x8515 (Src.str n) [k]
  s.when third fun s => (s.modStr n fun e => { e with deadReq := true, missTripped := true }).emit 0xC519 (Src.str n) []

/-! ### What takes effect at a boundary -/

/-- A coefficient by its register's index, 0x40 + 4 × i (05 Table 5.13). -/
def Coeffs.set (i : Nat) (v : Word) (c : Coeffs) : Coeffs :=
  match i with
  | 0 => { c with kpPh := v } | 1 => { c with kiPh := v } | 2 => { c with kff := v } | 3 => { c with kpStr := v }
  | 4 => { c with kiStr := v } | 5 => { c with kpBus := v } | _ => { c with kiBus := v }

/-- A coefficient register's value. -/
def Coeffs.get (i : Nat) (c : Coeffs) : Word :=
  match i with
  | 0 => c.kpPh | 1 => c.kiPh | 2 => c.kff | 3 => c.kpStr | 4 => c.kiStr | 5 => c.kpBus | _ => c.kiBus

/-- The settings as they stand, for the control cycles from this boundary on (01 R17). -/
def StrEng.settings (e : StrEng) : CtlSet := { cfg := none, ramp := e.ramp, ilimChg := e.ilimChg, ilimDis := e.ilimDis, tbalG := e.tbalG, tbalWmax := e.tbalWmax }

/-- The configuration that a string's control cycle works with: that before a commit, until the first boundary after it (02 R50). -/
def State.ctlCfg (n : Fin 8) (s : State) : StrCfg := s.str[n].eff.cfg.getD (s.topo n)

/-- The committed set, or else one CW write alone, takes effect, with the limits and the loop structure; holds start and end (02 R50;
05 R139 to R141). -/
def StrEng.retune (e : StrEng) : StrEng :=
  let e := { e with holdInt := e.ctl, eff := if e.eff.cfg.isSome then e.settings else e.eff }
  match e.coefCommit, e.coefNext with
  | some c, _ => { e with coeffs := c, coefCommit := none }
  | none, (o, v) :: t => { e with coeffs := e.coeffs.set ((o - 0x40) / 4) v, coefNext := t }
  | none, [] => e

/-- The coolant-flow safety input of a string: Q while valid, else its fail state (14 R378). -/
def State.flowInput (n : Fin 8) (s : State) : Option Rat := if s.io.usf[n].valid then some s.io.usf[n].q else none

/-- The 1 ms summary closes at the first boundary at or after T0, with the flow input of that instant (01 R17, Table 1.7). -/
def State.closeSum (n : Fin 8) (s : State) : State :=
  s.when s.str[n].adopt fun s => s.modStr n fun e => { e with sum := { e.acc with flow := s.flowInput n }, acc := {} }

/-- The values published at 900 us and the settings written are adopted at the first boundary at or after T0 (01 R17); a change of more than 2 % of I_RATED
spoils the period for learning (06 R162). -/
def State.adoptSetpoint (n : Fin 8) (s : State) : State :=
  let e := s.str[n]
  if !e.adopt then s
  else
    let new := s.bank.shares[n].pubI
    let jump := 100 * (new - e.setpoint).natAbs > 2 * (s.topo n).ratedMa
    let lead := s.bank.mode && s.bank.lead.toNat == n
    let s := s.modStr n fun e => { e with adopt := false, eff := e.settings, setpoint := new, setChg := s.bank.shares[n].limChg, setDis := s.bank.shares[n].limDis, busMode := lead, busTarget := s.bank.target.toNat, loop := if lead && !e.busMode then { e.loop with xBus := e.meanI / 1000 } else e.loop }
    s.when jump fun s => s.modRc n fun r => { r with dirty := true }

/-! ### Frames to the gate drivers (05 R127, R146, R147, R149) -/

/-- Edges of phase `k` at duty `d` over a period of `p` steps (05 R127). DESIGN CHOICE (log 69): P/2 of an odd period is a whole step less
a half. -/
def edges (p : Nat) (k : Nat) (d : Rat) : Nat × Nat :=
  let c : Int := (roundQ ((k * p : Rat) / 6) + (p / 2 : Nat)) % p
  let on := (c - (d * p / 2).floor) % p
  let off := (on + roundQ (d * p)) % p
  (on.toNat, off.toNat)

/-- ENABLE of a DUTY frame: RUN or HOLD, until a stop has brought the current down (05 Table 5.10, R144). -/
def StrEng.enable (e : StrEng) : Bool := e.state.running && !e.lowEnable

/-- HOLD of a DUTY frame (05 R149): the configured window in RUN or HOLD, else 0. -/
def StrEng.holdField (c : StrCfg) (e : StrEng) : Nat := if e.enable then c.holdUs else 0

/-- The low 16 bits of the string-loop lease's epoch, 0 when alone (05 Table 5.6). -/
def State.epoch16 (n : Fin 8) (s : State) : Nat := if s.twin.role == .alone then 0 else s.twin.str[n].epoch.toNat % 65536

/-- One DUTY frame, after the comma: the fields, the MAC over them, and CHECK over both (05 Table 5.6). -/
def State.dutyFrame (n : Fin 8) (p : Fin 6) (s : State) : State :=
  let e := s.str[n]
  let c := s.topo n
  let ed := edges e.period.toNat p e.duty[p]
  let f := leBytes 1 e.loop.seq.toNat ++ leBytes 1 (b2n e.enable) ++ leBytes 1 (e.holdField c) ++ leBytes 1 c.dead ++ leBytes 3 e.period.toNat ++ leBytes 3 ed.1 ++ leBytes 3 ed.2 ++ leBytes 2 (s.epoch16 n) ++ [0#8]
  let m := f ++ macField e.gd[p].key f
  s.sendBytes .gateDriver (n * 6 + p) "DUTY" (m ++ leBytes 4 (crc32c m))

/-- Six DUTY frames with the next SEQ, unless the fibres carry the off pattern or the member does not drive the string (05 R146, R147,
R158). The start of R143 lasts until the first enabled one. -/
def State.dutyFrames (n : Fin 8) (s : State) : State :=
  if s.offPattern n || !s.strLease n then s
  else
    let s := s.modStr n fun e => { e with enableSent := e.enable, loop := { e.loop with seq := e.loop.seq + 1, first := e.loop.first && !e.enable } }
    State.forEach phases (State.dutyFrame n) s

/-! ### Currents that open contactors (05 R144, R154) -/

/-- The current of a stopping string: once it has stayed below 2 A for 1 ms, the frames carry ENABLE = 0 (05 R144); after a trip the
contactors open when it falls below 2 A (05 R154). -/
def State.lowCurrent (n : Fin 8) (s : State) : State :=
  let e := s.str[n]
  if e.opening == .rampDown then
    let low := match e.maxCurrent with | some i => decide (i < 2000) | none => false
    let run := if low then e.lowRun + e.period.toNat else 0
    if run ≥ 12800000 then
      s.modStr n fun e => { e with lowEnable := true, lowRun := 0, opening := .lowCurrent }
    else s.modStr n fun e => { e with lowRun := run }
  else if e.opening == .tripWait then
    match e.maxCurrent with
    | some i => if i < 2000 then s.openAll n else s
    | none => s
  else s

/-- The frames with ENABLE = 0 are out: the channels withdraw the enable, and the contactors open normally (05 R144, R154). -/
def State.lowDone (n : Fin 8) (s : State) : State :=
  if s.str[n].opening == .lowCurrent then
    ((s.modStr n fun e => { e with opening := .kNegDelay }).pwmHalves n false).driveCoils n (s.str[n].drives &&& 1)
  else s

/-! ### The boundary -/

/-- The STRING lease renewed for the cycle that began at the last boundary: it expires 100 us after that (09 R240, R241). -/
def State.renewString (n : Fin 8) (s : State) : State :=
  s.when (s.twin.str[n].held && !s.twin.selfFault && !s.trust.keysErased) fun s => s.modTwin fun w => { w with str := Vec.upd w.str n fun l => { l with expiry := s.str[n].bndUp + 100000 } }

/-- A boundary of a string in RUN or HOLD without a control record, counted by the standby until one arrives (09 R248). -/
def State.missControl (n : Fin 8) (s : State) : State :=
  if s.twin.role == .standby && s.twin.ctl[n].state.running then s.modTwin fun w => { w with ctlMiss := Vec.upd w.ctlMiss n fun k => min 50 (k + 1) } else s

/-- One boundary of the engine in a state other than DISABLED (05 R131 to R149). -/
def State.boundary (n : Fin 8) (b : BoundaryIn) (s : State) : State :=
  let c := s.topo n
  let s := if s.str[n].computing then (s.renewString n).missedDeadline n else s.modStr n fun e => { e with missConsec := 0, duty := e.dutyOut }
  let s := s.modStr n fun e => { (e.retune.senseRuns b.raw) with smp := c.samples b.raw, bndUp := s.clk.upNs, computing := true, bndSince := e.bndSince - e.period.toNat, period := if c.sync then e.period else BitVec.ofNat 20 c.pNom }
  let s := State.forEach (List.finRange 10) (State.senseOpen n) s
  let s := (((s.closeSum n).modStr n StrEng.summarise).adoptSetpoint n).senseMismatch n
  let s := (s.rcBoundary n b).lowCurrent n
  let s := State.forEach phases (fun p s => (s.modGd n p fun g => { g with statusRun := g.statusRun + 1, diffRun := g.diffRun + 1 }).gdViews n p) s
  ((s.missControl n).dutyFrames n).lowDone n

/-! ### The computation (05 R136, R137) -/

/-- The charge limit in mA (05 R136): the image's, STRn_ILIM_CHG, and those from dispatch and estimation. -/
def StrEng.limitChg (c : StrCfg) (e : StrEng) : Nat := min (min (100 * c.iChgMax) (100 * e.eff.ilimChg.toNat)) (e.setChg.getD (100 * c.iChgMax))

/-- The discharge limit in mA (05 R136). -/
def StrEng.limitDis (c : StrCfg) (e : StrEng) : Nat := min (min (100 * c.iDisMax) (100 * e.eff.ilimDis.toNat)) (e.setDis.getD (100 * c.iDisMax))

/-- The reference of this cycle in A: the ramp of R143 and R144, counted per completed cycle, else the adopted setpoint, which HOLD and
a stop take as zero (05 R136 step 2). -/
def StrEng.nextRef (e : StrEng) : LoopSt :=
  let l := e.loop
  let want : Rat := if l.rampZero then 0 else (e.setpoint : Rat) / 1000
  let cur : Rat := l.iRef
  let step : Rat := (e.eff.ramp.toNat : Rat) / 100 * stepSeconds e.period.toNat * 1000
  if l.ramping || l.rampZero then
    let v := if absQ (want - cur) ≤ step then want else if want > cur then cur + step else cur - step
    { l with iRef := v, ramping := l.ramping && v ≠ want }
  else { l with iRef := want }

/-- An integral term's next value (05 R137): held, or not moved further towards a limit that its output stands at. -/
def integrate (held up down : Bool) (x d : Rat) : Rat := if held || (up && d > 0) || (down && d < 0) then x else x + d

/-- The feedforward KFF × VSTR / VBUS; with no bus voltage the spec states no value (log 3). -/
def StrEng.feedforward (e : StrEng) (open_ : Rat) : Rat := if e.smp.vbus = 0 then open_ else f32v e.coeffs.kff * e.smp.vstr / e.smp.vbus

/-- The cycle from which a start goes on: every error is zero, the duty is the feedforward, I_ref the measured current, and nothing
integrates or ramps until a frame has gone (05 R143). -/
def StrEng.startCycle (c : StrCfg) (ff : Rat) (e : StrEng) : StrEng :=
  { e with sat := false, dutyOut := Vector.replicate 6 (clampQ c.dMin c.dMax ff), loop := { e.loop with iRef := e.meanI / 1000, clamped := false } }

/-- The result of one computation: the engine after Table 5.3, and the string loop's error in A. `p` is the sweep perturbation in mA,
`ff` the feedforward. I_ref is the ramp's, or the bus voltage loop's output, from which a ramp to zero goes on (05 R144).
DESIGN CHOICE (log 23): the bus loop's error is VBUS less the target, so that a bus above it raises the charge current. -/
def StrEng.compute (c : StrCfg) (p ff : Rat) (e : StrEng) : StrEng × Rat :=
  if e.loop.first then (e.startCycle c ff, 0) else
  let k := e.coeffs
  let l := e.nextRef
  let meas := e.meanI / 1000
  let eBus : Rat := ((e.smp.vbus : Rat) / 100 - (e.busTarget : Rat) / 10)
  let bus := f32v k.kpBus * eBus + l.xBus
  let byBus := e.busMode && e.state == .run && !l.rampZero
  let raw := (if byBus then bus else l.iRef) + p / 1000
  let hi : Rat := (e.limitChg c : Rat) / 1000
  let lo : Rat := -((e.limitDis c : Rat) / 1000)
  let ref := clampQ lo hi raw
  let err := ref - meas
  let sum := f32v k.kpStr * err + l.xStr
  let tot := sum + e.uRc
  let dk (i : Fin 6) : Rat :=
    let er := tot * l.weights[i] / 6 - (e.smp.iph[i] : Rat) / 1000
    f32v k.kpPh * er + l.xPh[i] + ff
  let up := (List.finRange 6).any fun i => dk i ≥ c.dMax
  let dn := (List.finRange 6).any fun i => dk i ≤ c.dMin
  let held (i : Nat) : Bool := bit e.holdInt.toNat i
  let xPh := Vec.updAll l.xPh fun i x =>
    let er := tot * l.weights[i] / 6 - (e.smp.iph[i] : Rat) / 1000
    integrate (held 0) (dk i ≥ c.dMax) (dk i ≤ c.dMin) x (f32v k.kiPh * er)
  let xStr := integrate (held 1) (up || sum ≥ hi) (dn || sum ≤ lo) l.xStr (f32v k.kiStr * err)
  let xBus := if e.busMode then integrate (held 2) (up || bus ≥ hi) (dn || bus ≤ lo) l.xBus (f32v k.kiBus * eBus) else l.xBus
  ({ e with sat := up || dn, dutyOut := Vector.ofFn (fun i => clampQ c.dMin c.dMax (dk i)), loop := { l with clamped := ref ≠ raw, xPh := xPh, xStr := xStr, xBus := xBus, iRef := if byBus then clampQ lo hi bus else l.iRef, ramping := l.ramping && !byBus } }, err)

/-- Does the current cycle spoil the period for learning (06 R162). -/
def State.spoils (n : Fin 8) (s : State) : Bool :=
  let e := s.str[n]
  !e.state.running || !s.rc[n].locked || e.loop.ramping || s.sweep[n].holdLearn || e.sat || e.loop.clamped

/-- A cut of the sum during an accumulation set marks the point CLIPPED (04 R115). -/
def State.clipCheck (n : Fin 8) (s : State) : State :=
  let w := s.sweep[n]
  if w.running.isSome && !w.startNext && w.phase == .accumulate && s.str[n].loop.clamped && !(Sparse.get w.work w.point {}).clipped
  then (s.modSweep n fun w => w.modPoint w.point fun r => { r with clipped := true, clips := r.clips + 1 }).bump (Reg.str n 0xC28)
  else s

/-- The mean of the last 16 accepted intervals, P_NOM before any (05 R129). -/
def StrEng.pAvg (c : StrCfg) (e : StrEng) : Nat := if e.syncIvals.isEmpty then c.pNom else e.syncIvals.foldl (· + ·) 0 / e.syncIvals.length

/-- A chunk of the repetitive controller's memory (09 R246). -/
def RcCtl.chunkCells (r : RcCtl) : List Rat := (List.range 64).map fun i => r.cell (64 * r.chunk + i)

/-- The control record of a string's last boundary (05 R158; 09 Table 9.5; log 84). -/
def State.ctlRecord (n : Fin 8) (s : State) : CtlRecord :=
  let e := s.str[n]
  let r := s.rc[n]
  let c := s.topo n
  { tsc := s.now - s.since e.bndUp, period := e.period, pAvg := e.pAvg c, coastRun := e.coastRun, relockRun := e.relockRun, seq := e.loop.seq, epoch := s.twin.str[n].epoch, hold := BitVec.ofNat 8 (e.holdField c), loop := e.loop, duty := e.dutyOut, filt := Vec.updAll (Vector.replicate 6 none) fun p _ => e.gd[p].filt, setpoint := e.setpoint, busMode := e.busMode, lead := s.bank.lead, state := e.state, drives := e.drives, prech := e.prech, opening := e.opening, target := e.target, theta := r.theta, rcFreq := r.freq, memFreq := r.memFreq, gen := r.genNo, chunk := r.chunk, cells := r.chunkCells, sweep := s.sweep[n], syncLost := e.syncLost, synced := e.synced, aoDo := [s.io.ao[n].cmd, b2n (bit s.io.dout.toNat n)] }

/-- The control record of a cycle copied to the twin, with the next chunk of the memory (05 R131, R158; 09 R246, Table 9.5). -/
def State.copyControl (n : Fin 8) (s : State) : State :=
  s.when (s.twin.role == .active && s.twin.str[n].held) fun s =>
    (s.twinRecord (.control n (s.ctlRecord n)) "CONTROL").modRc n fun r => { r with chunk := (r.chunk + 1) % 16 }

/-- DUTY_COMPUTED (05 R131, R136): the output register written; a late one is counted and its state is not copied (R131); the string's
lease is renewed (09 R241). -/
def execDutyComputed (n : Fin 8) (late : Bool) (s : State) : Host.Outcome State Fault Refusal :=
  .next <|
    let e := s.str[n]
    if !e.computing then s
    else
      let ff := e.feedforward s.freshRat
      let r := e.compute (s.ctlCfg n) (s.perturb n) ff
      let s := (s.when (e.smp.vbus = 0) State.tick).modStr n fun _ => { r.1 with computing := false }
      let s := (s.modRc n fun c => c.addError r.2 (s.spoils n)).clipCheck n
      let s := if late then (s.modStr n fun e => { e with evt := setBit e.evt 0 true }).bump (Reg.str n 0x204) else s.copyControl n
      s.renewString n

/-! ### SYNC_IN (05 R128 to R130) -/

/-- An accepted interval kept, the last 16 (05 R129). -/
def StrEng.accept (iv : Nat) (e : StrEng) : StrEng := { e with syncIvals := (iv :: e.syncIvals).take 16 }

/-- The error from the last boundary plus `iv` to edge + Φ, within half an interval either way (05 R128, R130). -/
def StrEng.phaseErr (c : StrCfg) (iv : Nat) (e : StrEng) : Int :=
  let p : Int := iv
  let want : Int := (e.phaseCfg.toNat * c.pNom / 65536 : Nat)
  let d := (want + e.bndSince) % p
  if 2 * d > p then d - p else d

/-- The boundary moves towards edge + Φ by at most 1 % of P_NOM per cycle, the period never below 0.95 × P_NOM; once the error is below that
step the string is SYNCED (05 R130, Table 5.1). -/
def State.slewSync (n : Fin 8) (base : Nat) (s : State) : State :=
  let c := s.topo n
  let e := s.str[n]
  let err := e.phaseErr c base
  let step : Int := c.pNom / 100
  let near := err.natAbs < step.natAbs
  let s := s.modStr n fun e => { e with syncErr := err, period := BitVec.ofNat 20 (max ((95 * c.pNom + 99) / 100) (base + clampI (-step) step err).toNat) }
  if near && !e.synced then (s.modStr n fun e => { e with synced := true, syncLost := false }).emit 0x0511 (Src.str n) [] else s

/-- The interval that an accepted edge stands for: the time since the accepted edge before it; after coasts the interval between the two edges
where that is in range, else P_AVG (05 R129, R130; log 123). -/
def StrEng.syncBase (c : StrCfg) (good : Bool) (iv : Nat) (e : StrEng) : Nat :=
  if e.coastRun = 0 then e.syncSince.toNat else if good then iv else e.pAvg c

/-- One string's handling of a SYNC_IN edge that comes `iv` steps after the edge before it (05 R129, R130). -/
def State.syncEdge (iv : Nat) (n : Fin 8) (s : State) : State :=
  let c := s.topo n
  if !c.sync || s.str[n].state == .disabled then s
  else
    let good := 100 * iv ≥ 95 * c.pNom && 100 * iv ≤ 105 * c.pNom
    let s := s.modStr n fun e => { e with syncSince := e.syncSince + iv, bndSince := e.bndSince + iv, relockRun := if good then min 16 (e.relockRun + 1) else 0 }
    let e := s.str[n]
    if 100 * e.syncSince < 95 * c.pNom && e.relockRun < 16 then s.bump (Reg.str n 0x20C)
    else
      let base := e.syncBase c good iv
      let s := s.modStr n fun e => { (e.accept base) with syncSince := 0, coastRun := 0, period := if e.syncLost then e.period else BitVec.ofNat 20 base }
      if e.relockRun ≥ 16 || e.synced then s.slewSync n base else s

/-- SYNC_IN_EDGE (05 R128, R129): one input for every string in SYNC mode; `interval` in steps since the edge before. -/
def execSyncInEdge (interval : Nat) (s : State) : Host.Outcome State Fault Refusal := .next (State.forEach strings (State.syncEdge interval) s)

/-- SYNC_COAST (05 R129): the boundary at P_AVG, treated as an accepted edge, counted; after 16 in a row SYNC_LOST. -/
def execSyncCoast (n : Fin 8) (s : State) : Host.Outcome State Fault Refusal :=
  .next <|
    let c := s.topo n
    if !c.sync then s
    else
      let avg := s.str[n].pAvg c
      let run := min 16 (s.str[n].coastRun + 1)
      let s := (s.modStr n fun e => { (e.accept avg) with syncSince := e.syncSince - avg, coastRun := run, period := BitVec.ofNat 20 avg, evt := setBit e.evt 1 true }).bump (Reg.str n 0x208)
      if run ≥ 16 && !s.str[n].syncLost then (s.modStr n fun e => { e with syncLost := true, synced := false, relockRun := 0 }).emit 0x4512 (Src.str n) [] else s

/-! ### Runtime tuning (05 R139, R141) -/

/-- STRn_RESULT. -/
def State.strResult (n : Fin 8) (c detail : Nat) (s : State) : State := s.modStr n fun e => { e with resCode := BitVec.ofNat 16 c, resDetail := BitVec.ofNat 16 detail }

/-- A refused CW or IW write: the code with the register's offset, counted (05 R139, Table 5.16). -/
def State.tuneResult (n : Fin 8) (offset c : Nat) (s : State) : State :=
  if c = 0 then s.strResult n 0 0 else (s.strResult n c (if c = 0x0508 then 0 else offset)).bump (Reg.str n 0x22C)

/-- The refusals of a CW write, in the order of R158, R139 and R140; its bounds are those of R51. -/
def State.cwCode (n : Fin 8) (reg : Nat) (v : Word) (s : State) : Nat :=
  let b := s.boundCfg.strs[n].bound (0x40 + 4 * reg) (-(2 ^ 128)) (2 ^ 128)
  firstCode [(!s.strLease n, 0x0508), ((f32 v).isNone, 0x0503), (!((f32 v).map fun q => decide (b.1 ≤ q ∧ q ≤ b.2)).getD false, 0x0503), (s.sw2 4, 0x0505), (s.str[n].coefCommit.isSome, 0x0504)]

/-- A CW write: alone at the string's next boundary (05 R139). -/
def StrEng.cwWrite (n : Fin 8) (reg : Fin 7) (v : Word) : Write :=
  Write.cmd (fun _ s => s.cwCode n reg v) (State.tuneResult n (0x40 + 4 * reg)) fun s => s.modStr n fun e => { e with coefNext := e.coefNext ++ [(0x40 + 4 * reg.val, v)] }

/-- CW_WRITE. -/
def execCwWrite (q : Req) (n : Fin 8) (reg : Fin 7) (value : Word) (s : State) : Host.Outcome State Fault Refusal := .next (s.hostWrite q (StrEng.cwWrite n reg value))

/-- A write of STRn_CTL: the holds start and end at a boundary (05 R141). -/
def StrEng.ctlWrite (n : Fin 8) (value : Word) : Write := fun _ s => (0, s.modStr n fun e => { e with ctl := BitVec.ofNat 3 value.toNat })

/-- HOLD_INT_WRITE. -/
def execHoldIntWrite (q : Req) (n : Fin 8) (value : Word) (s : State) : Host.Outcome State Fault Refusal := .next (s.hostWrite q (StrEng.ctlWrite n value))

/-! ### Thermal balancing (05 R145) -/

/-- The response of a filter with a time constant of 1 s to 10 ms: 1 − e^(−1/100), to 17 digits (05 R145). -/
def tempAlpha : Rat := 995016625083195 / 100000000000000000

/-- A phase temperature in 0.1 °C, none where it is missing or invalid. -/
def GdPhase.tempIn (g : GdPhase) : Option Rat := if g.temp == 0x8000 || g.mgmtFault then none else some (g.temp.toInt : Rat)

/-- The weights from filtered temperatures: 1 + G × (mean − T), clipped to 1 ± W_MAX, scaled to the sum 6 (05 R145). -/
def thermalWeights (tbalG wMax : Nat) (t : Vector Rat 6) : Vector Rat 6 :=
  let m := t.toList.foldl (· + ·) 0 / 6
  let w := Vec.updAll t fun _ x => clampQ (1 - (wMax : Rat) / 100) (1 + (wMax : Rat) / 100) (1 + (tbalG : Rat) / 10000 * (m - x) / 10)
  let sum := w.toList.foldl (· + ·) 0
  Vec.updAll w fun _ x => x * 6 / sum

/-- THERMAL_BALANCE_UPDATE (05 R145): with a temperature missing all weights are 1, recorded when it begins. -/
def execThermalBalanceUpdate (n : Fin 8) (s : State) : Host.Outcome State Fault Refusal :=
  .next <|
    let e := s.str[n]
    let s := s.modStr n fun e => { e with gd := Vec.updAll e.gd fun _ g => { g with filt := match g.tempIn, g.filt with | some t, some f => some (f + (t - f) * tempAlpha) | some t, none => some t | none, _ => none } }
    let g := s.str[n].gd
    match (List.finRange 6).find? fun p => g[p].filt.isNone with
    | some p =>
      let s := s.modStr n fun e => { e with tbalUniform := true, evt := setBit e.evt 7 true, loop := { e.loop with weights := Vector.replicate 6 1 } }
      s.when (!e.tbalUniform) (State.emit 0x4513 (Src.gd n p) [n, (p : Nat)])
    | none => s.modStr n fun e => { e with tbalUniform := false, loop := { e.loop with weights := thermalWeights e.eff.tbalG.toNat e.eff.tbalWmax.toNat (Vec.updAll (Vector.replicate 6 0) fun i _ => e.gd[i].filt.getD 0) } }

/-! ### Gate drivers (05 R146, R148; 08 R202) -/

/-- GD_STATUS_RECEIVED (05 R146, R148, R448): the check first, then the MAC; a valid frame is stamped with the gate driver's source number
and updates the management view. -/
def execGdStatusReceived (n : Fin 8) (p : Fin 6) (f : StatusFrame) (s : State) : Host.Outcome State Fault Refusal :=
  .next <|
    if !f.crcOk then s.bump (Reg.str n 0x218)
    else if !f.macOk then s.bump (Reg.str n 0x21C)
    else
      let t := if f.tempU.toInt ≥ f.tempL.toInt then f.tempU else f.tempL
      ((s.modGd n p fun g => { g with flags := f.flags, seqEcho := f.seqEcho, temp := t, statusRun := 0, heard := true, statTsc := s.stampOf (Src.gd n p) }).stamped (Src.gd n p)).gdViews n p

/-- GD_FIBRE_FAULT (08 R202, SF03; 05 R147, R148): the fabric's filter confirms, and the data view is faulted. -/
def execGdFibreFault (n : Fin 8) (p : Fin 6) (s : State) : Host.Outcome State Fault Refusal :=
  .next <|
    let s := (s.modGd n p fun g => { g with dataFault := true, dataTsc := if g.dataFault then g.dataTsc else s.now }).modSaf fun t => { t with fab := { t.fab with inGd := Vec.upd t.fab.inGd n fun v => Vec.upd v p fun i => { i with active := true } } }
    ((s.gdViews n p).emit 0xC81C (Src.gd n p) [n, (p : Nat)]).fabricTrip n 1 0xC81C fun f => { f with latchGd := setBit f.latchGd n true }

end Sys2Proof.Machine
end

