-- ==== Sys2Proof/Machine/StringState.lean ====
section
/-! DEFINITION. The states of a string, its commands, precharge and the contactors (spec 05 R151 to R158). -/

namespace Sys2Proof.Machine

/-! ### Triggers of the learned-values write (07 R193) -/

/-- Does area 1 hold the newest valid copy (07 R194). -/
def Journal.newest1 (j : Journal) : Bool := j.area1.valid && (!j.area0.valid || j.area1.seq > j.area0.seq)

/-- The newest valid area (07 R194). -/
def Journal.newest (j : Journal) : LearnArea := if j.newest1 then j.area1 else j.area0

/-- The area that a write fills: the one without the newest valid copy (07 R194). -/
def Journal.modOther (f : LearnArea → LearnArea) (j : Journal) : Journal := if j.newest1 then { j with area0 := f j.area0 } else { j with area1 := f j.area1 }

/-- A cell's learned values with its hysteresis state, the eighteenth of its states in the order of 07 Table 7.1 (07 R193; log 11). -/
def Cell.learned (x : Cell) : LearnCell := { x.learn with hyst := (x.x[17]?).getD x.learn.hyst }

/-- The learned values as one area, under a LEARN_SEQ and for a mask of triggers (07 Table 7.4). -/
def State.learnArea (seq trig : Nat) (s : State) : LearnArea :=
  { seq := seq, tsc := s.now, modelDigest := Config.modelDigest s.img.cfg.model, cells := s.est.cells.map (fun e => (e.1, e.2.learned)), rc := strings.map (fun n => (n.val, s.rc[n].memFreq, s.rc[n].mem)), trigger := trig, valid := true }

/-- LEARN_SEQ of the newest valid area (07 Table 7.6). -/
def Journal.learnSeq (j : Journal) : Nat := if j.newest.valid then j.newest.seq else 0

/-- The next LEARN_SEQ: one above the last one that a write took, completed or not (07 Table 7.4). -/
def Journal.nextLearn (j : Journal) : Nat := max j.learnLast (max j.area0.seq j.area1.seq) + 1

/-- The charges that a write covers (07 R195). -/
def Est.covered (e : Est) : Est :=
  { e with cells := e.cells.map (fun x => (x.1, { x.2 with balW := x.2.balQ })), strs := e.strs.map fun t => { t with chargeW := t.chargeJ } }

/-- A write starts (07 R194): its contents are those of now; the area without the newest valid copy is no longer valid. The member that
leads tells the twin, which writes its copy under the same LEARN_SEQ (07 R197). -/
def State.learnStart (seq trig : Nat) (s : State) : State :=
  let a := s.learnArea seq trig
  let s := s.modJrn fun j => { j.modOther (fun x => { x with valid := false }) with learnLast := max j.learnLast seq }
  let s := s.modEst fun e => { e.covered with learnBusy := true, learnTrig := trig, learnWrite := some a }
  s.when (s.copies && s.twin.role == .active) (State.twinRecord (.work (.learn seq trig)) "LEARN")

/-- A trigger of the learned-values write: it starts the write, or merges into the one that follows the running write (07 R193). The
bits follow the order of the rule's list (log 13). -/
def State.learnTrigger (bit : Nat) (s : State) : State :=
  if s.est.learnBusy then s.modEst fun e => { e with learnPending := true, learnTrigNext := e.learnTrigNext ||| 2 ^ bit }
  else s.learnStart s.jrn.nextLearn (2 ^ bit)

/-- The twin's trigger: the copied values are written under its LEARN_SEQ, at once or after the running write (07 R197). -/
def State.learnCopy (seq trig : Nat) (s : State) : State :=
  if s.est.learnBusy then s.modEst fun e => { e with learnPending := true, learnTrigNext := e.learnTrigNext ||| trig, learnSeqNext := some seq }
  else s.learnStart seq trig

/-- A write has ended: the queued one starts at once (07 R193). -/
def State.learnNext (s : State) : State :=
  let e := s.est
  let s := s.modEst fun e => { e with learnBusy := false, learnPending := false, learnTrig := 0, learnTrigNext := 0, learnSeqNext := none, learnWrite := none }
  s.when e.learnPending (State.learnStart (e.learnSeqNext.getD s.jrn.nextLearn) e.learnTrigNext)

/-! ### Conditions -/

/-- Is the CELL_PRI_SEC_DIFF condition absent from a string for 10 s (08 R216). -/
def State.psDiffAbsent (n : Fin 8) (s : State) : Bool :=
  s.saf.psdiffSince[n].isNone && ((s.saf.psdiffClear[n].map fun t => decide (s.since t ≥ 10000000000)).getD true)

/-- The string of a fabric input, none for a global one (08 Table 8.1). -/
def FabricIn.string : FabricIn → Option (Fin 8)
  | .loop n | .gd n _ | .oc n _ => some n
  | .estop _ | .ext => none

/-- The numbers of a fabric input in SELFTEST_FAIL: its row of Table 8.1 from 0, the string, the phase, channel or input (08 R227). -/
def FabricIn.body : FabricIn → List Int
  | .loop n => ints [0, n, 0]
  | .gd n p => ints [1, n, p]
  | .oc n c => ints [2, n, b2n c]
  | .estop i => ints [3, 0xFF, b2n i]
  | .ext => ints [4, 0xFF, 0]

/-- Do both safety channels permit the string (05 Table 5.12 bit 0; 08 R207, R216, R227). -/
def State.permits (n : Fin 8) (s : State) : Bool :=
  let t := s.saf
  t.profileOk && !s.img.profPending && t.a.run && t.b.run && !t.a.failed && !t.b.failed && s.psDiffAbsent n && !t.a.failIn.any (fun i => i.string == some n) && !t.b.failIn.any (fun i => i.string == some n) &&
    !(bit t.a.faultDem.toNat n || bit t.b.faultDem.toNat n || bit t.a.shedDem.toNat n || bit t.b.shedDem.toNat n)

/-- Ring CLOSED or SPLIT and the string's IMG_REENUM bit clear (05 Table 5.12 bit 1). -/
def State.ringReady (n : Fin 8) (s : State) : Bool := (s.ring[n].mode == .closed || s.ring[n].mode == .split) && !bit s.img.reenum.toNat n

/-- The failed conditions of Table 5.12, bit by bit. -/
def State.startMask (n : Fin 8) (s : State) : Nat :=
  let e := s.str[n]
  let c := s.topo n
  maskOf [!s.permits n, !s.ringReady n, !e.auxOpen, e.snsValid != 0x3FF, !(e.gd.toList.all fun g => g.healthy && g.session),
    c.sync && !e.synced, e.lockout, !((c.vbusLo : Int) * 10 ≤ e.smp.vbus && e.smp.vbus ≤ (c.vbusHi : Int) * 10), !s.strLease n]

/-- A write of STRn_CMD: the lease, then the row of Table 5.11, then its conditions; `check` gives a code and a detail. -/
def StrEng.cmd (n : Fin 8) (check : Session → State → Nat × Nat) (effect : State → State) : Write := fun x s =>
  let c := if !s.strLease n then (0x0508, 0) else check x s
  if c.1 = 0 then (0, effect (s.strResult n 0 0)) else (c.1, s.strResult n c.1 c.2)

/-- Permitted only from states for which `p` holds (05 Table 5.11); else STR_STATE. -/
def State.fromState (n : Fin 8) (p : StrState → Bool) (s : State) : Nat × Nat := if p s.str[n].state then (0, 0) else (0x0501, 0)

/-! ### Commands (05 Table 5.11) -/

/-- A string whose Ring is in ENUM_FAILED keeps its state until an enumeration succeeds (03 R79), answered as Table 5.12 bit 1 (log 66);
else the row of Table 5.11. -/
def State.leaveState (n : Fin 8) (p : StrState → Bool) (s : State) : Nat × Nat :=
  if p s.str[n].state && s.ring[n].mode == .enumFailed then (0x0502, 2) else s.fromState n p

/-- ENABLE: a declared string, DISABLED to OFF; gate-driver sessions are then established (10 R278). -/
def StrEng.enableCmd (n : Fin 8) : Write :=
  StrEng.cmd n (fun _ s => if (s.topo n).declared then s.leaveState n (· == .disabled) else (0x0501, 0)) fun s => (s.strTo n .off 1).gdSessions n

/-- STRING_ENABLE. -/
def execStringEnable (q : Req) (n : Fin 8) (s : State) : Host.Outcome State Fault Refusal := .next (s.hostWrite q (StrEng.enableCmd n))

/-- DISABLE: from OFF, SHED or SERVICE; no BEACON, and the nodes sleep, so their keys are of no more use (03 R69; 05 Table 5.10). -/
def StrEng.disableCmd (n : Fin 8) : Write :=
  StrEng.cmd n (fun _ s => s.leaveState n fun t => t == .off || t == .shed || t == .service) fun s =>
    (s.strTo n .disabled 2).modRing n fun r => { r.dropKeys with mode := .idle, enumRun := none, closeStep := .none, queue := [], outA := none, outB := none, windowOpen := false, splitNext := false }

/-- STRING_DISABLE. -/
def execStringDisable (q : Req) (n : Fin 8) (s : State) : Host.Outcome State Fault Refusal := .next (s.hostWrite q (StrEng.disableCmd n))

/-- The refusal of START: the state or the bank's state with STR_STATE, Table 5.12 with STR_CONDITIONS and its failed bits. -/
def State.startCode (n : Fin 8) (s : State) : Nat × Nat :=
  let b := s.bank.state
  if !(s.str[n].state == .off && (b == .precharge || b.flowing)) then (0x0501, 0)
  else if s.startMask n ≠ 0 then (0x0502, s.startMask n) else (0, 0)

/-- START: K_NEG is energised at the next T0 (05 R153 step 1). -/
def StrEng.startCmd (n : Fin 8) : Write :=
  StrEng.cmd n (fun _ s => s.startCode n) fun s => (s.strTo n .precharge 3).modStr n fun e => { e with prech := .waitT0, prechRun := 0, prechMissRun := 0, opening := .none }

/-- STRING_START. -/
def execStringStart (q : Req) (n : Fin 8) (s : State) : Host.Outcome State Fault Refusal := .next (s.hostWrite q (StrEng.startCmd n))

/-- A stop that is still ramping down gives way to the later command; one past its ramp goes on (log 125). -/
def StrEng.recall (e : StrEng) : StrEng := if e.opening == .rampDown then { e with opening := .none, lowRun := 0 } else e

/-- The string enters HOLD with its reference ramping to zero (05 R144). -/
def State.toHold (n : Fin 8) (cause : Nat) (s : State) : State :=
  (s.strTo n .hold cause).modStr n fun e => { e.recall with loop := { e.loop with ramping := false, rampZero := true } }

/-- HOLD: from RUN. -/
def StrEng.holdCmd (n : Fin 8) : Write := StrEng.cmd n (fun _ s => s.fromState n (· == .run)) (State.toHold n 4)

/-- STRING_HOLD. -/
def execStringHold (q : Req) (n : Fin 8) (s : State) : Host.Outcome State Fault Refusal := .next (s.hostWrite q (StrEng.holdCmd n))

/-- The string enters RUN from HOLD: it ramps, and the integral terms keep their values (05 R143). -/
def State.toRun (n : Fin 8) (cause : Nat) (s : State) : State :=
  (s.strTo n .run cause).modStr n fun e => { e.recall with loop := { e.loop with ramping := true, rampZero := false } }

/-- RESUME: from HOLD while the bank is in RUN. -/
def StrEng.resumeCmd (n : Fin 8) : Write :=
  StrEng.cmd n (fun _ s => if s.bank.state == .run then s.fromState n (· == .hold) else (0x0501, 0)) (State.toRun n 5)

/-- STRING_RESUME. -/
def execStringResume (q : Req) (n : Fin 8) (s : State) : Host.Outcome State Fault Refusal := .next (s.hostWrite q (StrEng.resumeCmd n))

/-- A string stopped towards a state (05 R144, R154): the ramp begins, or an opening under way takes the new target. -/
def State.stopString (n : Fin 8) (target : StrState) (cause : Nat) (s : State) : State :=
  let s := s.when (s.str[n].state == .run) (State.abortSweep n 1)
  if s.str[n].opening == .none then s.rampDown n target cause else s.modStr n fun e => { e with target := target, tripCause := cause }

/-- The refusal of STOP: from SHED or SERVICE the Ring must be CLOSED or SPLIT, with bit 1 as the detail. -/
def State.stopCode (n : Fin 8) (s : State) : Nat × Nat :=
  let t := s.str[n].state
  if t.active then (0, 0)
  else if t == .shed || t == .service then (if s.ringReady n then (0, 0) else (0x0502, 2))
  else (0x0501, 0)

/-- STOP (05 R144, R154); it triggers the learned-values write (07 R193). -/
def StrEng.stopCmd (n : Fin 8) : Write :=
  StrEng.cmd n (fun _ s => s.stopCode n) fun s =>
    (if s.str[n].state.active then s.stopString n .off 6 else s.strTo n .off 6).learnTrigger 3

/-- STRING_STOP. -/
def execStringStop (q : Req) (n : Fin 8) (s : State) : Host.Outcome State Fault Refusal := .next (s.hostWrite q (StrEng.stopCmd n))

/-- SHED commanded by the host (05 R156). -/
def StrEng.shedCmd (n : Fin 8) : Write := StrEng.cmd n (fun _ s => s.fromState n StrState.active) (State.stopString n .shed 7)

/-- STRING_SHED. -/
def execStringShed (q : Req) (n : Fin 8) (s : State) : Host.Outcome State Fault Refusal := .next (s.hostWrite q (StrEng.shedCmd n))

/-- SERVICE: from OFF, which a string with its IMG_REENUM bit set does not leave (02 R52). -/
def StrEng.serviceCmd (n : Fin 8) : Write :=
  StrEng.cmd n (fun _ s => if s.str[n].state == .off && bit s.img.reenum.toNat n then (0x0502, 2) else s.leaveState n (· == .off)) (State.strTo n .service 8)

/-- STRING_SERVICE. -/
def execStringService (q : Req) (n : Fin 8) (s : State) : Host.Outcome State Fault Refusal := .next (s.hostWrite q (StrEng.serviceCmd n))

/-! ### CLEAR (05 R157, 08 R204) -/

/-- Has a fabric input been inactive for at least `ns` (08 R204). -/
def State.quiet (i : TripIn) (ns : Nat) (s : State) : Bool := !i.active && s.since i.inactiveUp ≥ ns

/-- Has the input of every latch of a string been inactive for 1 ms (08 R204). -/
def State.inputsQuiet (n : Fin 8) (s : State) : Bool :=
  let f := s.saf.fab
  s.quiet f.inLoop[n] 1000000 && s.quiet f.inOc[n] 1000000 && f.inGd[n].toList.all fun i => s.quiet i 1000000

/-- The set latches of a string whose input has been inactive for 1 ms: LOOP, GD and OC, as bits n, 8 + n and 16 + n (08 R204). -/
def State.strobeMask (n : Fin 8) (s : State) : BitVec 25 :=
  let f := s.saf.fab
  let lp := bit f.latchLoop.toNat n && s.quiet f.inLoop[n] 1000000
  let gd := bit f.latchGd.toNat n && f.inGd[n].toList.all fun i => s.quiet i 1000000
  let oc := bit f.latchOc.toNat n && s.quiet f.inOc[n] 1000000
  setBit (setBit (setBit 0 n lp) (8 + n) gd) (16 + n) oc

/-- GLOBAL, as bit 24, where it is set and may clear: both emergency stop inputs closed for 1 s, EXT_TRIP_N high for 1 ms (08 R221); an
emergency stop must have been reset (08 R218; log 98). -/
def State.globalMask (s : State) : BitVec 25 :=
  let f := s.saf.fab
  setBit 0 24 (f.global && (f.resetArmed || !s.saf.estopActive) && s.quiet f.estopA 1000000000 && s.quiet f.estopB 1000000000 && s.quiet f.extLow 1000000)

/-- A channel that runs writes its strobes (08 R204). -/
def SafChan.putStrobe (m : BitVec 25) (c : SafChan) : SafChan := if c.run && !c.failed then { c with strobe := c.strobe ||| m } else c

/-- The fabric clears the latches for which both channels have written the strobe in the bank cycle; with GLOBAL the emergency stop ends (08
R204, R220, R221). -/
def Safety.strobed (m : BitVec 25) (t : Safety) : Safety :=
  let f := t.fab
  let f := { f with latchLoop := f.latchLoop &&& ~~~(m.extractLsb' 0 8), latchGd := f.latchGd &&& ~~~(m.extractLsb' 8 8), latchOc := f.latchOc &&& ~~~(m.extractLsb' 16 8) }
  if bit m.toNat 24 then { t with estopActive := false, fab := { f with global := false, coilPowerOff := false, coilTimer := false, estopBothOpen := false, resetArmed := false } }
  else { t with fab := f }

/-- The channels write the strobe for latches (08 R204). -/
def State.writeStrobes (m : BitVec 25) (s : State) : State :=
  s.withOutputs (fun s => s.modSaf fun t =>
    let t := { t with a := t.a.putStrobe m, b := t.b.putStrobe m }
    t.strobed (m &&& t.a.strobe &&& t.b.strobe))

/-- The end of the bank cycle of the strobes: a latch for which one channel alone wrote it stays set, recorded as SAFETY_DECISION_DIFF (08
R204). -/
def State.settleStrobes (s : State) : State :=
  let a := s.saf.a
  let b := s.saf.b
  let s := s.when (a.strobe != b.strobe) (State.emit 0x4823 (b2n (a.strobe &&& ~~~b.strobe == 0)) (ints [a.faultDem.toNat, a.shedDem.toNat, b.faultDem.toNat, b.shedDem.toNat]))
  s.modSaf fun t => { t with a := { t.a with strobe := 0 }, b := { t.b with strobe := 0 } }

/-- Both channels agree: each runs, neither has failed, and the last cross-compare passed (08 R208). -/
def State.channelsAgree (s : State) : Bool := s.saf.a.run && s.saf.b.run && !s.saf.a.failed && !s.saf.b.failed && s.saf.cmpOk

/-- May anything new be enabled: the channels agree, their last messages' enable vectors were equal, and so are their profiles (00 R10; 02 R60; 08
R203, R208). -/
def State.enablesAgree (s : State) : Bool := s.channelsAgree && !s.saf.enDiff && s.saf.profileOk

/-- Is the cause of a string's trip inactive: its fabric inputs, its loop, and no fault condition standing in either channel. -/
def State.causeInactive (n : Fin 8) (s : State) : Bool :=
  s.inputsQuiet n && s.ring[n].floop == .closed && !bit s.saf.a.cond.toNat n && !bit s.saf.b.cond.toNat n

/-- The refusals of CLEAR (05 Table 5.11, R157). -/
def State.clearCode (n : Fin 8) (x : Session) (s : State) : Nat × Nat :=
  let e := s.str[n]
  if e.state != .fault then (0x0501, 0)
  else if e.lockout && !(e.lockoutEnum && s.roleOf x == .service) then (0x0506, 0)
  else
    let m := maskOf [!(s.causeInactive n && s.channelsAgree), s.ring[n].mode == .enumFailed, !(e.auxOpen && e.drives == 0)]
    if m ≠ 0 then (0x0502, m) else (0, 0)

/-- A channel's fault demands of a string end with its CLEAR (05 R157, 08 Table 8.3). -/
def SafChan.forget (n : Fin 8) (c : SafChan) : SafChan := { c with faultDem := setBit c.faultDem n false, fired := c.fired.filter fun k => k / 32 != n.val }

/-- FAULT to OFF with the strobes; the first cause, the demands and the trip requests of the string end. -/
def State.clearString (n : Fin 8) (s : State) : State :=
  let s := (s.writeStrobes (s.strobeMask n)).modSaf fun t => { t with cause := Vec.upd t.cause n (fun _ => 0), a := t.a.forget n, b := t.b.forget n }
  let s := s.modStr n fun e => { e with lockout := false, sendReq := false, deadReq := false, contReq := false, tripCause := 0, opening := .none }
  (s.modJrn fun j => { j with lockout := setBit j.lockout n false }).strTo n .off 9

/-- CLEAR. -/
def StrEng.clearCmd (n : Fin 8) : Write := StrEng.cmd n (fun x s => s.clearCode n x) (State.clearString n)

/-- STRING_CLEAR. -/
def execStringClear (q : Req) (n : Fin 8) (s : State) : Host.Outcome State Fault Refusal := .next (s.hostWrite q (StrEng.clearCmd n))

/-! ### Precharge and contactors -/

/-- Precharge is complete (05 R153 step 6, Table 5.11): RUN if the bank is in RUN, otherwise HOLD; the loops start so that every error
is zero on the first cycle (05 R143), and the repetitive controller starts from its memory (06 R164). -/
def State.prechargeDone (n : Fin 8) (s : State) : State :=
  let run := s.bank.state == .run
  let c := s.topo n
  let ff := s.str[n].feedforward s.freshRat
  let s := (s.when (s.str[n].smp.vbus = 0) State.tick).modStr n fun e => { e with prech := .idle, dutyOut := Vector.replicate 6 (clampQ c.dMin c.dMax ff), loop := { e.loop with xPh := Vector.replicate 6 0, xStr := 0, xBus := 0, iRef := e.meanI / 1000, first := true, ramping := run, rampZero := !run } }
  s.strTo n (if run then .run else .hold) 10

/-- Precharge fails (05 R153): every coil off, PRECHARGE_FAIL with VSTR and the pack sum; OFF once the inputs confirm open. -/
def State.prechargeFail (n : Fin 8) (s : State) : State :=
  let e := s.str[n]
  let s := ((s.modStr n fun e => { e with evt := setBit e.evt 6 true, target := .off, tripCause := 0x8518 }).strResult n 0x0507 0).bump (Reg.str n 0x228)
  (s.emit 0x8518 (Src.str n) [e.smp.vstr, (e.packSum : Int)]).openAll n

/-- PRECHARGE_TIMEOUT (05 R153). -/
def execPrechargeTimeout (n : Fin 8) (s : State) : Host.Outcome State Fault Refusal :=
  .next <| match s.str[n].prech with
    | .kNeg | .kPreT0 | .kPre => if s.str[n].state == .precharge then s.prechargeFail n else s
    | _ => s

/-- Within PRE_DV of the pack sum (05 R153 step 4): VSTR in 10 mV, the pack sum in 0.1 mV. -/
def StrEng.withinDv (c : StrCfg) (e : StrEng) : Bool := absQ (100 * (e.smp.vstr : Rat) - e.packSum) ≤ c.preDv / 100 * e.packSum

/-- One T0 of a precharging string (05 R153 steps 1 to 4): the coils, then the run of complete sets within PRE_DV, each set counted once. Ten
bank cycles without a complete set, or a contact that an earlier step confirmed and that no longer reads closed, fail the precharge. -/
def State.prechargeT0 (n : Fin 8) (s : State) : State :=
  let e := s.str[n]
  if e.state != .precharge || e.opening != .none then s
  else
    match e.prech with
    | .waitT0 => if s.enablesAgree then ((s.coilHalves n true).driveCoils n 1).modStr n fun e => { e with prech := .kNeg } else s
    | .kPreT0 =>
      if !bit e.aux.toNat 0 then s.prechargeFail n
      else (s.driveCoils n 3).modStr n fun e => { e with prech := .kPre, prechRun := 0, prechMissRun := 0, packSumOk := false }
    | .kPre =>
      if !bit e.aux.toNat 0 then s.prechargeFail n
      else
        let run := if e.packSumOk && e.withinDv (s.topo n) then e.prechRun + 1 else 0
        let miss := if e.packSumOk then 0 else e.prechMissRun + 1
        if miss ≥ 10 then s.prechargeFail n
        else if run ≥ 5 then (s.driveCoils n 7).modStr n fun e => { e with prech := .kPos, prechRun := 0 }
        else s.modStr n fun e => { e with prechRun := run, prechMissRun := miss, packSumOk := false }
    | .kPos | .kPreOpen => if !bit e.aux.toNat 0 then s.prechargeFail n else s
    | _ => s

/-- AUX_INPUT_CHANGE (05 R151, R153, R154): an accepted change advances the sequence that waits for it. -/
def execAuxInputChange (n : Fin 8) (aux : BitVec 3) (s : State) : Host.Outcome State Fault Refusal :=
  .next <|
    let s := s.modStr n fun e => { e with aux := aux, auxDue := e.drives ^^^ aux }
    let e := s.str[n]
    let s :=
      if e.state == .precharge && e.opening == .none then
        match e.prech with
        | .kNeg => if bit aux.toNat 0 then s.modStr n fun e => { e with prech := .kPreT0 } else s
        | .kPos => if bit aux.toNat 2 then (s.driveCoils n 5).modStr n fun e => { e with prech := .kPreOpen } else s
        | .kPreOpen => if !bit aux.toNat 1 then s.prechargeDone n else s
        | _ => s
      else s
    s.openDone n

/-- CONTACTOR_MISMATCH (05 R151): counted, recorded, a trip request, and FAULT as a safe reaction. -/
def execContactorMismatch (n : Fin 8) (i : Fin 3) (s : State) : Host.Outcome State Fault Refusal :=
  .next <|
    let e := s.str[n]
    let s := (s.modStr n fun e => { e with evt := setBit e.evt 5 true, contReq := true }).bump (Reg.str n 0x224)
    (s.emit 0x8517 (Src.str n) [(i : Nat), b2n (bit e.drives.toNat i), b2n (bit e.aux.toNat i)]).stringTrip n 0x8517

/-- COIL_PULLIN_END (05 R152): the drive passes to its economiser duty. -/
def execCoilPullinEnd (n : Fin 8) (i : Fin 3) (s : State) : Host.Outcome State Fault Refusal :=
  .next <|
    if bit s.str[n].pullin.toNat i
    then (s.modStr n fun e => { e with pullin := setBit e.pullin i false }).send .line (n * 3 + i) "ECONOMISER" (ints [(s.topo n).economiser])
    else s

/-- K_NEG_RELEASE_DELAY (05 R154): 10 ms after K_POS and K_PRE. -/
def execKNegReleaseDelay (n : Fin 8) (s : State) : Host.Outcome State Fault Refusal :=
  .next (if s.str[n].opening == .kNegDelay then s.openAll n else s)

/-- TRIP_OPEN_TIMEOUT (05 R154): 20 ms after a trip, whatever the current; 2 A or more is recorded. -/
def execTripOpenTimeout (n : Fin 8) (s : State) : Host.Outcome State Fault Refusal :=
  .next <|
    let e := s.str[n]
    if e.opening == .tripWait then
      let i := max e.smp.istrA.natAbs e.smp.istrB.natAbs
      (s.when (i ≥ 2000) (State.emit 0xC51A (Src.str n) [(i : Int)])).openAll n
    else s

end Sys2Proof.Machine
end

