-- ==== Sys2Proof/Machine/Protect.lean ====
section
/-! DEFINITION. Protection (spec 08): the safety channels, their safety functions and comparison, the trip fabric's inputs, the
emergency stop, PCS_TRIP and the self-tests. -/

namespace Sys2Proof.Machine

/-! ### Channels and demands (08 R207) -/

/-- Source number of a channel: A 0x000, B 0x001 (01 Table 1.4). -/
def Src.chan (b : Bool) : Nat := if b then 1 else 0

/-- One channel changed. -/
def State.modChan (b : Bool) (f : SafChan → SafChan) (s : State) : State := s.modSaf fun t => if b then { t with b := f t.b } else { t with a := f t.a }

/-- Rows of 08 Table 8.3 whose safe state is SHED. -/
def sfShed (sf : Nat) : Bool := sf == 12 || sf == 13 || sf == 15 || sf == 16 || sf == 17

/-- A demand found by a channel of which it has not yet a record: its own output enable half falls at once, SAFETY_DEMAND is recorded
and counted, and the string takes the safe state of the row, which withdraws both halves (08 R207, Tables 8.2, 8.3). A demand that the fabric or the other
channel has carried out is recorded without a second trip. -/
def State.demand (b : Bool) (n : Fin 8) (sf code : Nat) (s : State) : State :=
  let key := n.val * 32 + sf
  if key ∈ (s.saf.chan b).fired then s
  else
    let known := key ∈ (s.saf.chan (!b)).fired
    let s := s.modChan b fun c => { c with fired := key :: c.fired, pwm := setBit c.pwm n false, shedDem := if sfShed sf then setBit c.shedDem n true else c.shedDem, faultDem := if sfShed sf then c.faultDem else setBit c.faultDem n true }
    let s := (s.bump (if b then 0x1C0108 else 0x1C0104)).emit 0xC812 (Src.chan b) [n.val, sf, code]
    let active := s.str[n].state.active
    if sfShed sf then
      if active then (((s.pwmHalves n false).emit 0xC819 (Src.chan b) [n.val, sf]).safetyShed n code).modSaf fun t => { t with shedBy := Vec.upd t.shedBy n fun _ => sf } else s
    else if active then (s.pwmHalves n false).stringTrip n code
    else if known || s.str[n].state == .fault || sf == 1 || sf == 3 || sf == 5 then s
    else s.stringTrip n code

/-- A bank-level demand found by a channel that runs: it withdraws every output half, and SAFETY_DEMAND is recorded and counted (08 R207). -/
def State.chanBankDemand (b : Bool) (sf code : Nat) (s : State) : State :=
  if (s.saf.chan b).run then ((s.modChan b fun c => { c with pwm := 0, bankDem := true }).bump (if b then 0x1C0108 else 0x1C0104)).emit 0xC812 (Src.chan b) [0xFF, sf, code] else s

/-- A bank-level demand found by both channels, then BANK FAULT (08 Table 8.2). -/
def State.bankDemand (sf code : Nat) (s : State) : State := ((s.chanBankDemand false sf code).chanBankDemand true sf code).bankFault code

/-- A demand of a row marked M, found by the channels named, then the member's reaction (08 R207, R212). -/
def State.memberDemand (a b : Bool) (sf code : Nat) (s : State) : State :=
  ((s.when a (State.chanBankDemand false sf code)).when b (State.chanBankDemand true sf code)).memberFault code

/-- The strings that a channel judges: declared, and not DISABLED. -/
def State.judged (s : State) : List (Fin 8) := strings.filter fun n => (s.topo n).declared && s.str[n].state != .disabled

/-! ### What a channel measures (08 R206, R214, R215) -/

/-- The value of a cell that a channel reads: A the primary, B the secondary (08 R206). -/
def NodeEntry.view (b : Bool) (c : Nat) (e : NodeEntry) : Nat := ((if b then e.sec else e.pri).getD c 0xFFFF).toNat

/-- One cell judged by a channel: SF08's confirmation over valid sets and the run of sets in which the cell is blind on it, each
recorded once (08 R214, R215). -/
def State.judgeCell (b : Bool) (n : Fin 8) (k : Fin 24) (c : Nat) (s : State) : State :=
  let e := s.ring[n].nodes[k]
  let v := e.view b c
  let key := cellIndex n (s.topo n).cells (k.val * (s.topo n).cells + c + 1)
  let ch := s.saf.chan b
  let old := Sparse.get ch.ovuvRun key 0
  let p := (s.saf.chan b)
  let out := !p.prof.isEmpty && (v > p.profNat 2 2 || v < p.profNat 4 2)
  let run := if v = 0xFFFF then old else if out then min 2 (old + 1) else 0
  let blind := v = 0xFFFF
  let oldBlind := Sparse.get ch.blindRun key 0
  let s := s.modChan b fun ch => { ch with ovuvRun := Sparse.set ch.ovuvRun key run, blindRun := Sparse.set ch.blindRun key (if blind then min 10 (oldBlind + 1) else 0) }
  let s := s.when (run = 2 && old ≠ 2) (State.emit 0xC817 (Src.node n k) [c + 1, b2n b, v])
  s.when (blind && oldBlind = 0) (State.emit 0x4824 (Src.node n k) [c + 1, b2n b])

/-- A node's temperatures judged: ten consecutive reports with a sensor above T_CELL_MAX (08 SF09, R214). -/
def State.judgeTemps (b : Bool) (n : Fin 8) (k : Fin 24) (s : State) : State :=
  let e := s.ring[n].nodes[k]
  if !bit e.status.toNat 31 then s
  else
    let key := n.val * 24 + k.val
    let p := s.saf.chan b
    let hot := !p.prof.isEmpty && e.temps.any fun t => t != 0x8000 && t.toInt > signed 16 (p.profNat 6 2)
    let old := Sparse.get (s.saf.chan b).otRun key 0
    let run := if hot then min 10 (old + 1) else 0
    let s := s.modChan b fun ch => { ch with otRun := Sparse.set ch.otRun key run }
    s.when (run = 10 && old ≠ 10) (State.emit 0xC817 (Src.node n k) [0, b2n b, (e.temps.map (·.toInt)).foldl max (-0x8000)])

/-- One string's summaries and condition timers judged by a channel (08 SF10 to SF12, SF15). -/
def State.judgeString (b : Bool) (n : Fin 8) (s : State) : State :=
  let e := s.str[n]
  let p := s.saf.chan b
  let vs := !p.prof.isEmpty && e.sum.vsMax > 10 * (p.profNat (0x030 + 2 * n) 2 : Int)
  let vb := !p.prof.isEmpty && e.sum.vbMax > 10 * (p.profNat 0x040 2 : Int)
  let s := s.modChan b fun ch => { ch with vstrRun := Vec.upd ch.vstrRun n (fun r => if vs then min 2 (r + 1) else 0), vbusRun := Vec.upd ch.vbusRun n fun r => if vb then min 2 (r + 1) else 0 }
  let ps := s.sense[n].nodes.toList.any fun d => d.psDiff.any id
  s.modSaf fun t => { t with psdiffSince := Vec.upd t.psdiffSince n (fun o => if ps then some (o.getD s.clk.upNs) else none), psdiffClear := Vec.upd t.psdiffClear n fun o => if ps then none else if t.psdiffSince[n].isSome then some s.clk.upNs else o }

/-- The coolant flow that the summary carries, judged once for each pair: the pair of a string runs in the cycles that are n modulo 10, and
the summary of the cycle after carries it (08 SF12; 14 R374, R378). -/
def State.judgeFlow (b : Bool) (n : Fin 8) (s : State) : State :=
  let low (q : Rat) : Bool := q < ((s.saf.chan b).profNat (0x050 + 2 * n) 2 : Rat) / 10
  let q := s.str[n].sum.flow
  let lowPair := (q.map low).getD false
  s.modChan b fun c => { c with flowFine := setBit c.flowFine n ((q.map fun v => !low v).getD false), flowRun := if s.cycle % 10 = (n.val + 1) % 10 then Vec.upd c.flowRun n (fun r => if lowPair then min 3 (r + 1) else 0) else c.flowRun }

/-- The cells whose entries are valid: a missing entry ends a run of blind sets (08 R215). -/
def State.seenCell (s : State) (key : Nat) : Bool :=
  s.judged.any fun n => key / 384 = n.val && s.ring[n].nodes.toList.zipIdx.any fun e => e.2 = key % 384 / 16 && e.1.valid

/-- The set that a channel evaluates: each valid entry of each string it judges (08 R207). -/
def State.judgeSet (b : Bool) (s : State) : State :=
  let s := s.modChan b fun c => { c with blindRun := c.blindRun.filter fun x => s.seenCell x.1 }
  let one (n : Fin 8) (s : State) : State :=
    let s := State.forEach ((s.topo n).nodes.filter fun k => s.ring[n].nodes[k].valid) (fun k s => State.judgeTemps b n k (State.forEach (List.range (s.topo n).cells) (State.judgeCell b n k) s)) s
    (s.judgeString b n).judgeFlow b n
  State.forEach s.judged one s

/-- Is coolant flow lost on a string for a channel: its safety input in the fail state, or three low pairs (08 SF12, 14 R378). -/
def State.flowLost (b : Bool) (n : Fin 8) (s : State) : Bool :=
  (s.saf.chan b).profNat (0x050 + 2 * n) 2 ≠ 0 && (s.str[n].sum.flow.isNone || (s.saf.chan b).flowRun[n] ≥ 3)

/-- Does a node of a valid entry report CMP_OV, CMP_UV, CMP_OT or LOOP_OPEN: the faulted management view of the nodes (08 R210). -/
def RingPort.nodeFault (r : RingPort) : Bool := r.nodes.toList.any fun e => e.valid && bits e.status.toNat 23 20 ≠ 0

/-- The conditions of the rows of 08 Table 8.3 that stand on a string for a channel, each a key, the row's number and the event code of
its cause. A latch makes a demand only of a string in PRECHARGE, RUN, HOLD or FAULT. A node's comparator or loop flag is a faulted view of
the loop (R210; log 97). SF16 is the demand of the channel that sees the cell, for a cell to which the other is blind (R215; log 97). -/
def State.liveDemands (b : Bool) (n : Fin 8) (s : State) : List (Nat × Nat) :=
  let e := s.str[n]
  let r := s.ring[n]
  let f := s.saf.fab
  let hold := e.state.active || e.state == .fault
  let mine (k : Nat) : Bool := k / 384 = n.val
  let rows : List (Bool × Nat × Nat) := [
    (r.floop == .opened || r.nodeFault || (hold && bit f.latchLoop.toNat n), 1, 0xC214),
    (r.floopAbn, 2, 0xC219),
    (hold && bit f.latchGd.toNat n, 3, 0xC81C),
    (e.gd.toList.any (·.mgmtFault), 4, 0xC81C),
    (hold && bit f.latchOc.toNat n, 5, 0xC81B),
    ((s.saf.chan b).ovuvRun.any fun x => mine x.1 && x.2 ≥ 2, 8, 0xC817),
    ((s.saf.chan b).otRun.any fun x => x.1 / 24 = n.val && x.2 ≥ 10, 9, 0xC817),
    ((s.saf.chan b).vstrRun[n] ≥ 2, 10, 0xC81D),
    (s.flowLost b n, 12, 0xC818),
    (r.mode == .lost, 13, 0xC211),
    ((s.saf.chan b).profFlag 4 && (s.saf.psdiffSince[n].map fun t => decide (s.since t ≥ (s.saf.chan b).profNat 0x00B 1 * 1000000000)).getD false, 15, 0x4314),
    ((s.saf.chan (!b)).blindRun.any fun x => mine x.1 && x.2 ≥ 10 && Sparse.get (s.saf.chan b).blindRun x.1 0 = 0, 16, 0x4824),
    (e.mismatch, 17, 0x4514),
    (e.sendReq, 18, 0x8516),
    (e.deadReq && (s.saf.chan b).profFlag 1, 23, 0xC519),
    (e.contReq, 24, 0x8517),
    (bit s.saf.peerMask.toNat n && !s.latched n, 25, 0x4822)]
  (rows.filter (·.1)).map (·.2)

/-- The fault rows of 08 Table 8.3 whose condition itself stands on a string for a channel: the rows of latches and of trip requests are none of
them, for these end with CLEAR (05 R155, R157; 08 R204). -/
def State.standing (b : Bool) (n : Fin 8) (s : State) : Bool :=
  s.ring[n].floop == .opened || s.ring[n].nodeFault || (s.liveDemands b n).any fun d => d.1 ∈ [2, 4, 8, 9, 10]

/-- How long a shedding row's condition must be absent before its demand ends, in ns (08 Table 8.3, Reset). -/
def sfResetNs (sf : Nat) : Nat := if sf = 12 || sf = 15 || sf = 16 then 10000000000 else if sf = 17 then 1000000000 else 0

/-- The instants since when the shedding conditions of a string have been absent: for SF12, since when the flow has been valid and at or above
FLOW_MIN. -/
def State.absence (n : Fin 8) (live : Nat → Bool) (s : State) : State :=
  let upd (on : Bool) (o : Option Nat) : Option Nat := if on then none else some (o.getD s.clk.upNs)
  let low := live 12 || !(bit s.saf.a.flowFine.toNat n && bit s.saf.b.flowFine.toNat n)
  s.modSaf fun t => { t with flowOkSince := Vec.upd t.flowOkSince n (upd low), blindOkSince := Vec.upd t.blindOkSince n (upd (live 16)), sensOkSince := Vec.upd t.sensOkSince n (upd (live 17)) }

/-- Has the reset condition of a shedding row been met (08 Table 8.3). -/
def State.shedReset (n : Fin 8) (sf : Nat) (s : State) : Bool :=
  let held (o : Option Nat) : Bool := (o.map fun t => decide (s.since t ≥ sfResetNs sf)).getD false
  if sf = 12 then held s.saf.flowOkSince[n]
  else if sf = 13 then s.ring[n].mode == .closed || s.ring[n].mode == .split
  else if sf = 15 then s.saf.psdiffSince[n].isNone && (s.saf.psdiffClear[n].isNone || held s.saf.psdiffClear[n])
  else if sf = 16 then held s.saf.blindOkSince[n]
  else held s.saf.sensOkSince[n]

/-- Demands that end: a fault row's with its condition, unless the string is in FAULT, where CLEAR ends it; a shedding row's once its
reset condition is met (08 Table 8.3). -/
def State.endDemands (b : Bool) (n : Fin 8) (live : List Nat) (s : State) : State :=
  let keep (k : Nat) : Bool :=
    k / 32 ≠ n.val || (k % 32) ∈ live || (if sfShed (k % 32) then !s.shedReset n (k % 32) else s.str[n].state == .fault)
  s.modChan b fun c =>
    let fired := c.fired.filter keep
    let of (shed : Bool) : Bool := fired.any fun k => k / 32 = n.val && sfShed (k % 32) == shed
    { c with fired := fired, faultDem := setBit c.faultDem n (of false), shedDem := setBit c.shedDem n (of true), cond := setBit c.cond n (s.standing b n) }

/-- One string evaluated by a channel. -/
def State.evalString (b : Bool) (n : Fin 8) (s : State) : State :=
  let live := s.liveDemands b n
  let sfs := live.map (·.1)
  let s := s.absence n fun k => decide (k ∈ sfs)
  let s := s.when (12 ∈ sfs && (n.val * 32 + 12) ∉ s.saf.a.fired && (n.val * 32 + 12) ∉ s.saf.b.fired) (State.emit 0xC818 0x0D0 [n.val])
  let s := s.when (10 ∈ sfs && (n.val * 32 + 10) ∉ s.saf.a.fired && (n.val * 32 + 10) ∉ s.saf.b.fired) (State.emit 0xC81D (Src.chan b) [n.val, s.str[n].sum.vsMax])
  (State.forEach live (fun d s => s.demand b n d.1 d.2) s).endDemands b n sfs

/-! ### Pack removal (08 R222, R224) -/

/-- LOCKOUT of a string that a pack removal brought to FAULT, and its record (05 R157, 08 R222, R224). -/
def State.packRemoved (n : Fin 8) (s : State) : State :=
  ((s.modStr n fun e => { e with lockout := true, lockoutEnum := false }).modJrn fun j => { j with lockout := setBit j.lockout n true }).emit 0xC810 (Src.ring n) [n.val]

/-- The classification of a fault-loop opening in the first set that closes after the latch (08 R222). -/
def State.classify (n : Fin 8) (s : State) : State :=
  if !bit s.saf.fab.loopEval.toNat n then s
  else
    let flagged := s.ring[n].nodes.toList.any fun e => e.valid && (bits e.status.toNat 23 21 ≠ 0 || bit e.status.toNat 17)
    let s' := s.modSaf fun t => { t with fab := { t.fab with loopEval := setBit t.fab.loopEval n false } }
    s'.when (bit s.saf.fab.loopCurr.toNat n && !flagged && s.str[n].state == .fault) (State.packRemoved n)

/-- Has a pack left a string without its loop opening, by a channel's PACK_SUM_DV: a node first missing, under current, with a pack-sum mismatch (08
R224). -/
def State.packGone (b : Bool) (n : Fin 8) (s : State) : Bool :=
  let r := s.ring[n]
  let c := s.topo n
  let missing := c.nodes.any fun k => r.nodes[k].enumerated && !r.nodes[k].valid && r.nodes[k].missRun = 1
  let sum : Nat := (c.nodes.map fun k => ((r.nodes[k].pri.take c.cells).filter (· != 0xFFFF)).foldl (fun a v => a + v.toNat) 0).foldl (· + ·) 0
  missing && s.str[n].prevHigh && !(s.saf.chan b).prof.isEmpty && absQ (100 * (s.str[n].chorus.vstr : Rat) - (sum : Rat)) > ((s.saf.chan b).profNat 0x00E 2 : Rat) / 1000 * (sum : Rat)

/-- SF14 demanded by each channel, with LOCKOUT by the first (08 R224). -/
def State.removalCheck (b : Bool) (n : Fin 8) (s : State) : State :=
  let known := (n.val * 32 + 14) ∈ (s.saf.chan (!b)).fired
  if !s.packGone b n || !(s.str[n].state.active || known) then s
  else if known then s.demand b n 14 0xC810
  else (s.demand b n 14 0xC810).packRemoved n

/-! ### The safety cycle -/

/-- Bus over-voltage on any string is a bank-level demand, made once per excursion (08 SF11). -/
def State.busCheck (b : Bool) (s : State) : State :=
  let hot := (s.saf.chan b).vbusRun.toList.any fun r => r ≥ 2
  let seen := (256 + 11) ∈ s.saf.a.fired || (256 + 11) ∈ s.saf.b.fired
  if hot && !seen then
    ((s.modChan b fun c => { c with fired := (256 + 11) :: c.fired }).emit 0xC81D (Src.chan b) [0xFF]).bankDemand 11 0xC81D
  else if hot then s
  else s.modChan b fun c => { c with fired := c.fired.filter fun k => k ≠ 256 + 11 }

/-- SAFETY_EVALUATION (08 R207): a channel evaluates the set distributed at 665 us against its copy of the active profile. While no profile is active
the functions that need no threshold go on (08 R225; log 137). -/
def execSafetyEvaluation (channelB : Bool) (s : State) : Host.Outcome State Fault Refusal :=
  .next <|
    let s := s.atCycle 700000
    let s := (s.modChan channelB fun c => { c with run := !c.failed, setNo := s.cycle }).judgeSet channelB
    let blind := !(s.saf.chan channelB).blindRun.isEmpty && s.saf.blindCycle != some s.cycle
    let s := s.when blind fun s => (s.modSaf fun t => { t with blindCycle := some s.cycle }).bump 0x1C0120
    let s := State.forEach s.judged (fun n s => (State.evalString channelB n (s.classify n)).removalCheck channelB n) s
    s.busCheck channelB

/-- TRIP_REQUEST (08 R207): a channel services a string engine's requests and the management views within 100 us. -/
def execTripRequest (channelB : Bool) (n : Fin 8) (s : State) : Host.Outcome State Fault Refusal :=
  .next <|
    if (s.saf.chan channelB).failed then s
    else State.forEach ((s.liveDemands channelB n).filter fun d => d.1 ∈ [4, 17, 18, 23, 24]) (fun d s => s.demand channelB n d.1 d.2) s

/-- SAFETY_CROSS_COMPARE (08 R208): at 950 us each running channel sends its compare message. -/
def execSafetyCrossCompare (s : State) : Host.Outcome State Fault Refusal :=
  .next <|
    let s := (s.atCycle 950000).modSaf fun t => { t with enDiff := false }
    let one (b : Bool) (s : State) : State :=
      let s := s.modChan b fun c => { c with rxOk := false }
      let c := s.saf.chan b
      if !c.run then s
      else
        let s := s.modChan b fun c => { c with msgCtr := c.msgCtr + 1 }
        s.send .line (Src.chan b) "COMPARE" (ints [c.faultDem.toNat, c.shedDem.toNat, c.pwm.toNat, c.coil.toNat, c.setNo, c.profCrc.toNat, c.sw1.toNat, c.sw2.toNat, (c.msgCtr + 1).toNat])
    one true (one false s)

/-- COMPARE_MESSAGE (08 R208): a channel receives the other's message; different demand vectors are recorded and counted, and with different
enable vectors nothing new is enabled. -/
def execCompareMessage (channelB ok : Bool) (s : State) : Host.Outcome State Fault Refusal :=
  .next <|
    let o := s.saf.chan (!channelB)
    let c := s.saf.chan channelB
    let good := ok && o.run && o.msgCtr != c.rxCtr && o.setNo == c.setNo && o.profCrc == c.profCrc
    let s := s.modChan channelB fun c => { c with rxCtr := if ok then o.msgCtr else c.rxCtr, rxOk := good }
    let s := s.modSaf fun t => { t with cmpOk := t.a.rxOk && t.b.rxOk, enDiff := t.enDiff || (ok && (o.pwm != c.pwm || o.coil != c.coil)) }
    let diff := ok && (o.faultDem != c.faultDem || o.shedDem != c.shedDem || o.bankDem != c.bankDem)
    let first := !channelB || !s.saf.a.rxOk
    s.when (diff && first) fun s =>
      (s.emit 0x4823 (Src.chan channelB) (ints [s.saf.a.faultDem.toNat, s.saf.a.shedDem.toNat, s.saf.b.faultDem.toNat, s.saf.b.shedDem.toNat])).bump 0x1C010C

/-- SAFETY_COMPARE_FAIL (08 R209): the channel withdraws all of its halves, and SF19 acts (08 R212). -/
def State.compareFail (b : Bool) (s : State) : State :=
  if (s.saf.chan b).failed then s
  else
    let s := (s.bump 0x1C0110).emit 0xC816 (Src.chan b) []
    let s := s.chanBankDemand b 19 0xC816
    let s := s.withOutputs (fun s => s.modChan b fun c => { c.withdrawAll with failed := true, run := false, bankDem := true })
    (s.modSaf fun t => { t with cmpOk := false }).memberFault 0xC816

/-- COMPARE_DEADLINE (08 R209): three consecutive failing safety cycles of a channel that runs. -/
def execCompareDeadline (channelB : Bool) (s : State) : Host.Outcome State Fault Refusal :=
  .next <|
    let s := s.atCycle 970000
    let c := s.saf.chan channelB
    if !c.run then s
    else if c.rxOk then s.modChan channelB fun c => { c with failRun := 0 }
    else
      let s := (s.modChan channelB fun c => { c with failRun := c.failRun + 1 }).modSaf fun t => { t with cmpOk := false }
      s.when (c.failRun + 1 ≥ 3) (State.compareFail channelB)

/-- CHANNEL_HEARTBEAT_SILENT (08 R209): the other channel has stopped, and its own enable halves have fallen with it; then the declaration of R209. -/
def execChannelHeartbeatSilent (channelB : Bool) (s : State) : Host.Outcome State Fault Refusal :=
  .next ((s.withOutputs (fun s => s.modChan (!channelB) fun c => { c.withdrawAll with run := false })).compareFail channelB)

/-! ### The trip fabric's inputs (08 R202) -/

/-- OVER_CURRENT (08 SF05): either comparator of the string confirms. -/
def execOverCurrent (n : Fin 8) (chB : Bool) (s : State) : Host.Outcome State Fault Refusal :=
  .next <|
    let i := if chB then s.str[n].smp.istrB else s.str[n].smp.istrA
    let s := (s.emit 0xC81B 0x002 [n.val, b2n chB, i]).modSaf fun t => { t with fab := { t.fab with inOc := Vec.upd t.fab.inOc n fun x => { x with active := true } } }
    s.fabricTrip n 2 0xC81B fun f => { f with latchOc := setBit f.latchOc n true }

/-- A global input confirms: GLOBAL is set, all 48 outputs take the off pattern, TRIP is recorded and counted (08 R202). -/
def State.globalTrip (input : Nat) (s : State) : State :=
  ((s.withOutputs fun s => s.modSaf fun t => { t with fab := { t.fab with global := true } }).emit 0xC811 0x002 [input, 0xFF]).bump 0x1C0100

/-- ESTOP (08 SF06, R217, R218, R220, R221): either input opens; a new opening asks for both to be open together once more. -/
def execEstop (inputB : Bool) (s : State) : Host.Outcome State Fault Refusal :=
  .next <|
    let again := if inputB then s.saf.fab.estopB.active else s.saf.fab.estopA.active
    let s := s.modSaf fun t => { t with estopActive := true, fab := (let f := if inputB then { t.fab with estopB := { t.fab.estopB with active := true } } else { t.fab with estopA := { t.fab.estopA with active := true } }; { f with estopBothOpen := (f.estopA.active && f.estopB.active) || (f.estopBothOpen && again), resetArmed := false, coilTimer := true }) }
    let s := ((s.emit 0xC814 0x002 [b2n inputB]).bump 0x1C0114).globalTrip 3
    (s.pcsOpen).bankDemand 6 0xC814

/-- EXT_TRIP (08 SF07): with EXT_PCS the fabric opens PCS_TRIP itself; BANK FAULT opens it through the channels. -/
def execExtTrip (s : State) : Host.Outcome State Fault Refusal :=
  .next <|
    let s := s.modSaf fun t => { t with fab := { t.fab with extLow := { t.fab.extLow with active := true } } }
    let s := (s.emit 0xC815 0x002 []).globalTrip 4
    (s.when (s.saf.anyFlag 2) State.pcsOpen).bankDemand 7 0xC815

/-- The settings that a channel copies from its profile: FLOOP_FILT, OC_FILT, EXT_FILT, OC_CHG and OC_DIS (08 Table 8.6). -/
def SafChan.thresholds (c : SafChan) : List Nat :=
  [c.profNat 0x009 1, c.profNat 0x00A 1, c.profNat 0x00C 2] ++ (List.range 8).map (fun n => c.profNat (0x010 + 2 * n) 2) ++ (List.range 8).map fun n => c.profNat (0x020 + 2 * n) 2

/-- The fabric compares the two copies: with differing ones both enable halves count as withdrawn, and the tighter of each pair is in force (08
R205). -/
def State.fabricCopies (s : State) : State :=
  let bad := s.saf.a.thr != s.saf.b.thr
  let s' := s.withOutputs (fun s => s.modSaf fun t => { t with fab := { t.fab with cfgMismatch := bad, thrActive := List.zipWith min t.a.thr t.b.thr } })
  s'.when (bad && !s.saf.fab.cfgMismatch) fun s => (s.emit 0x8826 0x002 []).bump 0x1C011C

/-- New copies, written by each channel from its profile, become active at a T0 (08 R205). -/
def State.adoptThr (s : State) : State :=
  let l := s.saf.a.thresholds ++ s.saf.b.thresholds
  if s.saf.a.prof.isEmpty || l == s.saf.fab.thrWritten then s
  else (s.modSaf fun t => { t with a := { t.a with thr := t.a.thresholds }, b := { t.b with thr := t.b.thresholds }, fab := { t.fab with thrWritten := l, armed := true } }).fabricCopies

/-- FABRIC_CFG_MISMATCH (08 R205): a channel's copy of the settings differs from the other's; the tighter of the two is in force. -/
def execFabricCfgMismatch (channelB : Bool) (thr : List Nat) (s : State) : Host.Outcome State Fault Refusal :=
  .next (s.modChan channelB fun c => { c with thr := thr }).fabricCopies

/-- ESTOP_DISCREPANCY (08 R217). -/
def execEstopDiscrepancy (s : State) : Host.Outcome State Fault Refusal :=
  .next <|
    let f := s.saf.fab
    if f.estopA.active != f.estopB.active && !f.discrepancy
    then ((s.modSaf fun t => { t with fab := { t.fab with discrepancy := true } }).emit 0x4821 0x002 [b2n f.estopB.active]).bump 0x1C0118
    else s

/-- ESTOP_INPUT_CLOSED (08 R218): the 1 s starts. -/
def execEstopInputClosed (inputB : Bool) (s : State) : Host.Outcome State Fault Refusal :=
  .next <|
    let shut : TripIn := { active := false, inactiveUp := s.clk.upNs }
    s.modSaf fun t => { t with fab := if inputB then { t.fab with estopB := shut } else { t.fab with estopA := shut } }

/-- ESTOP_RESET_ARMED (08 R218): both have been open together, both are closed again, and have been for 1 s. -/
def execEstopResetArmed (s : State) : Host.Outcome State Fault Refusal :=
  .next <|
    let f := s.saf.fab
    if f.estopBothOpen && s.quiet f.estopA 1000000000 && s.quiet f.estopB 1000000000
    then s.modSaf fun t => { t with fab := { t.fab with resetArmed := true, discrepancy := false } }
    else s

/-- ESTOP_COIL_TIMER (08 R220): coil power goes; a string that opens with 2 A or more is recorded. -/
def execEstopCoilTimer (s : State) : Host.Outcome State Fault Refusal :=
  .next <|
    if !s.saf.fab.coilTimer then s
    else
      let s := s.withOutputs (fun s => s.modSaf fun t => { t with fab := { t.fab with coilTimer := false, coilPowerOff := true } })
      let one (n : Fin 8) (s : State) : State :=
        let i := max s.str[n].smp.istrA.natAbs s.str[n].smp.istrB.natAbs
        (s.when (i ≥ 2000) (State.emit 0xC51A (Src.str n) [(i : Int)])).openAll n
      State.forEach (strings.filter fun n => s.str[n].drives != 0) one s

/-- TRIP_INPUT_RELEASED (08 R204, 05 R148): the 1 ms before a strobe may clear the latch starts; a fibre with light again restores the
data view. -/
def execTripInputReleased (i : TripSel) (s : State) : Host.Outcome State Fault Refusal :=
  .next <|
    let shut : TripIn := { active := false, inactiveUp := s.clk.upNs }
    match i with
    | .oc n => s.modSaf fun t => { t with fab := { t.fab with inOc := Vec.upd t.fab.inOc n fun _ => shut } }
    | .ext => s.modSaf fun t => { t with fab := { t.fab with extLow := shut } }
    | .gd n p =>
      let s := s.modSaf fun t => { t with fab := { t.fab with inGd := Vec.upd t.fab.inGd n fun v => Vec.upd v p fun _ => shut } }
      (s.modGd n p fun g => { g with dataFault := false }).gdViews n p

/-! ### Strobes and PCS_TRIP (08 R204, R221) -/

/-- The strobes for every latch of the member, GLOBAL among them (08 R204, R221). -/
def State.strobeAll (s : State) : State := s.writeStrobes ((strings.map fun n => s.strobeMask n).foldl (· ||| ·) s.globalMask)

/-- PCS_TRIP closed: GLOBAL clear and both channels agreed (08 R221). -/
def State.pcsClose (s : State) : State :=
  if s.saf.fab.pcsOpen && !s.saf.fab.global && s.channelsAgree && s.leads
  then (s.modSaf fun t => { t with fab := { t.fab with pcsOpen := false } }).send .line 0 "PCS_TRIP" [0] else s

/-- Each bank cycle in STANDBY: strobes while a latch is set, then PCS_TRIP (08 R221). -/
def State.standbyStrobes (s : State) : State :=
  if s.bank.state != .standby then s
  else
    let f := s.saf.fab
    (s.when (f.global || f.latchLoop != 0 || f.latchGd != 0 || f.latchOc != 0) State.strobeAll).pcsClose

/-! ### Self-tests (08 R227, R228) -/

/-- INPUT_SELFTEST (08 R227): each failed input is recorded; a string's input refuses its START, a global one the bank's PRECHARGE. -/
def execInputSelftest (channelB : Bool) (failed : List FabricIn) (s : State) : Host.Outcome State Fault Refusal :=
  .next <|
    let s := s.modChan channelB fun c => { c with failIn := failed }
    State.forEach failed (fun i => State.emit 0x8827 (Src.chan channelB) i.body) s

/-- The output-stage test of the declared strings in turn, with its outcome: passed, or failed at a string (08 R228). -/
def State.outputTest (failed : Option (Fin 8)) (s : State) : State :=
  match failed with
  | none => (s.modSaf fun t => { t with testUp := some s.clk.upNs, testDue := false }).emit 0x0820 0x000 []
  | some n => s.emit 0x8827 0x000 [n.val]

/-- SAF_RESULT (08 Table 8.8). -/
def State.safResult (c detail : Nat) (s : State) : State := s.modSaf fun t => { t with resCode := BitVec.ofNat 16 c, resDetail := BitVec.ofNat 16 detail }

/-- SAF_CMD = OUTPUT_TEST (08 R228, R233). -/
def Safety.testCmd (failed : Option (Fin 8)) : Write := fun _ s =>
  let c := firstCode [(!s.leads, 0x0802), (s.bank.state != .standby, 0x0801)]
  if c ≠ 0 then (c, s.safResult c 0)
  else
    match failed with
    | none => (0, (s.outputTest none).safResult 0 0)
    | some n => (0x0803, (s.outputTest (some n)).safResult 0x0803 n)

/-- OUTPUT_TEST. -/
def execOutputTest (q : Req) (failed : Option (Fin 8)) (s : State) : Host.Outcome State Fault Refusal := .next (s.hostWrite q (Safety.testCmd failed))

/-- TEST_DUE (08 R228): recorded once. -/
def execTestDue (s : State) : Host.Outcome State Fault Refusal :=
  .next (if s.saf.testDue then s else (s.modSaf fun t => { t with testDue := true }).emit 0x4825 0x000 [])

/-! ### Enable halves and settings at T0 (08 R203, R205, R208) -/

/-- May a string's output halves be newly asserted: both channels run and agree, no demand, both views healthy (08 R203, R208, R210). -/
def State.mayEnable (n : Fin 8) (s : State) : Bool :=
  let t := s.saf
  s.enablesAgree && !t.fab.cfgMismatch && s.ring[n].floop == .closed && !s.ring[n].nodeFault && (s.str[n].gd.toList.all GdPhase.healthy) && !bit t.peerMask.toNat n &&
    !(bit t.a.faultDem.toNat n || bit t.b.faultDem.toNat n || bit t.a.shedDem.toNat n || bit t.b.shedDem.toNat n)

/-- The halves of one string at a T0: coil halves for a string with coils to drive, output halves for RUN and HOLD (08 R203). -/
def State.grant (n : Fin 8) (s : State) : State :=
  let e := s.str[n]
  if !s.leads || s.saf.a.failed || s.saf.b.failed then s
  else
    let s := s.when (e.state.active && e.opening == .none && e.drives != 0 && s.enablesAgree) (State.coilHalves n true)
    s.when (e.state.running && !e.lowEnable && s.mayEnable n) (State.pwmHalves n true)

end Sys2Proof.Machine
end

