-- ==== Sys2Proof/Machine/Bank.lean ====
section
/-! DEFINITION. The bank's states and commands, dispatch commands, and the split (spec 06 R166 to R175). -/

namespace Sys2Proof.Machine

/-! ### Bank states (06 R166, Table 6.1) -/

/-- EST_BANK_RESULT (06 Table 6.6). -/
def State.bankResult (c detail : Nat) (s : State) : State := s.modBank fun b => { b with resCode := BitVec.ofNat 16 c, resDetail := BitVec.ofNat 16 detail }

/-- A write of EST_BANK_CMD: `check` gives a code and the index of the failed condition of Table 6.1. -/
def Bank.cmd (check : Session → State → Nat × Nat) (effect : State → State) : Write := fun x s =>
  let c := check x s
  if c.1 = 0 then (0, effect (s.bankResult 0 0)) else (c.1, s.bankResult c.1 c.2)

/-- A row of Table 6.1: its From states, then its conditions counted from 1 in the order of the table (06 R166). -/
def State.bankRow (states : List BankState) (conds : List Bool) (s : State) : Nat × Nat :=
  if s.bank.state ∉ states then (0x0610, 0)
  else
    match (conds.zipIdx 1).find? fun c => !c.1 with
    | some c => (0x0611, c.2)
    | none => (0, 0)

/-- Every string OFF, DISABLED, SHED or SERVICE with contactors open (06 Table 6.1). -/
def State.stringsQuiet (s : State) : Bool :=
  s.str.toList.all fun e => (e.state == .off || e.state == .disabled || e.state == .shed || e.state == .service) && e.auxOpen

/-- The conditions of STANDBY. -/
def State.standbyConds (s : State) : List Bool := [s.img.cur.valid, s.clk.tscValid, s.saf.profileOk, s.leads, s.stringsQuiet]

/-- The bank enters STANDBY; the channels strobe the latches (08 R221). -/
def State.toStandby (cause : Nat) (s : State) : State := ((s.bankTo .standby cause).when (s.bank.state == .off) State.strobeAll).pcsClose

/-- STANDBY. -/
def Bank.standbyCmd : Write := Bank.cmd (fun _ s => s.bankRow [.off, .stop] s.standbyConds) (State.toStandby 1)

/-- BANK_STANDBY. -/
def execBankStandby (q : Req) (s : State) : Host.Outcome State Fault Refusal := .next (s.hostWrite q Bank.standbyCmd)

/-- Do both safety channels permit PRECHARGE (06 Table 6.1; 08 R208, R216, R221, R227). -/
def State.bankPermits (s : State) : Bool :=
  let f := s.saf.fab
  s.channelsAgree && s.saf.profileOk && !f.global && !f.pcsOpen && s.saf.a.failIn.all (fun i => i.string.isSome) && s.saf.b.failIn.all (fun i => i.string.isSome) && s.judged.all fun n => s.psDiffAbsent n

/-- PRECHARGE: the conditions, then the output-stage test, with its outcome (06 Table 6.1, 08 R228). -/
def Bank.prechargeCmd (failed : Option (Fin 8)) : Write := fun x s =>
  let r := Bank.cmd (fun _ s => s.bankRow [.standby] [s.bankPermits, !s.img.profPending]) (fun s => s) x s
  if r.1 ≠ 0 then r
  else
    match failed with
    | none => (0, (r.2.outputTest none).bankTo .precharge 2)
    | some n => (0x0611, (r.2.outputTest (some n)).bankResult 0x0611 1)

/-- BANK_PRECHARGE. -/
def execBankPrecharge (q : Req) (failed : Option (Fin 8)) (s : State) : Host.Outcome State Fault Refusal := .next (s.hostWrite q (Bank.prechargeCmd failed))

/-- RUN: strings in HOLD are resumed. -/
def Bank.runCmd : Write :=
  Bank.cmd (fun _ s => s.bankRow [.precharge, .hold] [s.str.toList.any fun e => e.state.running]) fun s =>
    State.forEach (strings.filter fun n => s.str[n].state == .hold) (fun n => State.toRun n 5) (s.bankTo .run 3)

/-- BANK_RUN. -/
def execBankRun (q : Req) (s : State) : Host.Outcome State Fault Refusal := .next (s.hostWrite q Bank.runCmd)

/-- HOLD: every string in RUN enters HOLD. -/
def Bank.holdCmd : Write :=
  Bank.cmd (fun _ s => s.bankRow [.run] []) fun s =>
    State.forEach (strings.filter fun n => s.str[n].state == .run) (fun n => State.toHold n 4) (s.bankTo .hold 4)

/-- BANK_HOLD. -/
def execBankHold (q : Req) (s : State) : Host.Outcome State Fault Refusal := .next (s.hostWrite q Bank.holdCmd)

/-- STOP: every string in PRECHARGE, RUN or HOLD is stopped; the learned values are written (07 R193), and a pending profile adopted
(02 R59). -/
def Bank.stopCmd : Write :=
  Bank.cmd (fun _ s => s.bankRow [.precharge, .run, .hold] []) fun s =>
    ((State.forEach (strings.filter fun n => s.str[n].state.active) (fun n => State.stopString n .off 6) (s.bankTo .stop 5)).learnTrigger 3).adoptProfile

/-- BANK_STOP. -/
def execBankStop (q : Req) (s : State) : Host.Outcome State Fault Refusal := .next (s.hostWrite q Bank.stopCmd)

/-- Has the reset condition of one cause of the bank's FAULT been met (08 Table 8.3, Reset; R218). -/
def State.causeGone (c : Nat) (s : State) : Bool :=
  let f := s.saf.fab
  if c = 0xC814 then f.resetArmed && s.quiet f.estopA 1000000000 && s.quiet f.estopB 1000000000
  else if c = 0xC815 then s.quiet f.extLow 1000000
  else if c = 0xC81D then s.saf.a.vbusRun.toList.all (· == 0) && s.saf.b.vbusRun.toList.all (· == 0)
  else true

/-- Are the causes of the bank's FAULT inactive, every one since it entered FAULT (06 Table 6.1; 08 Table 8.3, Reset). -/
def State.bankCauseGone (s : State) : Bool :=
  !(s.saf.sf21 || s.saf.a.failed || s.saf.b.failed) && (!s.saf.sf20 || (s.saf.supplyOkSince.map fun t => decide (s.since t ≥ 1000000000)).getD false) &&
    s.bank.faultCauses.all fun c => s.causeGone c

/-- CLEAR: the strobes, the channels' bank-level demands ended, PCS_TRIP closed, the bank to STOP. -/
def Bank.clearCmd : Write :=
  Bank.cmd (fun _ s => s.bankRow [.fault] [s.bankCauseGone, s.str.toList.all StrEng.auxOpen, s.channelsAgree]) fun s =>
    let s := (s.strobeAll).modSaf fun t => { t with sf20 := false, a := { t.a with bankDem := false }, b := { t.b with bankDem := false } }
    ((((s.modBank fun b => { b with faultCauses := [] }).bankTo .stop 6).pcsClose)).adoptProfile

/-- BANK_CLEAR. -/
def execBankClear (q : Req) (s : State) : Host.Outcome State Fault Refusal := .next (s.hostWrite q Bank.clearCmd)

/-- May the bank leave OFF: an image is active, TSC_VALID is set, a profile is selected (02 R42, R59; 01 R20). -/
def State.mayLeaveOff (s : State) : Bool := s.img.cur.valid && s.clk.tscValid && s.img.profActive.isSome

/-- SERVICE: the session holds the service role. A bank that must stay OFF stays there, with condition 0 (02 R42, R59; 01 R20; log 64). -/
def Bank.serviceCmd : Write :=
  Bank.cmd (fun x s =>
    let c := s.bankRow [.off, .stop] [s.roleOf x == .service]
    if c.1 = 0 && s.bank.state == .off && !s.mayLeaveOff then (0x0611, 0) else c) (State.bankTo .service 7)

/-- BANK_SERVICE. -/
def execBankService (q : Req) (s : State) : Host.Outcome State Fault Refusal := .next (s.hostWrite q Bank.serviceCmd)

/-- OFF; a pending profile is adopted (02 R59). -/
def Bank.offCmd : Write := Bank.cmd (fun _ s => s.bankRow [.standby, .stop, .service] []) fun s => (s.bankTo .off 8).adoptProfile

/-- BANK_OFF. -/
def execBankOff (q : Req) (s : State) : Host.Outcome State Fault Refusal := .next (s.hostWrite q Bank.offCmd)

/-! ### Dispatch commands (06 R167 to R169) -/

/-- MODE of a command: BUS_VOLTAGE. -/
def DispBody.busMode (b : DispBody) : Bool := bit b.flags.toNat 0

/-- VALUE in its MODE: W signed, or 0.1 V (06 Table 6.2). -/
def DispBody.val (b : DispBody) : Int := if b.busMode then b.value.toNat else b.value.toInt

/-- The journal's entry of a host identity. -/
def Journal.identOf (j : Journal) (ident : Nat) : Option HostIdent := j.idents.find? fun h => h.ident == ident

/-- May an identity be served: it has an entry, or a place is free, counting the identities whose first work awaits its acknowledgement (12
R320). -/
def State.identRoom (ident : Nat) (s : State) : Bool :=
  let l := (s.jrn.idents.map (·.ident) ++ s.bank.wait.map (·.ident) ++ (s.host.jwait.filter fun w => w.session ≠ 8).map (·.ident)).eraseDups
  l.contains ident || l.length < 8

/-- The lowest index that holds no identity (12 Table 12.7). -/
def Journal.freeIdent (j : Journal) : Nat := ((List.range 8).find? fun i => !(j.idents.any fun h => h.slot == i)).getD 0

/-- The entry of an identity changed, or made (12 R320). -/
def Journal.modIdent (ident : Nat) (f : HostIdent → HostIdent) (j : Journal) : Journal :=
  if (j.identOf ident).isSome then { j with idents := j.idents.map fun h => if h.ident == ident then f h else h }
  else { j with idents := j.idents ++ [f { ident := ident, slot := j.freeIdent }] }

/-- The limits of VALUE in CONTROL (06 Table 6.3 check 5). -/
def DispCfg.inRange (c : DispCfg) (b : DispBody) : Bool := if b.busMode then c.vLo ≤ b.value.toNat && b.value.toNat ≤ c.vHi else c.pLo ≤ b.val && b.val ≤ c.pHi

/-- Is a command a repeat of the last accepted one of its identity (06 R168). -/
def State.dispRepeat (ident : Nat) (b : DispBody) (s : State) : Option Nat := ((s.jrn.identOf ident).filter fun h => h.tag == b.tag && h.seq ≠ 0).map (·.seq)

/-- Is HOST_TAG not above the last accepted one of its identity (06 Table 6.3 check 3). -/
def State.dispOld (ident : Nat) (b : DispBody) (s : State) : Bool := ((s.jrn.identOf ident).map fun h => decide (h.seq ≠ 0 ∧ b.tag ≤ h.tag)).getD false

/-- The checks of Table 6.3 before those that look at the tag. -/
def State.dispEarly (x : Session) (s : State) : Nat :=
  firstCode [(x.port == .console, 0x0C02), (!s.leads || s.twin.releasing, 0x0601), (!s.bank.state.flowing, 0x0602), (!s.identRoom x.ident, 0x0C07)]

/-- The rest of Table 6.3, in its order. DESIGN CHOICE (log 126): check 8 counts the commands that await their acknowledgement among those that
await a terminal status. -/
def State.dispLate (x : Session) (b : DispBody) (s : State) : Nat :=
  firstCode [(s.dispOld x.ident b, 0x0603), (b.zero ≠ 0 || b.flags.toNat > 1, 0x0604), (!s.img.cfg.disp.inRange b, 0x0605),
    (b.validUntil ≠ 0 && b.validUntil.toNat ≤ s.now + 2000000, 0x0606), (s.bank.acceptedThisCycle > 64, 0x0607),
    (s.waitingDisp.length + s.bank.wait.length ≥ 256, 0x0608)]

/-- A refused dispatch command (06 R168). -/
def State.dispRefuse (q : Req) (c : Nat) (s : State) : State := (s.refuseReq q c).bump 0x190100

/-- DISPATCH (06 R168): the checks; then the work is copied to the twin, or written to the journal, before the acknowledgement. The copy
carries the number that the command receives: it is set aside at once, and a command whose confirmation does not come takes it with it
(log 87). -/
def execDispatch (q : Req) (body : DispBody) (s : State) : Host.Outcome State Fault Refusal :=
  .next <| s.withReq q 0x06 HostRole.mayWrite fun x s =>
    let c := s.dispEarly x
    if c ≠ 0 then s.dispRefuse q c
    else
      match s.dispRepeat x.ident body with
      | some seq => (s.reply q 0 (leBytes 8 seq)).bump 0x190110
      | none =>
        let c := s.dispLate x body
        if c ≠ 0 then s.dispRefuse q c
        else
          let seq := s.jrn.nextSeq
          let s := (s.modJrn fun j => { j with nextSeq := seq + 1 }).modBank fun b => { b with wait := b.wait ++ [{ session := q.session, msgId := q.msg, ident := x.ident, body := body, seq := seq, alone := !s.paired }] }
          s.when s.copies (State.twinRecord (.work (.dispatch { seq := seq, ident := x.ident, body := body, accCycle := s.cycle })) "DISPATCH")

/-- A command that no longer awaits its acknowledgement. -/
def State.dispDrop (w : DispWait) (s : State) : State := s.modBank fun b => { b with wait := b.wait.filter fun v => v.seq != w.seq }

/-- A command accepted: journaled with the tag of its identity, and the acknowledgement with its number is sent (06 R168). One whose tag has
been accepted meanwhile is answered as the repeat or the old one that it is by then. -/
def State.dispAck (w : DispWait) (s : State) : State :=
  let q : Req := { session := w.session, msg := w.msgId }
  let s := s.dispDrop w
  match s.dispRepeat w.ident w.body with
  | some seq => (s.reply q 0 (leBytes 8 seq)).bump 0x190110
  | none =>
    if s.dispOld w.ident w.body then s.dispRefuse q 0x0603
    else
      let s := s.modJrn fun j => { (j.modIdent w.ident fun h => { h with tag := w.body.tag, seq := w.seq }) with accSeq := w.seq, disp := j.disp ++ [{ seq := w.seq, ident := w.ident, body := w.body, accCycle := s.cycle, tsc := s.stampOf 0x080 }] }
      ((s.stamped 0x080).modBank fun b => { b with acceptedThisCycle := b.acceptedThisCycle + 1 }).reply q 0 (leBytes 8 w.seq)

/-- The command that waits under a number. -/
def State.dispWaiting (seq : Nat) (s : State) : Option DispWait := s.bank.wait.find? fun w => w.seq == seq

/-- The acknowledgements that are released: in order of sequence number, each once the command is held (06 R168, R169; log 87). -/
def State.dispRelease : Nat → State → State
  | 0, s => s
  | k + 1, s =>
    match s.bank.wait with
    | [] => s
    | w :: _ => if w.confirmed then State.dispRelease k (s.dispAck w) else s

/-- A command is held: its acknowledgement and those behind it follow in order. -/
def State.dispHeld (seq : Nat) (s : State) : State :=
  State.dispRelease s.bank.wait.length (s.modBank fun b => { b with wait := b.wait.map fun w => if w.seq == seq then { w with confirmed := true } else w })

/-- DISPATCH_CONFIRM (00 R5, 06 R168): the twin holds the command. -/
def execDispatchConfirm (f : TwinFrame) (seq : Nat) (s : State) : Host.Outcome State Fault Refusal :=
  .next <| s.withFrame f fun s => match s.dispWaiting seq with
    | none => s
    | some w => if w.alone then s else s.dispHeld seq

/-- A command whose confirmation did not come is refused (06 Table 6.3 check 9; 09 R249). -/
def State.dispTimeout (w : DispWait) (s : State) : State :=
  ((s.dispDrop w).dispRefuse { session := w.session, msg := w.msgId } 0x0609).bump 0x200114

/-- DISPATCH_PEER_TIMEOUT (06 R168). -/
def execDispatchPeerTimeout (seq : Nat) (s : State) : Host.Outcome State Fault Refusal :=
  .next <| match s.dispWaiting seq with
    | none => s
    | some w => if w.alone || w.confirmed then s else State.dispRelease s.bank.wait.length (s.dispTimeout w)

/-- EST_DISP_QSTAT for a sequence number (06 Table 6.6). -/
def State.qstat (seq : Nat) (s : State) : Word :=
  match s.jrn.disp.find? fun d => d.seq == seq with
  | none => pack [(1, 29)]
  | some d => pack [((match d.status with | .waiting => 0 | .executed => 1 | .expired => 2 | .lapsed => 3), 30), (d.cycle % 65536, 0)]

/-- A write of EST_DISP_QSEL_HI runs the query (06 Table 6.6). -/
def Bank.query (value : Word) : Write := fun _ s =>
  let sel : BitVec 64 := BitVec.ofNat 64 (value.toNat * 2 ^ 32 + s.bank.qsel.toNat % 2 ^ 32)
  (0, s.modBank fun b => { b with qsel := sel, qstat := s.qstat sel.toNat })

/-- DISPATCH_QUERY. -/
def execDispatchQuery (q : Req) (value : Word) (s : State) : Host.Outcome State Fault Refusal := .next (s.hostWrite q (Bank.query value))

/-! ### Terminal statuses (06 R169) -/

/-- One command accepted before the T0 of this cycle: EXPIRED, or EXECUTED and in force. -/
def State.conclude (d : DispEntry) (s : State) : State :=
  if d.body.validUntil ≠ 0 ∧ d.body.validUntil.toNat < s.clk.cycleT0 then s.terminate d .expired
  else (s.terminate d .executed).modBank fun b => { b with inForce := some d, mode := d.body.busMode, limitedRec := false }

/-- The commands accepted before this cycle's T0, each concluded in sequence order; outside RUN and HOLD every waiting one has
lapsed. -/
def State.concludeAll (s : State) : State :=
  if s.bank.state.flowing then State.forEach (s.waitingDisp.filter fun d => d.accCycle < s.cycle) State.conclude s
  else s.lapseWaiting

/-! ### The split (06 R171 to R175) -/

/-- One string's inputs of the split (06 R172). -/
structure SplitIn where
  n : Fin 8
  /-- available power A_s in W -/
  a : Rat
  /-- weight w_s -/
  w : Rat
  /-- the weight where those of the unclamped strings sum to 0 (log 3) -/
  o : Rat
  deriving DecidableEq, Repr

/-- VSTR as the mean over the bank cycle in V (06 R172). -/
def StrEng.vMean (e : StrEng) : Rat := if e.sum.n = 0 then 0 else (e.sum.vsSum : Rat) / e.sum.n / 100

/-- The limit current in A in one direction, without the dispatched share, less the amplitude of a running sweep (06 R172). -/
def State.limitFor (n : Fin 8) (charge : Bool) (s : State) : Rat :=
  let c := s.topo n
  let e := s.str[n]
  let est := s.est.strs[n]
  let reg : Nat := if charge then min c.iChgMax e.ilimChg.toNat else min c.iDisMax e.ilimDis.toNat
  let i : Rat := min ((reg : Rat) / 10) (if charge then est.iChg else est.iDis)
  let w := s.sweep[n].running.map fun r => (r.ampl * c.ratedMa : Rat) / 1000000
  max 0 (i - w.getD 0)

/-- f_T (06 R172). -/
def DispCfg.fT (c : DispCfg) (t : Rat) : Rat := if t ≤ c.tKnee then 1 else if t ≥ c.tMax then 1 / 5 else lerp t c.tKnee 1 c.tMax (1 / 5)

/-- Inputs of the split for strings `l` in one direction; the mean state of charge is theirs (06 R172; 07 R188). -/
def State.splitIns (l : List (Fin 8)) (charge : Bool) (s : State) : List SplitIn :=
  let d := s.img.cfg.disp
  let mean : Rat := if l.isEmpty then 0 else (l.map fun n => s.est.strs[n].socS).foldl (· + ·) 0 / l.length / 100
  l.map fun n =>
    let e := s.est.strs[n]
    let soc := e.socS / 100
    let a := s.limitFor n charge * max 0 s.str[n].vMean
    let fSoc := clampQ (1 / 2) (3 / 2) (1 + d.kSoc * (if charge then mean - soc else soc - mean))
    let fPl : Rat := if !e.converged then s.img.cfg.model.fallbackFpl else if charge then (if d.plKnee = 0 then 1 else clampQ 0 1 (e.mS / d.plKnee)) else 1
    { n := n, a := a, w := a * fSoc * d.fT e.tS * fPl, o := a * (1 + absQ (Config.freeRat (s.free + n.val))) }

/-- The weights of a round: w_s, or, where those sum to 0, the open ones, for the spec states no division of the rest there (log 3). -/
def roundWeights (l : List SplitIn) : List SplitIn := if (l.map (·.w)).foldl (· + ·) 0 = 0 then l.map fun i => { i with w := i.o } else l

/-- One round of the shares of a magnitude among unclamped strings: those above A_s are clamped, the excess goes to the others by the
same weights, at most eight times (06 R172). -/
def splitRounds : Nat → Rat → List SplitIn → List (Fin 8 × Rat)
  | 0, p, l =>
    let l := roundWeights l
    let sw := (l.map (·.w)).foldl (· + ·) 0
    l.map fun i => (i.n, if sw = 0 then 0 else min i.a (p * i.w / sw))
  | k + 1, p, l =>
    let l := roundWeights l
    let sw := (l.map (·.w)).foldl (· + ·) 0
    if sw = 0 then l.map fun i => (i.n, 0)
    else
      let hot := l.filter fun i => p * i.w / sw > i.a
      if hot.isEmpty then l.map fun i => (i.n, p * i.w / sw)
      else hot.map (fun i => (i.n, i.a)) ++ splitRounds k (p - (hot.map (·.a)).foldl (· + ·) 0) (l.filter fun i => i ∉ hot)

/-- Whole watts that sum to `total`: rounded down, then the remaining watts to the largest discarded fractions, the lower string first
(06 R173). -/
def wholeWatts (total : Nat) (l : List (Fin 8 × Rat)) : List (Fin 8 × Nat) :=
  let fl := l.map fun e => (e.1, e.2.floor.toNat)
  let rest := total - (fl.map (·.2)).foldl (· + ·) 0
  let frac (e : Fin 8 × Rat) : Rat := e.2 - e.2.floor
  let order := (sortBy (fun x y => frac y < frac x || (frac x == frac y && x.1.val ≤ y.1.val)) l).map (·.1)
  let up := order.take rest
  fl.map fun e => (e.1, if e.1 ∈ up then e.2 + 1 else e.2)

/-- The shares of a signed power in whole watts, and the shortfall where it exceeds ΣA_s: then every string receives A_s (06 R172,
R173). DESIGN CHOICE (log 136): for a negative target the rounding down and the remaining watts are those of the magnitudes. -/
def splitShares (p : Int) (l : List SplitIn) : List (Fin 8 × Int) × Option Nat :=
  let sg : Int := if p < 0 then -1 else 1
  let sum := (l.map (·.a)).foldl (· + ·) 0
  if (p.natAbs : Rat) > sum then (l.map fun i => (i.n, sg * i.a.floor), some ((p.natAbs : Rat) - sum).floor.toNat)
  else ((wholeWatts p.natAbs (splitRounds 8 p.natAbs l)).map fun e => (e.1, sg * (e.2 : Int)), none)

/-- The open weights consumed where some string that could carry power has none of its own (log 3). -/
def State.openWeights (l : List SplitIn) (s : State) : State := if l.any fun i => i.w = 0 && i.a > 0 then s.setFree (s.free + 8) else s

/-- The bank target moved towards VALUE by at most RAMP per ms, 0 selecting the default (06 R171). DESIGN CHOICE (log 127): a command in the other
MODE starts from the number that the target has, and the first from 0. -/
def State.rampTarget (d : DispEntry) (s : State) : State :=
  let c := s.img.cfg.disp
  let r : Int := if d.body.ramp = 0 then (if d.body.busMode then c.rampV else c.rampW : Nat) else d.body.ramp.toNat
  let want := d.body.val
  s.modBank fun b =>
    let t := clampI (b.target - r) (b.target + r) want
    { b with target := t, ramping := t ≠ want }

/-- One string's share stored: P_s, the setpoint I_s = P_s / VSTR_s in 1 mA, and VSTR (06 R173). -/
def StrShare.store (p : Int) (v : Rat) (h : StrShare) : StrShare :=
  { h with p := p, i := if v ≤ 0 then 0 else roundQ (1000 * p / v), vMean := (100 * v).floor.toNat }

/-- Every share of the split stored; a string without one receives 0 A (06 R171, R173). -/
def State.storeShares (l : List (Fin 8 × Int)) (s : State) : State :=
  s.modBank fun b => { b with shares := Vec.updAll b.shares fun n h => h.store (((l.find? fun e => e.1 == n).map (·.2)).getD 0) s.str[n].vMean }

/-- DISPATCH_LIMITED and the shortfall (06 R173). -/
def State.noteLimited (short : Option Nat) (seq : Nat) (s : State) : State :=
  let first := !s.bank.limitedRec
  let s := s.modBank fun b => { b with limited := short.isSome, short := short.getD 0, limitedRec := b.limitedRec || short.isSome }
  match short with
  | none => s
  | some w => (s.bump 0x190104).when first (State.emit 0x4622 0x030 (ints [seq, w]))

/-- Does a sweep point run on a string (06 R174). -/
def State.pointRuns (n : Fin 8) (s : State) : Bool := s.sweep[n].running.isSome && !s.sweep[n].startNext && s.sweep[n].phase != .waitStart && s.bank.shares[n].heldP.isSome

/-- The shares of the eligible strings `l` for the power `p` (06 R172 to R174): strings with a running point keep theirs, unless the
others cannot absorb the rest. -/
def State.shareOut (p : Int) (l : List (Fin 8)) (s : State) : List (Fin 8 × Int) × Option Nat × State :=
  let charge := decide (0 ≤ p)
  let held := (l.filter fun n => s.pointRuns n).map fun n => (n, s.bank.shares[n].heldP.getD 0)
  let others := l.filter fun n => !s.pointRuns n
  let rest := p - (held.map (·.2)).foldl (· + ·) 0
  let ins := s.splitIns l charge
  let free := ins.filter fun i => i.n ∈ others
  let can := (rest.natAbs : Rat) ≤ (free.map (·.a)).foldl (· + ·) 0 && (rest = 0 || (decide (0 ≤ rest) == charge))
  if held.isEmpty || !can then
    let r := splitShares p ins
    let moved := held.filter fun h => (r.1.find? fun e => e.1 == h.1).map (·.2) != some h.2
    let s := State.forEach moved (fun h s => (s.modBank fun b => { b with shares := Vec.upd b.shares h.1 fun x => { x with heldP := (r.1.find? fun e => e.1 == h.1).map (·.2) } }).emit 0x4623 0x030 (ints [h.1, s.sweep[h.1].point])) (s.openWeights ins)
    (r.1, r.2, s)
  else
    let r := splitShares rest free
    (held ++ r.1, r.2, s.openWeights free)

/-- Strings that may carry power: RUN, MASK set (06 R171). -/
def State.masked (d : DispEntry) (s : State) : List (Fin 8) := strings.filter fun n => s.str[n].state == .run && bit d.body.mask.toNat n

/-- The measured power of a string in W: its mean voltage and current over the bank cycle (06 R175). -/
def StrEng.power (e : StrEng) : Int := if e.sum.n = 0 then 0 else roundQ (e.vMean * ((e.sum.iSum : Rat) / e.sum.n / 1000))

/-- The lead of BUS_VOLTAGE mode: the lowest-numbered eligible string; a change is recorded (06 R175). -/
def State.chooseLead (elig : List (Fin 8)) (s : State) : State :=
  let old := s.bank.lead
  let new : BitVec 4 := if s.bank.mode then ((elig.head?).map fun n => BitVec.ofNat 4 n.val).getD 0xF else 0xF
  let s := s.modBank fun b => { b with lead := new }
  s.when (s.bank.mode && old != new) (State.emit 0x0621 0x030 (ints [old.toNat, new.toNat]))

/-- A RAMPING string keeps its present ramp value as its P_s; its setpoint, to which it ramps, is that of the share it would have without
RAMPING, or of its ramp value where MASK shuts it out (06 R171; 05 R143; log 89). -/
def State.storeRamps (ramps aim : List (Fin 8 × Int)) (s : State) : State :=
  State.forEach ramps (fun e s => s.modBank fun b => { b with shares := Vec.upd b.shares e.1 fun h => { h.store (((aim.find? fun x => x.1 == e.1).map (·.2)).getD e.2) s.str[e.1].vMean with p := e.2 } }) s

/-- RAMPING and the ramp value of a string as the bank cycle has them: as its first boundary at or after 800 us left them (01 R17). -/
def StrEng.rampNow (e : StrEng) : Bool × Rat := e.handed.getD (e.loop.ramping, e.loop.iRef)

/-- The split for the command in force (06 R171 to R175). In POWER mode the present ramp values of the RAMPING strings are subtracted from the
target; in BUS_VOLTAGE mode P is the lead's measured power. -/
def State.splitFor (d : DispEntry) (s : State) : State :=
  let s := s.rampTarget d
  let all := s.masked d
  let elig := all.filter fun n => !s.str[n].rampNow.1
  let slow := strings.filter fun n => s.str[n].state == .run && s.str[n].rampNow.1
  let s := s.modBank fun b => { b with eligible := BitVec.ofNat 8 (maskOf (strings.map fun n => decide (n ∈ elig))) }
  let s := s.chooseLead elig
  let p : Int := if s.bank.mode then ((elig.head?).map fun n => s.str[n].power).getD 0 else s.bank.target
  let aim := (splitShares p (s.splitIns all (decide (0 ≤ p)))).1.filter fun e => e.1 ∈ slow
  let ramps := slow.map fun n => (n, roundQ (s.str[n].rampNow.2 * s.str[n].vMean))
  let r := s.shareOut (if s.bank.mode then p else p - (ramps.map (·.2)).foldl (· + ·) 0) elig
  ((r.2.2.storeShares r.1).storeRamps ramps aim).noteLimited r.2.1 d.seq

/-- The estimation step that is due in this cycle has not completed at 800 us: counted and recorded (01 R29). -/
def State.overrunCheck (s : State) : State :=
  let late := s.est.stepRun && s.est.stepDue
  let s := s.modBank fun b => { b with staleEst := late }
  s.when late fun s => (s.bump 0x180200).emit 0x8719 0x030 []

/-- The split of this cycle, with the target moved first (06 R171). -/
def State.splitNow (s : State) : State :=
  let s := s.modBank fun b => { b with splitDue := false }
  match s.bank.inForce with
  | some d => if s.bank.state.flowing then s.splitFor d else s.storeShares []
  | none => (s.storeShares []).modBank fun b => { b with eligible := 0, limited := false, short := 0 }

/-- The split runs once every string in RUN has handed over its ramp value (01 R17). -/
def State.splitReady (s : State) : State :=
  s.when (s.bank.splitDue && !(s.str.toList.any fun e => e.handDue && e.state == .run)) State.splitNow

/-- The ramp value that a control cycle hands to the bank cycle at its boundary (01 R17). -/
def State.handOver (n : Fin 8) (s : State) : State :=
  s.when s.str[n].handDue fun s => (s.modStr n fun e => { e with handDue := false, handed := some (e.loop.ramping, e.loop.iRef) }).splitReady

/-- CONTROL_CYCLE_BOUNDARY (05 R131). In DISABLED no duty is computed; the lease's renewal and the control record go on (09 R240, R246). -/
def execControlCycleBoundary (n : Fin 8) (b : BoundaryIn) (s : State) : Host.Outcome State Fault Refusal :=
  .next <|
    if s.str[n].state == .disabled
    then (((s.modStr n fun e => { e with bndUp := s.clk.upNs }).renewString n).missControl n).copyControl n
    else (s.boundary n b).handOver n

/-- DISPATCH_SPLIT (06 R171): terminal statuses, then the split, for which every string in RUN hands over its ramp value at its first boundary
from now on (01 R17). A member that does not lead makes none. -/
def execDispatchSplit (s : State) : Host.Outcome State Fault Refusal :=
  .next <|
    let s := s.atCycle 800000
    if !s.leads then s
    else
      let s := (s.overrunCheck.concludeAll).mapAllStr fun _ e => { e with handDue := e.state == .run, handed := none }
      (s.modBank fun b => { b with splitDue := true }).splitReady

end Sys2Proof.Machine
end

