-- ==== Sys2Proof/Machine/Est.lean ====
section
/-! DEFINITION. Cell state estimation, learned values, balancing, and what is published at 900 us (spec 07). -/

namespace Sys2Proof.Machine

/-! ### Cells and sums -/

/-- The index of a cell (07 R201). -/
def cellNo (n : Fin 8) (k : Fin 24) (c : Nat) : Nat := n.val * 384 + k.val * 16 + c

/-- The cells of a string that TOPOLOGY declares: node, cell from 0. -/
def StrCfg.cellList (c : StrCfg) : List (Fin 24 × Nat) := (c.nodes.map fun k => (List.range c.cells).map fun i => (k, i)).flatten

/-- The declared strings. -/
def State.declared (s : State) : List (Fin 8) := strings.filter fun n => (s.topo n).declared

/-- The sum of rationals. -/
def sumQ (l : List Rat) : Rat := l.foldl (· + ·) 0

/-- The smallest of rationals, none of an empty list. -/
def minQ : List Rat → Option Rat
  | [] => none
  | x :: t => some (t.foldl min x)

/-- The largest of rationals, none of an empty list. -/
def maxQ : List Rat → Option Rat
  | [] => none
  | x :: t => some (t.foldl max x)

/-- The models of a string's cells. -/
def State.cellsOf (n : Fin 8) (s : State) : List Cell := (s.topo n).cellList.map fun k => s.cell (cellNo n k.1 k.2)

/-! ### The set that estimation takes at 665 us (07 R176, Table 7.2) -/

/-- I_s of a string in A from the chorus-aligned sample (07 R176). -/
def StrEng.chorusI (e : StrEng) : Rat := ((e.chorus.istrA + e.chorus.istrB : Int) : Rat) / 2000

/-- A cell's usable terminal voltage in 0.1 mV, with the factor of its variance (07 Table 7.2). -/
def State.cellVolt (n : Fin 8) (k : Fin 24) (c : Nat) (s : State) : Option (Rat × Rat) :=
  let e := s.ring[n].nodes[k]
  let p := (e.pri.getD c 0xFFFF).toNat
  let q := (e.sec.getD c 0xFFFF).toNat
  if !e.valid || s.sense[n].nodes[k].psDiff.getD c false || (p = 0xFFFF && q = 0xFFFF) then none
  else if p = 0xFFFF then some ((q : Rat), 2)
  else if q = 0xFFFF then some ((p : Rat), 2)
  else if ((p : Int) - q).natAbs ≤ s.psThr then some (((p + q : Nat) : Rat) / 2, 1)
  else none

/-- The temperature in °C of the sensor that CELL_MODEL assigns to a cell, at an age below 20 ms (07 Table 7.2). -/
def State.cellTemp (n : Fin 8) (k : Fin 24) (c : Nat) (s : State) : Option Rat :=
  let e := s.ring[n].nodes[k]
  let fresh := (e.tempsUp.map fun t => decide (s.since t < 20000000)).getD false
  match (Sparse.find s.img.cfg.model.sensors (c + 1)).bind fun i => e.temps[i]? with
  | some v => if v == 0x8000 || !fresh then none else some ((v.toInt : Rat) / 100)
  | none => none

/-- An anchor discarded and counted (07 R192). -/
def State.dropAnchor (b : Nat) (s : State) : State :=
  if (s.cell b).learn.anchor.isSome
  then (s.modCell b fun x => { x with learn := { x.learn with anchor := none, qCnt := 0 } }).bump 0x180210 else s

/-- Anchors of a string without a chorus-aligned sample in the cycle, or with a current channel that is invalid (07 R192). -/
def State.anchorCheck (n : Fin 8) (s : State) : State :=
  if s.str[n].chorusGot && bit s.str[n].snsValid.toNat 8 && bit s.str[n].snsValid.toNat 9 then s
  else State.forEach (s.topo n).cellList (fun k => State.dropAnchor (cellNo n k.1 k.2)) s

/-! ### Cell current (07 R176, R200) -/

/-- A node's balancing as confirmed, while VALID_MS runs (07 R200). -/
def State.balLive (n : Fin 8) (k : Fin 24) (s : State) : NodeBal :=
  let d := Sparse.get s.est.strs[n].nodes k.val {}
  if s.since d.confirmUp < 2500000000 then d else { d with bleedMask := 0, xfer := [] }

/-- A cell's voltage in 0.1 mV in a set; where none is usable the spec states none (log 3). -/
def EstSet.volt (e : EstSet) (open_ : Rat) (b : Nat) : Rat := ((Sparse.find e.v b).map (·.1)).getD open_

/-- i_c of a cell in a set in A (07 R176, R200). -/
def State.cellCurrent (n : Fin 8) (k : Fin 24) (c : Nat) (e : EstSet) (s : State) : Rat :=
  let d := s.balLive n k
  let v (i : Nat) : Rat := e.volt s.freshRat (cellNo n k i)
  let pack := sumQ ((List.range (s.topo n).cells).map v)
  let bleed : Rat := if bit d.bleedMask.toNat c then (if d.rBleed = 0 then s.freshRat else v c / 10000 / d.rBleed) else 0
  let one (x : Nat × Bool × Nat) : Rat :=
    let i : Rat := (x.2.2 : Rat) / 1000
    let back := if pack = 0 then s.freshRat else d.etaX * i * v (x.1 - 1) / pack
    let out := (if x.1 = c + 1 then -i else 0) + back
    if x.2.1 then -out else out
  (e.i.getD n 0) - bleed + sumQ (d.xfer.map one)

/-- A value for each cell of the declared strings that has one, by index. -/
def State.eachCell {α : Type} (f : Fin 8 → Fin 24 → Nat → Option α) (s : State) : List (Nat × α) :=
  (s.declared.map fun n => (s.topo n).cellList.filterMap fun k => (f n k.1 k.2).map fun v => (cellNo n k.1 k.2, v)).flatten

/-- The closed set with the string currents `i`: each cell's own current, its usable voltage and its sensor's temperature (07 R176, R177). -/
def State.setWith (i : List Rat) (s : State) : EstSet :=
  let e : EstSet := { cycle := s.cycle, i := i, unc := maskOf (strings.map fun n => s.sense[n].alignUnc), v := s.eachCell fun n k c => s.cellVolt n k c, t := s.eachCell fun n k c => s.cellTemp n k c }
  { e with ic := s.eachCell fun n k c => some (s.cellCurrent n k c e) }

/-- The current of a string in a set: of its chorus-aligned sample; where that is missing the spec states none (07 R176; log 3). -/
def State.setCurrent (n : Fin 8) (s : State) : Rat := if s.str[n].chorusGot then s.str[n].chorusI else s.freshRat

/-! ### One cell's step (07 R177 to R191) -/

/-- The coulombic efficiency for a charge: η_c on charge, 1 on discharge (07 R183, R191). -/
def CellModel.eta (m : CellModel) (i : Rat) : Rat := if i > 0 then m.etaC else 1

/-- The charge of one set in Ah. -/
def setAh (i : Rat) : Rat := i / 3600000

/-- SOC_r after a step (07 R183); `rate` in 0.01 % per min, `n` sets of 1 ms. -/
def Cell.report (m : CellModel) (rate n : Nat) (is : List Rat) (x : Cell) : Cell :=
  let q := sumQ (is.map setAh)
  let dcc := if x.learn.q = 0 then 0 else 100 * q * m.eta q / x.learn.q
  let lim : Rat := (rate : Rat) / 100 * n / 60000
  let gap := x.socE - (x.learn.socR + dcc)
  { x with learn := { x.learn with socR := clampQ 0 100 (x.learn.socR + dcc + clampQ (-lim) lim gap) } }

/-- One voltage taken into the running second's mean; the means of the last 5 min are kept (07 R189). -/
def Cell.second (sec : Nat) (v : Rat) (x : Cell) : Cell :=
  if sec = x.secNo then { x with secSum := x.secSum + v, secN := x.secN + 1 }
  else
    let l := if x.secN = 0 then x.means else x.means ++ [(x.secNo, x.secSum / x.secN)]
    { x with means := l.filter (fun e => sec ≤ e.1 + 300), secNo := sec, secSum := v, secN := 1 }

/-- The slope of a least-squares line through 1 s means in mV per minute (07 R189). -/
def Cell.slope (l : List (Nat × Rat)) : Rat :=
  let n : Rat := l.length
  let tm := sumQ (l.map fun e => (e.1 : Rat)) / n
  let vm := sumQ (l.map (·.2)) / n
  let num := sumQ (l.map fun e => (e.1 - tm) * (e.2 - vm))
  let den := sumQ (l.map fun e => (e.1 - tm) * (e.1 - tm))
  if den = 0 then 0 else num / den / 10 * 60

/-- The slope of the open-circuit voltage curve at a state of charge, in mV per % (07 R190). -/
def CellModel.ocvSlope (m : CellModel) (soc : Rat) : Rat :=
  ((m.ocv.zip (m.ocv.drop 1)).findSome? fun e => if e.1.1 ≤ soc && soc ≤ e.2.1 && e.1.1 < e.2.1 then some ((e.2.2 - e.1.2) / (e.2.1 - e.1.1)) else none).getD 0

/-- The rest current 0.01 C in A (07 R189). -/
def CellModel.restI (m : CellModel) : Rat := m.qNom / 100

/-- Does a cell reach a rest point: its string at rest for REST_TIME, its own current small, its means of the last 5 min flat (07 R189). -/
def State.restReached (n : Fin 8) (x : Cell) (s : State) : Bool :=
  let m := s.img.cfg.model
  let l := x.means.filter fun e => s.cycle / 1000 ≤ e.1 + 300
  ((s.est.strs[n].restSince.map fun t => decide (s.since t ≥ m.restMin * 60000000000)).getD false) && absQ x.iCell < m.restI && l.length ≥ 2 && absQ (Cell.slope l) < 1 / 10

/-- A usable rest point (07 R190). -/
def State.restUsable (n : Fin 8) (x : Cell) (s : State) : Bool := absQ (s.img.cfg.model.ocvSlope x.socE) ≥ 1 / 2 && s.est.strs[n].converged

/-- The last 1,000 normalised squared innovations and their mean (07 R178). -/
def Cell.innovate (nis : Rat) (now : Nat) (x : Cell) : Cell :=
  let l := (x.innov ++ [nis]).drop (x.innov.length - 999)
  let mean := sumQ l / l.length
  { x with innov := l, meanInnov := mean, lowSince := if mean < 2 then some (x.lowSince.getD now) else none }

/-- Prediction over the sets of a step, each with its own current (07 R177). -/
def Cell.predict (m : CellModel) (is : List Rat) (x : Cell) : Cell :=
  { x with x := is.foldl (fun a i => Config.cellPredict m a i (1 / 1000)) x.x, cov := (is.foldl (fun (a : List Rat × List Rat) i => (Config.cellPredict m a.1 i (1 / 1000), Config.cellSpread m a.1 i a.2 (1 / 1000))) (x.x, x.cov)).2, iCell := is.getLast?.getD x.iCell }

/-- The Kalman correction with the measurements of Table 7.2 that are usable (07 R177). -/
def Cell.correct (m : CellModel) (now : Nat) (v : Option (Rat × Rat)) (t rest : Option Rat) (x : Cell) : Cell × Rat :=
  let ti := (x.tInt.filter fun e => now - e.2 < 60000000000 && x.learn.delta.isSome).map (·.1)
  let r := Config.cellCorrect m x.x x.iCell x.cov v ti t rest
  ({ x with x := r.1, cov := r.2.1 }, r.2.2)

/-- Does a bound hold at the present states and after each of the next `k` ms at a constant current (07 R186). -/
def CellModel.holds (m : CellModel) (ok : List Rat → Bool) (i : Rat) : Nat → List Rat → Bool
  | 0, x => ok x
  | k + 1, x => ok x && CellModel.holds m ok i k (Config.cellPredict m x i (1 / 1000))

/-- The largest current magnitude in steps of 0.1 A up to 400 A under which a bound holds throughout 10 s; 0 A where none does (07 R186; 00
Table 0.1; log 91). `sg` is 1 on charge and -1 on discharge. -/
def CellModel.largest (m : CellModel) (sg : Rat) (ok : Rat → List Rat → Bool) (x : List Rat) : Rat :=
  let fits (k : Nat) : Bool := m.holds (ok (sg * k / 10)) (sg * k / 10) 10000 x
  let best : Nat := ((List.range 4001).reverse.find? fits).getD 0
  (best : Rat) / 10

/-- The values that a cell's states spell (07 R179, R183, R186). -/
def Cell.outputs (m : CellModel) (x : Cell) : Cell :=
  { x with socE := Config.cellSoc m x.x, sdSoc := Config.cellSd m x.cov, plm := Config.plating m x.x x.iCell, iPl := m.largest 1 (fun i y => Config.plating m y i ≥ m.plFloor) x.x, iVmax := m.largest 1 (fun i y => Config.cellVoltage m y i ≤ m.vEstMax) x.x, iVmin := m.largest (-1) (fun i y => Config.cellVoltage m y i ≥ m.vEstMin) x.x }

/-- The charge of a step counted for the anchor and for R195: with η, and what balancing alone carried. -/
def Cell.count (m : CellModel) (is string : List Rat) (x : Cell) : Cell :=
  let q := sumQ (is.map fun i => setAh i * m.eta i)
  { x with balQ := x.balQ + sumQ ((is.zip string).map fun e => setAh (e.1 - e.2)), learn := { x.learn with qCnt := if x.learn.anchor.isSome then x.learn.qCnt + q else x.learn.qCnt } }

/-- OPEN_LOOP: 1,000 consecutive sets predicted only, until 100 corrected ones (07 R177). -/
def State.openLoop (n : Fin 8) (k : Fin 24) (b sets : Nat) (used : Bool) (s : State) : State :=
  let x := s.cell b
  if used then
    let r := x.corrRun + sets
    s.modCell b fun x => { x with predRun := 0, corrRun := min 100 r, openLoop := x.openLoop && r < 100 }
  else
    let r := min 1000 (x.predRun + sets)
    let s := (s.modCell b fun x => { x with predRun := r, corrRun := 0, openLoop := x.openLoop || r ≥ 1000 }).bump 0x180208
    s.when (r ≥ 1000 && !x.openLoop) (State.emit 0x4714 (Src.node n k) [b])

/-- DIVERGED: raised when the mean over 1,000 corrected steps exceeds 4.0; cleared after 10 s below 2.0 (07 R178). -/
def State.divergence (b : Nat) (s : State) : State :=
  let x := s.cell b
  if !x.diverged && x.innov.length ≥ 1000 && x.meanInnov > 4 then ((s.modCell b fun x => { x with diverged := true }).bump 0x180204).emit 0x4715 0x030 [b]
  else if x.diverged && (x.lowSince.map fun t => decide (s.since t ≥ 10000000000)).getD false then s.modCell b fun x => { x with diverged := false }
  else s

/-- A usable rest point sets or renews the anchor, and between two of them learns the capacity (07 R191). The learning goes to
history. -/
def State.learnCapacity (n : Fin 8) (b : Nat) (s : State) : State :=
  let x := s.cell b
  let fresh (s : State) : State := s.modCell b fun x => { x with learn := { x.learn with anchor := some (x.socE, s.now), qCnt := 0 } }
  match x.learn.anchor with
  | none => fresh s
  | some (soc, t) =>
    if s.now - t > 604800000000000 then fresh s
    else
      let span := absQ (x.socE - soc) / 100
      if 100 * span < s.img.cfg.model.capSpan then s
      else
        let q := absQ x.learn.qCnt / span
        if absQ (q - x.learn.q) ≤ x.learn.q / 10 then
          let g := min (1 / 2) (span / 4 / (2 / 5))
          let s := s.modCell b fun x => { x with learn := { x.learn with q := x.learn.q + g * (q - x.learn.q) } }
          let s := s.intoHistory 0x15 0x030 (valBytes 8 [(b : Int), roundQ (1000 * q), roundQ (10000 * span), roundQ (10000 * g)])
          let s := s.when (!s.est.strs[n].learnedRest) fun s => (((s.modEst fun e => { e with strs := Vec.upd e.strs n fun t => { t with learnedRest := true } }).emit 0x0711 0x030 (ints [n])).learnTrigger 2)
          fresh s
        else fresh ((s.bump 0x18020C).emit 0x4716 0x030 [b])

/-- One cell over one estimation step (07 R177 to R191). -/
def State.cellStep (n : Fin 8) (k : Fin 24) (c : Nat) (s : State) : State :=
  let b := cellNo n k c
  let m := s.img.cfg.model
  let sets := s.est.stepSets
  let is := sets.map fun e => (Sparse.find e.ic b).getD 0
  let v := sets.getLast?.bind fun e => Sparse.find e.v b
  let t := sets.getLast?.bind fun e => Sparse.find e.t b
  let vs := sets.filterMap fun e => (Sparse.find e.v b).map fun v => (e.cycle / 1000, v.1)
  let x0 := (s.cell b).predict m is
  let x0 := (vs.foldl (fun x u => Cell.second u.1 u.2 x) x0).count m is (sets.map fun e => e.i.getD n 0)
  let reach := !x0.restPoint && s.restReached n x0
  let use := reach && s.restUsable n x0
  let r := x0.correct m s.now v t (if use then v.map (·.1) else none)
  let x1 := (r.1.outputs m).report m s.est.socRate.toNat sets.length is
  let x1 := if v.isSome then x1.innovate r.2 s.clk.upNs else x1
  let s := s.modCell b fun _ => { x1 with restPoint := x1.restPoint || reach }
  let s := (s.openLoop n k b sets.length v.isSome).divergence b
  s.when use (State.learnCapacity n b)

/-! ### One string's step -/

/-- One string's estimation outputs changed. -/
def State.modStrEst (n : Fin 8) (f : StrEst → StrEst) (s : State) : State := s.modEst fun e => { e with strs := Vec.upd e.strs n f }

/-- Rest of a string: both currents below 0.01 C, in OFF, SHED, HOLD or RUN (07 R189). Its end clears the rest points. -/
def State.restTrack (n : Fin 8) (s : State) : State :=
  let e := s.str[n]
  let i : Rat := (max e.chorus.istrA.natAbs e.chorus.istrB.natAbs : Nat)
  let quiet := i / 1000 < s.img.cfg.model.restI && (e.state == .off || e.state == .shed || e.state.running)
  if quiet then s.modStrEst n fun t => { t with restSince := some (t.restSince.getD s.clk.upNs) }
  else if s.est.strs[n].restSince.isNone then s
  else
    State.forEach (s.topo n).cellList (fun k => State.modCell (cellNo n k.1 k.2) fun x => { x with restPoint := false })
      (s.modStrEst n fun t => { t with restSince := none, rest := false, learnedRest := false })

/-- A closed set kept for the next estimation step, and judged for rest (07 R177, R189). -/
def State.keepSet (s : State) : State :=
  let set := s.setWith (strings.map fun n => s.setCurrent n)
  (State.forEach s.declared State.restTrack (s.tick.modEst fun e => { e with sets := e.sets ++ [set] }))

/-- A closed set that the standby keeps in case it takes over, with the current of each string's control copy (07 R197). -/
def State.gapSet (s : State) : State :=
  let set := s.setWith (strings.map fun n => s.twin.ctl[n].loop.iRef)
  s.tick.modTwin fun w => { w with gapSets := w.gapSets ++ [set] }

/-- A cell initialised again from the stored learned values, with the initial covariance and a rest-voltage correction (07 R180). -/
def State.reinitCell (n : Fin 8) (k : Fin 24) (c : Nat) (s : State) : State :=
  let b := cellNo n k c
  let m := s.img.cfg.model
  let a := s.jrn.newest
  let l := if a.valid then Sparse.get a.cells b (s.cell b).learn else (s.cell b).learn
  let v := (s.est.stepSets.getLast?.bind fun e => Sparse.find e.v b).map (·.1)
  let r := Config.cellCorrect m (Config.cellFromLearned m l) (s.cell b).iCell m.covInit none none none v
  s.modCell b fun x => { x with x := r.1, cov := r.2.1, diverged := false, innov := [], lowSince := none, meanInnov := 0 }

/-- A table by temperature: linear between its rows; outside them the spec states no value (log 3). -/
def tempRow (open_ : Rat) (l : List (Rat × Rat × Rat)) (t : Rat) : Rat × Rat :=
  match l.find? (fun r => r.1 = t), (l.zip (l.drop 1)).find? fun e => e.1.1 ≤ t && t ≤ e.2.1 with
  | some r, _ => r.2
  | none, some e => (lerp t e.1.1 e.1.2.1 e.2.1 e.2.2.1, lerp t e.1.1 e.1.2.2 e.2.1 e.2.2.2)
  | none, none => (open_, open_)

/-- The node sensor temperatures of a string in °C. -/
def State.nodeTemps (n : Fin 8) (s : State) : List Rat :=
  (((s.topo n).nodes.map fun k => (s.ring[n].nodes[k].temps.filter fun v => v != 0x8000).map fun v => (v.toInt : Rat) / 100)).flatten

/-- The higher of a cell's core and surface temperature (07 Table 7.1, R187). -/
def Cell.hot (x : Cell) : Rat := max (x.x.getD 18 0) (x.x.getD 19 0)

/-- The limits of a string in A before the rise is limited (07 R187, R188). -/
def State.rawLimits (n : Fin 8) (s : State) : Rat × Rat :=
  let m := s.img.cfg.model
  if !s.est.strs[n].converged then
    let t := s.nodeTemps n
    let rows := [maxQ t, minQ t].map fun o => (o.map (tempRow s.freshRat m.fallback)).getD (s.freshRat, s.freshRat)
    ((minQ (rows.map (·.1))).getD 0, (minQ (rows.map (·.2))).getD 0)
  else
    let one (x : Cell) : Rat × Rat := let r := tempRow s.freshRat m.tempTab x.hot; (min (min x.iPl x.iVmax) r.1, min x.iVmin r.2)
    let l := (s.cellsOf n).map one
    ((minQ (l.map (·.1))).getD 0, (minQ (l.map (·.2))).getD 0)

/-- A limit that falls is taken at once; one that rises moves by at most LIM_RISE per second (07 R187). -/
def riseLimit (step old new : Rat) : Rat := max 0 (if new ≤ old then new else min new (old + step))

/-- CONVERGED (07 R179), with EST_FALLBACK when the fallback begins and when it ends (07 R188). -/
def State.converge (n : Fin 8) (s : State) : State :=
  let l := s.cellsOf n
  let ok := !l.isEmpty && l.all fun x => x.sdSoc < 3 && !x.openLoop && !x.diverged
  let old := s.est.strs[n].fallback
  let s := s.modStrEst n fun t => { t with converged := ok, fallback := !ok }
  s.when (old == ok) (State.emit 0x4717 0x030 [(n : Nat), b2n !ok])

/-- The mean of SOC_r weighted by capacity (07 R184). -/
def meanSoc (l : List Cell) : Rat :=
  let q := sumQ (l.map fun x => x.learn.q)
  if q = 0 then 0 else sumQ (l.map fun x => x.learn.socR * x.learn.q) / q

/-- A string's values after a step: the means, the margin and its cell, the highest temperature, the limits (07 R184, R187). -/
def State.stringOutputs (n : Fin 8) (s : State) : State :=
  let l := s.cellsOf n
  let ms := (minQ (l.map (·.plm))).getD 0
  let at_ := (((s.topo n).cellList.find? fun k => (s.cell (cellNo n k.1 k.2)).plm = ms).map fun k => k.1.val * 16 + k.2).getD 0
  let lim := s.rawLimits n
  let step := s.img.cfg.model.limRise / 100 * (s.topo n).ratedMa / 1000 * s.est.stepSets.length / 1000
  let on := s.str[n].state.active
  s.modStrEst n fun t =>
    { t with socS := meanSoc l, socMin := (minQ (l.map fun x => x.learn.socR)).getD 0, mS := ms, mCell := at_, tS := (maxQ (l.map Cell.hot)).getD t.tS, iChg := if on then riseLimit step t.iChg lim.1 else t.iChg, iDis := if on then riseLimit step t.iDis lim.2 else t.iDis }

/-- The first rest point of a string's rest: recorded with the count of cells, and a trigger of the learned-values write (07 R189,
R193). -/
def State.restPoints (n : Fin 8) (s : State) : State :=
  let k := ((s.cellsOf n).filter (·.restPoint)).length
  if k > 0 && !s.est.strs[n].rest then ((s.modStrEst n fun t => { t with rest := true }).emit 0x0710 0x030 (ints [n, k])).learnTrigger 1 else s

/-- The charge of a string over the step's sets, for R195. -/
def State.stringCharge (n : Fin 8) (s : State) : State :=
  let is := s.est.stepSets.map fun e => e.i.getD n.val 0
  s.modStrEst n fun t => { t with chargeJ := t.chargeJ + sumQ (is.map setAh), lastSecI := is.foldl (fun a i => max a (absQ i)) t.lastSecI }

/-- One string over one estimation step. -/
def State.stringStep (n : Fin 8) (s : State) : State :=
  let cells := (s.topo n).cellList
  let s := s.stringCharge n
  let s := s.when s.est.strs[n].reinitRun fun s => (State.forEach cells (fun k => State.reinitCell n k.1 k.2) s).modStrEst n fun t => { t with reinitRun := false }
  let s := State.forEach cells (fun k => State.cellStep n k.1 k.2) s
  ((s.converge n).stringOutputs n).restPoints n

/-- ESTIMATION_STEP_DONE (07 R181, R197): the running step's sets are integrated and corrected, and its outputs are the latest; after a takeover the
learned values are then written. -/
def execEstimationStepDone (s : State) : Host.Outcome State Fault Refusal :=
  .next <|
    if !s.est.stepRun then s
    else
      let s := (State.forEach s.declared State.stringStep s).tick
      let on := s.declared.filter fun n => s.str[n].state.running || s.str[n].state == .off || s.str[n].state == .shed
      let soc := meanSoc ((on.map fun n => s.cellsOf n).flatten)
      let due := s.est.learnDue
      let s := s.modEst fun e => { e with stepRun := false, stepDue := false, learnDue := false, upTo := ((e.stepSets.getLast?).map (·.cycle)).getD e.upTo, stepSets := [], bankSoc := soc }
      s.when due (State.learnTrigger 4)

/-! ### Publication at 900 us (01 R27, 07 R187, 09 R247) -/

/-- A limit in A as published, in mA. -/
def pubMa (a : Rat) : Nat := (1000 * a).floor.toNat

/-- The flags of a cell (07 Table 7.6); a balancing command in force is `live` (07 R200). -/
def Cell.flags (live : Bool) (x : Cell) : Nat :=
  maskOf [x.openLoop, x.diverged, x.learn.anchor.isSome, x.restPoint, live && x.bleed, live && x.xferOut ≠ 0, live && x.xferIn ≠ 0]

/-- A cell as the estimation record carries it (09 R247; log 95). -/
def Cell.copy (m : CellModel) (x : Cell) : CellCopy :=
  { x := List.zipWith fix24 (Config.stateScale m) x.x, socR := BitVec.ofNat 16 (fixU 16 (100 * x.learn.socR)), flags := BitVec.ofNat 16 (x.flags true) }

/-- The learned values of a cell beside SOC_r, which its 64 bytes carry (09 R247). -/
def LearnCell.rest (l : LearnCell) : LearnCell := { l with socR := 0 }

/-- The estimation record: every cell, the covariances of the 24 cells whose turn it is, the learned values that changed, and the dispatch state (09
R247; 06 R170; 14 R373; log 95). -/
def State.estRecord (s : State) : EstRecord :=
  let j := s.jrn
  let m := s.img.cfg.model
  let turn := (List.range 24).map fun i => 24 * (s.cycle % 128) + i
  { cells := s.est.cells.map fun e => (e.1, e.2.copy m), covs := (s.est.cells.filter fun e => e.1 ∈ turn).map fun e => (e.1, e.2.cov.map toF16), learned := (s.est.cells.filter fun e => (Sparse.find s.est.learnSent e.1).map LearnCell.rest != some e.2.learn.rest).map fun e => (e.1, e.2.learn), strs := s.est.strs, upTo := s.est.upTo, disp := j.disp, idents := j.idents, wait := s.bank.wait.map (·.seq), nextSeq := j.nextSeq, accSeq := j.accSeq, doneSeq := j.doneSeq, inForce := s.bank.inForce, state := s.bank.state, target := s.bank.target, counts := s.io.qin.toList.map (·.count), learnSeq := j.learnSeq, t0 := s.clk.cycleT0, tokenCtr := s.trust.nv.tokenCtr }

/-- A cell as the standby takes it from a record: its states, SOC_r and flags, and what else the record carries of it (09 R247). -/
def Cell.merge (m : CellModel) (r : EstRecord) (b : Nat) (k : CellCopy) (x : Cell) : Cell :=
  let v := List.zipWith (fun (q : Rat) (i : Int) => q * i) (Config.stateScale m) k.x
  let l := (Sparse.find r.learned b).getD x.learn
  let f := k.flags.toNat
  { x with x := v, cov := ((Sparse.find r.covs b).map fun c => c.map f16v).getD x.cov, learn := { l with socR := (k.socR.toNat : Rat) / 100 }, socE := Config.cellSoc m v, openLoop := bit f 0, diverged := bit f 1, restPoint := bit f 3 }

/-- The cells after a complete record (09 R247). -/
def EstRecord.merge (r : EstRecord) (m : CellModel) (old : List (Nat × Cell)) : List (Nat × Cell) :=
  r.cells.map fun e => (e.1, Cell.merge m r e.1 e.2 (Sparse.get old e.1 {}))

/-- The estimation record sent, with the learned values that it leaves the twin with (09 R247). -/
def State.sendEst (s : State) : State :=
  s.when s.twin.ownKey.isSome fun s =>
    (s.twinRecord (.estimation s.estRecord) "ESTIMATION").modEst fun e => { e with learnSent := e.cells.map fun x => (x.1, x.2.learn) }

/-- SETPOINT_PUBLISH: a split still due is made; the setpoints and the limits of strings in PRECHARGE, RUN or HOLD; then the estimation record goes to the twin. -/
def execSetpointPublish (s : State) : Host.Outcome State Fault Refusal :=
  .next <|
    let s := s.atCycle 900000
    if !s.leads then s
    else
      let s := s.when s.bank.splitDue State.splitNow
      let s := s.modBank fun b => { b with shares := Vec.updAll b.shares fun n h => { h with pubI := h.i, limChg := if s.str[n].state.active then some (pubMa s.est.strs[n].iChg) else none, limDis := if s.str[n].state.active then some (pubMa s.est.strs[n].iDis) else none } }
      s.when (s.twin.role == .active) State.sendEst

/-! ### Commands (07 R180, R193) -/

/-- EST_RESULT (07 Table 7.6). -/
def State.estResult (c : Nat) (s : State) : State := s.modEst fun e => { e with resCode := BitVec.ofNat 16 c }

/-- EST_CMD: only on a member that leads. -/
def Est.cmd (effect : State → State) : Write := Write.cmd (fun _ s => if s.leads then 0 else 0x0701) State.estResult effect

/-- REINIT: the named strings at the next step. -/
def Est.reinitCmd (mask : Byte) : Write := Est.cmd fun s => State.forEach (stringsOf mask) (fun n => State.modStrEst n fun t => { t with reinit := true }) s

/-- REINIT. -/
def execReinit (q : Req) (mask : Byte) (s : State) : Host.Outcome State Fault Refusal := .next (s.hostWrite q (Est.reinitCmd mask))

/-- LEARN_NOW. -/
def Est.learnCmd : Write := Est.cmd (State.learnTrigger 6)

/-- LEARN_NOW. -/
def execLearnNow (q : Req) (s : State) : Host.Outcome State Fault Refusal := .next (s.hostWrite q Est.learnCmd)

/-- The time in ns since the last completed write of the learned values: in TSC time, also over a reset; without one, since the reset (07
R182, R193). -/
def State.learnAge (s : State) : Nat := match s.jrn.learnDone with | some t => s.now - t | none => s.clk.upNs

/-- LEARNED_VALUES_WRITE (07 R193): 6 h since the previous write. -/
def execLearnedValuesWrite (s : State) : Host.Outcome State Fault Refusal :=
  .next (if s.learnAge ≥ 21600000000000 then s.learnTrigger 0 else s)

/-- Is a counter marked J: mirrored in the journal (18 R437, Table 18.2). -/
def Counter.mirrored (addr : Nat) : Bool :=
  addr < 0x020000 || (0x040000 ≤ addr && addr < 0x080000) || (0x1C0000 ≤ addr && addr < 0x280000) || 0x440000 ≤ addr

/-- The counters marked J copied into the journal (18 R437). -/
def State.mirrorCounters (s : State) : State := s.setJctr (s.ctr.filter fun c => Counter.mirrored c.1)

/-- The charges of a completed write are counted no longer (07 R195). -/
def Est.spent (e : Est) : Est :=
  { e with cells := e.cells.map (fun x => (x.1, { x.2 with balQ := x.2.balQ - x.2.balW, balW := 0 })), strs := e.strs.map fun t => { t with chargeJ := t.chargeJ - t.chargeW, chargeW := 0 } }

/-- LEARN_WRITE_DONE (07 R194, R195): the commit word is written, or the write failed and the other area stays in force. -/
def execLearnWriteDone (ok : Bool) (s : State) : Host.Outcome State Fault Refusal :=
  .next <|
    match s.est.learnWrite with
    | none => s
    | some a =>
      if ok then
        let s := (s.modJrn fun j => { (j.modOther fun _ => a) with balCharge := [], strCharge := [], learnDone := some s.now }).emit 0x0712 0x030 (ints [a.seq, a.trigger])
        (s.mirrorCounters.modEst Est.spent).learnNext
      else ((s.bump 0x180214).emit 0x871A 0x030 []).learnNext

/-! ### Balancing (07 R198 to R200) -/

/-- The median of rationals, none of an empty list. -/
def medianQ (l : List Rat) : Option Rat :=
  let m := sortBy (fun a b => a ≤ b) l
  match m[(m.length - 1) / 2]?, m[m.length / 2]? with
  | some a, some b => some ((a + b) / 2)
  | _, _ => none

/-- Is a cell flagged for balancing (07 R198). -/
def State.balFlagged (n : Fin 8) (k : Fin 24) (c : Nat) (s : State) : Bool :=
  let x := s.cell (cellNo n k c)
  x.openLoop || x.diverged || s.sense[n].nodes[k].psDiff.getD c false

/-- Is a string included in a balancing decision (07 R198). -/
def State.balIncludes (n : Fin 8) (s : State) : Bool :=
  let t := s.str[n].state
  (t.running || (s.img.cfg.policy.balIdle && (t == .off || t == .shed))) && s.est.strs[n].converged && !bit s.est.balSuspend.toNat n

/-- dQ_c of a cell against the median in Ah (07 R198). -/
def State.balDq (n : Fin 8) (k : Fin 24) (c : Nat) (s : State) : Rat :=
  let ok := (s.topo n).cellList.filter fun e => !s.balFlagged n e.1 e.2
  let ref := (medianQ (ok.map fun e => (s.cell (cellNo n e.1 e.2)).socE)).getD 0
  let x := s.cell (cellNo n k c)
  (x.socE - ref) / 100 * x.learn.q

/-- The state of a cell's balancing (07 R198). -/
def State.balCell (n : Fin 8) (k : Fin 24) (c : Nat) (s : State) : State :=
  let m := s.img.cfg.model
  let d := absQ (s.balDq n k c)
  let on := (s.cell (cellNo n k c)).balOn
  let new := if s.balFlagged n k c || d < m.balOff then false else if d > m.balOn then true else on
  s.modCell (cellNo n k c) fun x => { x with balOn := new }

/-- One node's decision: up to four transfers of the largest |dQ_c|, the other ON cells with dQ_c > 0 bleed (07 R198). -/
def State.balNode (n : Fin 8) (k : Fin 24) (s : State) : BitVec 16 × List (Nat × Bool × Nat) :=
  let hot := (s.ring[n].nodes[k].temps.any fun t => t != 0x8000 && (t.toInt : Rat) / 100 > s.img.cfg.model.balTMax)
  if !s.balIncludes n || hot then (0, [])
  else
    let on := (List.range (s.topo n).cells).filter fun c => (s.cell (cellNo n k c)).balOn
    let dq := on.map fun c => (c, s.balDq n k c)
    let top := (sortBy (fun a b => absQ b.2 < absQ a.2 || (absQ a.2 = absQ b.2 && a.1 ≤ b.1)) dq).take 4
    let bleed := dq.filter fun e => e.2 > 0 && !(top.any fun t => t.1 = e.1)
    (BitVec.ofNat 16 (maskOf ((List.range 16).map fun c => bleed.any fun e => e.1 = c)), top.map fun e => (e.1 + 1, decide (e.2 < 0), s.img.cfg.model.xferI))

/-- The BALANCE payload (07 Table 7.5). -/
def balPayload (mask : BitVec 16) (x : List (Nat × Bool × Nat)) : List Byte :=
  leBytes 2 2500 ++ leBytes 2 mask.toNat ++ leBytes 1 x.length ++ leBytes 3 0 ++
    ((List.range 4).map fun i => match x[i]? with | some e => leBytes 1 e.1 ++ leBytes 1 (b2n e.2.1) ++ leBytes 2 e.2.2 | none => leBytes 4 0).flatten

/-- One node's balancing settings changed. -/
def State.modNodeBal (n : Fin 8) (k : Fin 24) (f : NodeBal → NodeBal) (s : State) : State :=
  s.modStrEst n fun t => { t with nodes := Sparse.put t.nodes k.val (f (Sparse.get t.nodes k.val {})) }

/-- BALANCE to one node (07 R200); while a sweep point accumulates, the settings in force are sent again (07 R199). -/
def State.balSend (n : Fin 8) (k : Fin 24) (s : State) : State :=
  let keep := s.sweep[n].running.isSome && !s.sweep[n].startNext && s.sweep[n].phase == .accumulate
  let old := Sparse.get s.est.strs[n].nodes k.val {}
  let d := if keep then (old.sentMask, old.sentXfer) else s.balNode n k
  (s.modNodeBal n k fun b => { b with sentMask := d.1, sentXfer := d.2 }).ringAsk n { node := k + 1, opcode := 0x0020, payload := balPayload d.1 d.2, source := 0x030 }

/-- One string's decision, with its BALANCE record (07 R198, R200). -/
def State.balString (n : Fin 8) (s : State) : State :=
  let inc := s.balIncludes n
  let s := s.modStrEst n fun t => { t with balActive := inc }
  let s := s.when inc fun s => State.forEach (s.topo n).cellList (fun k => State.balCell n k.1 k.2) s
  let dest := (s.topo n).nodes.filter fun k => s.ring[n].nodes[k].enumerated && !s.ring[n].nodes[k].isolated
  if !s.ringLease n || dest.isEmpty then s
  else
    let s := State.forEach dest (State.balSend n) s
    let one (k : Fin 24) : List Byte := let b := Sparse.get s.est.strs[n].nodes k.val {}; leBytes 1 (k + 1) ++ balPayload b.sentMask b.sentXfer
    s.intoHistory 0x16 0x030 (leBytes 1 n ++ leBytes 1 dest.length ++ (dest.map one).flatten)

/-- The charges counted since the last write of the learned values, journaled (07 R195). -/
def State.journalCharge (s : State) : State :=
  let s' := s.modJrn fun j => { j with balCharge := s.est.cells.map (fun e => (e.1, e.2.balQ)), strCharge := strings.map (fun n => (n.val, s.est.strs[n].chargeJ)), strLastI := strings.map fun n => (n.val, s.est.strs[n].lastSecI) }
  s'.modEst fun e => { e with strs := e.strs.map fun t => { t with lastSecI := 0 } }

/-- BALANCING_DECISION (07 R198): at a T0 whose Ring cycle number is a multiple of 1,000; only a leading member decides. -/
def execBalancingDecision (s : State) : Host.Outcome State Fault Refusal :=
  .next (if s.leads then State.forEach s.declared State.balString s.journalCharge else s)

/-- A node's BALANCE reply: what it echoed is confirmed; PARTIAL is counted and recorded (07 R200). -/
def State.balReply (n : Fin 8) (k : Fin 24) (partialDone : Bool) (p : List Byte) (s : State) : State :=
  let mask : BitVec 16 := BitVec.ofNat 16 (field p 0 2)
  let one (i : Nat) : Nat × Bool × Nat := (field p (6 + 4 * i) 1, field p (7 + 4 * i) 1 == 1, field p (8 + 4 * i) 2)
  let x := (List.range (min 4 (field p 2 1))).map one
  let s := s.modNodeBal n k fun b => { b with bleedMask := mask, xfer := x, confirmUp := s.clk.upNs, failed := false }
  let mark (c : Nat) (s : State) : State :=
    let i (dir : Bool) : Nat := ((x.find? fun e => e.1 = c + 1 && e.2.1 == dir).map (·.2.2)).getD 0
    s.modCell (cellNo n k c) fun y => { y with bleed := bit mask.toNat c, xferOut := i false, xferIn := i true }
  let s := State.forEach (List.range (s.topo n).cells) mark s
  s.when partialDone fun s => (s.bump 0x18021C).emit 0x4718 (Src.node n k) (ints [n, k])

/-- A BALANCE command failed after its re-sends: the previous settings until VALID_MS runs out; the cells' anchors go (07 R192,
R200). -/
def State.balFail (n : Fin 8) (k : Fin 24) (s : State) : State :=
  let s := ((s.modNodeBal n k fun b => { b with failed := true }).bump 0x180218).emit 0x871B (Src.node n k) (ints [n, k])
  State.forEach (List.range (s.topo n).cells) (fun c => State.dropAnchor (cellNo n k c)) s

/-! ### The start (07 R184, R195) -/

/-- A cell with the initial values of CELL_MODEL (07 R176, R196). -/
def CellModel.fresh (m : CellModel) : Cell :=
  { x := m.xInit, cov := m.covInit, learn := { q := m.qNom, rOhm := m.rOhmNom, rCt := m.rCtNom, socR := m.socInit }, socE := m.socInit }

/-- A cell at start: the learned values, with the charge journaled since they were stored, or the initial values of CELL_MODEL (07 R176,
R184, R195). -/
def CellModel.boot (m : CellModel) (l : Option LearnCell) (charge dq : Rat) : Cell :=
  match l with
  | none => m.fresh
  | some l =>
    let l := { l with qCnt := if l.anchor.isSome then l.qCnt + charge + dq else l.qCnt, socR := if l.q = 0 then l.socR else clampQ 0 100 (l.socR + 100 * (charge + dq) / l.q) }
    let x := Config.cellFromLearned m l
    { x := x, cov := m.covInit, learn := l, socE := Config.cellSoc m x, balQ := dq }

/-- One cell at start; its anchor is dropped where the last journaled second carried 0.01 C or more (07 R192, R195). -/
def State.bootCell (n : Fin 8) (k : Fin 24) (c : Nat) (s : State) : State :=
  let b := cellNo n k c
  let a := s.jrn.newest
  let l := if a.valid then Sparse.find a.cells b else none
  let x := s.img.cfg.model.boot l (Sparse.get s.jrn.strCharge n 0) (Sparse.get s.jrn.balCharge b 0)
  let s := s.modCell b fun _ => x
  s.when (x.learn.anchor.isSome && Sparse.get s.jrn.strLastI n 0 ≥ s.img.cfg.model.qNom / 100) (State.dropAnchor b)

/-- Gecko at start (07 R184): the charges counted since the last write go on from the journaled ones (07 R195). -/
def State.bootCells (s : State) : State :=
  let s := s.modEst fun e => { e with strs := Vec.updAll e.strs fun n t => { t with chargeJ := Sparse.get s.jrn.strCharge n 0 } }
  State.forEach s.declared (fun n => State.forEach (s.topo n).cellList fun k => State.bootCell n k.1 k.2) s

end Sys2Proof.Machine
end

