-- ==== Sys2Proof/Machine/Twin.lean ====
section
/-! DEFINITION. The redundant pair (spec 09; 10 R279): the twin link, roles, leases, fencing, takeover, handover and resync. -/

namespace Sys2Proof.Machine

/-- The number of a step of Table 9.8. -/
def ResyncStep.code : ResyncStep → Nat
  | .idle => 0 | .time => 1 | .journal => 2 | .control => 3 | .estimation => 4 | .history => 5 | .compare => 6

/-! ### Frames (09 R235) -/

/-- TWIN_LANE_DOWN (09 R235). -/
def execTwinLaneDown (lane1 : Bool) (s : State) : Host.Outcome State Fault Refusal :=
  .next <|
    let up := if lane1 then s.twin.lane1.up else s.twin.lane0.up
    if up then (((s.modTwin fun w => if lane1 then { w with lane1 := { up := false } } else { w with lane0 := { up := false } }).bump 0x20010C).emit 0x4913 0x040 [b2n lane1])
    else s

/-- A PAIR_HELLO up to its signature: member index, E, nonce, DIK point (10 R279). -/
def PairHello.body (h : PairHello) : List Byte := leBytes 1 (b2n h.member) ++ leBytes 49 h.eph ++ leBytes 16 h.nonce.toNat ++ leBytes 49 h.point

/-- A PAIR_HELLO of a new exchange: a fresh ephemeral point and a fresh nonce; the twin's of it has not come (10 R279). -/
def State.newHello (s : State) : State :=
  let h : PairHello := { member := s.ident.member, eph := s.freshNat, nonce := BitVec.ofNat 128 s.tick.freshNat, point := s.trust.nv.dikPt }
  s.tick.tick.modTwin fun w => { w with helloSent := true, hello := h.body, peerHello := [] }

/-- PAIR_HELLO sent, with the DIK signature over it and over the twin's PAIR_HELLO, where that has come (10 R279; log 94); a zeroised module signs nothing
(R287). -/
def State.tellHello (s : State) : State :=
  if s.trust.keysErased then s
  else
    let b := s.twinBytes 0x0F none (s.twin.hello ++ s.signWith 0 (s.twin.hello ++ s.twin.peerHello))
    (s.modTwin fun w => { w with txSeq := w.txSeq + 1 }).sendBytes .twin 0 "PAIR_HELLO" b

/-- TWIN_LANE_UP (09 R235, 10 R279): at link-up the member sends PAIR_HELLO, and the keys of the link before it are no longer used. -/
def execTwinLaneUp (lane1 : Bool) (s : State) : Host.Outcome State Fault Refusal :=
  .next <|
    let was := s.twin.lane0.up || s.twin.lane1.up
    let s := s.modTwin fun w => if lane1 then { w with lane1 := { up := true } } else { w with lane0 := { up := true } }
    s.when (!was && s.twin.role != .alone) fun s => (s.modTwin fun w => { w with ownKey := none, peerKey := none, nextOwn := none, nextPeer := none, rekeyAt := none }).newHello.tellHello

/-- The key of the direction that starts at a member: HKDF over Z of both ephemeral keys, with both nonces as salt, the direction's label and both
serials, member 0's first (10 R265, R279). -/
def State.pairKey (from1 : Bool) (serial : Nat) (s : State) : Nat :=
  let own := s.twin.hello
  let peer := s.twin.peerHello
  let me := leBytes 8 s.ident.serial.toNat
  let it := leBytes 8 serial
  Config.deriveKey (if s.ident.member then peer ++ own ++ ascii (if from1 then "LX-PAIR-1TO0" else "LX-PAIR-0TO1") ++ it ++ me
    else own ++ peer ++ ascii (if from1 then "LX-PAIR-1TO0" else "LX-PAIR-0TO1") ++ me ++ it)

/-- Keys agreed by both PAIR_HELLOs: in use at once on a link that has none, at the announced T0 where the pair rekeys (10 R279). -/
def State.agreeKeys (serial : Nat) (s : State) : State :=
  let own := some (s.pairKey s.ident.member serial)
  let peer := some (s.pairKey (!s.ident.member) serial)
  if s.twin.ownKey.isNone then s.modTwin fun w => { w with ownKey := own, peerKey := peer, frames := 0, framesIn := 0, keyUp := s.clk.upNs, rekeyAt := none, rxSeq := 0, rxGaps := [], txSeq := 0 }
  else s.when s.twin.rekeyAt.isSome fun s => s.modTwin fun w => { w with nextOwn := own, nextPeer := peer }

/-- A PAIR_HELLO whose signature does not yet cover the own one: it is answered, with the exchange begun where none runs; on a link with keys it
begins a rekey, at the T0 two bank cycles later (10 R279; log 94). -/
def State.answerHello (h : PairHello) (s : State) : State :=
  let again := s.twin.ownKey.isSome && s.twin.rekeyAt.isNone
  let s := s.when (!s.twin.helloSent || again) State.newHello
  (s.modTwin fun w => { w with peerHello := h.body, rekeyAt := if again then some (s.cycle + 2) else w.rekeyAt }).tellHello

/-- PAIR_HELLO (10 R279): the other member's fingerprint against PAIR, and its signature, then one key for each direction once the signature covers the
own PAIR_HELLO too. -/
def execPairHello (h : PairHello) (s : State) : Host.Outcome State Fault Refusal :=
  .next <|
    let c := s.img.cfg.pair
    let want := if h.member then c.identity1 else c.identity0
    let first := Config.ecdsaOk h.point (Config.sha384 h.body) h.sig
    let full := s.twin.helloSent && Config.ecdsaOk h.point (Config.sha384 (h.body ++ s.twin.hello)) h.sig
    if s.twin.role == .alone || s.trust.keysErased then s
    else if !(h.ident == want && Trust.fingerprint (leBytes 49 h.point) == h.ident && (first || full)) then
      ((s.modTwin fun w => { w with peerKey := none, ownKey := none, nextOwn := none, nextPeer := none }).bump 0x240108).emit 0x8A18 0x040 [b2n h.member]
    else if !full then s.answerHello h
    else
      let told := s.twin.peerHello == h.body
      ((s.modTwin fun w => { w with peerHello := h.body }).when (!told) State.tellHello).agreeKeys h.serial

/-- Is a rekey due: 2^31 frames in either direction, or 24 h (10 R279). -/
def State.rekeyDue (s : State) : Bool := s.twin.frames ≥ 2 ^ 31 || s.twin.framesIn ≥ 2 ^ 31 || s.since s.twin.keyUp ≥ 86400000000000

/-- PAIR_REKEY (10 R279, Table 10.6): a new exchange of PAIR_HELLO; its keys take effect at the T0 two bank cycles later. -/
def execPairRekey (s : State) : Host.Outcome State Fault Refusal :=
  .next <|
    if s.twin.ownKey.isNone || s.twin.rekeyAt.isSome || !s.rekeyDue then s
    else ((s.modTwin fun w => { w with rekeyAt := some (s.cycle + 2), nextOwn := none, nextPeer := none }).newHello.twinSend "REKEY" [(s.cycle + 2 : Int)]).tellHello

/-- The announced T0 of a rekey: the keys that it agreed take effect; where it agreed none, the old ones stand and a rekey is due again (10 R279). -/
def State.rekeyT0 (s : State) : State :=
  if (s.twin.rekeyAt.map fun c => decide (c ≤ s.cycle)).getD false then
    if s.twin.nextOwn.isSome && s.twin.nextPeer.isSome
    then s.modTwin fun w => { w with rekeyAt := none, frames := 0, framesIn := 0, keyUp := s.clk.upNs, ownKey := w.nextOwn, peerKey := w.nextPeer, nextOwn := none, nextPeer := none, rxSeq := 0, rxGaps := [], txSeq := 0 }
    else s.modTwin fun w => { w with rekeyAt := none, nextOwn := none, nextPeer := none }
  else s

/-! ### Heartbeat (09 R237) -/

/-- Both channels of the member in order, as CH_A_OK and CH_B_OK say (09 Table 9.1). -/
def SafChan.ok (c : SafChan) : Bool := c.run && !c.failed

/-- The first 16 bytes of the digest of the configuration in force (09 Table 9.1). -/
def State.cfgDigest16 (s : State) : BitVec 128 := (Config.cfgDigest s.img.cfg).extractLsb' 0 128

/-- LATCHED (09 Table 9.1): GLOBAL sets all eight bits. -/
def Fabric.latchMask (f : Fabric) : BitVec 8 := if f.global then 0xFF else f.latchLoop ||| f.latchGd ||| f.latchOc

/-- PTP_VIEW: the offset of the PTP master against the own TSC in ns, none without a master: none before one is selected, and none from its loss until
the next offset (09 Table 9.1). -/
def Ptp.view (p : Ptp) : BitVec 64 := if p.gmId == 0 || p.syncs.isEmpty then 0x8000000000000000 else BitVec.ofInt 64 (-(p.masterOfs / 4))

/-- The heartbeat that the member sends (09 Table 9.1). -/
def State.heartbeat (s : State) : Heartbeat :=
  let w := s.twin
  { role := w.role, member := s.ident.member, flags := BitVec.ofNat 16 (maskOf [s.saf.a.ok, s.saf.b.ok, w.activeOut, w.activeIn == .high, w.fenceOut, w.fenceIn, w.solo, w.releasing, s.thm.shutPend]), version := BitVec.ofNat 16 s.majorMinor, twinMin := s.img.cfg.pair.twinMin, twinMax := s.img.cfg.pair.twinMax, step := BitVec.ofNat 8 s.jrn.stepsDone, latched := s.saf.fab.latchMask, bootCount := s.trust.nv.bootCount, cfgDigest := s.cfgDigest16, ptpView := s.ptp.view, repeating := BitVec.ofNat 8 (maskOf (strings.map fun n => s.repeating n)) }

/-- The payload of 48 bytes (09 Table 9.1). -/
def Heartbeat.bytes (h : Heartbeat) : List Byte :=
  leBytes 1 h.role.code ++ leBytes 1 (b2n h.member) ++ leBytes 2 h.flags.toNat ++ leBytes 2 h.version.toNat ++ leBytes 2 h.twinMin.toNat ++ leBytes 2 h.twinMax.toNat ++ leBytes 1 h.step.toNat ++ leBytes 1 h.latched.toNat ++ leBytes 4 h.bootCount.toNat ++ leBytes 16 h.cfgDigest.toNat ++ leBytes 8 h.ptpView.toNat ++ leBytes 1 h.repeating.toNat ++ leBytes 7 0

/-- HEARTBEAT_SEND (09 R237): every 10 us. -/
def execHeartbeatSend (s : State) : Host.Outcome State Fault Refusal :=
  .next <|
    if s.twin.role == .alone then s
    else
      let h := s.heartbeat
      s.twinFrame .plain "HEARTBEAT" 0x01 h.bytes

/-! ### The disagreement matrix (09 R261) -/

/-- A row of Table 9.9 recorded and counted once while it stands. -/
def State.matrixRow (k code : Nat) (body : List Int) (s : State) : State :=
  if k ∈ s.twin.disagree then s else ((s.modTwin fun w => { w with disagree := k :: w.disagree }).emit code 0x040 body).bump 0x200110

/-- A row of Table 9.9 that no longer stands. -/
def State.matrixEnd (k : Nat) (s : State) : State := s.modTwin fun w => { w with disagree := w.disagree.filter fun r => r ≠ k }

/-- A row that stands or not: recorded when it begins, forgotten when it ends. -/
def State.matrix (k : Nat) (on : Bool) (code : Nat) (body : List Int) (s : State) : State := if on then s.matrixRow k code body else s.matrixEnd k

/-- The three conditions of R239 as they stand now. -/
def State.formHolds (s : State) : Bool :=
  s.twin.activeIn == .low && !s.twin.fenceIn && !(s.twin.hbOk && (s.twin.peer.map fun h => h.role == .active).getD false)

/-- Since when the conditions of R239 have held without a break. -/
def State.formTrack (s : State) : State := s.modTwin fun w => { w with formSince := if s.formHolds then some (w.formSince.getD s.clk.upNs) else none }

/-- A STANDBY becomes STANDBY_UNSYNCED. -/
def State.desync (cause : Nat) (s : State) : State := s.when (s.twin.role == .standby) (State.roleTo .unsynced cause)

/-- Is each VERSION within the other's TWIN_MIN to TWIN_MAX (09 R256, R260). -/
def State.versionsOk (h : Heartbeat) (s : State) : Bool :=
  let c := s.img.cfg.pair
  let v := s.majorMinor
  c.twinMin.toNat ≤ h.version.toNat && h.version.toNat ≤ c.twinMax.toNat && h.twinMin.toNat ≤ v && v ≤ h.twinMax.toNat

/-- The rows that a heartbeat shows, each with the own value, its stamp, the twin's value and the stamp of its frame. -/
def State.heartbeatRows (h : Heartbeat) (s : State) : State :=
  let w := s.twin
  let both (own peer : Nat) : List Int := ints [own, s.now, peer, w.hbTsc]
  let cfg := h.cfgDigest != s.cfgDigest16 && w.cfgDiffRun ≥ 2
  let s := s.matrix 1 cfg 0x4915 (both s.cfgDigest16.toNat h.cfgDigest.toNat)
  let s := s.when cfg (State.desync 0x4915)
  let s := s.when (h.cfgDigest == s.cfgDigest16) fun s => s.modTwin fun w => { w with cfgDiffRun := 0 }
  let ver := !s.versionsOk h
  let s := (s.matrix 2 ver 0x4916 (both s.majorMinor h.version.toNat)).when ver (State.desync 0x4916)
  let s := s.matrix 3 (h.member == s.ident.member) 0x891C (both (b2n s.ident.member) (b2n h.member))
  let s := s.matrix 4 (if h.role == .active then w.activeIn == .low else w.activeIn == .high) 0x4822 (both (b2n (w.activeIn == .high)) h.role.code)
  let peer : BitVec 8 := if w.role == .active && h.role == .standby then h.latched else 0
  let alone := peer &&& ~~~s.saf.fab.latchMask
  let s := s.matrix 9 (alone != 0) 0x4822 (both s.saf.fab.latchMask.toNat peer.toNat)
  s.modSaf fun t => { t with peerMask := peer }

/-- The difference of the PTP views in ns, twin less own, none where a member has no master (09 R259). -/
def State.ptpViews (h : Heartbeat) (s : State) : Option Int :=
  let none_ : BitVec 64 := 0x8000000000000000
  if h.ptpView == none_ || s.ptp.view == none_ then none else some (h.ptpView.toInt - s.ptp.view.toInt)

/-! ### Fencing (09 R250 to R252) -/

/-- FENCE_OUT asserted (09 R251). -/
def State.fenceAssert (s : State) : State :=
  ((s.modTwin fun w => { w with fenceOut := true, fenceWait := false, fenceBoot := (w.peer.map (·.bootCount)).getD 0 }).bump 0x200104).send .line 0 "FENCE" [1]

/-- Both channels have concluded on R250 and asserted their fence halves; member 1 waits 2 us (09 R251). -/
def State.fenceStart (s : State) : State :=
  if s.twin.fenceIn || s.twin.fenceOut || s.twin.fenceWait || s.saf.a.failed || s.saf.b.failed then s
  else
    let s := s.modTwin fun w => { w with failDetected := true, fenceHalfA := true, fenceHalfB := true }
    if s.ident.member then s.modTwin fun w => { w with fenceWait := true } else s.fenceAssert

/-- FENCE_WAIT_END (09 R251): member 1's FENCE_IN is still inactive, or member 0 came first. -/
def execFenceWaitEnd (s : State) : Host.Outcome State Fault Refusal :=
  .next <|
    if !s.twin.fenceWait then s
    else if s.twin.fenceIn then s.modTwin fun w => { w with fenceWait := false, fenceHalfA := false, fenceHalfB := false } else s.fenceAssert

/-- The failed condition of an unsynced takeover, 0 none (09 R256). -/
def State.unsyncedCode (s : State) : Nat :=
  match s.twin.peer with
  | none => 1
  | some h => firstCode [(h.cfgDigest != s.cfgDigest16, 1), (!s.versionsOk h, 2)]

/-- FENCE_CONFIRMED (09 R251, R253, R256): the takeover may follow, or nothing is claimed. -/
def execFenceConfirmed (s : State) : Host.Outcome State Fault Refusal :=
  .next <|
    if !s.twin.fenceOut || s.twin.fenceConf then s
    else
      let s := (s.modTwin fun w => { w with fenceConf := true }).emit 0xC91E 0x040 []
      match s.twin.role with
      | .standby => s.modTwin fun w => { w with takeover := true }
      | .unsynced =>
        let c := s.unsyncedCode
        if c = 0 then s.modTwin fun w => { w with takeoverUnsynced := true } else s.emit 0xC920 0x040 (ints [c])
      | _ => s

/-- FENCE_UNCONFIRMED (09 R251): the member takes nothing. -/
def execFenceUnconfirmed (s : State) : Host.Outcome State Fault Refusal :=
  .next <| if s.twin.fenceOut && !s.twin.fenceConf then ((s.modTwin fun w => { w with failDetected := false }).emit 0x891A 0x040 []).desync 0x891A else s

/-- A good heartbeat taken (09 R237, R250, R261). -/
def State.takeHeartbeat (tsc : Nat) (h : Heartbeat) (s : State) : State :=
  let s := (s.modTwin fun w => { w with peer := some h, hbTsc := tsc, hbOk := true, peerHbSince := some (w.peerHbSince.getD s.clk.upNs), silent := false }).formTrack.matrixEnd 11
  let s := s.heartbeatRows h
  let d := s.ptpViews h
  let far := ((d.map fun v => decide (v.natAbs > 1000)).getD false)
  let s := s.modTwin fun w => { w with ptpDiff := (d.map (satInt 32)).getD 0, ptpSince := if far then some (w.ptpSince.getD s.clk.upNs) else none, ptpLost := w.ptpLost && far }
  let bad := !bit h.flags.toNat 0 || !bit h.flags.toNat 1 || bit h.flags.toNat 8
  s.when (s.twin.role == .active && (h.role == .standby || h.role == .unsynced) && bad) State.fenceStart

/-- Silence judged against the line: the ACTIVE member's twin has failed where the line is low; with the line high or OPEN only the link is lost. The
record carries the own role and the last one heard, 7 where none has been, with their stamps (09 R250, Table 9.9). -/
def State.judgeSilence (s : State) : State :=
  let w := s.twin
  let lost := ints [w.role.code, s.now, (w.peer.map fun h => h.role.code).getD 7, w.hbTsc]
  if !w.silent || w.role == .alone || w.role == .fenced then s
  else if w.activeIn == .low then s.when (w.role == .active) State.fenceStart
  else (s.matrixRow 11 0x4917 lost).desync 0x4917

/-- HEARTBEAT_TIMEOUT (09 R250): silence for 40 us, judged against the line. -/
def execHeartbeatTimeout (s : State) : Host.Outcome State Fault Refusal :=
  .next (s.modTwin fun w => { w with hbOk := false, silent := true, peerHbSince := none }).formTrack.judgeSilence

/-! ### Leases (09 R240 to R242) -/

/-- The higher of two epochs. -/
def maxBv (a b : BitVec 32) : BitVec 32 := if a < b then b else a

/-- A lease of Table 9.3. -/
def Twin.lease (l : LeaseId) (w : Twin) : Lease :=
  match l with
  | .str n => w.str[n]
  | .ring n => w.ring[n]
  | .pack n k => (w.pack[n.val * 24 + k.val]?).getD w.hist
  | .hist => w.hist

/-- One lease changed. -/
def Twin.modLease (l : LeaseId) (f : Lease → Lease) (w : Twin) : Twin :=
  match l with
  | .str n => { w with str := Vec.upd w.str n f }
  | .ring n => { w with ring := Vec.upd w.ring n f }
  | .pack n k => { w with pack := Vector.ofFn fun i => if i.val = n.val * 24 + k.val then f w.pack[i] else w.pack[i] }
  | .hist => { w with hist := f w.hist }

/-- The key of a lease's epoch in the journal (09 R240). -/
def LeaseId.key : LeaseId → Nat
  | .str n => n
  | .ring n => 8 + n
  | .hist => 16
  | .pack n k => 32 + n * 24 + k

/-- Every lease. -/
def LeaseId.all : List LeaseId :=
  strings.map LeaseId.str ++ strings.map LeaseId.ring ++ [.hist] ++ (strings.map fun n => (List.finRange 24).map fun k => LeaseId.pack n k).flatten

/-- Every lease of the member changed. -/
def Twin.modLeases (f : Lease → Lease) (w : Twin) : Twin := { w with str := w.str.map f, ring := w.ring.map f, pack := w.pack.map f, hist := f w.hist }

/-- One lease claimed: its epoch one above the highest known, journaled with the claim (09 R240). -/
def State.claim (l : LeaseId) (s : State) : State :=
  let old := maxBv (s.twin.lease l).epoch (Sparse.get s.jrn.epochs l.key 0)
  let s := s.modJrn fun j => { j with epochs := Sparse.put j.epochs l.key (old + 1) }
  s.modTwin (Twin.modLease l fun x => { x with held := true, peer := false, epoch := old + 1, everHeld := true, released := false, expiry := s.clk.upNs + 100000 })

/-- May a lease be claimed by its own view: 20 us past its expiry, released, or never held since the reset (09 R242). -/
def State.leaseFree (l : LeaseId) (s : State) : Bool :=
  let x := s.twin.lease l
  !x.held && (x.released || !x.everHeld || s.clk.upNs ≥ x.expiry + 20000)

/-- A lease that the twin is seen to hold or renew, under its epoch (09 R241, R242). -/
def State.peerLease (l : LeaseId) (epoch : BitVec 32) (s : State) : State :=
  s.modTwin (Twin.modLease l fun x => { x with peer := true, everHeld := true, released := false, epoch := maxBv x.epoch epoch, expiry := s.clk.upNs + 100000 })

/-- LEASE_TICK (09 R240, R241, R259; 10 R286): TIME goes to the twin; the holder renews its RING, PACK and HISTORY leases, unless it has found a fault
in itself or is zeroised, and tells their epochs (log 130). -/
def execLeaseTick (s : State) : Host.Outcome State Fault Refusal :=
  .next <|
    let s := s.when (s.twin.role != .alone) fun s => (s.twinFrame (.time (BitVec.ofNat 32 s.twin.timeIn)) "TIME" 0x0A (leBytes 4 s.twin.timeIn)).modTwin fun w => { w with timeOut := s.now }
    if s.twin.selfFault || s.trust.keysErased then s
    else
      let on (x : Lease) : Lease := if x.held then { x with expiry := s.clk.upNs + 100000 } else x
      let s := s.modTwin fun w => { w with ring := w.ring.map on, pack := w.pack.map on, hist := on w.hist }
      let own := LeaseId.all.filter fun l => (match l with | .str _ => false | _ => true) && (s.twin.lease l).held
      s.when (!own.isEmpty) (State.twinRecord (.renew (own.map fun l => (l, (s.twin.lease l).epoch))) "RENEW")

/-! ### The hold-up of the outputs (09 R243) -/

/-- OUTPUT_HOLD_EXPIRY (09 R243, R252): 5 ms to 10 ms with both lines low: the coils drop, PCS_TRIP opens, the outputs are released. A fenced member's
contacts stay at their bypass. -/
def execOutputHoldExpiry (s : State) : Host.Outcome State Fault Refusal :=
  .next <|
    if !s.twin.hold then s
    else
      let s := (s.modTwin fun w => { w with hold := false }).modIo (Io.follow false true)
      (State.forEach (strings.filter fun n => s.str[n].drives != 0) (fun n => State.driveCoils n 0) s).when (!s.twin.fenceIn) State.pcsOpen

/-- LEASE_EXPIRY (09 R241): the resource is no longer used; the latest expiry drops ACTIVE_OUT. A twin's lease is seen to end. -/
def execLeaseExpiry (l : LeaseId) (s : State) : Host.Outcome State Fault Refusal :=
  .next <|
    let x := s.twin.lease l
    if x.held then
      let s := s.modTwin (Twin.modLease l fun x => { x with held := false })
      let s := match l with
        | .ring n => s.loseRing n
        | .hist => s.modHist fun h => { h with state := .notWriter }
        | _ => s
      let none_ := !(LeaseId.all.any fun m => (s.twin.lease m).held)
      s.when (none_ && s.twin.activeOut) (State.setActive false)
    else if x.peer then s.modTwin (Twin.modLease l fun x => { x with peer := false, expiry := s.clk.upNs })
    else s

/-- A new holder of a RING lease takes its Ring as it finds it (09 R255); its tracking begins anew (04 R104, R105). -/
def State.takeRing (n : Fin 8) (s : State) : State :=
  let rep := ((s.twin.peer.map fun h => bit h.repeating.toNat n).getD false)
  let s := s.modRing n fun r => { r with nodes := Vec.updAll r.nodes fun _ e => { e with ctrSync := e.enumerated } }
  if s.ring[n].enumRun.isSome then s.enumFail n 0x020C 0
  else if !(s.topo n).declared || s.str[n].state == .disabled || !((s.topo n).nodes.all fun k => s.ring[n].nodes[k].enumerated) then s
  else if rep then (s.modRing n fun r => { r with mode := .closed, both := false, pos := 0xFF }).modSense n fun c => { c with sumNow := 0, cntNow := 0 }
  else (((s.modRing n fun r => { r with mode := .split, both := true, pos := 0 }).modSense n RingSense.enterSplit).bump (Reg.ring n 0x040)).emit 0x4210 (Src.ring n) [0]

/-- The sets since the last state copy go to history, marked SWITCHOVER, but for one that the twin's copies already hold (07 R197; log 96). -/
def State.gapRecords (s : State) : State :=
  let new := s.twin.gapHist.filter fun g => !(s.hist.nv.ring.any fun r => r.kind == 0x10 && r.tsc == g.1)
  let put (g : Nat × Nat × List Byte) (s : State) : State :=
    let r := s.admitAt 0x10 0x060 g.1 g.2.1 g.2.2
    r.2.modHist fun h => { h with nv := { h.nv with base := [] } }
  (State.forEach new put s).modTwin fun w => { w with gapHist := [] }

/-- The NVMe reservation of one copy taken from the twin with Preempt and Abort, naming its key (11 R293). -/
def State.preempt (copyB : Bool) (s : State) : State :=
  if (s.hist.copy copyB).state == .absent then s
  else
    ((s.modHist (Hist.modCopy copyB fun c => { c with reserved := true })).bump 0x280110).send .shelf (b2n copyB) "PREEMPT_ABORT"
      (ints [Hist.shelfKey s.ident.serial.toNat, Hist.shelfKey s.img.cfg.pair.twinSerial])

/-- The writer's place taken at a takeover: the reservation preempted, then the resumption (09 R253, 11 R308). -/
def State.takeHistory (s : State) : State := (((s.preempt false).preempt true).resumeHistory true).gapRecords

/-! ### Takeover (09 R253 to R256) -/

/-- SEQ of the frame before the first: the copied SEQ advanced by the boundaries elapsed since the copied frame; the first frame, at the
next boundary, adds one, and is never more than 12 ahead (09 R254). -/
def CtlRecord.nextSeq (now : Nat) (c : CtlRecord) : BitVec 8 :=
  let p := max 1 c.period.toNat
  c.seq + BitVec.ofNat 8 (min 11 ((now - c.tsc) * 64 / 5 / p))

/-- A point marked incomplete for every cell (04 R121). -/
def Sweep.spoil (w : Sweep) (p : Nat) : Sweep := w.modPoint p fun r => { r with done := true, clipped := false, cells := [] }

/-- The copied sweep goes on in the new holder, with the holder's own settings (04 R121): each point in progress or with results still
due is incomplete for every cell and is measured once more, and the perturbation of the one in progress stops (R115). How long the sensors have agreed is
this member's own finding. -/
def Sweep.takenOver (c own : Sweep) : Sweep :=
  let open_ := if c.running.isNone || c.startNext then [] else (c.ackDue.toList ++ (if c.phase == .waitStart then [] else [c.point])).eraseDups
  let w := open_.foldl Sweep.spoil c
  { w with regCfg := own.regCfg, regFreq := own.regFreq, regTpt := own.regTpt, phase := .waitStart, ackDue := none, startCycle := 0, accFrom := 0, lastCycle := 0, tpUp := 0, accN := 0, agreeSince := own.agreeSince, redoList := if w.redoPass then open_ ++ w.redoList else w.redoList }

/-- A stop past its ramp: the frames carry ENABLE = 0 (05 R144, R154). -/
def OpenStep.past : OpenStep → Bool
  | .none | .rampDown => false
  | .lowCurrent | .kNegDelay | .waitAux | .tripWait => true

/-- A string engine and its controllers continued from the control copy; drives that the copy shows energised stay at their
economiser duty (09 R243, R253, R254; 04 R121). -/
def State.resumeString (n : Fin 8) (s : State) : State :=
  let c := s.twin.ctl[n]
  let s := s.modStr n fun e => { e with state := c.state, loop := { c.loop with seq := c.nextSeq s.now }, duty := c.duty, dutyOut := c.duty, period := c.period, syncIvals := if (s.topo n).sync then List.replicate 16 c.pAvg else [], coastRun := c.coastRun, relockRun := c.relockRun, setpoint := c.setpoint, busMode := c.busMode, drives := c.drives, pullin := 0, prech := c.prech, opening := c.opening, target := c.target, lowEnable := c.opening.past, synced := c.synced, syncLost := c.syncLost, adopt := false, gd := Vec.updAll e.gd fun p g => { g with filt := c.filt[p] } }
  let s := (s.modRc n fun r => { r with theta := c.theta, freq := c.rcFreq }).modSweep n fun w => c.sweep.takenOver w
  let s := s.when (c.drives != 0 && s.enablesAgree) (State.coilHalves n true)
  let dem := bit s.saf.a.faultDem.toNat n || bit s.saf.b.faultDem.toNat n || bit s.saf.a.shedDem.toNat n || bit s.saf.b.shedDem.toNat n
  s.when (c.state.running && !c.opening.past && !dem && s.enablesAgree) (State.pwmHalves n true)

/-- The analogue and discrete outputs of each string's share set from its control copy: one current, one discrete output
(09 R243, Table 9.5). -/
def Io.ofCopies (ctl : Vector CtlRecord 8) (i : Io) : Io :=
  let ao := Vec.updAll i.ao fun n o => match ctl[n].aoDo with | v :: _ => { o with cmd := v } | [] => o
  let dout := strings.foldl (fun d n => match ctl[n].aoDo with | _ :: v :: _ => setBit d n (v ≠ 0) | _ => d) i.dout
  { i with ao := ao, dout := dout }

/-- A new active member's CAN ports: empty queues and buffers, error counters and the reference cycle count at 0 (13 R343). -/
def CanPort.fresh (c : CanPort) : CanPort :=
  { c with err := .active, autoWait := false, tec := 0, recv := 0, txq := [], bufs := Vector.replicate 3 {}, nextBuf := 0, loads := 0, txRun := false, cycleCount := 0, refStamp := 0 }

/-- The housekeeping bus cleared on takeover (09 R253, 13 R362). -/
def State.takeoverClear (s : State) : State := (s.modHk fun h => { h with stuck := false, xact := .none }).send .housekeeping 0 "BUS_CLEAR" []

/-- The contacts of a new active member: as the copied bank state has them, closed outside OFF and FAULT unless GLOBAL is set (08 R221; 09 Table
9.4; log 98). -/
def State.resumePcs (s : State) : State :=
  let b := s.bank.state
  if b == .off || b == .fault || s.saf.fab.global || !s.saf.fab.pcsOpen then s
  else (s.modSaf fun t => { t with fab := { t.fab with pcsOpen := false } }).send .line 0 "PCS_TRIP" [0]

/-- What the strings share continued from the copies: the bank, its contacts, estimation with the sets that its copy does not cover, outputs (09
R253; 07 R197). -/
def State.resumeCommon (s : State) : State :=
  let s := s.resumePcs.modBank fun b => { b with lead := ((s.declared.head?).map fun n => s.twin.ctl[n].lead).getD b.lead }
  ((s.modIo (Io.ofCopies s.twin.ctl)).modEst fun e => { e with stepRun := false, stepDue := false, stepSets := [], sets := s.twin.gapSets }).modTwin fun w => { w with gapSets := [] }

/-- The whole state continued from the copies (09 R257). -/
def State.resumeCopies (s : State) : State := (State.forEach s.declared State.resumeString s).resumeCommon

/-- ACTIVE raised by a survivor or a new holder: the role; the learned values are written once the sets since the copy are integrated (09 R253; 07
R193, R197). -/
def State.becomeActive (cause : Nat) (s : State) : State :=
  let s := (((s.mapAllCan fun _ => CanPort.fresh).setActive true).modTwin fun w => { w with releasing := false, hand := .none, failDetected := false, selfFault := false }).roleTo .active cause
  if s.est.sets.isEmpty then s.learnTrigger 4 else s.modEst fun e => { e with learnDue := true }

/-- Words packed two to a field, the first in the low half. -/
def pairUp : List Nat → List Nat
  | a :: b :: t => (a + b * 2 ^ 32) :: pairUp t
  | l => l

/-- The epochs of every lease in the order of LeaseId.all, two to a field, as a takeover records them (log 129). -/
def State.epochs (s : State) : List Nat := pairUp (LeaseId.all.map fun l => (s.twin.lease l).epoch.toNat)

/-- Strings whose auxiliary inputs on this member report a contactor closed (09 R256). -/
def State.closedStrings (s : State) : List (Fin 8) := strings.filter fun n => s.str[n].aux != 0

/-- The start of an unsynced takeover (09 R256): no enable half; strings with a closed contactor to FAULT, their coils driven and then opened
under the trip rule; BANK FAULT; estimation from the own journal as at start (07 R184). -/
def State.startUnsynced (s : State) : State :=
  let l := s.closedStrings
  let one (n : Fin 8) (s : State) : State :=
    let s := (s.modStr n fun e => { e with drives := e.aux, pullin := 0 }).when s.enablesAgree (State.coilHalves n true)
    ((s.noteCause n 0xC920).strTo n .fault 0xC920).tripOpen n
  let s := (s.modEst fun e => { e with stepRun := false, stepDue := false, stepSets := [], sets := [] }).bootCells
  let s := s.takeoverClear.becomeActive 0xC91E
  let s := (State.forEach l one s).withOutputs fun s => s.modSaf fun t => { t with a := { t.a with pwm := 0 }, b := { t.b with pwm := 0 } }
  (((s.lapseAll.pcsOpen).modBank fun b => { b with faultCauses := [0xC920] }).bankTo .fault 0xC920).modTwin fun w => { w with unsyncedStrs := BitVec.ofNat 8 (maskOf (strings.map (· ∈ l))) }

/-- A STRING lease claimed in a takeover: the first claim raises ACTIVE with what the strings share; the string goes on from its own copy (09 R253,
R254). -/
def State.takeString (n : Fin 8) (s : State) : State :=
  let first := s.twin.role != .active
  if s.twin.takeover then (s.when first fun s => s.takeoverClear.resumeCommon.becomeActive 0xC91E).when (n ∈ s.declared) (State.resumeString n)
  else s.when (s.twin.takeoverUnsynced && first) State.startUnsynced

/-- What claiming a lease brings with it (09 R253, R255, R256). -/
def State.claimed (l : LeaseId) (s : State) : State :=
  match l with
  | .str n => s.takeString n
  | .ring n => s.takeRing n
  | .hist => s.takeHistory
  | .pack .. => s

/-- The takeover is done once every lease is claimed: recorded with the epochs, and with the strings taken to FAULT where it was unsynced (09 R253,
R256). -/
def State.takeoverDone (s : State) : State :=
  let w := s.twin
  if !(w.takeover || w.takeoverUnsynced) || LeaseId.all.any (fun l => !(w.lease l).held) then s
  else
    let s := (s.modTwin fun w => { w with takeover := false, takeoverUnsynced := false }).bump 0x200100
    if w.takeover then s.emit 0x0912 0x040 (ints s.epochs) else s.emit 0xC920 0x040 (ints (s.epochs ++ (stringsOf w.unsyncedStrs).map (·.val)))

/-- LEASE_CLAIM (09 R242, R253, R256): the guard has passed, ACTIVE_IN is low, the holder is fenced and the fence confirmed. -/
def execLeaseClaim (l : LeaseId) (s : State) : Host.Outcome State Fault Refusal :=
  .next <|
    let w := s.twin
    let may := w.fenceConf && (w.takeover || w.takeoverUnsynced || w.role == .active)
    if !(may && s.leaseFree l && w.activeIn == .low) then s else ((s.claim l).claimed l).takeoverDone

/-- Every lease claimed in one step (09 R239, R242, R257). -/
def State.claimAll (s : State) : State := State.forEach LeaseId.all (fun l s => (s.claim l)) s

/-- The standby takes what RELEASE named, on the first ACTIVE_IN low that follows it (09 R242, R257). -/
def State.takeReleased (s : State) : State :=
  let free := LeaseId.all.filter fun l => (s.twin.lease l).released
  let s := State.forEach free State.claim s
  let s := State.forEach (strings.filter fun n => s.twin.ring[n].held) State.takeRing s
  ((s.when s.twin.hist.held State.takeHistory).resumeCopies).becomeActive 0

/-- ACTIVE_IN_CHANGE (09 R236, R250, R257): a fall to low without RELEASING is a failure of the ACTIVE twin, an OPEN line one that may have been
active; a silence that stands is judged against the line as it now is. -/
def execActiveInChange (v : Line3) (s : State) : Host.Outcome State Fault Refusal :=
  .next <|
    let old := s.twin.activeIn
    let s := (s.modTwin fun w => { w with activeIn := v }).formTrack.followLines.judgeSilence
    let follows := s.twin.role == .standby || s.twin.role == .unsynced
    let was := old == .high || (old == .floating && (s.twin.peer.map fun h => h.role == .active).getD false)
    let rel := (s.twin.peer.map fun h => bit h.flags.toNat 7).getD false
    if v != .low || !follows then s
    else if s.twin.hand == .released && s.twin.role == .standby then s.takeReleased
    else if was && !rel then s.fenceStart
    else s

/-- May a member in STANDBY_UNSYNCED form the pair: the conditions have held for FORM_WAIT, plus 1 s for member 1 (09 R239). -/
def State.mayForm (s : State) : Bool :=
  let w := s.twin
  let wait := s.img.cfg.pair.formWaitMs * 1000000 + (if s.ident.member then 1000000000 else 0)
  w.role == .unsynced && s.formHolds && 3 ∉ w.disagree && ((w.formSince.map fun t => decide (s.since t ≥ wait)).getD false)

/-- PAIR_FORMATION (09 R239, R242, R255): the member raises ACTIVE and claims every lease in one step; member 1 drops its line where both raise. -/
def execPairFormation (contend : Bool) (s : State) : Host.Outcome State Fault Refusal :=
  .next <|
    if !s.mayForm then s
    else if contend && s.ident.member then (s.matrixRow 5 0x891D (ints [b2n s.ident.member, s.now, b2n !s.ident.member, s.now])).matrixEnd 5
    else
      let s := State.forEach strings State.takeRing (s.claimAll.reserveShelf.resumeHistory false)
      ((s.mapAllCan fun _ => CanPort.fresh).setActive true).roleTo .active 0

/-! ### State copies (09 R246 to R249) -/

/-- A lease held by this member for which a frame carries a higher epoch yields at once (09 R242). -/
def State.yieldTo (l : LeaseId) (epoch : BitVec 32) (tsc : Nat) (s : State) : State :=
  let row := ints [l.key, (s.twin.lease l).epoch.toNat, s.now, epoch.toNat, tsc]
  let s := s.modTwin (Twin.modLease l fun x => { x with held := false, peer := true, epoch := epoch })
  let s := match l with
    | .ring n => s.loseRing n
    | .hist => s.modHist fun h => { h with state := .notWriter }
    | _ => s
  (s.matrixRow 6 0x891B row).matrixEnd 6

/-- A lease that a frame names with its epoch: one held here yields to a higher epoch, any other is the twin's (09 R242). -/
def State.seeLease (tsc : Nat) (e : LeaseId × BitVec 32) (s : State) : State :=
  let x := s.twin.lease e.1
  if !x.held then s.peerLease e.1 e.2 else if e.2 > x.epoch then s.yieldTo e.1 e.2 tsc else s

/-- A step of Table 9.8 reached: the attempt is at the latest that has been shown (09 R260; log 128). -/
def State.resyncAt (stp : ResyncStep) (s : State) : State :=
  s.when (s.twin.resync != .idle && decide (s.twin.resync.code < stp.code)) fun s => s.modTwin fun w => { w with resync := stp }

/-- One chunk of a repetitive-controller memory: its generation is applied once all 16 of its chunks have arrived, with the f_g at which
it was learned; a chunk of another generation begins anew (06 R164; 09 R246). -/
def RcCtl.takeChunk (c : CtlRecord) (r : RcCtl) : RcCtl :=
  if c.gen = r.genNo then r
  else
    let base := if c.gen = r.genCopyNo then r.genCopy else []
    let all := (c.cells.zipIdx).foldl (fun l e => Sparse.put l (c.chunk * 64 + e.2) e.1) base
    if all.length ≥ 1024 then { r with mem := all.filter (fun e => e.2 ≠ 0), memFreq := c.memFreq, genCopy := [], genNo := c.gen, genCopyNo := c.gen }
    else { r with genCopy := all, genCopyNo := c.gen }

/-- CONTROL_RECORD_RECEIVED (09 R246). -/
def execControlRecordReceived (f : TwinFrame) (n : Fin 8) (c : CtlRecord) (s : State) : Host.Outcome State Fault Refusal :=
  .next <| s.withFrame f fun s =>
    let s := s.seeLease f.tsc (.str n, c.epoch)
    if !s.twin.str[n].held && (s.twin.role == .standby || s.twin.resync != .idle) then
      let s := s.modTwin fun w => { w with ctl := Vec.upd w.ctl n (fun _ => c), ctlMiss := Vec.upd w.ctlMiss n fun _ => 0 }
      (s.modRc n (RcCtl.takeChunk c)).resyncAt .control
    else s

/-- The standby's quadrature counts compared with the copy: more than 2 apart for 10 consecutive bank cycles is a DISAGREE (14 R373). -/
def State.compareCounts (l : List (BitVec 32)) (s : State) : State :=
  let one (i : Fin 8) (s : State) : State :=
    match l[i.val]? with
    | none => s
    | some v =>
      let q := s.io.qin[i]
      let d := (q.count - v).toInt.natAbs
      let run := if d > 2 then min 11 (q.diffRun + 1) else 0
      let s := s.modIo fun io => { io with qin := Vec.upd io.qin i fun q => { q with diffRun := run } }
      s.when (run = 10) (State.emit 0x4822 0x0C8 (ints [i, q.count.toNat, v.toNat]))
  State.forEach strings one s

/-- The tag and the number of a copied command kept for its identity (06 R168). -/
def Journal.tagOf (j : Journal) (d : DispEntry) : Journal := j.modIdent d.ident fun h => { h with tag := d.body.tag, seq := d.seq }

/-- The journal with the dispatch state of a record: the commands with their statuses, the numbers, and of the copies that came ahead of their
acknowledgement those that still await it; a refused one is gone. The tags are the record's, advanced by those of the copies kept, so that
each of them runs once, sent again or not (06 R168, R170; log 88). -/
def Journal.ofRecord (e : EstRecord) (j : Journal) : Journal :=
  let open_ := j.disp.filter fun d => (d.seq ∈ e.wait || decide (d.seq ≥ e.nextSeq)) && !(e.disp.any fun x => x.seq == d.seq)
  let j := { j with idents := j.idents.map fun h => { h with tag := 0, seq := 0 } }
  let j := e.idents.foldl (fun j i => j.modIdent i.ident fun h => { h with tag := i.tag, seq := i.seq }) j
  let j := open_.foldl Journal.tagOf j
  { j with disp := e.disp ++ open_, nextSeq := max j.nextSeq e.nextSeq, accSeq := e.accSeq, doneSeq := e.doneSeq }

/-- ESTIMATION_RECORD_RECEIVED (09 R247, 06 R170; 07 R197; 10 R274): applied only once it is complete. -/
def execEstimationRecordReceived (f : TwinFrame) (e : EstRecord) (s : State) : Host.Outcome State Fault Refusal :=
  .next <| s.withFrame f fun s =>
    if !(s.twin.role == .standby || s.twin.resync != .idle) || !e.complete then s
    else
      let s := (s.modTwin fun w => { w with estMiss := 0, gapSets := w.gapSets.filter (fun g => g.cycle > e.upTo), gapHist := [] }).resyncAt .estimation
      let s := s.modEst fun x => { x with cells := e.merge s.img.cfg.model x.cells, strs := e.strs, upTo := e.upTo }
      let enters := e.state != s.bank.state && (e.state == .off || e.state == .stop)
      let s := s.modBank fun b => { b with state := e.state, inForce := e.inForce, target := e.target, mode := (e.inForce.map fun d => d.body.busMode).getD false }
      let s := s.modJrn (Journal.ofRecord e)
      ((s.when enters State.adoptProfile).compareCounts e.counts).tokenTold e.t0 e.tokenCtr

/-- STANDBY_DESYNC (09 R248): 50 boundaries of a running string without a control record, or 3 bank cycles without a record. -/
def execStandbyDesync (s : State) : Host.Outcome State Fault Refusal :=
  .next (if s.twin.ctlMiss.toList.any (fun k => k ≥ 50) || s.twin.estMiss ≥ 3 then s.desync 0 else s)

/-- Is the pair formed: one member ACTIVE, the other STANDBY, heard; none forms with an equal member index or a version out of range (09 R249,
R261). -/
def State.isFormed (s : State) : Bool :=
  let peer (r : Role) : Bool := s.twin.hbOk && (s.twin.peer.map fun h => h.role == r && h.member != s.ident.member && s.versionsOk h).getD false
  (s.twin.role == .active && peer .standby) || (s.twin.role == .standby && peer .active)

/-- Work whose confirmation was outstanding when the pair stopped being formed is refused (09 R249). -/
def State.refuseOutstanding (s : State) : State :=
  let jw (w : JWait) (s : State) : State := (s.refuseReq { session := w.session, msg := w.msgId } 0x0609).bump 0x200114
  let s := State.forEach (s.bank.wait.filter fun w => !w.alone && !w.confirmed) State.dispTimeout s
  let s := State.dispRelease s.bank.wait.length s
  let s := State.forEach strings State.peerGone (State.forEach (s.host.jwait.filter fun w => !w.alone) jw s)
  let s := State.forEach s.hist.twinWait State.refuseCopy s
  let s := State.forEach s.ffr.mirroring (fun _ s => s.bump 0x2C0114) s
  ((s.modHost fun h => { h with jwait := h.jwait.filter (·.alone) }).modHist fun h => { h with twinWait := [] }).modFfr fun f => { f with mirroring := [] }

/-- The change of formed and SOLO at a T0 (09 R249), the count of cycles with differing configurations (09 R261), and the standby's
count of cycles without an estimation record (09 R248). -/
def State.pairT0 (s : State) : State :=
  if s.twin.role == .alone then s
  else
    let now := s.isFormed
    let s := s.when (s.twin.formed && !now) State.refuseOutstanding
    let s := s.when (!s.twin.formed && now) State.certTwin
    let diff := (s.twin.peer.map fun h => h.cfgDigest != s.cfgDigest16).getD false
    s.modTwin fun w => { w with formed := now, solo := w.role == .active && !now, cfgDiffRun := if diff then min 2 (w.cfgDiffRun + 1) else 0, estMiss := if w.role == .standby then min 3 (w.estMiss + 1) else 0 }

/-! ### Commanded switchover (09 R257) and UNFENCE (09 R258) -/

/-- TWIN_RESULT (09 Table 9.13). -/
def State.twinResult (c detail : Nat) (s : State) : State := s.modTwin fun w => { w with resCode := BitVec.ofNat 16 c, resDetail := BitVec.ofNat 16 detail }

/-- A write of TWIN_CMD: an unpaired module refuses it (09 Table 9.13). -/
def Twin.cmd (check : Session → State → Nat × Nat) (effect : State → State) : Write := fun x s =>
  let c := if !s.img.cfg.paired then (0x0904, 0) else check x s
  if c.1 = 0 then (0, effect (s.twinResult 0 0)) else (c.1, s.twinResult c.1 c.2)

/-- May the ACTIVE member hand over: formed, the bank in OFF, STANDBY, RUN, HOLD or STOP, no step pending (09 R257). -/
def State.mayHandOver (s : State) : Bool :=
  let b := s.bank.state
  s.twin.formed && (b == .off || b == .standby || b.flowing || b == .stop) && s.img.pend.isNone

/-- SWITCHOVER. -/
def Twin.switchoverCmd : Write :=
  Twin.cmd (fun _ s => (firstCode [(s.twin.role != .active, 0x0901), (!s.mayHandOver, 0x0902)], 0)) fun s => s.modTwin fun w => { w with hand := .commanded, handCycle := s.cycle + 2 }

/-- SWITCHOVER (09 R257): the handover runs in the bank cycle that begins at the second T0. -/
def execSwitchover (q : Req) (s : State) : Host.Outcome State Fault Refusal := .next (s.hostWrite q Twin.switchoverCmd)

/-- The T0 at which the handover begins: RELEASING is set (09 R257). -/
def State.handT0 (s : State) : State := s.when (s.twin.hand == .commanded && s.twin.role == .active && !s.twin.selfFault && s.cycle ≥ s.twin.handCycle) fun s => s.modTwin fun w => { w with hand := .running, releasing := true }

/-- SWITCHOVER_RELEASE (09 R257): at 990 us every lease held is released by name, ACTIVE_OUT falls, the member becomes STANDBY. -/
def execSwitchoverRelease (s : State) : Host.Outcome State Fault Refusal :=
  .next <|
    if s.twin.hand != .running || s.twin.role != .active || s.twin.selfFault then s
    else
      let s := s.atCycle 990000
      let named := LeaseId.all.filter fun l => (s.twin.lease l).held
      let s := (s.modTwin fun w => (w.modLeases fun x => { x with held := false, peer := x.held, released := x.held })).twinSend "RELEASE" (ints (named.map LeaseId.key))
      let s := ((s.setActive false).modTwin fun w => { w with hand := .none, releasing := false }).roleTo .standby 0
      (State.forEach strings State.loseRing s).modHist fun h => { h with state := .notWriter }

/-- RELEASE_RECEIVED (09 R257): the named leases are free for the standby, which claims them on ACTIVE_IN low. -/
def execReleaseReceived (f : TwinFrame) (leases : List LeaseId) (s : State) : Host.Outcome State Fault Refusal :=
  .next <| s.withFrame f fun s =>
    if s.twin.role != .standby then s
    else
      let s := (State.forEach leases (fun l s => s.modTwin (Twin.modLease l fun x => { x with peer := false, released := true })) s).modTwin fun w => { w with hand := .released }
      s.when (s.twin.activeIn == .low) State.takeReleased

/-- The refusals of UNFENCE (09 R258): only where FENCE_OUT is asserted, only with the service role, only once the twin has reset. -/
def State.unfenceCode (x : Session) (s : State) : Nat :=
  let w := s.twin
  let reset := (w.peer.map fun h => decide (h.bootCount.toNat > w.fenceBoot.toNat)).getD false && (w.peerHbSince.map fun t => decide (s.since t ≥ 1000000000)).getD false
  firstCode [(!w.fenceOut && w.role != .active, 0x0901), (!w.fenceOut, 0x0902), (s.roleOf x != .service, 0x0905), (!reset, 0x0903)]

/-- UNFENCE. -/
def Twin.unfenceCmd : Write :=
  Twin.cmd (fun x s => (s.unfenceCode x, 0)) fun s => (s.modTwin fun w => { w with fenceOut := false, fenceConf := false, fenceHalfA := false, fenceHalfB := false, failDetected := false }).send .line 0 "FENCE" [0]

/-- UNFENCE. -/
def execUnfence (q : Req) (s : State) : Host.Outcome State Fault Refusal := .next (s.hostWrite q Twin.unfenceCmd)

/-- FENCE_IN_ACTIVE (08 SF22, 09 R252): transmitters, ACTIVE_OUT, FENCE_OUT, housekeeping drivers, coils and PCS_TRIP are disabled in
hardware, and FENCED is recorded; a paired member becomes FENCED, one ALONE never changes role (R238). -/
def execFenceInActive (s : State) : Host.Outcome State Fault Refusal :=
  .next <|
    let s := (s.withOutputs fun s => s.modTwin fun w => { w with fenceIn := true }).formTrack
    if s.twin.role == .alone then s.emit 0xC91F 0x040 []
    else if s.twin.role == .fenced then s
    else
      let s := s.modTwin fun w => { (w.modLeases fun x => { x with held := false }) with fenceOut := false, fenceConf := false, fenceWait := false, takeover := false, takeoverUnsynced := false, hand := .none, releasing := false, resync := .idle }
      let s := State.forEach strings State.loseRing (s.setActive false)
      (s.emit 0xC91F 0x040 []).roleTo .fenced 0xC91F

/-- FENCE_IN_RELEASED (09 R258): the path of a returning member begins. -/
def execFenceInReleased (s : State) : Host.Outcome State Fault Refusal :=
  .next <|
    let s := (s.withOutputs fun s => s.modTwin fun w => { w with fenceIn := false }).formTrack
    s.when (s.twin.role == .fenced) (State.roleTo .unsynced 0)

/-! ### Resync (09 R260) and time (09 R259) -/

/-- The failed condition of a resync, 1 to 4, 0 none (09 R260); with a twin of the own member index there is no twin to form with (R261; log 128). -/
def State.resyncCode (s : State) : Nat :=
  match s.twin.peer with
  | none => if s.twin.fenceIn then 1 else 2
  | some h => firstCode [(s.twin.fenceIn, 1), (h.role != .active || !s.twin.hbOk || h.member == s.ident.member, 2), (h.cfgDigest != s.cfgDigest16, 3), (!s.versionsOk h, 4)]

/-- An attempt starts: the own gate-driver sessions (10 R278), the registration at the shelf (11 R293); with TSC_VALID clear the TSC is set once from the ACTIVE member's, at a whole millisecond (01 R20, 09 R259). -/
def State.resyncStart (peerTsc : Int) (s : State) : State :=
  let s := State.forEach s.declared State.gdSessions (s.modTwin fun w => { w with resync := .time, resyncUp := s.clk.upNs })
  let s := s.send .shelf 0 "REGISTER" [Hist.shelfKey s.ident.serial.toNat]
  s.when (!s.clk.tscValid && s.clk.setReq.isNone) fun s => s.modClk fun c => { c with setReq := some { kind := .resync, value := peerTsc, atUp := c.upNs } }

/-- RESYNC. -/
def Twin.resyncCmd : Write :=
  Twin.cmd (fun _ s => if s.twin.role != .unsynced then (0x0901, 0) else if s.twin.resync != .idle then (0x0902, 0) else if s.resyncCode = 0 then (0, 0) else (0x0906, s.resyncCode))
    fun s => s.resyncStart ((s.now : Int) + s.twin.tscOfs / 4)

/-- RESYNC. -/
def execResync (q : Req) (s : State) : Host.Outcome State Fault Refusal := .next (s.hostWrite q Twin.resyncCmd)

/-- AXOLOTL_RESYNC_START (09 R260): by itself with AUTO_RESYNC, unless an attempt has failed. -/
def execAxolotlResyncStart (peerTsc : Nat) (s : State) : Host.Outcome State Fault Refusal :=
  .next <|
    if s.twin.role == .unsynced && s.twin.resync == .idle && s.img.cfg.pair.autoResync && !s.twin.resyncTried && s.resyncCode = 0 then s.resyncStart peerTsc else s

/-- An attempt ends without success: the step that failed, and where the members disagree both values with their stamps (09 R260, R261). -/
def State.resyncEnds (stp : ResyncStep) (both : List Int) (s : State) : State :=
  if s.twin.resync == .idle then s
  else ((s.modTwin fun w => { w with resync := .idle, resyncTried := true }).emit 0x8919 0x040 (ints [stp.code] ++ both)).bump 0x20011C

/-- An attempt that fails or overruns at a step. -/
def State.resyncFailed (stp : ResyncStep) (s : State) : State := s.resyncEnds stp []

/-- RESYNC_FAIL (09 R260); at the comparison it is a row of Table 9.9 too. -/
def execResyncFail (stp : ResyncStep) (s : State) : Host.Outcome State Fault Refusal :=
  .next <| let on := s.twin.resync != .idle; ((s.resyncFailed stp).when (on && stp == .compare) (State.bump 0x200110))

/-- May the ACTIVE member serve its twin's resync: the twin is heard in STANDBY_UNSYNCED and the conditions of R260 hold between the two. -/
def State.servesResync (s : State) : Bool :=
  s.twin.role == .active && !s.twin.fenceOut && s.twin.hbOk &&
    (s.twin.peer.map fun h => h.role == .unsynced && !bit h.flags.toNat 5 && h.member != s.ident.member && h.cfgDigest == s.cfgDigest16 && s.versionsOk h).getD false

/-- What the ACTIVE member sends of its state: journal, control and estimation state, memories, tables, keys, data area, and the history that its ring
still holds (09 Table 9.8; 10 R274, R278; 11 R308; 14 R373; 15 R396). -/
def State.resyncCopy (s : State) : ResyncCopy :=
  let node (n : Fin 8) : List (Nat × NodeEntry) := (List.finRange 24).map fun k => (n.val * 24 + k.val, s.ring[n].nodes[k])
  let gd (n : Fin 8) : List (Nat × Nat) := (phases.map fun p => (s.str[n].gd[p].key.map fun k => (n.val * 6 + p.val, k)).toList).flatten
  { jrn := s.jrn, cells := s.est.cells, ctl := Vec.updAll s.twin.ctl fun n _ => s.ctlRecord n, rcMem := strings.map (fun n => (n.val, s.rc[n].memFreq, s.rc[n].mem)), nodes := (strings.map node).flatten, loops := strings.map (fun n => (n.val, s.ring[n].loopEnum)), gdKeys := (strings.map gd).flatten, data := s.scan.data, scanIn := s.scan.scanIn, counts := s.io.qin.toList.map (·.count), tokenCtr := s.trust.nv.tokenCtr, hist := s.hist.nv.ring }

/-- The resync served: once the two clocks agree to 10 ns the state copy goes to the twin; it is due anew where the conditions have ended (09 R260,
Table 9.8). -/
def State.serveResync (s : State) : State :=
  if !s.servesResync then s.modTwin fun w => { w with serving := false }
  else if s.twin.serving || s.twin.tscOfs.natAbs > 40 then s
  else (s.twinRecord (.resync s.resyncCopy) "RESYNC").modTwin fun w => { w with serving := true }

/-- What the ACTIVE member sent replaces the member's own state (09 Table 9.8; 10 R274; 14 R373; 15 R396); the port of an enumerated Ring takes copies of its frames (03 R96); a gate-driver session of its own stands (10
R278; log 99). -/
def State.adoptCopy (c : ResyncCopy) (s : State) : State :=
  let own := s.jrn
  let s := s.modJrn fun _ => { c.jrn with epochs := own.epochs.foldl (fun l e => Sparse.put l e.1 (maxBv e.2 (Sparse.get c.jrn.epochs e.1 0))) c.jrn.epochs, throttleMs := own.throttleMs }
  let s := s.modTwin fun w => { w with ctl := c.ctl }
  let s := s.modEst fun e => { e with cells := c.cells }
  let s := State.forEach c.rcMem (fun m s => match strings[m.1]? with | some n => s.modRc n (fun r => { r with mem := m.2.2, memFreq := m.2.1 }) | none => s) s
  let node (m : Nat × NodeEntry) (s : State) : State :=
    match strings[m.1 / 24]?, nodeAt (m.1 % 24 + 1) with
    | some n, some k => s.modNode n k fun e => { e with enumerated := m.2.enumerated, key := m.2.key, ctr := m.2.ctr, tdlyA := m.2.dlyA, tdlyB := m.2.dlyB }
    | _, _ => s
  let s := State.forEach c.hist (fun r s => s.modHist (Hist.copied r)) (State.forEach c.nodes node s)
  let s := State.forEach c.loops (fun m s => match strings[m.1]? with | some n => s.modRing n (fun r => { r with loopEnum := m.2 }) | none => s) s
  let s := s.mapAllRing fun n r => if r.nodes.toList.any (·.enumerated) && !s.ringLease n && r.enumRun.isNone then { r with mode := .closed, both := false } else r
  let gd (m : Nat × Nat) (s : State) : State :=
    match strings[m.1 / 6]?, phases[m.1 % 6]? with
    | some n, some p => s.modGd n p fun g => if g.session || g.sess.isSome then g else { g with key := some m.2, session := true }
    | _, _ => s
  let s := ((State.forEach c.gdKeys gd s).modScan fun p => { p with data := c.data, scanIn := c.scanIn }).modTrust fun t => { t with nv := { t.nv with tokenCtr := c.tokenCtr } }
  s.modIo fun io => { io with qin := Vec.updAll io.qin fun i q => match c.counts[i.val]? with | some v => { q with count := q.count + (v - q.count), diffRun := 0 } | none => q }

/-- AXOLOTL_DONE (09 R260; 07 R197): the digests match at a T0, the learned values received are written; the member is STANDBY. Where the journals differ,
both LEARN_SEQ and instants are recorded (R261). -/
def execAxolotlDone (c : ResyncCopy) (s : State) : Host.Outcome State Fault Refusal :=
  .next <|
    if s.twin.role != .unsynced || s.twin.resync == .idle then s
    else if !c.digestOk then (s.resyncEnds .compare (ints [s.jrn.learnSeq, s.now, c.jrn.learnSeq, s.twin.timeTsc])).bump 0x200110
    else
      let s := ((s.adoptCopy c).modTwin fun w => { w with resync := .idle, resyncTried := false, estMiss := 0, ctlMiss := Vector.replicate 8 0 }).learnCopy c.jrn.learnSeq 0
      ((s.emit 0x0911 0x040 []).bump 0x200118).roleTo .standby 0x0911

/-- The offset, twin less own in 0.25 ns, from the four stamps of two frames: the own one from its leaving to its arrival at the twin, whose low half
the twin tells, and the twin's from its leaving to now (09 R259). -/
def State.twoWay (f : TwinFrame) (arrived : BitVec 32) (s : State) : Int :=
  let t2 : Int := (f.tsc : Int) - ((BitVec.ofNat 32 f.tsc - arrived).toNat : Int)
  2 * ((t2 - s.twin.timeOut) + ((f.tsc : Int) - s.now))

/-- A measured offset: watched against 10 ns; a STANDBY and a resyncing member slew, the ACTIVE member's TSC stands; beyond 1 s an attempt ends, and
within 10 ns it goes on (09 R259, R260). -/
def State.takeOffset (ofs : Int) (s : State) : State :=
  let far := ofs.natAbs > 40
  let s := s.modTwin fun w => { w with tscOfs := satInt 32 ofs, ofsSince := if far then some (w.ofsSince.getD s.clk.upNs) else none, timeLost := w.timeLost && far, timeLock := w.role == .active || !far }
  let slews := s.twin.role == .standby || (s.twin.resync != .idle && s.clk.tscValid)
  if !slews then s
  else if ofs.natAbs > 4000000000 then (if s.twin.resync != .idle then s.resyncFailed .time else s)
  else (s.modClk fun c => { c with slewRem := ofs * 2 ^ 30 }).when (!far) (State.resyncAt .journal)

/-- TIME_FRAME_RECEIVED (09 R242, R259): `arrived` is the low half of the TSC at which the own frame before it reached the twin, none having while it is
0; the twin's renewals of its tick leases come with it (log 93). -/
def execTimeFrameReceived (f : TwinFrame) (arrived : BitVec 32) (renew : List (LeaseId × BitVec 32)) (s : State) : Host.Outcome State Fault Refusal :=
  .next <| s.withFrame f fun s =>
    let s := (s.when (arrived != 0 && s.twin.timeOut != 0) fun s => s.takeOffset (s.twoWay f arrived)).modTwin fun w => { w with timeIn := s.now, timeTsc := f.tsc }
    (State.forEach renew (State.seeLease f.tsc) s).serveResync

/-- TWIN_TIME_UNLOCK (09 R261): beyond 10 ns for 1 ms, recorded once with both members' TSC and the measured offset; the standby goes on slewing. -/
def execTwinTimeUnlock (s : State) : Host.Outcome State Fault Refusal :=
  .next <|
    if !s.twin.timeLost && (s.twin.ofsSince.map fun t => decide (s.since t ≥ 1000000)).getD false
    then ((s.modTwin fun w => { w with timeLost := true, timeLock := w.role == .active }).emit 0x4918 0x090 ((ints [s.twin.timeIn, s.twin.timeIn, s.twin.timeTsc, s.twin.timeTsc]) ++ [s.twin.tscOfs])).bump 0x200110 else s

/-- TWIN_PTP_DIFF (09 R259): the views more than 1 us apart for 1 s, recorded once, nothing else. -/
def execTwinPtpDiff (s : State) : Host.Outcome State Fault Refusal :=
  .next <|
    if !s.twin.ptpLost && (s.twin.ptpSince.map fun t => decide (s.since t ≥ 1000000000)).getD false
    then ((s.modTwin fun w => { w with ptpLost := true }).emit 0x4914 0x090 (ints [s.ptp.view.toNat, s.now, (s.twin.peer.map fun h => h.ptpView.toNat).getD 0, s.twin.hbTsc])).bump 0x200110 else s

/-! ### Accepted work (00 R5, 09 R249) -/

/-- What names a copy of accepted work in its confirmation. -/
def TwinWork.key : TwinWork → List Int
  | .dispatch e => [0, e.seq]
  | .write e _ _ => [1, e.jseq]
  | .history r => [2, r.rseq]
  | .historyFreed rseq => [3, rseq]
  | .historySealed seg _ => [9, seg]
  | .archive r => [4, r.seq.toNat]
  | .learn seq _ => [5, seq]
  | .ringEnum n => [6, n]
  | .ringTables n .. => [7, n]
  | .ringMeasured n .. => [8, n]

/-- A copy of accepted work stored: the command, the journaled value, the history record, the freed point, the archive record; and what
the members tell each other of an enumeration (03 R81, R97; log 73). -/
def State.storeWork (w : TwinWork) (s : State) : State :=
  match w with
  | .dispatch e =>
    s.modJrn fun j => { (j.tagOf e) with nextSeq := max j.nextSeq (e.seq + 1), accSeq := max j.accSeq e.seq, disp := (j.disp.filter fun d => d.seq ≠ e.seq) ++ [e] }
  | .write e ident wtag =>
    if ((s.jrn.identOf ident).map fun h => h.jseq ≠ 0 && wtag ≤ h.wtag).getD false then s
    else s.modJrn fun j => { (j.modIdent ident fun h => { h with wtag := wtag, jseq := e.jseq }) with nextJseq := max j.nextJseq (e.jseq + 1), writes := (j.writes.filter fun x => x.addr ≠ e.addr) ++ [e] }
  | .history r => (s.modHist (Hist.copied r)).resyncAt .history
  | .historyFreed rseq => s.modHist (Hist.freedCopy rseq)
  | .historySealed seg link => s.modHist (Hist.sealedCopy seg link)
  | .archive r => (s.archiveAll [r]).2
  | .learn seq trig => s.learnCopy seq trig
  | .ringEnum n => s.peerEnum n
  | .ringTables n keys bcast dA dB _ => s.peerTables n keys bcast dA dB
  | .ringMeasured n code pos dA dB _ => s.peerMeasured n code pos dA dB

/-- ACCEPTED_WORK_RECEIVED (00 R5; 11 R299, R314): stored, then confirmed; an archive copy that the intake refused, and a journaled
write that the tag rule drops, are not confirmed. -/
def execAcceptedWorkReceived (f : TwinFrame) (w : TwinWork) (s : State) : Host.Outcome State Fault Refusal :=
  .next <| s.withFrame f fun s =>
    if s.twin.role == .alone then s
    else
      match w with
      | .archive r =>
        let a := s.archiveAll [r]
        if a.1 = 0 then a.2.twinSend "CONFIRM" w.key else a.2
      | .write e ident _ =>
        let s := s.storeWork w
        s.when (((s.jrn.identOf ident).map fun h => h.jseq == e.jseq).getD false) (State.twinSend "CONFIRM" w.key)
      | _ => (s.storeWork w).twinSend "CONFIRM" w.key

end Sys2Proof.Machine
end

