-- ==== Sys2Proof/Machine/Can.lean ====
section
/-! DEFINITION. The field message buses: four CAN FD ports and the housekeeping bus (spec 13). -/

namespace Sys2Proof.Machine

/-! ### Points and error items (15 R393, R394) -/

/-- An error item for the error task (15 R394). -/
def State.errItem (code src : Nat) (s : State) : State :=
  s.modScan fun c => { c with errs := c.errs ++ [{ code := code, source := src, tsc := s.now }] }

/-- A station, target or input is lost: its points take their substitutes from the next scan (15 R393). -/
def State.pointLost (key code src : Nat) (s : State) : State :=
  (s.modScan fun c => { c with lost := if key ∈ c.lost then c.lost else c.lost ++ [key] }).errItem code src

/-- It is back (15 R393). -/
def State.pointBack (key code src : Nat) (s : State) : State :=
  (s.modScan fun c => { c with lost := c.lost.filter fun k => k ≠ key }).errItem code src

/-! ### CAN ports (13 R341 to R355) -/

/-- Source number of a CAN port (01 Table 1.4). -/
def Src.can (p : Fin 4) : Nat := 0x0A0 + p
/-- Source number of a remote station (01 Table 1.4). -/
def Src.station (p : Fin 4) (i : Nat) : Nat := 0x200 + p * 0x20 + i
/-- A register of a CAN port (13 Table 13.8). -/
def Reg.can (p : Fin 4) (o : Nat) : Nat := 0x300000 + p * 0x1000 + o

/-- Section IO as the I/O blocks serve it: nothing is served once the module has quiesced, when their domains are off (16 Table 16.2). -/
def State.io_ (s : State) : IoCfg := if s.pwr.quiesced then {} else s.img.cfg.io

/-- Is a domain of the field I/O used: a channel of its group is assigned (16 Table 16.3, 103 to 125). -/
def IoCfg.used (d : Nat) (io : IoCfg) : Bool :=
  if d < 98 then false
  else if d ≤ 101 then (io.can.toList[d - 98]?.map (·.assigned)).getD false
  else if d = 102 then io.hk ≠ []
  else if d = 103 then io.ai.toList.any (·.assigned)
  else if d ≤ 107 then ((io.ai.toList.drop (4 * (d - 104))).take 4).any (·.assigned)
  else if d ≤ 115 then (io.ao.toList[d - 108]?.map (·.assigned)).getD false
  else if d = 116 then io.qin.toList.any (·.assigned)
  else if d ≤ 124 then (io.usf.toList[d - 117]?.map (·.assigned)).getD false
  else d = 125 && (io.din != 0 || io.dout.toList.any (·.assigned))

/-- Is a domain of the field I/O used in the configuration in force. -/
def State.domainUsed (d : Nat) (s : State) : Bool := s.io_.used d

/-- The port's part of IO. -/
def State.canCfg (p : Fin 4) (s : State) : CanCfg := s.io_.can[p]

/-- Bus monitoring mode: on a port that IO marks MONITOR, and while the module is neither ALONE nor drives its ACTIVE_OUT (13 R343). -/
def State.canMonitor (p : Fin 4) (s : State) : Bool := (s.canCfg p).monitor || !(s.twin.role == .alone || s.twin.activeOut)

/-- Is the port the time master's (13 R355). -/
def CanCfg.master (c : CanCfg) : Bool := c.refId.isSome

/-- Arbitration rank of a frame, lower first: a standard identifier counts shifted left by 18 bits, IDE breaks ties (13 R350). -/
def CanFrame.rank (f : CanFrame) : Nat := (if f.ide then f.ident.toNat else f.ident.toNat * 2 ^ 18) * 2 + b2n f.ide

/-- Does frame `a` come before `b` in ID order: lower rank, then earlier enqueue (13 R350). -/
def CanFrame.before (a b : CanFrame) : Bool := a.rank < b.rank || (a.rank == b.rank && a.stamp < b.stamp)

/-- The first frame of a queue in ID order, with the queue that is left (13 R350). -/
def CanFrame.firstOf : List CanFrame → Option (CanFrame × List CanFrame)
  | [] => none
  | f :: t =>
    match CanFrame.firstOf t with
    | none => some (f, [])
    | some (g, r) => if CanFrame.before g f then some (g, f :: r) else some (f, t)

/-- The buffers that carry ordinary frames: buffer 0 of the time master's port is reserved (13 R355). -/
def CanCfg.usable (c : CanCfg) : List (Fin 3) := if c.master then [1, 2] else [0, 1, 2]

/-- A buffer holding a frame. -/
def CanPort.put (b : Fin 3) (f : CanFrame) (c : CanPort) : CanPort :=
  { c with bufs := c.bufs.set b { frame := some f, order := c.loads }, loads := c.loads + 1 }

/-- ID order: free buffers loaded with the first waiting frames (13 R350). -/
def CanPort.fillById (l : List (Fin 3)) (c : CanPort) : CanPort :=
  l.foldl (fun c b =>
    if c.bufs[b].frame.isSome then c
    else match CanFrame.firstOf c.txq with
      | none => c
      | some (f, r) => CanPort.put b f { c with txq := r }) c

/-- The buffer with the lowest-ranked frame that is not in transmission (13 R350). -/
def CanPort.lowest (l : List (Fin 3)) (c : CanPort) : Option (Fin 3 × CanFrame) :=
  l.foldl (fun o b =>
    match c.bufs[b].frame, c.bufs[b].inTx, o with
    | some f, false, none => some (b, f)
    | some f, false, some (_, g) => if CanFrame.before g f then some (b, f) else o
    | _, _, _ => o) none

/-- ID order: a waiting frame that outranks a buffered one not in transmission takes its buffer; the withdrawn frame returns with its
stamp unchanged. Frames of equal rank are never reordered (13 R350). -/
def CanPort.withdraw (l : List (Fin 3)) (c : CanPort) : CanPort :=
  match CanFrame.firstOf c.txq, CanPort.lowest l c with
  | some (f, r), some (b, g) => if f.rank < g.rank then CanPort.put b f { c with txq := g :: r } else c
  | _, _ => c

/-- Buffer order: the queue feeds the buffers in turn (13 R350). -/
def CanPort.fillInTurn (l : List (Fin 3)) : Nat → CanPort → CanPort
  | 0, c => c
  | n + 1, c =>
    match c.txq, l[c.nextBuf % l.length]? with
    | f :: t, some b => if c.bufs[b].frame.isSome then c else CanPort.fillInTurn l n (CanPort.put b f { c with txq := t, nextBuf := (c.nextBuf + 1) % l.length })
    | _, _ => c

/-- Is buffer `a` sent before buffer `b` (13 R350). -/
def CanPort.ahead (idOrder : Bool) (c : CanPort) (a b : Fin 3) : Bool :=
  match c.bufs[a].frame, c.bufs[b].frame with
  | some f, some g => if idOrder then CanFrame.before f g else decide (c.bufs[a].order < c.bufs[b].order)
  | some _, none => true
  | _, _ => false

/-- The buffer that is sent next: the best rank in ID order, the first loaded in buffer order (13 R350). -/
def CanPort.nextOut (idOrder : Bool) (c : CanPort) : Option (Fin 3) :=
  let m := if c.ahead idOrder 1 0 then (1 : Fin 3) else 0
  let m := if c.ahead idOrder 2 m then (2 : Fin 3) else m
  if c.bufs[m].frame.isSome then some m else none

/-- An attempt begins where none is running (log 31). -/
def CanPort.attempt (idOrder : Bool) (c : CanPort) : CanPort :=
  if c.bufs.toList.any (·.inTx) then c
  else match c.nextOut idOrder with
    | none => c
    | some b => { c with bufs := Vec.upd c.bufs b fun x => { x with inTx := true } }

/-- Buffers loaded from the queue, and an attempt begun where the port transmits; in bus-off every buffered frame stays in its buffer
(13 R350, R353). -/
def State.canLoad (p : Fin 4) (s : State) : State :=
  let g := s.canCfg p
  let off := s.can[p].err == .busOff || s.can[p].err == .recovering
  s.modCan p fun c =>
    let c := if g.idOrder then (let c := c.fillById g.usable; if off then c else ((c.withdraw g.usable).withdraw g.usable).withdraw g.usable) else c.fillInTurn g.usable 3
    if off || s.canMonitor p then c else c.attempt g.idOrder

/-- The data field with the enqueue stamp in its place (13 R349, R23). -/
def canData (m : CanStampMode) (now : Nat) (d : List Byte) : List Byte :=
  match m with
  | .stamp8 => d.take (d.length - 8) ++ leBytes 8 now
  | .stamp4 => d.take (d.length - 4) ++ leBytes 4 (now / 1000)
  | .none => d

/-- The default stamp: STAMP8 for FD frames of 16 bytes or more, else STAMP4 (13 R349). -/
def canDefaultStamp (fd : Bool) (len : Nat) : CanStampMode := if fd && len ≥ 16 then .stamp8 else .stamp4

/-- Where IO places the stamp of a message: the default where it says nothing, and where it says NONE without FOREIGN_LAYOUT (13 R349). -/
def CanMsg.mode (m : CanMsg) : CanStampMode :=
  match m.stamp with
  | none => canDefaultStamp m.fd m.len
  | some .none => if m.foreign then .none else canDefaultStamp m.fd m.len
  | some k => k

/-- The message of IO with an identifier; one that IO does not list carries the default stamp (13 R349). -/
def CanCfg.modeOf (ide : Bool) (ident : BitVec 29) (fd : Bool) (len : Nat) (c : CanCfg) : CanStampMode :=
  ((c.map.find? fun m => m.ide == ide && m.ident == ident).map CanMsg.mode).getD (canDefaultStamp fd len)

/-- CANn_RESULT (13 Table 13.8). -/
def State.canResult (p : Fin 4) (c : Nat) (s : State) : State := s.modCan p fun x => { x with resCode := BitVec.ofNat 16 c }

/-- A frame enqueued, with its stamp from the port as a source: the refusal code, 0 where it is taken. A refusal stands in CANn_RESULT too (log
112). On a member whose ports only monitor it has no effect (01 R23, R24; 13 R348; 15 R396). -/
def State.canEnqueue (p : Fin 4) (f : CanFrame) (s : State) : Nat × State :=
  if !(s.canCfg p).assigned || !s.leads then (0, s)
  else if s.can[p].txq.length ≥ 32 then
    let first := !s.can[p].txRun
    (0x0D03, (((s.modCan p fun c => { c with txRun := true }).canResult p 0x0D03).bump (Reg.can p 0x108)).when first (State.emit 0x4D24 (Src.can p) []))
  else
    let t := s.stampOf (Src.can p)
    let f := { f with data := canData ((s.canCfg p).modeOf f.ide f.ident f.fd f.data.length) t f.data, stamp := t, remote := false }
    (0, ((s.stamped (Src.can p)).modCan p fun c => { c with txq := c.txq ++ [f], txRun := false }).canLoad p)

/-- CAN_MAP_PERIOD (13 R348): a message of the map falls due. -/
def execCanMapPeriod (p : Fin 4) (i : Nat) (data : List Byte) (s : State) : Host.Outcome State Fault Refusal :=
  .next <|
    match (s.canCfg p).map[i]? with
    | none => s
    | some m => (s.canEnqueue p { ide := m.ide, ident := m.ident, fd := m.fd, data := (data ++ List.replicate m.len 0#8).take m.len }).2

/-- The remote station that claims an identifier (13 R346, R354). -/
def CanCfg.claims (ide : Bool) (ident : BitVec 29) (c : CanCfg) : Option CanStation := c.stations.find? fun t => t.idents.any (· == (ide, ident))

/-- Does a frame match a filter (13 R346). -/
def CanFilter.hits (f : CanFrame) (x : CanFilter) : Bool := x.on && x.ide == f.ide && (f.ident &&& x.mask) == (x.ident &&& x.mask)

/-- A frame put into Q0 or Q1, or refused and counted where it is full (13 R347). -/
def State.canQueue (p : Fin 4) (q1 : Bool) (f : CanFrame) (s : State) : State :=
  let c := s.can[p]
  let q := if q1 then c.q1 else c.q0
  let run := if q1 then c.q1Run else c.q0Run
  if q.length < 32 then s.modCan p fun c => if q1 then { c with q1 := c.q1 ++ [f], q1Run := false } else { c with q0 := c.q0 ++ [f], q0Run := false }
  else
    let s := (s.modCan p fun c => if q1 then { c with q1Run := true } else { c with q0Run := true }).bump (Reg.can p (if q1 then 0x110 else 0x10C))
    s.when (!run) (State.emit 0x4D23 (Src.can p) [b2n q1])

/-- A heartbeat seen: the station is present, and back where it was lost (13 R354; 15 R393). -/
def State.heard (p : Fin 4) (f : CanFrame) (s : State) : State :=
  State.forEach ((s.canCfg p).stations.filter fun t => t.heartbeat == (f.ide, f.ident)) (fun t s =>
    let src := Src.station p t.index
    let was := s.scan.lost.contains src
    let s := s.modCan p fun c => { c with stations := setBit c.stations t.index true }
    if was then (s.pointBack src 0x0D21 src).emit 0x0D21 src [] else s) s

/-- REC after a frame received without error: one less, and from above 127 a value from 119 to 127 (13 R352: ISO 11898-1; log 32). -/
def State.recDown (p : Fin 4) (s : State) : State :=
  let r := s.can[p].recv
  if r = 0 then s
  else if r ≤ 127 then s.modCan p fun c => { c with recv := c.recv - 1 }
  else s.tick.modCan p fun c => { c with recv := 119 + s.freshNat % 9, err := if c.err == .passive && c.tec ≤ 127 then .active else c.err }

/-- CAN_FRAME_RECEIVED (13 R342, R346, R347). -/
def execCanFrameReceived (p : Fin 4) (f : CanFrame) (s : State) : Host.Outcome State Fault Refusal :=
  .next <|
    let c := s.canCfg p
    if !c.assigned then s
    else
      let s := s.recDown p
      if f.remote then s.bump (Reg.can p 0x118)
      else
        let src := ((c.claims f.ide f.ident).map fun t => Src.station p t.index).getD (Src.can p)
        let f := { f with stamp := s.stampAt src (min f.stamp s.now), source := src, isRef := false }
        let s := (s.stampedAt src f.stamp).heard p f
        match c.filters.find? (CanFilter.hits f) with
        | none => s.bump (Reg.can p 0x114)
        | some x => match x.act with
          | .q0 => s.canQueue p false f
          | .q1 => s.canQueue p true f
          | .reject => s

/-- The data bit rate of a port in b/s, from DBRP, DTSEG1 and DTSEG2 (13 R344). -/
def CanCfg.dataRate (c : CanCfg) : Nat :=
  let w := c.dbt.toNat
  80000000 / ((bits w 31 27 + 1) * (1 + (bits w 20 16 + 1) + (bits w 11 8 + 1)))

/-- The transmitter delay is measured on an FD frame while compensation is on, above 1 Mb/s; its value is open (13 R344, Table 13.8; log 3). -/
def State.canDelay (p : Fin 4) (fd : Bool) (s : State) : State :=
  if fd && (s.canCfg p).dataRate > 1000000 then s.tick.modCan p fun c => { c with tdcMeas := BitVec.ofNat 7 s.freshNat } else s

/-- CAN_TX_DONE (13 R350, R355): the frame has been sent. In buffer order a buffer is sent only after every one loaded before it. A
reference message counts, and the stamp of its start-of-frame edge is kept for the next. -/
def execCanTxDone (p : Fin 4) (b : Fin 3) (sof : Nat) (s : State) : Host.Outcome State Fault Refusal :=
  .next <|
    let g := s.canCfg p
    let c := s.can[p]
    let may := !s.canMonitor p && (c.err == .active || c.err == .passive) && (g.idOrder || c.nextOut false == some b)
    match c.bufs[b].frame with
    | none => s
    | some f =>
      if !may then s
      else
        let s := s.modCan p fun c => { c with bufs := (c.bufs.map fun x => { x with inTx := false }).set b {}, tec := c.tec - 1, err := if c.err == .passive && c.tec - 1 ≤ 127 && c.recv ≤ 127 then .active else c.err }
        let s := s.when f.isRef fun s => s.modCan p fun c => { c with cycleCount := if c.refStamp = 0 then 0 else c.cycleCount + 1, refStamp := min sof s.now }
        let s := s.canDelay p f.fd
        (s.send .can p "FRAME" ([(b2n f.ide : Int), (f.ident.toNat : Int), (b2n f.fd : Int)] ++ f.data.map fun x => (x.toNat : Int))).canLoad p

/-- A frame removed on ABORT_TX: counted, its requester informed (13 R351). -/
def State.canRemove (p : Fin 4) (b : Fin 3) (s : State) : State :=
  let id := ((s.can[p].bufs[b].frame.map fun f => (f.ident.toNat : Int)).getD 0)
  (((s.modCan p fun c => { c with bufs := c.bufs.set b {} }).bump (Reg.can p 0x11C)).send .can p "ABORTED" [id]).canLoad p

/-- May BUSOFF_AUTO begin another recovery in this hour (13 R353). -/
def State.busOffAuto (p : Fin 4) (s : State) : Bool :=
  let c := s.img.cfg.policy.busOff[p]
  c.auto && (s.can[p].autoTimes.filter fun t => s.since t < 3600000000000).length < c.maxHour

/-- The error state follows TEC and REC (13 R352: ISO 11898-1). -/
def State.canErrState (p : Fin 4) (s : State) : State :=
  let c := s.can[p]
  if c.tec > 255 then
    let s := s.modCan p fun c => { c with err := .busOff, autoWait := s.img.cfg.policy.busOff[p].auto, bufs := c.bufs.map fun x => { x with inTx := false } }
    (s.bump (Reg.can p 0x100)).emit 0x8D28 (Src.can p) [c.tec]
  else if c.tec > 127 || c.recv > 127 then
    if c.err == .passive then s else ((s.modCan p fun c => { c with err := .passive }).bump (Reg.can p 0x104)).emit 0x4D22 (Src.can p) (ints [c.tec, c.recv])
  else s.modCan p fun c => { c with err := .active }

/-- CAN_BUS_ERROR (13 R352, R351): new TEC and REC; a failed attempt of an aborted frame removes it. -/
def execCanBusError (p : Fin 4) (tec recv : Nat) (failed : Option (Fin 3)) (s : State) : Host.Outcome State Fault Refusal :=
  .next <|
    let c := s.can[p]
    if s.canMonitor p || !(s.canCfg p).assigned || c.err == .busOff || c.err == .recovering then s
    else
      let s := s.modCan p fun c => { c with tec := tec, recv := recv }
      let s := match (if tec > 255 then (List.finRange 3).find? fun b => c.bufs[b].inTx else none) <|> failed with
        | none => s
        | some b =>
          let gone := c.bufs[b].abort && c.bufs[b].frame.isSome
          let s := s.modCan p fun c => { c with bufs := Vec.upd c.bufs b fun x => { x with inTx := false, abort := false } }
          if gone then s.canRemove p b else s
      (s.canErrState p).canLoad p

/-- Recovery from bus-off begins (13 R353). -/
def State.canRecover (p : Fin 4) (s : State) : State := s.modCan p fun c => { c with err := .recovering, autoWait := false }

/-- CANn_CMD = RECOVER (13 R353, R363). -/
def CanPort.recoverCmd (p : Fin 4) : Write :=
  Write.cmd (fun _ s => firstCode [(!s.leads, 0x0D02), (s.can[p].err != .busOff, 0x0D01)]) (State.canResult p) (State.canRecover p)

/-- RECOVER (13 R353). -/
def execRecover (q : Req) (p : Fin 4) (s : State) : Host.Outcome State Fault Refusal := .next (s.hostWrite q (CanPort.recoverCmd p))

/-- The buffer that ABORT_TX names, if it is full and not the time master's (13 R351, R363). -/
def State.abortable (p : Fin 4) (b : BitVec 2) (s : State) : Option (Fin 3) :=
  if (s.canCfg p).master && b == 0 then none
  else ((List.finRange 3).find? fun i => i.val == b.toNat).filter fun i => s.can[p].bufs[i].frame.isSome

/-- ABORT_TX takes effect: at once, or when the attempt in transmission fails (13 R351). -/
def State.canAbort (p : Fin 4) (b : BitVec 2) (s : State) : State :=
  match s.abortable p b with
  | none => s
  | some i => if s.can[p].bufs[i].inTx then s.modCan p fun c => { c with bufs := Vec.upd c.bufs i fun x => { x with abort := true } } else s.canRemove p i

/-- CANn_CMD = ABORT_TX (13 R351, R363). -/
def CanPort.abortCmd (p : Fin 4) (b : BitVec 2) : Write :=
  Write.cmd (fun _ s => firstCode [(!s.leads, 0x0D02), ((s.abortable p b).isNone, 0x0D04)]) (State.canResult p) (State.canAbort p b)

/-- ABORT_TX (13 R351). -/
def execAbortTx (q : Req) (p : Fin 4) (b : BitVec 2) (s : State) : Host.Outcome State Fault Refusal := .next (s.hostWrite q (CanPort.abortCmd p b))

/-- BUSOFF_AUTO_DELAY (13 R353): BUSOFF_DELAY has passed; beyond BUSOFF_MAX in an hour the port waits for RECOVER. -/
def execBusoffAutoDelay (p : Fin 4) (s : State) : Host.Outcome State Fault Refusal :=
  .next <|
    let c := s.can[p]
    if !(c.autoWait && c.err == .busOff) then s
    else if s.busOffAuto p then
      (s.modCan p fun c => { c with autoTimes := s.clk.upNs :: c.autoTimes.filter fun t => s.since t < 3600000000000 }).canRecover p
    else s.modCan p fun c => { c with autoWait := false }

/-- CAN_BUS_RECOVERED (13 R353): error active, both counters 0; the frames waiting in the buffers arbitrate first. -/
def execCanBusRecovered (p : Fin 4) (s : State) : Host.Outcome State Fault Refusal :=
  .next <|
    if s.can[p].err != .recovering then s
    else ((s.modCan p fun c => { c with err := .active, tec := 0, recv := 0 }).emit 0x0D20 (Src.can p) []).canLoad p

/-- CAN_STATION_LOST (13 R354, 15 R393): the timeout of a station's heartbeat passes. -/
def execCanStationLost (p : Fin 4) (i : Fin 32) (s : State) : Host.Outcome State Fault Refusal :=
  .next <|
    let src := Src.station p i
    if !((s.canCfg p).stations.any fun t => t.index == i.val) || !bit s.can[p].stations.toNat i then s
    else
      let s := s.modCan p fun c => { c with stations := setBit c.stations i false }
      ((s.bump (Reg.can p 0x124)).emit 0x8D29 src []).pointLost src 0x8D29 src

/-- The reference message of the time master (13 Table 13.5). -/
def State.refFrame (p : Fin 4) (id : Bool × BitVec 29) (s : State) : CanFrame :=
  let c := s.can[p]
  let cnt := if c.refStamp = 0 then 0 else (c.cycleCount + 1).toNat
  { ide := id.1, ident := id.2, stamp := s.stampOf (Src.can p), isRef := true, data := [BitVec.ofNat 8 cnt, BitVec.ofNat 8 (b2n (!s.clk.tscValid) + 2 * b2n s.memberIx)] ++ leBytes 6 c.refStamp }

/-- CAN_REFERENCE_DUE (13 R355): the reference message is loaded into buffer 0, or skipped as late. -/
def execCanReferenceDue (p : Fin 4) (s : State) : Host.Outcome State Fault Refusal :=
  .next <|
    match (s.canCfg p).refId with
    | none => s
    | some id =>
      if !(s.canCfg p).assigned || s.canMonitor p then s
      else if s.can[p].bufs[(0 : Fin 3)].frame.isSome then (s.bump (Reg.can p 0x120)).emit 0x4D25 (Src.can p) []
      else ((s.modCan p (CanPort.put 0 (s.refFrame p id))).stamped (Src.can p)).canLoad p

/-! ### Housekeeping bus (13 R356 to R362) -/

/-- The target `t` of IO, if it is listed (13 R358). -/
def State.hkCfg (t : Nat) (s : State) : Option HkCfgT := s.io_.hk[t]?

/-- Is the housekeeping bus served: its domain sleeps while IO lists no target (16 Table 16.3). -/
def State.hkOn (s : State) : Bool := !s.io_.hk.isEmpty

/-- One housekeeping target changed. -/
def State.modTgt (t : Nat) (f : HkTarget → HkTarget) (s : State) : State :=
  s.modHk fun h => { h with tgts := Vector.ofFn fun i => if i.val = t then f h.tgts[i] else h.tgts[i] }

/-- The state of one housekeeping target. -/
def State.tgt (t : Nat) (s : State) : HkTarget := (s.hk.tgts[t]?).getD {}

/-- Does the member drive the housekeeping bus: it leads, and its drivers are not fenced (09 R252, 13 R357). -/
def State.drivesHk (s : State) : Bool := s.leads && !s.twin.fenceIn

/-- The next transaction: a read of 0x0C while the line is low, else the oldest poll that waits (13 R358, R360). -/
def State.hkNext (s : State) : State :=
  if !(s.hk.xact == .none) || s.hk.stuck || !s.drivesHk then s
  else if s.hk.alert && !s.hk.alertHold then (s.modHk fun h => { h with xact := .alert }).send .housekeeping 0 "READ_ALERT" [0x0C]
  else match s.hk.due with
    | [] => s
    | t :: r =>
      let c := (s.hkCfg t).getD {}
      (s.modHk fun h => { h with xact := .poll t, due := r }).send .housekeeping 0 "POLL" (ints [c.addr, c.cmd, c.len])

/-- A transaction of the module ends. -/
def State.hkDone (s : State) : State := (s.modHk fun h => { h with xact := .none }).hkNext

/-- A failed poll: counted with its reason; the third in a row loses the target (13 R358; 15 R393). -/
def State.pollFailed (t cause ctr : Nat) (s : State) : State :=
  let run := (s.tgt t).failRun + 1
  let s := (s.modTgt t fun x => { x with failRun := run, lastFail := BitVec.ofNat 2 cause }).bump ctr
  if run = 3 then ((s.modTgt t fun x => { x with present := false }).emit 0x8D2B 0x0B0 [t]).pointLost (0x400 + t) 0x8D2B 0x0B0 else s

/-- HK_POLL_DUE (13 R358): a poll that is still not complete fails; the read starts, or waits for the bus, a stuck one too. -/
def execHkPollDue (t : Fin 32) (s : State) : Host.Outcome State Fault Refusal :=
  .next <|
    if (s.hkCfg t).isNone || !s.drivesHk then s
    else
      let open_ := s.hk.xact == .poll t || s.hk.due.contains t.val
      let s := s.when open_ fun s => (s.pollFailed t 3 0x340110).modHk fun h => { h with due := h.due.filter fun x => x ≠ t.val, xact := if h.xact == .poll t then .none else h.xact }
      (s.modHk fun h => { h with due := h.due ++ [t.val] }).hkNext

/-- HK_POLL_DONE (13 R358): the result goes to plant logic. The code of a target's return is open (15 R394; log 3). -/
def execHkPollDone (t : Fin 32) (r : HkResult) (s : State) : Host.Outcome State Fault Refusal :=
  .next <|
    let waits := s.hk.due.contains t.val
    if !(s.hk.xact == .poll t || (waits && r == .timeout)) then s
    else
      let s := s.modHk fun h => { h with due := h.due.filter fun x => x ≠ t.val }
      let s := match r with
        | .ok d =>
          let c := (s.hkCfg t).getD {}
          let was := s.scan.lost.contains (0x400 + t.val)
          let s := s.modTgt t fun x => { x with present := true, failRun := 0, data := d.take c.len }
          s.when was fun s => s.tick.pointBack (0x400 + t.val) s.freshNat 0x0B0
        | .nack => s.pollFailed t 1 0x340108
        | .pec => s.pollFailed t 2 0x34010C
        | .timeout => s.pollFailed t 3 0x340110
      if s.hk.xact == .poll t then s.hkDone else s

/-- HK_ALERT (13 R360): the line is low; 0x0C is read once no transaction runs. -/
def execHkAlert (s : State) : Host.Outcome State Fault Refusal := .next (if s.hkOn then (s.modHk fun h => { h with alert := true }).hkNext else s)

/-- An answer of the alert response address taken (13 R360). -/
def State.alertAnswer (addr : BitVec 7) (pecOk : Bool) (s : State) : State :=
  match s.io_.hk.find? fun c => c.addr == addr.toNat with
  | none => (s.bump 0x340118).emit 0x4D27 0x0B0 [addr.toNat]
  | some c => if c.pec == .required && !pecOk then s else s.modHk fun h => { h with alerts := h.alerts ++ [(addr.toNat, s.now)] }

/-- A read of 0x0C ends: what waits goes on, and the next read comes with the next HK_ALERT while the line stays low (13 R360). -/
def State.alertReadEnds (still : Bool) (s : State) : State := (s.modHk fun h => { h with alert := false }).hkDone.modHk fun h => { h with alert := still }

/-- HK_ALERT_READ_DONE (13 R360): delivered, counted as unknown, or stuck after 32 answers with the line still low. The next read comes with
the next HK_ALERT, at most once per millisecond. -/
def execHkAlertReadDone (addr : BitVec 7) (pecOk still : Bool) (s : State) : Host.Outcome State Fault Refusal :=
  .next <|
    if !(s.hk.xact == .alert) then s
    else
      let n := s.hk.episode + 1
      let s := (s.modHk fun h => { h with alertLast := addr, episode := if still then n else 0 }).alertAnswer addr pecOk
      let stuck := still && n ≥ 32
      let s := s.when stuck fun s => (s.modHk fun h => { h with alertHold := true }).emit 0x8D2C 0x0B0 []
      s.alertReadEnds still

/-- HK_ALERT_HOLD_END (13 R360). -/
def execHkAlertHoldEnd (s : State) : Host.Outcome State Fault Refusal :=
  .next (if s.hk.alertHold then s.modHk fun h => { h with alertHold := false, alert := false, episode := 0 } else s)

/-- The transaction of the module ends without a result: a read of 0x0C, or a poll (13 R361). -/
def State.hkAbandon (s : State) : State := if s.hk.xact == .alert then s.alertReadEnds s.hk.alert else s.hkDone

/-- The transaction in progress is restarted once the bus is free (13 R361). -/
def State.hkRestart (s : State) : State :=
  match (if s.drivesHk then s.hk.xact else .none) with
  | .poll t => let c := (s.hkCfg t).getD {}; s.send .housekeeping 0 "POLL" (ints [c.addr, c.cmd, c.len])
  | _ => s

/-- HK_ARB_LOST (13 R361): in address or data bits the transaction restarts, a read of 0x0C ends; at a STOP or repeated START it is aborted,
its requester informed, and not retried. -/
def execHkArbLost (inStop : Bool) (s : State) : Host.Outcome State Fault Refusal :=
  .next <|
    if s.hk.xact == .none then s
    else if inStop then (((s.bump 0x340104).emit 0x4D26 0x0B0 []).send .housekeeping 0 "ARB_SR" []).hkAbandon
    else if s.hk.xact == .alert then (s.bump 0x340100).hkAbandon
    else (s.bump 0x340100).hkRestart

/-- A bus clear, where the drivers are not disabled by FENCE_IN (08 R202): the running transaction aborted with its requester informed; SDA still low afterwards is stuck again (13 R362). -/
def State.busClear (sdaLow : Bool) (s : State) : State :=
  if !s.drivesHk then s else
  let s := s.when (!(s.hk.xact == .none)) (State.send .housekeeping 0 "ABORTED" [])
  let s := (s.modHk fun h => { h with xact := .none, stuck := sdaLow }).send .housekeeping 0 "BUS_CLEAR" []
  if sdaLow then s.emit 0x8D2A 0x0B0 [] else s.hkNext

/-- HK_BUS_STUCK (13 R362): recorded; with HK_AUTO_CLEAR the module clears the bus, after which SDA may be low still. -/
def execHkBusStuck (sdaLow : Bool) (s : State) : Host.Outcome State Fault Refusal :=
  .next <|
    if !s.hkOn then s
    else
    let s := ((s.modHk fun h => { h with stuck := true }).bump 0x340114).emit 0x8D2A 0x0B0 []
    s.when (s.drivesHk && s.img.cfg.policy.hkAutoClear) (State.busClear sdaLow)

/-- HK_CMD = BUS_CLEAR (13 R362, R363). -/
def Hk.clearCmd (sdaLow : Bool) : Write :=
  Write.cmd (fun _ s => if s.leads then 0 else 0x0D10) (fun c s => s.modHk fun h => { h with resCode := BitVec.ofNat 16 c }) (State.busClear sdaLow)

/-- BUS_CLEAR (13 R362). -/
def execBusClear (q : Req) (sdaLow : Bool) (s : State) : Host.Outcome State Fault Refusal := .next (s.hostWrite q (Hk.clearCmd sdaLow))

/-- The status register served at 0x5A, HK_BEACON (13 Table 13.7). -/
def State.beacon (s : State) : Nat :=
  let fault := s.bank.state == .fault || s.str.toList.any fun e => e.state == .fault
  let warm := s.thm.bandCode ≥ 2
  s.twin.role.code * 2 ^ 13 + b2n s.memberIx * 2 ^ 12 + s.bank.state.code * 2 ^ 8 + b2n s.clk.tscValid * 2 ^ 7 + b2n fault * 2 ^ 6 + b2n s.saf.cmpOk * 2 ^ 5 + b2n (s.hist.state == .writing) * 2 ^ 4 + b2n warm * 2 ^ 3 + s.clk.upNs / 100000000 % 8

/-- One byte of the SMBus CRC-8, x^8 + x^2 + x + 1 (13 R359). -/
def crc8Byte (c b : Nat) : Nat := (List.range 8).foldl (fun c _ => if c ≥ 128 then (c * 2 % 256) ^^^ 7 else c * 2) (c ^^^ b)

/-- HK_TARGET_ACCESS (13 R357, R359): only a member that is ALONE or ACTIVE answers; its drivers not fenced; the write bit is NACKed; a third byte is the
PEC over the address byte and both data bytes. -/
def execHkTargetAccess (writeBit thirdByte : Bool) (s : State) : Host.Outcome State Fault Refusal :=
  .next <|
    if !s.drivesHk || !s.hkOn then s
    else if writeBit then s.send .housekeeping 0 "NACK" []
    else
      let d := [s.beacon % 256, s.beacon / 256]
      s.send .housekeeping 0 "STATUS" (ints (d ++ if thirdByte then [([0xB5] ++ d).foldl crc8Byte 0] else []))

end Sys2Proof.Machine
end

