-- ==== Sys2Proof/Machine/FieldIo.lean ====
section
/-! DEFINITION. Process I/O: current loops, pulse inputs, ultrasonic flow and discrete points (spec 14). -/

namespace Sys2Proof.Machine

/-- One analogue input changed. -/
def State.modAi (i : Fin 16) (f : AnaIn → AnaIn) (s : State) : State := s.modIo fun o => { o with ai := Vec.upd o.ai i f }
/-- One analogue output changed. -/
def State.modAo (i : Fin 8) (f : AnaOut → AnaOut) (s : State) : State := s.modIo fun o => { o with ao := Vec.upd o.ao i f }
/-- One quadrature or pulse channel changed. -/
def State.modQin (i : Fin 8) (f : Qin → Qin) (s : State) : State := s.modIo fun o => { o with qin := Vec.upd o.qin i f }
/-- One flow channel changed. -/
def State.modUsf (i : Fin 8) (f : Usf → Usf) (s : State) : State := s.modIo fun o => { o with usf := Vec.upd o.usf i f }

/-! ### Current-loop inputs (14 R364 to R367) -/

/-- The class of a filtered current in 0.5 uA (14 Table 14.1, Table 14.5). -/
def AnaIn.classOf (f : Rat) : Nat :=
  if f < 1000 then 5 else if f < 7600 then 3 else if f < 8000 then 1 else if f ≤ 40000 then 0 else if f ≤ 41000 then 2 else if f < 48000 then 4 else 6

/-- Does a class deliver INVALID (14 Table 14.1). -/
def AnaIn.badClass (c : Nat) : Bool := 3 ≤ c && c ≤ 6

/-- The value of a TABLE, and whether it is held at an end point (14 Table 14.2). -/
def tableValue (x : Rat) : List (Rat × Rat) → Rat × Bool
  | [] => (0, true)
  | [a] => (a.2, x ≠ a.1)
  | a :: b :: t => if x < a.1 then (a.2, true) else if x ≤ b.1 then (lerp x a.1 a.2 b.1 b.2, false) else tableValue x (b :: t)

/-- The engineering value of a filtered current, and CLAMP (14 R367). -/
def AiCfg.value (c : AiCfg) (f : Rat) : Rat × Bool :=
  let x := (f - 8000) / 32000
  match c.char with
  | .linear => (c.lo + (c.hi - c.lo) * x, false)
  | .root => if x ≥ c.cutoff then (c.lo + (c.hi - c.lo) * sqrtQ x, false) else (c.lo, false)
  | .table => tableValue x c.table

/-- The first-order filter over one bank cycle (14 R365; log 8). -/
def AiCfg.filter (c : AiCfg) (old : Option Rat) (raw : Nat) : Rat :=
  match old with
  | none => raw
  | some f => if c.filtMs = 0 then raw else raw + (f - raw) * expNeg (1 / (c.filtMs : Rat))

/-- The value follows the characteristic (14 R366, R367). -/
def AnaIn.deliver (c : AiCfg) (a : AnaIn) : AnaIn :=
  match a.filt with
  | none => a
  | some f => { a with value := toF32 (c.value f).1, clamp := (c.value f).2 }

/-- A change to or from INVALID confirmed (14 R366; 15 R393, R394). -/
def State.aiConfirm (i : Fin 16) (s : State) : State :=
  let a := s.io.ai[i]
  if a.pendSince.isNone then s
  else if a.invalid then
    (((s.modAi i fun a => { a with invalid := false, pendSince := none }).modAi i (AnaIn.deliver s.img.cfg.io.ai[i])).emit 0x0E20 0x0C0 [i.val]).pointBack (0x500 + i) 0x0E20 0x0C0
  else
    let s := s.modAi i fun a => { a with invalid := true, pendSince := none, value := nanWord, clamp := false }
    ((s.bump 0x380200).emit 0x8E26 0x0C0 [i.val]).pointLost (0x500 + i) 0x8E26 0x0C0

/-- AI_CONFIRM (14 R366). -/
def execAiConfirm (i : Fin 16) (s : State) : Host.Outcome State Fault Refusal := .next (s.aiConfirm i)

/-- An input after its sample: filtered, classified; a class that differs from what is delivered begins or keeps its confirmation
(14 R365, R366). -/
def AnaIn.sample (c : AiCfg) (raw up tsc : Nat) (a : AnaIn) : AnaIn :=
  let f := c.filter a.filt raw
  let k := AnaIn.classOf f
  let bad := AnaIn.badClass k
  let a := { a with filt := some f, cls := k, sampleTsc := tsc, pendSince := if bad == a.invalid then none else some (a.pendSince.getD up) }
  if bad || a.invalid then a else a.deliver c

/-- One input sampled; with CONFIRM 0 a change takes effect at once (14 R365, R366). An input without an assignment reads UNUSED while its group is
powered (Table 14.5; 01 R35). -/
def State.aiSample (raw : Vector Nat 16) (t : Nat) (i : Fin 16) (s : State) : State :=
  let c := s.io_.ai[i]
  if !c.assigned then s.when (s.domainUsed (104 + i / 4)) (State.modAi i fun _ => {})
  else
    let s := s.modAi i (AnaIn.sample c raw[i] s.clk.upNs t)
    if c.confirmMs = 0 then s.aiConfirm i else s

/-! ### Current-loop outputs (14 R368, R369) -/

/-- The current that signals failure, in 0.5 uA: 3.4 mA or 21.5 mA (14 R368). -/
def AoCfg.failLevel (c : AoCfg) : Nat := if c.failHigh then 43000 else 6800

/-- The output signals failure (14 R368). -/
def AnaOut.signal (c : AoCfg) (o : AnaOut) : AnaOut := { o with cmd := c.failLevel, fail := true }

/-- What plant logic commands: clipped to 3.8 mA to 20.5 mA; FAIL or NaN signals failure (14 R368). -/
def AnaOut.command (c : AoCfg) (v : Option Nat) (o : AnaOut) : AnaOut :=
  match v with
  | none => { o.signal c with written := true }
  | some v => { o with cmd := max 7600 (min 41000 v), fail := false, written := true }

/-- An image comes into force: each assigned output that plant logic has not written signals failure (14 R368). -/
def State.aoActivate (s : State) : State :=
  State.forEach strings (fun i s => s.when (s.img.cfg.io.ao[i].assigned && !s.io.ao[i].written) (State.modAo i (AnaOut.signal s.img.cfg.io.ao[i]))) s

/-- Does a read-back differ from the command by more than 0.2 mA (14 R369). -/
def AnaOut.differs (rb : Nat) (o : AnaOut) : Bool := ((rb : Int) - o.cmd).natAbs > 400

/-- An output's fault recorded: differing for 100 ms, not while at high impedance (14 R369). -/
def State.aoFault (i : Fin 8) (s : State) : State :=
  if s.io.ao[i].fault || s.io.ao[i].highZ then s
  else ((s.modAo i fun o => { o with fault := true }).bump 0x380204).emit 0x8E27 0x0C0 [i.val]

/-- A read-back taken: FAULT clears once read-back and command have agreed for 100 ms; at high impedance the comparison is suspended (14 R369). -/
def State.aoReadBack (rb : Vector Nat 8) (i : Fin 8) (s : State) : State :=
  if !s.io_.ao[i].assigned then s
  else
  let o := s.io.ao[i]
  let bad := o.differs rb[i]
  let s := s.modAo i fun o => { o with readBack := rb[i], differSince := if bad && !o.highZ then some (o.differSince.getD s.clk.upNs) else none, agreeSince := if bad || o.highZ then none else some (o.agreeSince.getD s.clk.upNs) }
  let o := s.io.ao[i]
  if (o.differSince.map fun t => decide (s.since t ≥ 100000000)).getD false then s.aoFault i
  else if o.fault && (o.agreeSince.map fun t => decide (s.since t ≥ 100000000)).getD false then s.modAo i fun o => { o with fault := false }
  else s

/-- ANALOGUE_SAMPLE (14 R365; 01 R23, R24): at T0 + 100 us every input is sampled and stamped with that instant; the outputs are read back. -/
def execAnalogueSample (raw : Vector Nat 16) (rb : Vector Nat 8) (supply : Bool) (s : State) : Host.Outcome State Fault Refusal :=
  .next <|
    let s := s.atCycle 100000
    let t := s.stampAt 0x0C0 (s.clk.cycleT0 + 100000)
    let s := State.forEach (List.finRange 16) (State.aiSample raw t) (s.stampedAt 0x0C0 (s.clk.cycleT0 + 100000))
    let s := State.forEach strings (State.aoReadBack rb) s
    s.when supply fun s => s.modIo fun o => { o with supplyOk := true }

/-- AO_FAULT (14 R369): the read-back has differed for 100 ms. -/
def execAoFault (i : Fin 8) (readBack : BitVec 16) (s : State) : Host.Outcome State Fault Refusal :=
  .next (if s.io.ao[i].differs readBack.toNat then (s.modAo i fun o => { o with readBack := readBack.toNat, agreeSince := none }).aoFault i else s)

/-- LOOP_SUPPLY_FAULT (14 R364). -/
def execLoopSupplyFault (s : State) : Host.Outcome State Fault Refusal :=
  .next (((s.modIo fun o => { o with supplyOk := false }).bump 0x380208).emit 0x8E28 0x0C0 [])

/-! ### Quadrature and pulse inputs (14 R370 to R373) -/

/-- The step of a change of one line in quadrature, A leading B upwards: in X1 at A while B is low, in X2 at every edge of A, in X4 at every
edge (14 R370, R371). -/
def QinMode.quadStep (m : QinMode) (a a2 b2 : Bool) : Int :=
  let up := if a != a2 then a2 != b2 else b2 == a2
  let count := match m with
    | .x1 => a != a2 && !b2
    | .x2 => a != a2
    | _ => true
  if !count then 0 else if up then 1 else -1

/-- The step of an accepted change, or none for an illegal transition (14 R370, R371). -/
def QinMode.step (m : QinMode) (a b a2 b2 : Bool) : Option Int :=
  match m with
  | .pulse => some (if !a && a2 then 1 else 0)
  | .pulseDir => some (if !a && a2 then (if b2 then -1 else 1) else 0)
  | _ => if a != a2 && b != b2 then none else if a == a2 && b == b2 then some 0 else some (m.quadStep a a2 b2)

/-- The count moved by a step; passing 0x7FFF_FFFF/0x8000_0000 or 0xFFFF_FFFF/0 sets WRAPPED (14 R373). -/
def Qin.count_ (up : Nat) (d : Int) (q : Qin) : Qin :=
  if d = 0 then q
  else
    let c := q.count + BitVec.ofInt 32 d
    let edge (w : BitVec 32) : Bool := (d > 0 && (w == 0x7FFFFFFF || w == 0xFFFFFFFF)) || (d < 0 && (w == 0x80000000 || w == 0))
    { q with count := c, wrapped := q.wrapped || edge q.count, steps := (up, d) :: q.steps.filter fun e => up - e.1 < 100000000 }

/-- QINn_RATE: the net count of the last 100 ms in steps per second (14 R373). -/
def Qin.rate (up : Nat) (q : Qin) : Int := ((q.steps.filter fun e => up - e.1 < 100000000).map (·.2)).foldl (· + ·) 0 * 10

/-- An illegal transition: the count stays, the channel is uncertain; the fourth within 1 s makes it SUSPECT (14 R371, R372). -/
def State.qinIllegal (n : Fin 8) (s : State) : State :=
  let l := s.clk.upNs :: s.io.qin[n].illegal.filter fun t => s.since t ≤ 1000000000
  let was := s.io.qin[n].suspect
  let s := s.modQin n fun q => { q with uncertain := true, illegal := l.take 4, suspect := q.suspect || l.length ≥ 4 }
  let s := (s.bump (0x3C0020 + n.val * 0x100)).emit 0x4E23 0x0C8 [n.val]
  s.when (!was && l.length ≥ 4) (State.emit 0x4E24 0x0C8 [n.val])

/-- QIN_TRANSITION (14 R371): the first pair is only the reference. -/
def execQinTransition (n : Fin 8) (a b : Bool) (s : State) : Host.Outcome State Fault Refusal :=
  .next <|
    let q := s.io.qin[n]
    let c := s.io_.qin[n]
    let s2 := s.modQin n fun q => { q with a := a, b := b, seen := true }
    if !c.assigned then s
    else if !q.seen then s2
    else match c.mode.step q.a q.b a b with
      | none => s2.qinIllegal n
      | some d => s2.modQin n (Qin.count_ s.clk.upNs d)

/-- QIN_SUSPECT_CLEARED (14 R372): 10 s without an illegal transition. -/
def execQinSuspectCleared (n : Fin 8) (s : State) : Host.Outcome State Fault Refusal :=
  .next (if s.io.qin[n].suspect then (s.modQin n fun q => { q with suspect := false, illegal := [] }).emit 0x0E22 0x0C8 [n.val] else s)

/-- QINn_RESULT (14 Table 14.7). -/
def State.qinResult (n : Fin 8) (c : Nat) (s : State) : State := s.modQin n fun q => { q with resCode := BitVec.ofNat 16 c }

/-- QINn_CMD = PRESET (14 R373, R383): the preset is the count from the next sample on; steps of that sample add to it. -/
def Qin.presetCmd (n : Fin 8) : Write :=
  Write.cmd (fun _ s => if s.leads then 0 else 0x0E01) (State.qinResult n) fun s => s.modQin n fun q => { q with count := q.preset, uncertain := false, wrapped := false }

/-- PRESET (14 R373). -/
def execPreset (q : Req) (n : Fin 8) (s : State) : Host.Outcome State Fault Refusal := .next (s.hostWrite q (Qin.presetCmd n))

/-- QINn_CMD = CLEAR_UNCERTAIN (14 R371, R383). -/
def Qin.clearCmd (n : Fin 8) : Write :=
  Write.cmd (fun _ s => if s.leads then 0 else 0x0E01) (State.qinResult n) fun s => s.modQin n fun q => { q with uncertain := false }

/-- CLEAR_UNCERTAIN (14 R371). -/
def execClearUncertain (q : Req) (n : Fin 8) (s : State) : Host.Outcome State Fault Refusal := .next (s.hostWrite q (Qin.clearCmd n))

/-! ### Ultrasonic flow (14 R374 to R380) -/

/-- A register of flow channel `n` (14 Table 14.7). -/
def Reg.usf (n : Fin 8) (o : Nat) : Nat := 0x3C1000 + n * 0x100 + o

/-- USFn_RESULT (14 Table 14.7). -/
def State.usfResult (n : Fin 8) (c : Nat) (s : State) : State := s.modUsf n fun u => { u with resCode := BitVec.ofNat 16 c }

/-- Peak amplitude in % and correlation x 100 of a burst. -/
def BurstResult.quality : BurstResult → Nat × Nat
  | .pass _ a c => (a, c)
  | .fail a c => (a, c)

/-- The time of flight of a burst that passes, in 10 ps (14 R375). -/
def BurstResult.tof (g : UsfCfg) : BurstResult → Option Nat
  | .pass t a c => if a ≥ g.ampMin && c ≥ g.corrMin then some t else none
  | .fail _ _ => none

/-- Q in L/min from a valid pair (14 R376). -/
def UsfCfg.flow (g : UsfCfg) (dn up : Nat) : Rat :=
  let td : Rat := dn / 100000000000
  let tu : Rat := up / 100000000000
  let v := g.len / (2 * cosTurn (g.theta / 360)) * (tu - td) / (tu * td)
  g.k * (piQ * g.dia * g.dia / 4) * v * 60000

/-- The speed of sound in m/s (14 R376). -/
def UsfCfg.sound (g : UsfCfg) (dn up : Nat) : Rat :=
  let td : Rat := dn / 100000000000
  let tu : Rat := up / 100000000000
  g.len * (tu + td) / (2 * tu * td)

/-- A transducer's run of pairs with its current below 20 % or above 300 % (14 R379). -/
def Usf.driveRun (drive run : Nat) : Nat := if drive < 20 || drive > 300 then min 3 (run + 1) else 0

/-- The value falls to INVALID (14 R377). -/
def State.usfInvalid (n : Fin 8) (s : State) : State :=
  if s.io.usf[n].valid then (s.modUsf n fun u => { u with valid := false }).bump (Reg.usf n 0x24) else s

/-- The drive currents of a pair judged by the member that drives: a transducer out of range in 3 pairs is faulted, its value INVALID at
once (14 R379, R380). -/
def State.usfDrive (n : Fin 8) (drive1 drive2 : Nat) (s : State) : State :=
  let u := s.io.usf[n]
  let r1 := Usf.driveRun drive1 u.run1
  let r2 := Usf.driveRun drive2 u.run2
  let s := s.modUsf n fun u => { u with run1 := r1, run2 := r2, xdcr := r1 = 3 || r2 = 3 }
  if (r1 = 3 || r2 = 3) && !u.xdcr then (((s.bump (Reg.usf n 0x28)).emit 0x8E2A 0x0D0 (ints [n, if r1 = 3 then 1 else 2])).usfInvalid n) else s

/-- A CAPTURE_REF that has waited longer than HOLD is refused (14 R383). -/
def State.captureOver (n : Fin 8) (s : State) : State :=
  let hold := s.img.cfg.io.usf[n].holdMs * 1000000
  s.when ((s.io.usf[n].capture.map fun t => decide (s.since t > hold)).getD false) fun s => (s.modUsf n fun u => { u with capture := none }).usfResult n 0x0E02

/-- A valid pair (14 R375 to R377). A time of flight of 0 gives no quotient: the spec states no flow there (log 3). -/
def State.usfGood (n : Fin 8) (dn up : Nat) (s : State) : State :=
  let g := s.img.cfg.io.usf[n]
  let none_ := dn = 0 ∨ up = 0
  let q := if none_ then s.freshRat else g.flow dn up
  let v := if none_ then s.freshRat else g.sound dn up
  let was := s.io.usf[n].valid
  let s := (s.captureOver n).when none_ State.tick
  let s := s.modUsf n fun u => { u with valid := true, lastUp := some s.clk.upNs, q := q, tdn := BitVec.ofNat 32 dn, tup := BitVec.ofNat 32 up, sos := BitVec.ofInt 16 (roundQ (v * 10)), ref := u.ref + b2n u.capture.isSome, capture := none }
  s.when (!was) (State.emit 0x0E21 0x0D0 [n.val])

/-- A pair that is not valid: discarded whole, the last Q held (14 R377). -/
def State.usfBad (n : Fin 8) (dn up : BurstResult) (s : State) : State :=
  let g := s.img.cfg.io.usf[n]
  let fd := (dn.tof g).isNone
  let cause := if fd then decide (dn.quality.1 ≥ g.ampMin) else decide (up.quality.1 ≥ g.ampMin)
  let fail := b2n fd + 2 * b2n (up.tof g).isNone
  (((s.captureOver n).modUsf n fun u => { u with lastFail := BitVec.ofNat 2 fail, lastCause := cause }).bump (Reg.usf n 0x20)).emit 0x4E25 0x0D0 (ints [n, fail, b2n cause])

/-- USF_MEASUREMENT_PAIR (14 R374 to R380): evaluated by T0 + 900 us of the channel's slot. -/
def execUsfMeasurementPair (n : Fin 8) (dn up : BurstResult) (drive1 drive2 : Nat) (s : State) : Host.Outcome State Fault Refusal :=
  .next <|
    let g := s.io_.usf[n]
    if !g.assigned || s.clk.cycleNo % 10 ≠ n.val then s
    else
      let s := s.atCycle 900000
      let s := s.when s.leads fun s => ((s.send .line n "USF_DOWN" (ints [g.cycles, g.burstHz, 100])).send .line n "USF_UP" (ints [g.cycles, g.burstHz, 500])).usfDrive n drive1 drive2
      let s := s.modUsf n fun u => { u with qual := pack [(min 255 dn.quality.1, 24), (min 255 up.quality.1, 16), (min 255 dn.quality.2, 8), (min 255 up.quality.2, 0)] }
      match dn.tof g, up.tof g with
      | some d, some t => if s.leads && s.io.usf[n].xdcr then s else s.usfGood n d t
      | _, _ => s.usfBad n dn up

/-- USF_HOLD_EXPIRY (14 R377, R383): no valid pair within HOLD; a CAPTURE_REF that waited as long has found none. -/
def execUsfHoldExpiry (n : Fin 8) (s : State) : Host.Outcome State Fault Refusal :=
  .next <|
    let u := s.io.usf[n]
    let hold := s.img.cfg.io.usf[n].holdMs * 1000000
    let cap := (u.capture.map fun t => !u.valid || decide (s.since t ≥ hold)).getD false
    let s := s.when cap fun s => (s.modUsf n fun u => { u with capture := none }).usfResult n 0x0E02
    s.when u.valid fun s => (s.usfInvalid n).emit 0x8E29 0x0D0 [n.val]

/-- USFn_CMD = CAPTURE_REF (14 R375, R383): only where the channel is assigned and its string in OFF, SHED or SERVICE. -/
def Usf.captureCmd (n : Fin 8) : Write :=
  Write.cmd (fun _ s =>
      let k := s.str[n].state
      firstCode [(!s.leads, 0x0E01), (!(s.img.cfg.io.usf[n].assigned && (k == .off || k == .shed || k == .service)), 0x0E03)])
    (State.usfResult n) fun s => s.modUsf n fun u => { u with capture := some s.clk.upNs }

/-- CAPTURE_REF (14 R375). -/
def execCaptureRef (q : Req) (n : Fin 8) (s : State) : Host.Outcome State Fault Refusal := .next (s.hostWrite q (Usf.captureCmd n))

/-! ### Discrete points (14 R381) -/

/-- DISCRETE_INPUT_CHANGE (14 R381): stamped with the sample that confirmed it, under source 0x0E0. -/
def execDiscreteInputChange (din : BitVec 16) (s : State) : Host.Outcome State Fault Refusal :=
  .next (if s.pwr.quiesced then s else (s.modIo fun o => { o with din := din, dinTsc := s.stampOf 0x0E0 }).stamped 0x0E0)

/-- DO_FAULT (14 R381): a read-back that has differed from the command for 10 ms; the module goes on commanding. -/
def execDoFault (i : Fin 8) (readBack : Bool) (s : State) : Host.Outcome State Fault Refusal :=
  .next <|
    let s := s.modIo fun o => { o with doutRb := setBit o.doutRb i readBack }
    let bad := bit s.io.dout.toNat i != readBack && !s.io.doHighZ
    let was := bit s.io.doFault.toNat i
    let s := s.modIo fun o => { o with doFault := setBit o.doFault i bad }
    s.when (bad && !was) fun s => (s.bump 0x400F10).emit 0x8E2B 0x0E0 [i.val]

end Sys2Proof.Machine
end

