-- ==== Sys2Proof/Machine/Scan.lean ====
section
/-! DEFINITION. The plant-logic engine: scans, its states, its error items and online change (spec 15). The program itself is the sender
of what a scan commands. -/

namespace Sys2Proof.Machine

/-! ### Variables (15 R387, R395) -/

/-- The plant-logic section in force. -/
def State.plant (s : State) : PlantCfg := s.img.cfg.plant

/-- The value of a variable at its place in the data area; its declared initial value where there is none. -/
def PlantCfg.valueAt (p : PlantCfg) (data : List Nat) (i id : Nat) : Nat := (data[i]?).getD (Config.plantInit p id)

/-- The data area of a start: RETAIN variables keep their values, all others start from their declared initial values (15 R387, R391). -/
def PlantCfg.initData (p : PlantCfg) (data : List Nat) : List Nat :=
  p.vars.zipIdx.map fun v => if p.retain.contains v.1.1 then p.valueAt data v.2 v.1.1 else Config.plantInit p v.1.1

/-- The RETAIN variables' values (15 R387). -/
def PlantCfg.retained (p : PlantCfg) (data : List Nat) : List Nat :=
  (p.vars.zipIdx.filter fun v => p.retain.contains v.1.1).map fun v => p.valueAt data v.2 v.1.1

/-- The data area after a reset: RETAIN variables restored from the journal (15 R387). -/
def PlantCfg.restored (p : PlantCfg) (kept : List Nat) : List Nat :=
  (p.vars.foldl (fun (a : List Nat × List Nat) v =>
    if p.retain.contains v.1 then (a.1 ++ [(a.2.head?).getD (Config.plantInit p v.1)], a.2.drop 1) else (a.1 ++ [Config.plantInit p v.1], a.2)) ([], kept)).1

/-- RETAIN variables written to the journal (15 R387). -/
def State.writeRetain (s : State) : State := s.modJrn fun j => { j with retain := (s.plant).retained s.scan.data }

/-! ### The plant-logic clock (15 R390) -/

/-- Total time spent in Hold, in ns. -/
def State.holdTotal (s : State) : Nat := s.scan.holdNs + ((s.scan.holdSince.map fun t => s.since t).getD 0)

/-- The plant-logic clock: the TSC less the total time in Hold (15 R390). -/
def State.plantClock (s : State) : Nat := s.now - s.holdTotal

/-! ### States (15 R391, Table 15.2) -/

/-- STATE of SCAN_STATUS (15 Table 15.6). -/
def ScanState.code : ScanState → Nat
  | .run => 0 | .stop => 1 | .hold => 2

/-- The state that a command meets: the one that a change in hand leads to (15 R391). -/
def Scan.eff (c : Scan) : ScanState := c.pend.getD c.state

/-- Stop of one analogue output (15 Table 15.2). -/
def AnaOut.stopped (c : AoCfg) (o : AnaOut) : AnaOut :=
  match c.stop with
  | .fail => o.signal c
  | .off => { o with cmd := 0, fail := false }
  | .hold => o
  | .substitute => { o with cmd := c.subst, fail := false }

/-- Stop of the discrete outputs (15 Table 15.2). -/
def IoCfg.stopDout (c : IoCfg) (d : BitVec 8) : BitVec 8 :=
  strings.foldl (fun d i =>
    if !c.dout[i].assigned then d
    else match c.dout[i].stop with
      | .hold => d
      | .substitute => setBit d i c.dout[i].subst
      | _ => setBit d i false) d

/-- Discrete outputs commanded: the read-back follows where no fault stands (14 R381). -/
def Io.drive (d : BitVec 8) (o : Io) : Io := { o with dout := d, doutRb := (d &&& ~~~o.doFault) ||| (o.doutRb &&& o.doFault) }

/-- Every output takes its STOP_ACTION (15 Table 15.2). -/
def State.stopOutputs (s : State) : State :=
  let c := s.img.cfg.io
  s.modIo fun o => Io.drive (c.stopDout o.dout) { o with ao := Vec.updAll o.ao fun i x => if c.ao[i].assigned then x.stopped c.ao[i] else x }

/-- Plant logic enters a state, recorded as SCAN_STATE (15 R391). -/
def State.scanTo (k : ScanState) (s : State) : State :=
  let old := s.scan.state
  let hold := s.holdTotal
  let s := s.modScan fun c => { c with state := k, pend := none, stepPend := false, holdNs := if old == .hold then hold else c.holdNs, holdSince := if k == .hold then some s.clk.upNs else none, initDue := c.initDue || (old == .stop && k == .run) }
  (s.when (k == .stop) State.stopOutputs).emit 0x0F10 0x0E0 (ints [old.code, k.code])

/-- A change of state: at once between scans, at the end of a running scan otherwise (15 R391). -/
def State.scanChange (k : ScanState) (s : State) : State := if s.scan.running then s.modScan fun c => { c with pend := some k } else s.scanTo k

/-! ### Commands (15 R391, R397) -/

/-- SCAN_RESULT (15 Table 15.5). -/
def State.scanResult (c : Nat) (s : State) : State := s.modScan fun x => { x with resCode := BitVec.ofNat 16 c }

/-- A write to SCAN_CMD: role, service role where the command needs it, state, and the command's own check (15 R391, R397). -/
def Scan.cmd (service : Bool) (from_ : List ScanState) (more : State → Nat) (effect : State → State) : Write :=
  Write.cmd (fun x s => firstCode [(!s.leads, 0x0F02), (service && s.roleOf x != .service, 0x0F03), (!from_.contains s.scan.eff, 0x0F01), (more s ≠ 0, more s)]) State.scanResult effect

/-- Is there a program to run: an image in force with a PLANT_LOGIC program (15 R397). -/
def State.hasProgram (s : State) : Bool := s.img.cur.valid && s.plant.present

/-- SCAN_CMD = RUN. -/
def Scan.runCmd : Write := Scan.cmd false [.stop] (fun s => if s.hasProgram then 0 else 0x0F04) (State.scanChange .run)
/-- SCAN_CMD = STOP. -/
def Scan.stopCmd : Write := Scan.cmd false [.run, .hold] (fun _ => 0) (State.scanChange .stop)
/-- SCAN_CMD = HOLD. -/
def Scan.holdCmd : Write := Scan.cmd true [.run] (fun _ => 0) (State.scanChange .hold)
/-- SCAN_CMD = STEP. -/
def Scan.stepCmd : Write := Scan.cmd true [.hold] (fun _ => 0) fun s => s.modScan fun c => { c with stepPend := true }
/-- SCAN_CMD = RESUME. -/
def Scan.resumeCmd : Write := Scan.cmd false [.hold] (fun _ => 0) (State.scanChange .run)

/-- SCAN_RUN (15 R391). -/
def execScanRun (q : Req) (s : State) : Host.Outcome State Fault Refusal := .next (s.hostWrite q Scan.runCmd)
/-- SCAN_STOP (15 R391). -/
def execScanStop (q : Req) (s : State) : Host.Outcome State Fault Refusal := .next (s.hostWrite q Scan.stopCmd)
/-- SCAN_HOLD (15 R391). -/
def execScanHold (q : Req) (s : State) : Host.Outcome State Fault Refusal := .next (s.hostWrite q Scan.holdCmd)
/-- SCAN_STEP (15 R391). -/
def execScanStep (q : Req) (s : State) : Host.Outcome State Fault Refusal := .next (s.hostWrite q Scan.stepCmd)
/-- SCAN_RESUME (15 R391). -/
def execScanResume (q : Req) (s : State) : Host.Outcome State Fault Refusal := .next (s.hostWrite q Scan.resumeCmd)

/-- HOLD_MAX_EXPIRY (15 Table 15.2): HOLD_MAX of POLICY, none where it is 0. -/
def execHoldMaxExpiry (s : State) : Host.Outcome State Fault Refusal :=
  .next (if s.scan.eff == .hold && s.img.cfg.policy.holdMaxMin ≠ 0 then s.scanChange .run else s)

/-! ### What the program does while it runs (15 R388, R392) -/

/-- Is a code one that RAISE_EVENT may use: never a safety-class event (15 Table 15.3). -/
def raisable (code : BitVec 16) (source : Nat) : Bool :=
  let c := code.toNat
  0x300 ≤ source && source ≤ 0x3FF && ((0x0F80 ≤ c && c ≤ 0x0FFF) || (0x4F80 ≤ c && c ≤ 0x4FFF) || (0x8F80 ≤ c && c ≤ 0x8FFF))

/-- HK_WRITE to a command byte that IO marks writable; a failure is an error item, whose code the spec does not state (15 R392, R394;
log 3). -/
def State.plantHkWrite (t cmd : Nat) (data : List Byte) (done : Bool) (s : State) : State :=
  let ok := ((s.hkCfg t).map fun c => c.writable.contains cmd).getD false
  if ok && !s.drivesHk then s
  else if ok && done && !s.hk.stuck then s.send .housekeeping t "WRITE" ([(cmd : Int)] ++ data.map fun b => (b.toNat : Int))
  else s.tick.errItem s.freshNat 0x0B0

/-- One act of the program. -/
def State.plantAct (a : PlantAct) (s : State) : State :=
  match a with
  | .canSend p ident ide fd data =>
    let r := s.canEnqueue p { ide := ide, ident := ident, fd := fd, data := data }
    if r.1 = 0 then r.2 else r.2.errItem r.1 (Src.can p)
  | .hkWrite t c d done => s.plantHkWrite t c d done
  | .raise code src body => if raisable code src then s.emit code.toNat src body else s

/-! ### The scan (15 R388, R389, R393 to R395) -/

/-- The online change at the first scan at or after the commit (15 R395). -/
def State.onlineChange (s : State) : State :=
  match s.scan.olc with
  | none => s
  | some old =>
    let p := s.plant
    let at_ (v : Nat × Nat) : Option Nat := old.findIdx? fun o => o == v
    let kept := (p.vars.filter fun v => (at_ v).isSome).length
    let data := p.vars.map fun v => match at_ v with | some j => p.valueAt s.scan.data j v.1 | none => Config.plantInit p v.1
    let s := s.modScan fun c => { c with olc := none, data := data, codeBank := !c.codeBank }
    (s.bump 0x40010C).emit 0x0F11 0x0E0 (ints [kept, p.vars.length - kept, old.length - kept])

/-- Does one error item come before another (01 R25). -/
def ErrItem.le (a b : ErrItem) : Bool := a.tsc < b.tsc || (a.tsc == b.tsc && a.source ≤ b.source)

/-- An error item put into the order of 01 R25. -/
def ErrItem.insert (a : ErrItem) : List ErrItem → List ErrItem
  | [] => [a]
  | b :: t => if ErrItem.le a b then a :: b :: t else b :: ErrItem.insert a t

/-- The error task's run: at most 8 items of the previous scan's are handled, further ones dropped and counted; ERR.LOST stands in the next
run (15 R394). -/
def State.errorTask (s : State) : State :=
  let l := s.scan.errs.foldr ErrItem.insert []
  let lost := l.length - 8
  let s := s.modScan fun c => { c with errs := [], errLost := lost ≠ 0 }
  let s := State.forEach (l.take 8) (fun e s => s.send .host 0 "ERROR_ITEM" (ints [e.code, e.source, e.tsc])) s
  if lost = 0 then s else s.bumpBy 0x400108 lost

/-- A value, or its substitute while its point is bad: a constant, or the last one, HOLD_LAST (15 R393). -/
def substituted {α : Type} (bad : Bool) (subst : Option α) (last live : α) : α := if bad then subst.getD last else live

/-- The field of a message that a point follows, from the frames taken in their order (15 R392). -/
def CanPoint.follow (p : CanPoint) (frames : List CanFrame) (last : Nat) : Nat :=
  frames.foldl (fun v f => if f.ide == p.ide && f.ident == p.ident then field f.data p.offset p.len else v) last

/-- Every point of the remote stations: its port, its station and itself. -/
def IoCfg.points (c : IoCfg) : List (Fin 4 × CanStation × CanPoint) :=
  ((List.finRange 4).map fun p => (c.can[p].stations.map fun t => t.points.map fun x => (p, t, x)).flatten).flatten

/-- The status that plant logic reads (15 Table 15.3). -/
def State.plantStatus (s : State) : List Int :=
  let f := s.saf.fab
  ints ([s.bank.state.code] ++ (strings.map fun n => s.str[n].state.code)) ++ [roundQ (100 * s.est.bankSoc)] ++
    ints [f.latchLoop.toNat, f.latchGd.toNat, f.latchOc.toNat, b2n f.global, s.thm.bandCode] ++ (s.thm.bp.toList.map fun w => w.toInt) ++ ints [s.thm.cool, b2n s.clk.tscValid, s.twin.role.code]

/-- The image of the inputs that a scan sees, frozen; what is bad carries its substitute (15 R388, R393, Table 15.3). -/
def State.scanInputs (s : State) : ScanInputs :=
  let c := s.io_
  let o := s.scan.inputs
  let bad (k : Nat) : Bool := s.scan.bad.contains k
  let point (e : (Fin 4 × CanStation × CanPoint) × Nat) : Nat :=
    let q := s.can[e.1.1]
    let last := (o.points[e.2]?).getD 0
    substituted (bad (Src.station e.1.1 e.1.2.1.index)) e.1.2.2.subst last (e.1.2.2.follow (q.q0 ++ q.q1) last)
  { din := s.io.din, aux := BitVec.ofNat 24 (strings.foldl (fun a n => a + s.str[n].aux.toNat * 2 ^ (3 * n.val)) 0), ai := (List.finRange 16).map fun (i : Fin 16) => substituted (bad (0x500 + i.val)) (c.ai[i].subst.map toF32) ((o.ai[i.val]?).getD 0) s.io.ai[i].value, aiCls := s.io.ai.toList.map (·.cls), qinFlags := s.io.qin.toList.map fun q => maskOf [q.wrapped, q.suspect, q.uncertain], flow := s.io.usf.toList.map fun u => (u.valid, if u.valid then toF32 u.q else nanWord, u.sos), hk := c.hk.zipIdx.map fun e => substituted (bad (0x400 + e.2)) e.1.subst ((o.hk[e.2]?).getD []) (s.tgt e.2).data, present := s.can.toList.map (·.stations), points := c.points.zipIdx.map point, status := s.plantStatus }

/-- The inputs latched at the start of a scan in the order of Table 15.3 (15 R388, R393; 13 R347; 14 R373). -/
def State.latchInputs (s : State) : State :=
  let ports := List.finRange 4
  let frames := (ports.map fun p => s.can[p].q0 ++ s.can[p].q1).flatten
  let s := s.modScan fun c => { c with inFrames := frames, inAlerts := s.hk.alerts, bad := c.lost }
  let s := s.modScan fun c => { c with inputs := s.scanInputs }
  let s := (s.mapAllCan fun _ c => { c with q0 := [], q1 := [] }).modHk fun h => { h with alerts := [] }
  s.modIo fun o => { o with qin := o.qin.map fun q => { q with scanCount := q.count, scanRate := q.rate s.clk.upNs, scanTsc := s.now } }

/-- A T0 of the scan cycle: a cycle lasts the milliseconds that the image sets, counted from the T0 at which the cycle before began (01
R18). -/
def State.scanT0 (s : State) : State :=
  s.modScan fun c => { c with here := false, scanIn := if c.scanIn = 0 then max 1 s.img.cfg.io.scanMs - 1 else c.scanIn - 1 }

/-- Does a scan fall due at this T0: once where a scan cycle begins, in Run, or for a STEP in Hold (15 R388, R391; 01 R18). -/
def State.scanDue (s : State) : Bool :=
  let c := s.scan
  !s.pwr.quiesced && (c.autoDue || (!c.here && c.scanIn = 0 && (c.state == .run || (c.state == .hold && c.stepPend))))

/-- AUTOSTART (15 Table 15.2): Run is entered at the first T0 after the image check, where the first scan cycle begins. -/
def State.autoStart (s : State) : State :=
  s.when s.scan.autoDue fun s => (s.modScan fun c => { c with autoDue := false, scanIn := 0 }).when (s.scan.state == .stop) (State.scanTo .run)

/-- SCAN_START (15 R388, R389): a scan that falls due while one runs is skipped as an overrun. -/
def execScanStart (acts : List PlantAct) (s : State) : Host.Outcome State Fault Refusal :=
  .next <|
    if !s.scanDue then s
    else if s.scan.running then (((s.modScan fun c => { c with here := true }).bump 0x400100).emit 0x4F12 0x0E0 []).errItem 0x4F12 0x0E0
    else
      let s := s.autoStart.onlineChange
      let s := s.when s.scan.initDue fun s => s.modScan fun c => { c with data := (s.plant).initData c.data, initDue := false }
      let s := s.modScan fun c => { c with running := true, startUp := s.clk.upNs, here := true, startT0 := s.plantClock - (if c.state == .hold then 0 else s.now - s.clk.cycleT0), stepScan := c.state == .hold, stepPend := false }
      State.forEach acts State.plantAct s.latchInputs.errorTask

/-- The outputs written together (15 R388; 14 R368, R381). -/
def State.writeOutputs (o : PlantOut) (s : State) : State :=
  let c := s.img.cfg.io
  let s := State.forEach (o.ao.filter fun e => c.ao[e.1].assigned) (fun e s => s.modAo e.1 (AnaOut.command c.ao[e.1] e.2)) s
  s.modIo fun i => Io.drive ((o.dout.filter fun e => c.dout[e.1].assigned).foldl (fun d e => setBit d e.1 e.2) i.dout) i

/-- SCAN_COMPLETE (15 R387, R388, R391). -/
def execScanComplete (acts : List PlantAct) (o : PlantOut) (s : State) : Host.Outcome State Fault Refusal :=
  .next <|
    if !s.scan.running then s
    else
      let s := State.forEach acts State.plantAct s
      let s := s.writeOutputs o
      let us := min 65535 (s.since s.scan.startUp / 1000)
      let s := s.modScan fun c => { c with running := false, stepScan := false, data := o.data, count := c.count + 1, lastUs := us, maxUs := max c.maxUs us }
      let sec := s.now / 1000000000
      let s := s.when (sec ≠ s.scan.retainSec) fun s => (s.modScan fun c => { c with retainSec := sec }).writeRetain
      match s.scan.pend with
      | none => s
      | some k => s.scanTo k

/-- SCAN_WATCHDOG (15 R389): the scan is stopped without writing its outputs; plant logic enters Stop. -/
def execScanWatchdog (s : State) : Host.Outcome State Fault Refusal :=
  .next <|
    if !s.scan.running then s
    else (((s.modScan fun c => { c with running := false, stepScan := false }).bump 0x400104).emit 0x8F13 0x0E0 []).scanTo .stop

/-- Does the member scan without external effect, SHADOW (15 R396). -/
def State.scanShadow (s : State) : Bool := !s.leads && s.scan.state == .run

end Sys2Proof.Machine
end

