-- ==== Sys2Proof/Machine/Power.lean ====
section
/-! DEFINITION. Supply, hold-up, power and clock domains, and the thermal manager (spec 16; 10 R288, R289). -/

namespace Sys2Proof.Machine

/-! ### Supply and the power-fail sequence (16 R398 to R401, Table 16.2) -/

/-- SUPPLY_DIP (16 R400): the input falls below 17 V and the store carries the load; a dip is timed from here. -/
def execSupplyDip (s : State) : Host.Outcome State Fault Refusal :=
  .next <|
    if s.pwr.dip then s
    else
      let s := s.modPwr fun p => { p with dip := true, dipUp := s.clk.upNs, full := false }
      (s.modTrust fun t => { t with charging := false }).modSaf fun t => { t with supplyOkSince := none }

/-- The 1 ms row of Table 16.2: recorded, counted, the learned-values and RETAIN writes begin (16 R400; 07 R193; 15 R387). -/
def State.powerFailSequence (s : State) : State :=
  (((((s.modPwr fun p => { p with fail := true }).emit 0xC81A 0x0F0 [])).bump 0x010104).learnTrigger 5).writeRetain

/-- POWER_FAIL (16 R400; 08 SF20, R206, R212): the dip has lasted 1 ms on the supply monitors of channel A, of B, or of both. While a sequence runs
nothing new starts. -/
def execPowerFail (a b : Bool) (s : State) : Host.Outcome State Fault Refusal :=
  .next <|
    if !s.pwr.dip || s.pwr.fail then s
    else (s.when (a || b) fun s => (s.modSaf fun t => { t with sf20 := true }).memberDemand a b 20 0xC81A).powerFailSequence

/-- QUIESCENCE (16 Table 16.2, R401): the writes are complete; the domains of class G, S and D are off, so every session ends; the member
drives nothing, its analogue and discrete outputs have no supply, and it renews no lease. -/
def execQuiescence (s : State) : Host.Outcome State Fault Refusal :=
  .next <|
    if !s.pwr.fail || s.pwr.quiesced then s
    else
      let s := State.closeWhere (fun _ => true) s
      let s := (State.forEach (strings.filter fun n => s.str[n].drives != 0) (fun n => State.driveCoils n 0) s).pcsOpen
      let s := s.modTwin fun w => { w with selfFault := true, activeOut := false, outDriven := false }
      let s := s.modIo fun o => { o with ao := o.ao.map (fun x => { x with cmd := 0, fail := true }), dout := 0, doutRb := 0 }
      (s.modPwr fun p => { p with quiesced := true }).modScan fun c => { c with running := false }

/-- SHELF_STATE_ENTRY (16 Table 16.2, R410; 10 R288): only the island runs: no session stands, and no bank cycle begins; entering the shelf state clears its shutdown latch. -/
def execShelfStateEntry (s : State) : Host.Outcome State Fault Refusal :=
  .next <| ((s.modPwr fun p => { p with quiesced := true, shelf := true, shutLatch := false, full := false }).modTrust fun t => { t with charging := false }).closeWhere fun _ => true

/-- SUPPLY_RETURN (16 R400, R401): within 1 ms a dip carried; before quiescence the module stays up and the reset condition of SF20
applies; after it the module resets, which POWER_ON_RESET says. -/
def execSupplyReturn (s : State) : Host.Outcome State Fault Refusal :=
  .next <|
    if !s.pwr.dip then s
    else
      let was := s.pwr.fail
      let s := s.modPwr fun p => { p with dip := false, fail := p.fail && (p.quiesced || p.shutLatch) }
      let s := s.modSaf fun t => { t with supplyOkSince := some s.clk.upNs }
      if was then s else (s.bump 0x010100).emit 0x4131 0x0F0 []

/-- PWR_INPUT_HIGH (16 R398). -/
def execPwrInputHigh (s : State) : Host.Outcome State Fault Refusal := .next ((s.modPwr fun p => { p with high := true }).emit 0x4132 0x0F0 [])

/-- A hold-up test begins: the store is discharged from 48 V to 44 V (16 R399). -/
def State.holdupStart (s : State) : State :=
  (s.modPwr fun p => { p with test := true, full := false }).modTrust fun t => { t with charging := false }

/-- PWR_CMD = HOLDUP_TEST (16 R399, R413). -/
def Pwr.testCmd : Write :=
  Write.cmd (fun _ s => if s.pwr.test then 0x0120 else 0) (fun c s => s.modPwr fun p => { p with resCode := BitVec.ofNat 16 c }) State.holdupStart

/-- HOLDUP_TEST (16 R399): on command, or by the daily timer. -/
def execHoldupTest (q : Option Req) (s : State) : Host.Outcome State Fault Refusal :=
  .next <|
    match q with
    | some q => s.hostWrite q Pwr.testCmd
    | none => if s.pwr.test then s else s.holdupStart

/-- HOLDUP_TEST_DONE (16 R399): below 3.8 mF the store is weak. -/
def execHoldupTestDone (cap : BitVec 16) (s : State) : Host.Outcome State Fault Refusal :=
  .next <|
    if !s.pwr.test then s
    else
      let s := s.modPwr fun p => { p with test := false, cap := cap, weak := cap.toNat < 380 }
      s.when (cap.toNat < 380) (State.emit 0x4133 0x0F0 [cap.toNat])

/-- HOLDUP_CHARGED (16 R399): at 48 V; the backup cell charges only while the store is full. -/
def execHoldupCharged (s : State) : Host.Outcome State Fault Refusal :=
  .next (if s.pwr.test || s.pwr.dip then s else (s.modPwr fun p => { p with full := true, energy := 100 }).modTrust fun t => { t with charging := true })

/-- SHELF_WAKE (10 R288): the input has stayed above 18 V for 10 ms; the island releases the trust core, and POWER_ON_RESET follows. -/
def execShelfWake (s : State) : Host.Outcome State Fault Refusal :=
  .next (if s.pwr.shelf then ((s.modPwr fun p => { p with shelf := false, dip := false }).modHw fun h => { h with wake := true }).send .line 0 "WAKE" [] else s)

/-- SHUTDOWN_LATCH_CLEAR (16 R410): the input has stayed below 12 V for 1 s. -/
def execShutdownLatchClear (s : State) : Host.Outcome State Fault Refusal := .next (s.modPwr fun p => { p with shutLatch := false })

/-- BACKUP_CELL_EXHAUSTED (10 R289): in the shelf state the TRK is lost, and the module ZEROISED whatever TAMPER_RESPONSE says. -/
def execBackupCellExhausted (s : State) : Host.Outcome State Fault Refusal := .next (if s.pwr.shelf then s.zeroise else s)

/-! ### Domains and clocks (16 R402 to R406) -/

/-- PWR_DOMAIN_FAULT (16 R404). -/
def execPwrDomainFault (d : Fin 128) (s : State) : Host.Outcome State Fault Refusal := .next ((s.bump 0x010108).emit 0x8137 0x0F0 [d.val])

/-- CLOCK_FAULT (16 R406). -/
def execClockFault (c : Fin 25) (s : State) : Host.Outcome State Fault Refusal :=
  .next (((s.modPwr fun p => { p with clkOk := setBit p.clkOk c false }).bump 0x010208).emit 0x8136 0x0F0 [c.val])

/-- Is a core of the Gecko cluster powered: it has a cell assigned (16 Table 16.3). -/
def State.coreOn (c : Nat) (s : State) : Bool :=
  let cells := (s.declared.map fun n => (s.topo n).packs * (s.topo n).cells).foldl (· + ·) 0
  cells ≠ 0 && Config.coreAssigned cells c

/-- Is power domain `d` of class A (16 Table 16.3). -/
def classA (d : Nat) : Bool := d ≤ 56 || d == 92

/-- The condition under which a domain that is not of class A is powered (16 Table 16.3). -/
def State.domainUse (d : Nat) (s : State) : Bool :=
  let paired := s.img.cfg.paired
  if d ≤ 67 then true
  else if d = 68 then s.img.loading || s.upd.state == .loading || s.upd.sdLoad.isSome
  else if d ≤ 84 then s.coreOn (d - 69)
  else if d ≤ 88 then true
  else if d = 89 then s.hist.a.state != .absent || s.hist.b.state != .absent
  else if d = 90 then s.hist.a.state != .absent
  else if d = 91 then s.hist.b.state != .absent
  else if d = 93 then s.host.portA.fitted
  else if d = 94 then s.host.portB.fitted
  else if d ≤ 97 then paired
  else if d ≤ 125 then s.img.cfg.io.used d
  else if d = 126 then s.hw.console
  else s.upd.sdPower

/-- Is power domain `d` powered, PWR_DOMAIN (16 R402, Tables 16.2, 16.3; 10 R288). -/
def State.domainOn (d : Nat) (s : State) : Bool :=
  if s.pwr.shelf then d == 0 else if classA d then true else !s.pwr.quiesced && s.domainUse d

/-- Is a domain of class G at its work (16 Table 16.3, column Off or gated while). -/
def State.atWork (d : Nat) (s : State) : Bool :=
  if d ≤ 64 then (s.str.toList[d - 57]?.map (·.computing)).getD false
  else if d = 65 then s.scan.running
  else if d = 66 then s.host.sessions.any fun x => x.inExec ≠ 0
  else if d = 67 then s.est.stepRun || s.host.sessions.any (fun x => x.inExec ≠ 0) || s.hist.a.state != .absent || s.hist.b.state != .absent
  else if 69 ≤ d && d ≤ 88 then s.est.stepRun
  else if 117 ≤ d && d ≤ 124 then s.clk.cycleNo % 10 == d - 117 && s.clk.cycleT0 + 80000 ≤ s.now && s.now ≤ s.clk.cycleT0 + 900000
  else true

/-- Is power domain `d` clocked, PWR_AWAKE (16 R402, R404). -/
def State.domainAwake (d : Nat) (s : State) : Bool := s.domainOn d && (classA d || s.atWork d)

/-- Does clock domain `c` run: those on demand only with the domains they serve (16 Table 16.4). -/
def State.clockRuns (c : Nat) (s : State) : Bool :=
  if s.pwr.shelf then c == 0
  else match c with
    | 16 => s.domainOn 90 || s.domainOn 91
    | 17 => s.domainOn 93 || s.domainOn 94
    | 18 => s.domainOn 95
    | 22 => (List.range 8).any fun n => s.domainOn (117 + n) && s.atWork (117 + n)
    | 24 => s.domainOn 126 || s.domainOn 127
    | _ => true

/-- CLK_STATUS: the clocks that run within tolerance (16 R406, Table 16.8). -/
def State.clkStatus (s : State) : Nat := maskOf ((List.range 25).map fun c => bit s.pwr.clkOk.toNat c && s.clockRuns c)

/-- A word of PWR_DOMAIN or PWR_AWAKE: bit d mod 32 of word d / 32 (16 Table 16.8). -/
def State.domainWord (awake : Bool) (w : Nat) (s : State) : Nat :=
  maskOf ((List.range 32).map fun i => if awake then s.domainAwake (32 * w + i) else s.domainOn (32 * w + i))

/-- A block of the field I/O as it is when its domain wakes: its state has been lost, but for a flow channel's stored reference (16 R402). -/
def State.wakeDomain (d : Nat) (s : State) : State :=
  if d ≤ 101 then s.mapAllCan fun p c => if p.val + 98 = d then {} else c
  else if d = 102 then s.modHk fun _ => {}
  else if d ≤ 107 then s.modIo fun o => { o with ai := Vec.updAll o.ai fun i a => if i.val / 4 + 104 = d then {} else a }
  else if d ≤ 115 then s.modIo fun o => { o with ao := Vec.updAll o.ao fun i a => if i.val + 108 = d then {} else a }
  else if d = 116 then s.modIo fun o => { o with qin := Vec.updAll o.qin fun _ _ => {} }
  else if d ≤ 124 then s.modIo fun o => { o with usf := Vec.updAll o.usf fun i u => if i.val + 117 = d then { ref := u.ref } else u }
  else s.modIo fun o => { o with dout := 0, doutRb := 0, doFault := 0 }

/-! ### Salamander (16 R407 to R411) -/

/-- Does a junction sensor read within -60 to +150 C (16 R407). -/
def inSensorRange (w : BitVec 16) : Bool := -6000 ≤ w.toInt && w.toInt ≤ 15000

/-- A value put into a rising list. -/
def insertInt (v : Int) : List Int → List Int
  | [] => [v]
  | x :: t => if v ≤ x then v :: x :: t else x :: insertInt v t

/-- The median of the readings, the mean of the two in the middle of an even number. -/
def medianInt (l : List Int) : Rat :=
  let r := l.foldr insertInt []
  let n := r.length
  if n % 2 = 1 then (((r[n / 2]?).getD 0 : Int) : Rat) else ((((r[n / 2 - 1]?).getD 0 + (r[n / 2]?).getD 0 : Int)) : Rat) / 2

/-- Which junction sensors are valid: in range, and within 10 K of the median of those in range (16 R407). -/
def validSensors (j : Vector (BitVec 16) 12) : List Bool :=
  let l := (j.toList.filter inSensorRange).map (·.toInt)
  let m := medianInt l
  j.toList.map fun w => inSensorRange w && absQ ((w.toInt : Rat) - m) ≤ 1000

/-- The next band up and the junction temperature at which it is entered rising, in 0.01 C (16 Table 16.5). -/
def Band.up : Band → Option (Band × Int)
  | .cold => some (.normal, -1000) | .normal => some (.warm, 8500) | .warm => some (.hot, 10000) | .hot => none

/-- The next band down and the temperature below which it is entered falling (16 Table 16.5). -/
def Band.down : Band → Option (Band × Int)
  | .cold => none | .normal => some (.cold, -1300) | .warm => some (.normal, 8200) | .hot => some (.warm, 9700)

/-- The band that the confirmed changes lead to (16 R408). -/
def Thm.goal (t : Thm) : Band := (t.next.orElse fun _ => t.pend).getD t.band

/-- The runs towards a change of band at a junction temperature (16 R408). -/
def Thm.follow (up : Nat) (junction : Int) (t : Thm) : Thm :=
  let rise := ((t.goal.up).map fun e => decide (junction ≥ e.2)).getD false
  let fall := ((t.goal.down).map fun e => decide (junction < e.2)).getD false
  { t with junction := junction, riseSince := if rise then some (t.riseSince.getD up) else none, fallSince := if fall then some (t.fallSince.getD up) else none }

/-- The coolant request in % from the higher valid base-plate sensor (16 R411). -/
def Policy.coolRequest (p : Policy) (bp : Vector (BitVec 16) 2) : Nat :=
  match (bp.toList.filter fun w => w != 0x8000).map (·.toInt) with
  | [] => 100
  | a :: t =>
    let h := t.foldl max a
    if h ≤ p.bpLow then 0 else if h ≥ p.bpHigh then 100 else (roundQ (lerp h p.bpLow 0 p.bpHigh 100)).toNat

/-- A sensor that becomes invalid is recorded and counted (16 R407). -/
def State.sensorFaults (bad old : Nat) (s : State) : State :=
  State.forEach ((List.range 12).filter fun k => bit bad k && !bit old k) (fun k s => (s.bump 0x010404).emit 0x4134 0x0F0 [k]) s

/-- THERMAL_SENSOR_READ (16 R407, R408, R411): every 1 ms. With fewer than three valid sensors the band is held. -/
def execThermalSensorRead (j : Vector (BitVec 16) 12) (bp : Vector (BitVec 16) 2) (safA safB : BitVec 16) (m : PwrMeas) (s : State) : Host.Outcome State Fault Refusal :=
  .next <|
    let v := validSensors j
    let ok := (j.toList.zip v).filter (·.2)
    let bad := maskOf (v.map (!·))
    let hold := ok.length < 3
    let old := s.thm.bad.toNat
    let wasHold := s.thm.holdLast
    let s := s.modThm fun t => { t with j := Vec.updAll j fun k w => if (v[k.val]?).getD false then w else 0x8000, bp := bp, safA := safA, safB := safB, valid := BitVec.ofNat 12 (maskOf v), bad := BitVec.ofNat 12 bad, sensorFault := bad ≠ 0, holdLast := hold, cool := s.img.cfg.policy.coolRequest bp }
    let s := s.sensorFaults bad old
    let s := s.when (hold && !wasHold) (State.emit 0x4134 0x0F0 [])
    let junction := (ok.map fun e => e.1.toInt).foldl max (-6000)
    let s := s.modThm fun t => if hold then { t with riseSince := none, fallSince := none } else t.follow s.clk.upNs junction
    let s := s.when (s.thm.band == .warm || s.thm.band == .hot) fun s => s.modJrn fun n => { n with throttleMs := n.throttleMs + 1 }
    s.modPwr fun p => { p with inV := m.inV, inI := m.inI, energy := m.energy, load := m.load, high := m.inV.toNat > 3300 }

/-- THM_BAND (16 R408): a crossing is confirmed, 10 ms rising or 1 s falling; it takes effect in the guard window, and after one that is still
taking effect. -/
def execThmBand (s : State) : Host.Outcome State Fault Refusal :=
  .next <|
    let t := s.thm
    let new := if t.riseSince.isSome then t.goal.up.map (·.1) else if t.fallSince.isSome then t.goal.down.map (·.1) else none
    match new with
    | none => s
    | some b => s.modThm fun t => { t with pend := if t.pend.isSome then t.pend else some b, next := if t.pend.isSome then some b else t.next, riseSince := none, fallSince := none }

/-- Is a Ring inside a node step of its enumeration, in which no band change is applied (03 R80). -/
def RingPort.measuring (r : RingPort) : Bool :=
  (r.enumRun.map fun e => !e.held && (e.phase == .assign || e.phase == .session || e.phase == .openCmd || e.phase == .measureA || e.phase == .measureB)).getD false

/-- The settings that follow the band outside the Gecko cluster and history: Ring taps, twin lanes one at a time, the second 1 ms after the first
while that delivers frames, PCIe and SFP+, and the MRAM pulse between writes (16 Table 16.6). -/
def State.bandSettings (s : State) : State :=
  let up := s.twin.lane0.up
  let idle := !s.ffr.writing && s.ffr.revising.isNone && !s.est.learnBusy
  s.modThm fun t =>
    { t with taps := t.band, lane1 := if up then t.lane0 else t.lane1, lane0 := t.band, serdes := t.band, mram := if idle then t.band else t.mram }

/-- The band change that takes effect in this guard window (16 R408, R409): recorded and counted; the next one follows at the next window.
It waits while a Ring is inside a node step; a node step that waits for it goes on (03 R80). -/
def State.bandWindow (s : State) : State :=
  match if s.ring.toList.any RingPort.measuring then none else s.thm.pend with
  | none => s
  | some b =>
    let old := s.thm.band
    let s := s.modThm fun t => { t with band := b, pend := t.next, next := none }
    let s := (s.bump 0x010400).emit 0x0130 0x0F0 (ints [old.code, b.code])
    State.forEach (strings.filter fun n => (s.ring[n].enumRun.map (·.held)).getD false) State.stepGo s

/-- SHUTDOWN_PENDING (16 R410): at 112 C on any shutdown sensor. -/
def execShutdownPending (s : State) : Host.Outcome State Fault Refusal :=
  .next (if s.thm.shutPend then s else (s.modThm fun t => { t with shutPend := true }).emit 0x4135 0x0F0 [])

/-- THERMAL_SHUTDOWN (16 R410; 08 SF21, R206, R212): found by the junction sensor of channel A, of B, or, with neither, by the island's; recorded, then
Table 16.2 from its 1 ms row onwards; the island's latch is set. -/
def execThermalShutdown (a b : Bool) (s : State) : Host.Outcome State Fault Refusal :=
  .next <|
    if s.saf.sf21 then s
    else
      let s := (s.modSaf fun t => { t with sf21 := true }).memberDemand a b 21 0xC138
      let s := (s.modPwr fun p => { p with shutLatch := true }).emit 0xC138 0x0F0 []
      if s.pwr.fail then s else s.powerFailSequence

end Sys2Proof.Machine
end

