-- ==== Sys2Proof/Machine/Firmware.lean ====
section
/-! DEFINITION. Firmware packages, activation and partner transfers (spec 17), start-up enumeration and STANDBY_AT_START, the service
door, the console and the card (spec 19 R447; 12 R321). -/

namespace Sys2Proof.Machine

/-! ### Packages (17 R419, Tables 17.3, 17.4) -/

/-- The header of a package (17 Table 17.3). -/
def PkgHdr.parse (b : List Byte) : PkgHdr :=
  { magic := field b 0 4, format := field b 4 2, kind := field b 6 1, flags := field b 7 1, length := field b 8 4, version := field b 12 2, build := field b 14 2, sec := field b 16 4, hwMin := field b 20 2, hwMax := field b 22 2, target := BitVec.ofNat 384 (field b 0x20 48), base := BitVec.ofNat 384 (field b 0x50 48), body := BitVec.ofNat 384 (field b 0x80 48), ownerKey := BitVec.ofNat 128 (field b 0xB0 16) }

/-- FLAGS [0]. -/
def PkgHdr.delta (h : PkgHdr) : Bool := bit h.flags 0

/-- Check 1 of 17 Table 17.4. -/
def Package.formatOk (b : List Byte) : Bool :=
  let h := PkgHdr.parse b
  h.magic == 0x5746584C && h.format == 1 && 1 ≤ h.kind && h.kind ≤ 3 && h.flags < 2 && (!h.delta || h.kind == 1) && (h.delta || h.base == 0) && b.length ≥ 0x180 && h.length == b.length &&
    h.length ≤ (if h.kind = 1 then 64 else 4) * 1048576 && field b 24 8 == 0 && Config.sha384 (b.drop 0x180) == h.body

/-- Check 3 of 17 Table 17.4: the owner key with FW usage; not required while UNOWNED (10 R270). -/
def State.ownerSigOk (b : List Byte) (s : State) : Bool :=
  s.trust.nv.owner == .unowned ||
    ((s.trust.nv.ownerKey (PkgHdr.parse b).ownerKey 1).map fun k => Config.ecdsaOk k (Config.sha384 (b.take 0x120)) (slice b 0x120 96)).getD false

/-- Does an entry of COMPAT cover a partner of a hardware at a version under a module version (17 R427). -/
def CompatEntry.covers (e : CompatEntry) (kind module hw version : Nat) : Bool :=
  e.kind == kind && e.hw == hw && e.modMin ≤ module && module ≤ e.modMax && e.partMin ≤ version && version ≤ e.partMax

/-- Is a partner covered by COMPAT (17 R427). -/
def State.covered (kind module hw version : Nat) (s : State) : Bool := s.img.cfg.compat.any fun e => e.covers kind module hw version

/-- The running firmware's VERSION. -/
def State.fwVersion (s : State) : Nat := s.majorMinor

/-- The bank that does not run. -/
def State.otherBank (s : State) : FwInfo := if s.upd.runBank then s.upd.bank0 else s.upd.bank1

/-- The bank that does not run, changed. -/
def State.setOther (f : FwInfo) (s : State) : State := s.modUpd fun u => if u.runBank then { u with bank0 := f } else { u with bank1 := f }

/-! ### Conditions (17 R423, Table 17.5) -/

/-- Bits 0 to 4 of 17 Table 17.5: those that apply to every update command. -/
def State.updConds (s : State) : Nat :=
  let carrying := strings.any fun n => s.str[n].aux != 0 && max s.str[n].smp.istrA.natAbs s.str[n].smp.istrB.natAbs > 2000
  maskOf [carrying, !(s.bank.state == .off || s.bank.state == .standby), s.pwr.energy.toNat < 90, s.pwr.inV.toNat < 2000, s.trust.nv.lock]

/-- Bit 5: ACTIVE in a formed pair. -/
def State.updActive (s : State) : Nat := if s.twin.role == .active && s.twin.formed then 32 else 0

/-- Bit 6: what a partner command needs of the member, the string and the partner. -/
def State.updPart (gd : Bool) (n : Fin 8) (pos : Nat) (s : State) : Nat :=
  let r := s.ring[n].mode
  let link := if gd then (((List.finRange 6).find? fun p => p.val == pos).map fun p => s.str[n].gd[p].session).getD false else r == .closed || r == .split
  if !s.leads || s.str[n].state != .service || !link then 64 else 0

/-- COND of UPD_STATUS: the conditions failing now (17 Table 17.8). -/
def State.updCond (s : State) : Nat := s.updConds + s.updActive + (if s.leads then 0 else 64)

/-- UPD_RESULT (17 Table 17.7). -/
def State.updResult (c d : Nat) (s : State) : State := s.modUpd fun u => { u with resCode := BitVec.ofNat 16 c, resDetail := BitVec.ofNat 16 d }

/-! ### Loading (17 R419 to R422) -/

/-- Checks 1 to 7 of 17 Table 17.4, and BUSY while another installation or transfer runs. -/
def State.pkgChecks (b : List Byte) (s : State) : List (Bool × Nat) :=
  let h := PkgHdr.parse b
  let hw := s.ident.hwRev.toNat
  [(s.upd.state != .idle, 0x040B), (!Package.formatOk b, 0x0402), (!Config.ecdsaOk Config.bfrKey (Config.sha384 (b.take 0xB0)) (slice b 0xC0 96), 0x0403),
   (!s.ownerSigOk b, 0x0403), (h.kind == 1 && (hw < h.hwMin || hw > h.hwMax), 0x0404), (h.kind == 1 && h.sec < s.trust.nv.secVersion.toNat, 0x0405),
   (h.kind != 1 && !(s.img.cfg.compat.any fun e => h.hwMin ≤ e.hw && e.hw ≤ h.hwMax && e.covers h.kind s.fwVersion e.hw h.version), 0x0406),
   (s.updConds ≠ 0, 0x0401), (h.delta && h.base != s.running.digest, 0x0407)]

/-- A package that passes its checks: a MODULE's installation into the other bank begins with that bank's digest cleared; a partner's replaces
the stored one (17 R422). -/
def State.installPackage (b : List Byte) (sd : Bool) (s : State) : State :=
  let h := PkgHdr.parse b
  let body := b.drop 0x180
  let s := s.updResult 0 0
  if h.kind = 1 then
    (s.setOther {}).modUpd fun u => { u with state := .loading, installing := some h, staging := if h.delta then Config.applyDelta h.base body else body, sdLoad := if sd then some true else none, progress := h.length }
  else s.modUpd fun u => if h.kind = 2 then { u with partNode := some { hdr := h, data := body } } else { u with partGd := some { hdr := h, data := body } }

/-- A package loaded: refused at the first check that fails, or taken (17 R419, R421). -/
def State.loadPackage (b : List Byte) (sd : Bool) (s : State) : Nat × State :=
  let c := firstCode (s.pkgChecks b)
  if c = 0 then (0, s.installPackage b sd) else (c, s.updRefused c (if c = 0x0401 then s.updConds else 0))

/-- UPD_STAGED (17 R422; check 8): the bank is checked against TARGET_DIGEST, and its digest written last. -/
def execUpdStaged (s : State) : Host.Outcome State Fault Refusal :=
  .next <|
    match s.upd.installing with
    | none => s
    | some h =>
      let ok := Config.sha384 s.upd.staging == h.target
      let s := s.modUpd fun u => { u with state := .idle, installing := none, staging := [], sdLoad := none }
      if ok then
        let s := s.setOther { valid := true, version := BitVec.ofNat 32 (h.version * 65536 + h.build), secVersion := h.sec, digest := h.target }
        (s.updResult 0 0).emit 0x0410 0x050 (ints [h.version, h.build])
      else s.updRefused 0x0408 0

/-- May the card be read: SW2-2 on in both channels, a card that mounts, one matching file (17 R420). -/
def State.sdCode (files : List (List Byte)) (s : State) : Nat := if s.sw2 2 && s.upd.sdCard && s.upd.sdMounts && files.length = 1 then 0 else 0x040D

/-- UPD_CMD = LOAD_SD (17 R420, R423). -/
def Upd.loadSd (files : List (List Byte)) : Write := fun _ s =>
  let c := firstCode [(s.updConds ≠ 0, 0x0401), (s.sdCode files ≠ 0, 0x040D)]
  if c ≠ 0 then (c, s.updRefused c (if c = 0x0401 then s.updConds else 0)) else s.loadPackage ((files.head?).getD []) true

/-- LOAD_SD (17 R420). -/
def execLoadSd (q : Req) (files : List (List Byte)) (s : State) : Host.Outcome State Fault Refusal := .next (s.hostWrite q (Upd.loadSd files))

/-- UPD_CMD = LOAD_SD_IMAGE (17 R420; 02 R41, R43): the result appears in IMG_RESULT; a slot whose plan is partly applied is not touched.
The update lock, bit 4 of Table 17.5, does not affect structure images (10 R283; log 140). -/
def Upd.loadImage (files : List (List Byte)) : Write := fun _ s =>
  let m := s.updConds % 16
  let c := firstCode [(m ≠ 0, 0x0401), (s.sdCode files ≠ 0, 0x040D)]
  if c ≠ 0 then (c, s.updRefused c (if c = 0x0401 then m else 0))
  else
    let s := s.updResult 0 0
    if s.planOpen then (0x010A, s.imgRefused 0x010A 0) else s.beginImageLoad.verifyImage ((files.head?).getD [])

/-- LOAD_SD_IMAGE (17 R420). -/
def execLoadSdImage (q : Req) (files : List (List Byte)) (s : State) : Host.Outcome State Fault Refusal := .next (s.hostWrite q (Upd.loadImage files))

/-- An installation ends before it is complete: the bank being written stays invalid (17 R422). -/
def State.dropInstall (s : State) : State := s.modUpd fun u => { u with state := if u.state == .loading then .idle else u.state, installing := none, staging := [], sdLoad := none }

/-- SD_CARD_INSERTED (17 R420; 16 Table 16.3); in the shelf state the module does not see it (10 R288). -/
def execSdCardInserted (mounts : Bool) (s : State) : Host.Outcome State Fault Refusal :=
  .next (if s.pwr.shelf then s else s.modUpd fun u => { u with sdCard := true, sdMounts := mounts, sdPower := true })

/-- SD_CARD_REMOVED (19 R447): a load from the card ends with UPD_SD; the bank being written is left invalid. -/
def execSdCardRemoved (s : State) : Host.Outcome State Fault Refusal :=
  .next <|
    let running := s.upd.sdLoad.isSome
    let s := s.modUpd fun u => { u with sdCard := false, sdMounts := false, sdPower := false }
    if running then s.dropInstall.updRefused 0x040D 0 else s

/-! ### Activation (17 R424, R425) -/

/-- Does COMPAT cover every enumerated node, and every gate driver with a session, for a module version (17 R424). -/
def State.partsCovered (m : Nat) (s : State) : Bool :=
  s.declared.all fun n =>
    ((List.finRange 24).all fun k =>
      let b := Sparse.get s.est.strs[n].nodes k.val {}
      !s.ring[n].nodes[k].enumerated || s.covered 2 m b.hw b.fw) &&
    (List.finRange 6).all fun p => !s.str[n].gd[p].session || s.covered 3 m s.str[n].gd[p].hw s.str[n].gd[p].fw

/-- The refusals of ACTIVATE in their order (17 R423, R424, R431). -/
def State.activateCode (x : Session) (s : State) : Nat :=
  let o := s.otherBank
  let v := o.version.toNat / 65536
  let h := s.img.cur.hdr
  firstCode [(s.roleOf x != .service, 0x040F), (!o.valid || o.secVersion < s.trust.nv.secVersion.toNat, 0x040C), (s.upd.state != .idle || s.img.pend.isSome || s.img.peer.isSome, 0x040B),
    (s.img.cur.valid && (v < h.fwMin || v > h.fwMax), 0x0409), (!s.partsCovered v, 0x0406),
    (s.img.cfg.paired && ((s.twin.peer.map fun h => decide (v < h.twinMin.toNat || v > h.twinMax.toNat)).getD false), 0x040A), (s.updConds + s.updActive ≠ 0, 0x0401)]

/-- UPD_CMD refused or accepted, with the failing bits of Table 17.5 for UPD_CONDITIONS (17 R423). -/
def Upd.cmd (check : Session → State → Nat) (bits : State → Nat) (effect : State → State) : Write := fun x s =>
  let c := check x s
  if c = 0 then (0, effect (s.updResult 0 0)) else (c, s.updRefused c (if c = 0x0401 then bits s else 0))

/-- UPD_CMD = ACTIVATE: evaluated before the second T0 after the command (17 R424). -/
def Upd.activateCmd : Write :=
  Upd.cmd (fun x s => s.activateCode x) (fun s => s.updConds + s.updActive) fun s => s.modUpd fun u => { u with state := .armed, armedAt := some (s.cycle + 2) }

/-- ACTIVATE (17 R424). -/
def execActivate (q : Req) (s : State) : Host.Outcome State Fault Refusal := .next (s.hostWrite q Upd.activateCmd)

/-- ACTIVATE_EVALUATE (17 R424): at T0 − 100 us; the bank is journaled as the next to start and the module resets at the T0, or nothing is
marked. -/
def execActivateEvaluate (s : State) : Host.Outcome State Fault Refusal :=
  .next <|
    match s.upd.armedAt with
    | none => s
    | some c =>
      if s.cycle + 1 < c then s
      else
        let s := s.atCycle 900000
        let m := s.updConds + s.updActive
        let s := s.modUpd fun u => { u with armedAt := none }
        if m = 0 then s.modUpd fun u => { u with nextBank := !u.runBank, marked := true, armed := true }
        else (s.modUpd fun u => { u with state := .idle }).updRefused 0x0401 m

/-! ### Pack nodes and gate drivers (17 R427 to R429) -/

/-- The source number of a partner. -/
def Src.part (gd : Bool) (n : Fin 8) (pos : Nat) : Nat := if gd then 0x1C0 + n * 6 + pos else 0x100 + n * 24 + (pos - 1)

/-- The phase at a position of UPD_CMD. -/
def phaseAt (pos : Nat) : Option (Fin 6) := (List.finRange 6).find? fun p => p.val == pos

/-- The stored package of a kind. -/
def Upd.stored (gd : Bool) (u : Upd) : Option PartStore := if gd then u.partGd else u.partNode

/-- A partner transfer or activation ends in failure: counted; the partner keeps its previous firmware (17 R423, R428). -/
def State.partFail (c d : Nat) (s : State) : State :=
  ((s.modUpd fun u => { u with xfer := none, state := .idle }).updResult c d).bump 0x440108

/-- A firmware command to a partner: through the Ring's windows, where a refusal of the queue ends the transfer, or in the framing of a
gate-driver session (17 R428, R429). -/
def State.partSend (x : PartXfer) (opcode : BitVec 16) (payload : List Byte) (s : State) : State :=
  match x.gd, phaseAt x.pos with
  | true, some p => s.gdCommand x.str p opcode payload
  | true, none => s
  | false, _ =>
    let r := s.ringRequest x.str { node := x.pos, opcode := opcode, payload := payload, source := 0x050 }
    if r.1 then r.2 else r.2.partFail 0x040E 0

/-- The block at the transfer's offset (17 R428). -/
def State.partBlock (x : PartXfer) (data : List Byte) (s : State) : State :=
  let d := slice data x.offset 240
  s.partSend x 0x50 (leBytes 4 x.offset ++ leBytes 2 d.length ++ [0, 0] ++ d)

/-- The next block after an acknowledged one: the conditions are checked again before it (17 R423, R428). -/
def State.partNext (x : PartXfer) (s : State) : State :=
  match s.upd.stored x.gd with
  | none => s.partFail 0x040C 0
  | some st =>
    let x := { x with offset := x.offset + 240 }
    let m := s.updConds + s.updPart x.gd x.str x.pos
    if x.offset ≥ st.data.length then (s.modUpd fun u => { u with xfer := none, state := .idle, progress := st.data.length }).updResult 0 0
    else if m ≠ 0 then s.partFail 0x0401 m
    else (s.modUpd fun u => { u with xfer := some x, progress := x.offset }).partBlock x st.data

/-- A partner's positive answer to FW_ACTIVATE (17 R428, R429). -/
def State.partActivated (x : PartXfer) (s : State) : State :=
  let v := ((s.upd.stored x.gd).map fun st => st.hdr.version).getD 0
  let s := s.modUpd fun u => { u with xfer := none, state := .idle, pend := u.pend ++ [{ gd := x.gd, str := x.str, pos := x.pos, version := v }], partPending := if x.gd then u.partPending else setBit u.partPending x.str true }
  match x.gd, phaseAt x.pos with
  | true, some p => s.modGd x.str p fun g => { g with session := false, key := none, sess := none }
  | _, _ => s

/-- A partner's reply to FW_BLOCK or FW_ACTIVATE (17 R428). -/
def State.partReply (gd : Bool) (n : Fin 8) (pos : Nat) (opcode : BitVec 16) (ok : Bool) (s : State) : State :=
  match s.upd.xfer with
  | none => s
  | some x =>
    if x.gd != gd || x.str != n || x.pos != pos || x.activate != (opcode == 0x51) then s
    else if !ok then s.partFail 0x040E 0
    else if x.activate then s.partActivated x
    else s.partNext x

/-- A partner's version read: one that COMPAT does not cover is recorded; an activation that awaited it is judged (17 R427, R428). -/
def State.partRead (gd : Bool) (n : Fin 8) (pos : Nat) (i : Option PartInfo) (s : State) : State :=
  let src := Src.part gd n pos
  let bad := (i.map fun i => !s.covered (if gd then 3 else 2) s.fwVersion i.hw i.version).getD false
  let s := s.when bad (State.emit 0x4413 src ((i.map fun i => ints [i.hw, i.version]).getD []))
  match s.upd.pend.find? fun e => e.gd == gd && e.str == n && e.pos == pos with
  | none => s
  | some e =>
    let s := s.modUpd fun u => { u with pend := u.pend.filter fun y => !(y.gd == gd && y.str == n && y.pos == pos) }
    if (i.map fun i => i.version == e.version).getD false then s.emit 0x0412 src [e.version] else (s.emit 0x8414 src [e.version]).bump 0x440108

/-- May UPD_CMD name this position: a node address 1 to 24, or a phase 0 to 5 (17 Table 17.9). -/
def partPosOk (gd : Bool) (pos : Nat) : Bool := if gd then pos ≤ 5 else 1 ≤ pos && pos ≤ 24

/-- The refusals of PART_LOAD and PART_ACTIVATE (17 R423, R428, R431). -/
def State.partCode (gd : Bool) (n : Fin 8) (pos : Nat) (x : Session) (s : State) : Nat :=
  firstCode [(!partPosOk gd pos, 0x0C12), (s.roleOf x != .service, 0x040F), ((s.upd.stored gd).isNone, 0x040C), (s.upd.state != .idle, 0x040B), (s.updConds + s.updPart gd n pos ≠ 0, 0x0401)]

/-- UPD_CMD = PART_LOAD. -/
def Upd.partLoad (gd : Bool) (n : Fin 8) (pos : Nat) : Write :=
  Upd.cmd (fun x s => s.partCode gd n pos x) (fun s => s.updConds + s.updPart gd n pos) fun s =>
    let x : PartXfer := { gd := gd, str := n, pos := pos }
    (s.modUpd fun u => { u with state := .partXfer, xfer := some x, progress := 0 }).partBlock x (((s.upd.stored gd).map (·.data)).getD [])

/-- PART_LOAD (17 R428). -/
def execPartLoad (q : Req) (gd : Bool) (n : Fin 8) (pos : BitVec 5) (s : State) : Host.Outcome State Fault Refusal := .next (s.hostWrite q (Upd.partLoad gd n pos.toNat))

/-- UPD_CMD = PART_ACTIVATE: eight zero bytes and TARGET_DIGEST. -/
def Upd.partActivate (gd : Bool) (n : Fin 8) (pos : Nat) : Write :=
  Upd.cmd (fun x s => s.partCode gd n pos x) (fun s => s.updConds + s.updPart gd n pos) fun s =>
    let x : PartXfer := { gd := gd, str := n, pos := pos, activate := true }
    let d := ((s.upd.stored gd).map fun st => st.hdr.target).getD 0
    (s.modUpd fun u => { u with state := .partXfer, xfer := some x }).partSend x 0x51 (leBytes 8 0 ++ leBytes 48 d.toNat)

/-- PART_ACTIVATE (17 R428). -/
def execPartActivate (q : Req) (gd : Bool) (n : Fin 8) (pos : BitVec 5) (s : State) : Host.Outcome State Fault Refusal := .next (s.hostWrite q (Upd.partActivate gd n pos.toNat))

/-- UPD_CMD = ABORT: stops a load, leaving the bank invalid, or a partner transfer; with nothing running, UPD_NO_PACKAGE (17 Table 17.9). -/
def Upd.abortCmd : Write :=
  Upd.cmd (fun _ s => firstCode [(!(s.upd.state == .loading || s.upd.state == .partXfer), 0x040C), (s.updConds ≠ 0, 0x0401)]) State.updConds fun s =>
    (s.modUpd fun u => { u with xfer := none, state := if u.state == .partXfer then .idle else u.state }).dropInstall

/-- ABORT (17 Table 17.9). -/
def execAbort (q : Req) (s : State) : Host.Outcome State Fault Refusal := .next (s.hostWrite q Upd.abortCmd)

/-- GD_REPLY_RECEIVED (17 R429; 10 R278): a reply whose check or MAC fails is no reply; its exchange then times out. -/
def execGdReplyReceived (n : Fin 8) (p : Fin 6) (f : ReplyFrame) (s : State) : Host.Outcome State Fault Refusal :=
  .next <|
    if !(f.crcOk && f.macOk && s.str[n].gd[p].session) then s
    else if f.opcode = 0x40 then
      if f.status == .ok then
        let i := Config.partInfo f.payload
        (s.modGd n p fun g => { g with hw := i.hw, fw := i.version }).partRead true n p (some i)
      else s.partRead true n p none
    else if f.opcode = 0x50 ∨ f.opcode = 0x51 then s.partReply true n p f.opcode (f.status == .ok)
    else s

/-- GD_REPLY_TIMEOUT (17 R429): no reply within 50 us. -/
def execGdReplyTimeout (n : Fin 8) (p : Fin 6) (s : State) : Host.Outcome State Fault Refusal :=
  .next <|
    match s.upd.xfer with
    | some x => if x.gd && x.str == n && x.pos == p.val then s.partFail 0x040E 0 else s.partRead true n p none
    | none => s.partRead true n p none

/-! ### Start-up (17 R415, R416) -/

/-- START_ENUMERATION (17 R415): once for each string that ENUM_AT_START names, with TSC_VALID set and the Ring's lease; a refusal stands in
RINGn_RESULT (03 R75). -/
def execStartEnumeration (s : State) : Host.Outcome State Fault Refusal :=
  .next <|
    let l := s.declared.filter fun (n : Fin 8) => bit s.img.cfg.policy.enumAtStart.toNat n && !bit s.upd.enumDone.toNat n && s.ringLease n
    let one (n : Fin 8) (s : State) : State :=
      let c := s.enumCode n
      ((s.modUpd fun u => { u with enumDone := setBit u.enumDone n true }).ringResult n c 0).when (c == 0) (State.enumBegin n)
    if !s.clk.tscValid then s else State.forEach l one s

/-- STANDBY_AT_START (17 R416): once after each reset, at the first T0 at which Table 6.1 permits. -/
def execStandbyAtStart (s : State) : Host.Outcome State Fault Refusal :=
  .next <|
    if s.img.cfg.policy.standbyAtStart && !s.upd.standbyDone && s.bank.state == .off && s.standbyConds.all id
    then (s.modUpd fun u => { u with standbyDone := true }).toStandby 1 else s

/-! ### Door, console and card (19 R447; 12 R321) -/

/-- SERVICE_DOOR_OPENED (19 R447); not recorded in the shelf state (10 R288), after which the start reads the door again. -/
def execServiceDoorOpened (s : State) : Host.Outcome State Fault Refusal :=
  .next (if s.hw.doorOpen || s.pwr.shelf then s else (s.modHw fun h => { h with doorOpen := true }).emit 0x0140 0x0F0 [])

/-- SERVICE_DOOR_CLOSED (19 R447). -/
def execServiceDoorClosed (s : State) : Host.Outcome State Fault Refusal :=
  .next (if s.hw.doorOpen && !s.pwr.shelf then (s.modHw fun h => { h with doorOpen := false }).emit 0x0141 0x0F0 [] else s)

/-- CONSOLE_ATTACH (12 R321): one session at a time, of the fixed console entry; its role follows SW2-3. -/
def execConsoleAttach (s : State) : Host.Outcome State Fault Refusal :=
  .next <|
    if s.hw.console then s
    else if s.pwr.quiesced then s.modHw fun h => { h with console := true }
    else (s.modHw fun h => { h with console := true }).modHost fun h => { h with sessions := h.sessions ++ [{ id := 8, port := .console, idleUp := s.clk.upNs }] }

/-- CONSOLE_DETACH (19 R447). -/
def execConsoleDetach (s : State) : Host.Outcome State Fault Refusal :=
  .next ((s.modHw fun h => { h with console := false }).closeWhere fun x => x.port == .console)

end Sys2Proof.Machine
end

