-- ==== Sys2Proof/Machine/RegMap.lean ====
section
/-! DEFINITION. The register map (spec 01, Table 1.9): which addresses hold a register, and with which access code (00 Table 0.5). -/

namespace Sys2Proof.Machine

/-- Access codes (00 Table 0.5); `clr` is a WO register that clears counters under R12. -/
inductive Access where
  | ro | rw | w1c | wo | iw | cw | clr
  deriving DecidableEq, Repr

/-- A run of registers: first offset, last offset, access. -/
abbrev RegRun := Nat × Nat × Access

/-- The access of the register at an offset of a block, if one is defined there. -/
def RegRun.find (l : List RegRun) (o : Nat) : Option Access := (l.find? fun r => r.1 ≤ o && o ≤ r.2.1).map (·.2.2)

/-- Identity (01 Table 1.10). -/
def RegMap.ident : List RegRun := [(0x00, 0x14, .ro), (0x18, 0x18, .rw)]

/-- Power, clocks, thermal (16 Table 16.8). -/
def RegMap.power : List RegRun :=
  [(0x000, 0x000, .ro), (0x004, 0x004, .wo), (0x008, 0x014, .ro), (0x020, 0x03C, .ro), (0x100, 0x108, .ro), (0x10C, 0x10C, .clr),
   (0x200, 0x208, .ro), (0x20C, 0x20C, .clr), (0x300, 0x308, .ro), (0x320, 0x35C, .ro), (0x400, 0x404, .ro), (0x408, 0x408, .clr)]

/-- TSC and PTP (12 Table 12.9). -/
def RegMap.ptp : List RegRun :=
  [(0x000, 0x000, .ro), (0x004, 0x004, .wo), (0x008, 0x008, .ro), (0x00C, 0x00C, .iw), (0x010, 0x014, .ro), (0x018, 0x01C, .rw),
   (0x020, 0x020, .wo), (0x024, 0x034, .ro), (0x038, 0x03C, .iw), (0x100, 0x10C, .ro), (0x110, 0x110, .clr)]

/-- LHP (12 Table 12.7). -/
def RegMap.lhp : List RegRun :=
  [(0x000, 0x008, .ro), (0x00C, 0x00C, .wo), (0x010, 0x010, .ro), (0x014, 0x014, .rw), (0x020, 0x03C, .ro), (0x100, 0x17C, .ro),
   (0x200, 0x214, .ro), (0x218, 0x218, .clr)]

/-- Image control (02 Table 2.10). -/
def RegMap.img : List RegRun := [(0x000, 0x000, .ro), (0x004, 0x004, .wo), (0x008, 0x08C, .ro)]

/-- A string engine (04 Table 4.13, 05 Table 5.13, 06 Table 6.8). -/
def RegMap.str : List RegRun :=
  [(0x000, 0x000, .ro), (0x004, 0x004, .wo), (0x008, 0x008, .ro), (0x00C, 0x010, .w1c), (0x014, 0x014, .iw), (0x018, 0x018, .ro),
   (0x01C, 0x01C, .rw), (0x020, 0x02C, .iw), (0x030, 0x030, .ro), (0x040, 0x058, .cw), (0x080, 0x0A4, .ro), (0x0B0, 0x0B0, .ro),
   (0x0C0, 0x0D4, .ro), (0x0E0, 0x0F4, .ro), (0x100, 0x114, .ro), (0x200, 0x22C, .ro), (0x230, 0x230, .clr), (0x400, 0x400, .ro),
   (0x404, 0x404, .iw), (0x408, 0x414, .ro), (0x418, 0x418, .clr), (0xC00, 0xC00, .iw), (0xC04, 0xC04, .wo), (0xC08, 0xC18, .ro),
   (0xC1C, 0xC1C, .iw), (0xC20, 0xC2C, .ro), (0xC30, 0xC30, .clr), (0xC40, 0xCFC, .iw)]

/-- A Ring port (03 Table 3.13, 04 Table 4.9). -/
def RegMap.ring : List RegRun :=
  [(0x000, 0x000, .ro), (0x004, 0x004, .wo), (0x008, 0x024, .ro), (0x028, 0x028, .clr), (0x040, 0x06C, .ro), (0x100, 0x15C, .ro),
   (0x180, 0x1DC, .ro), (0x200, 0x25C, .ro), (0x300, 0x35C, .ro), (0x360, 0x364, .ro), (0x380, 0x388, .ro), (0x38C, 0x38C, .clr)]

/-- Estimation and dispatch (04 Table 4.16, 06 Table 6.6, 07 Table 7.6). -/
def RegMap.est : List RegRun :=
  [(0x00000, 0x00000, .ro), (0x00004, 0x00004, .wo), (0x00008, 0x00008, .ro), (0x0000C, 0x0000C, .iw), (0x00010, 0x00010, .rw),
   (0x00014, 0x00028, .ro), (0x00100, 0x0017C, .ro), (0x00200, 0x0021C, .ro), (0x00220, 0x00220, .clr), (0x10000, 0x10000, .ro),
   (0x10004, 0x10004, .wo), (0x10008, 0x10024, .ro), (0x10028, 0x1002C, .rw), (0x10030, 0x10030, .ro), (0x10034, 0x10034, .rw),
   (0x10040, 0x1007C, .ro), (0x10100, 0x10110, .ro), (0x10114, 0x10114, .clr), (0x20000, 0x2CBFC, .ro), (0x30000, 0x30000, .rw),
   (0x30004, 0x30010, .ro), (0x30014, 0x30014, .wo), (0x30018, 0x30018, .ro), (0x31000, 0x31BFC, .ro), (0x32000, 0x325FC, .ro),
   (0x32800, 0x32BFC, .ro), (0x33000, 0x33BFC, .ro)]

/-- Safety and trip fabric (08 Table 8.8). -/
def RegMap.saf : List RegRun :=
  [(0x000, 0x000, .ro), (0x004, 0x004, .wo), (0x008, 0x018, .ro), (0x020, 0x03C, .ro), (0x100, 0x124, .ro), (0x128, 0x128, .clr)]

/-- Twin (09 Table 9.10). -/
def RegMap.twin : List RegRun :=
  [(0x000, 0x000, .ro), (0x004, 0x004, .wo), (0x008, 0x03C, .ro), (0x040, 0x060, .ro), (0x100, 0x11C, .ro), (0x120, 0x120, .clr)]

/-- Trust (10 Table 10.13). -/
def RegMap.trust : List RegRun :=
  [(0x000, 0x000, .ro), (0x004, 0x004, .wo), (0x008, 0x01C, .ro), (0x020, 0x020, .rw), (0x024, 0x050, .ro), (0x060, 0x07C, .ro),
   (0x100, 0x114, .ro), (0x118, 0x118, .clr)]

/-- History (11 Table 11.9). -/
def RegMap.hist : List RegRun :=
  [(0x000, 0x000, .ro), (0x004, 0x004, .wo), (0x008, 0x030, .ro), (0x040, 0x07C, .ro), (0x100, 0x118, .ro), (0x11C, 0x11C, .clr)]

/-- First-fault recorder (11 Table 11.11). -/
def RegMap.ffr : List RegRun :=
  [(0x000, 0x000, .ro), (0x004, 0x004, .wo), (0x008, 0x018, .ro), (0x01C, 0x01C, .rw), (0x100, 0x114, .ro), (0x118, 0x118, .clr),
   (0x1000, 0x144C, .ro)]

/-- A CAN port (13 Table 13.8). -/
def RegMap.can : List RegRun :=
  [(0x000, 0x000, .ro), (0x004, 0x004, .wo), (0x008, 0x028, .ro), (0x030, 0x034, .ro), (0x100, 0x124, .ro), (0x128, 0x128, .clr)]

/-- Housekeeping bus (13 Table 13.10). -/
def RegMap.hk : List RegRun :=
  [(0x000, 0x000, .ro), (0x004, 0x004, .wo), (0x008, 0x010, .ro), (0x080, 0x0FC, .ro), (0x100, 0x118, .ro), (0x11C, 0x11C, .clr)]

/-- Analogue I/O (14 Table 14.4). -/
def RegMap.aio : List RegRun := [(0x000, 0x000, .ro), (0x100, 0x1BC, .ro), (0x200, 0x208, .ro), (0x20C, 0x20C, .clr)]

/-- A quadrature channel (14 Table 14.7). -/
def RegMap.qin : List RegRun :=
  [(0x00, 0x00, .ro), (0x04, 0x04, .wo), (0x08, 0x0C, .ro), (0x10, 0x10, .rw), (0x14, 0x14, .ro), (0x20, 0x20, .ro), (0x24, 0x24, .clr)]

/-- A flow channel (14 Table 14.7). -/
def RegMap.usf : List RegRun := [(0x00, 0x00, .ro), (0x04, 0x04, .wo), (0x08, 0x28, .ro), (0x2C, 0x2C, .clr)]

/-- Scan engine and discrete I/O (14 Table 14.8, 15 Table 15.5). -/
def RegMap.scan : List RegRun :=
  [(0x000, 0x000, .ro), (0x004, 0x004, .wo), (0x008, 0x01C, .ro), (0x100, 0x10C, .ro), (0x110, 0x110, .clr), (0xF00, 0xF08, .ro),
   (0xF10, 0xF10, .ro), (0xF14, 0xF14, .clr)]

/-- Update (17 Table 17.7). -/
def RegMap.upd : List RegRun :=
  [(0x000, 0x000, .ro), (0x004, 0x004, .wo), (0x008, 0x01C, .ro), (0x100, 0x108, .ro), (0x10C, 0x10C, .clr)]

/-- The blocks, each with a base and its registers: repeated blocks list every copy (01 Table 1.9). -/
inductive Block where
  | ident | power | ptp | lhp | img
  | str (n : Fin 8)
  | ring (n : Fin 8)
  | est | saf | twin | trust | hist | ffr
  | can (p : Fin 4)
  | hk | aio
  | qin (n : Fin 8)
  | usf (n : Fin 8)
  | scan | upd
  deriving DecidableEq, Repr

/-- The block whose window holds an address, and the offset in it (01 Table 1.9). -/
def Block.of (a : Nat) : Option (Block × Nat) :=
  if a < 0x010000 then some (.ident, a)
  else if a < 0x020000 then some (.power, a - 0x010000)
  else if a < 0x030000 then some (.ptp, a - 0x020000)
  else if a < 0x040000 then some (.lhp, a - 0x030000)
  else if a < 0x080000 then some (.img, a - 0x040000)
  else if a < 0x088000 then some (.str (Fin.ofNat 8 (a / 0x1000)), a % 0x1000)
  else if a < 0x100000 then none
  else if a < 0x108000 then some (.ring (Fin.ofNat 8 (a / 0x1000)), a % 0x1000)
  else if a < 0x180000 then none
  else if a < 0x1C0000 then some (.est, a - 0x180000)
  else if a < 0x200000 then some (.saf, a - 0x1C0000)
  else if a < 0x240000 then some (.twin, a - 0x200000)
  else if a < 0x280000 then some (.trust, a - 0x240000)
  else if a < 0x2C0000 then some (.hist, a - 0x280000)
  else if a < 0x300000 then some (.ffr, a - 0x2C0000)
  else if a < 0x304000 then some (.can (Fin.ofNat 4 (a / 0x1000)), a % 0x1000)
  else if a < 0x340000 then none
  else if a < 0x380000 then some (.hk, a - 0x340000)
  else if a < 0x3C0000 then some (.aio, a - 0x380000)
  else if a < 0x3C0800 then some (.qin (Fin.ofNat 8 (a / 0x100)), a % 0x100)
  else if a < 0x3C1000 then none
  else if a < 0x3C1800 then some (.usf (Fin.ofNat 8 (a / 0x100)), a % 0x100)
  else if a < 0x400000 then none
  else if a < 0x440000 then some (.scan, a - 0x400000)
  else if a < 0x480000 then some (.upd, a - 0x440000)
  else none

/-- The registers of a block. -/
def Block.map : Block → List RegRun
  | .ident => RegMap.ident | .power => RegMap.power | .ptp => RegMap.ptp | .lhp => RegMap.lhp | .img => RegMap.img
  | .str _ => RegMap.str | .ring _ => RegMap.ring | .est => RegMap.est | .saf => RegMap.saf | .twin => RegMap.twin
  | .trust => RegMap.trust | .hist => RegMap.hist | .ffr => RegMap.ffr | .can _ => RegMap.can | .hk => RegMap.hk
  | .aio => RegMap.aio | .qin _ => RegMap.qin | .usf _ => RegMap.usf | .scan => RegMap.scan | .upd => RegMap.upd

/-- The access code of the register at an address; none where no register is defined (01 R34). -/
def Reg.access (a : Nat) : Option Access := (Block.of a).bind fun b => RegRun.find b.1.map b.2

/-- The refusal of an access by its address alone: alignment first, then the map (01 R34). -/
def Reg.addrCode (a : Nat) : Nat := if a % 4 ≠ 0 then 0x0C11 else if (Reg.access a).isNone then 0x0C10 else 0

/-- The counters of a counter-clear register: the first counter and how many (00 R12, 18 Table 18.2). -/
def Reg.clears (a : Nat) : Option (Nat × Nat) :=
  match Block.of a with
  | none => none
  | some (b, o) =>
    let base := a - o
    match b, o with
    | .power, 0x10C => some (base + 0x100, 3)
    | .power, 0x20C => some (base + 0x208, 1)
    | .power, 0x408 => some (base + 0x400, 2)
    | .ptp, 0x110 => some (base + 0x100, 4)
    | .lhp, 0x218 => some (base + 0x200, 6)
    | .str _, 0x230 => some (base + 0x200, 12)
    | .str _, 0x418 => some (base + 0x410, 2)
    | .str _, 0xC30 => some (base + 0xC20, 4)
    | .ring _, 0x028 => some (base + 0x040, 12)
    | .ring _, 0x38C => some (base + 0x380, 3)
    | .est, 0x220 => some (base + 0x200, 8)
    | .est, 0x10114 => some (base + 0x10100, 5)
    | .saf, 0x128 => some (base + 0x100, 10)
    | .twin, 0x120 => some (base + 0x100, 8)
    | .trust, 0x118 => some (base + 0x100, 5)
    | .hist, 0x11C => some (base + 0x100, 7)
    | .ffr, 0x118 => some (base + 0x100, 6)
    | .can _, 0x128 => some (base + 0x100, 10)
    | .hk, 0x11C => some (base + 0x100, 7)
    | .aio, 0x20C => some (base + 0x200, 3)
    | .qin _, 0x24 => some (base + 0x20, 1)
    | .usf _, 0x2C => some (base + 0x20, 3)
    | .scan, 0x110 => some (base + 0x100, 4)
    | .scan, 0xF14 => some (base + 0xF10, 1)
    | .upd, 0x10C => some (base + 0x100, 3)
    | _, _ => none

/-- The registers whose read latches the next one, their _HI half (01 R36). -/
def Reg.isLo (a : Nat) : Bool :=
  a == 0x00000C || a == 0x020010 || a == 0x020018 || a == 0x020030 || a == 0x180020 || a == 0x190010 || a == 0x190018 || a == 0x190028 ||
    a == 0x280024 || a == 0x28002C || a == 0x400014 || (0x080000 ≤ a && a < 0x088000 && a % 0x1000 == 0xC14)

end Sys2Proof.Machine
end

