-- ==== Sys2Proof/Machine/RegRead.lean ====
section
/-! DEFINITION. What each register reads as: one definition per block, each over the block's own register table. -/

namespace Sys2Proof.Machine

/-- The value listed for an offset, 0 where none is. -/
def pick (o : Nat) (l : List (Nat × Nat)) : Nat := ((l.find? fun e => e.1 == o).map (·.2)).getD 0

/-- The element of a run of registers 4 bytes apart that starts at `lo`. -/
def ixOf (lo o : Nat) : Nat := (o - lo) / 4

/-- Is an offset in a run of registers. -/
def inRun (o lo hi : Nat) : Bool := lo ≤ o && o ≤ hi

/-- A number held to an unsigned field. -/
def satN (n v : Nat) : Nat := min (2 ^ n - 1) v

/-- Word `i` of a digest or an identifier whose first byte is in bits [7:0]. -/
def wordOf (v i : Nat) : Nat := v / 2 ^ (32 * i) % 2 ^ 32

/-- CODE in the upper half and DETAIL in the lower. -/
def codeWord (c d : BitVec 16) : Nat := c.toNat * 65536 + d.toNat

/-- A bit field. -/
def flag (b : Bool) (i : Nat) : Nat × Nat := (b2n b, i)

/-! ### Module blocks -/

/-- Identity (01 Tables 1.10 to 1.12). -/
def Ident.read (o : Nat) (s : State) : Nat :=
  let i := s.ident
  pick o [(0x00, 0x9208), (0x04, i.version.toNat), (0x08, i.hwRev.toNat), (0x0C, wordOf i.serial.toNat 0), (0x10, wordOf i.serial.toNat 1),
    (0x14, fields [flag (s.img.cur.valid && s.img.cfg.paired) 17, flag i.member 16, (if s.img.cur.valid then s.img.cur.hdr.bankId.toNat else 0, 0)]),
    (0x18, i.scratch.toNat)]

/-- Power, clocks, thermal (16 Tables 16.8 to 16.10). -/
def Pwr.read (o : Nat) (s : State) : Nat :=
  let p := s.pwr
  let t := s.thm
  if inRun o 0x020 0x02C then s.domainWord false (ixOf 0x020 o)
  else if inRun o 0x030 0x03C then s.domainWord true (ixOf 0x030 o)
  else if inRun o 0x320 0x34C then ((t.j[ixOf 0x320 o]?).getD 0).toNat
  else if inRun o 0x350 0x354 then ((t.bp[ixOf 0x350 o]?).getD 0).toNat
  else
    pick o [(0x000, fields [flag (decide (p.inV.toNat ≥ 1800)) 31, flag p.dip 30, flag p.fail 29, flag p.full 28, flag p.weak 27, flag p.test 26, flag p.high 25]),
      (0x008, codeWord p.resCode 0), (0x00C, codeWord p.inI p.inV), (0x010, codeWord p.cap 0 + p.energy.toNat), (0x014, p.load.toNat),
      (0x200, s.clkStatus), (0x204, p.gkDiv.toNat),
      (0x300, fields [(t.band.code, 29), flag t.shutPend 28, flag t.sensorFault 27, flag t.holdLast 26, (t.valid.toNat, 12)]),
      (0x304, t.cool), (0x308, satN 32 (s.jrn.throttleMs / 1000)), (0x358, t.safA.toNat), (0x35C, t.safB.toNat)]

/-- TSC and PTP (12 Tables 12.9 to 12.11). -/
def Ptp.read (o : Nat) (s : State) : Nat :=
  let p := s.ptp
  let prof := match p.profile with | .udp => 0 | .l2 => 1 | .power => 2
  pick o [(0x000, fields [flag s.clk.tscValid 31, flag p.locked 30, flag p.holdover 29, flag (s.clk.slewRem != 0) 28, flag p.masterPending 27, flag p.portB 26, (p.gmClass.toNat, 16)]),
    (0x008, codeWord p.resCode 0), (0x00C, fields [flag p.servo 31, (prof, 29), (p.domain.toNat, 16), (p.classMax.toNat, 8)]),
    (0x010, wordOf s.now 0), (0x014, wordOf s.now 1), (0x018, wordOf s.clk.incr.toNat 0), (0x01C, wordOf s.clk.incr.toNat 1),
    (0x024, fixS 32 ((s.clk.slewRem : Rat) / 2 ^ 32)), (0x028, twos 32 (satInt 32 p.masterOfs)), (0x02C, satN 32 p.pathDelay),
    (0x030, wordOf p.gmId.toNat 0), (0x034, wordOf p.gmId.toNat 1), (0x038, p.asymA.toNat), (0x03C, p.asymB.toNat)]

/-- The index of a session's identity in the journal; open where none is held (12 Table 12.7; log 3). -/
def State.identIndex (x : Session) (s : State) : Nat :=
  if x.port == .console then 15 else ((s.jrn.identOf x.ident).map (·.slot)).getD (s.freshNat % 16)

/-- LHP_SESSs (12 Table 12.7). -/
def State.sessWord (i : Nat) (s : State) : Nat :=
  match s.session i with
  | none => 0
  | some x =>
    let role := match s.roleOf x with | .read => 0 | .operate => 1 | .service => 2
    fields [(role, 30), flag (x.port == .b) 29, flag x.provisional 28, (x.credits, 23), (s.identIndex x, 0)]

/-- LHP_PORT_A and LHP_PORT_B (12 Table 12.8). -/
def State.portWord (p : HostPort) (s : State) : Nat :=
  let l := s.portOf p
  fields [flag l.up 31, flag l.fitted 30, flag l.los 29, flag (bit s.img.cfg.io.portFast.toNat (b2n (p == .b))) 28,
    ((s.host.sessions.filter fun x => x.port == p).length, 24), (l.ptpState.toNat, 16)]

/-- A word of LHP_XFER_MAP: which of its 32 blocks the selected transfer holds (12 Table 12.7). -/
def State.xferWord (w : Nat) (s : State) : Nat :=
  match s.xfer s.host.xferSel.toNat with
  | none => 0
  | some t => maskOf ((List.range 32).map fun i => (Sparse.find t.blocks (32 * w + i)).isSome)

/-- LHP (12 Table 12.7). -/
def HostIf.read (o : Nat) (s : State) : Nat :=
  if inRun o 0x020 0x03C then s.sessWord (ixOf 0x020 o)
  else if inRun o 0x100 0x17C then s.xferWord (ixOf 0x100 o)
  else
    pick o [(0x000, fields [(s.tlsSessions, 28), flag (s.host.sessions.any fun x => x.port == .console) 27, (s.jrn.idents.length, 0)]),
      (0x004, s.portWord .a), (0x008, s.portWord .b), (0x010, codeWord s.host.resCode 0), (0x014, s.host.xferSel.toNat)]

/-- PLAN_STATE (02 Table 2.11). -/
def PlanState.code : PlanState → Nat
  | .none => 0 | .ready => 1 | .partly => 2 | .complete => 3 | .pending => 4

/-- Image control (02 Tables 2.10 to 2.15). Without a profile in force, ACTIVE_PROFILE shows SW1, its reset value. -/
def Img.read (o : Nat) (s : State) : Nat :=
  let i := s.img
  if inRun o 0x030 0x05C then wordOf i.cur.hdr.digest.toNat (ixOf 0x030 o)
  else if inRun o 0x060 0x08C then wordOf i.stg.hdr.digest.toNat (ixOf 0x060 o)
  else
    pick o [(0x000, fields [((i.profActive.getD i.profSelected).toNat, 28), (i.profSelected.toNat, 24), (i.plan.code, 16), flag i.profPending 5, flag i.peerMatch 4, flag i.stg.valid 3, flag i.cur.valid 2]),
      (0x008, codeWord i.resCode i.resDetail), (0x00C, (Img.steps i).length), (0x010, s.jrn.stepsDone), (0x014, s.counter 0x040014), (0x018, i.envFail.toNat),
      (0x01C, fields [(s.saf.a.sw1.toNat, 12), (s.saf.b.sw1.toNat, 8), (s.saf.a.sw2.toNat, 4), (s.saf.b.sw2.toNat, 0)]),
      (0x020, s.saf.a.profCrc.toNat), (0x024, s.saf.b.profCrc.toNat), (0x028, i.reenum.toNat), (0x02C, i.cur.hdr.serial)]

/-! ### Strings and Rings -/

/-- The value of a sense channel (05 Table 5.2). -/
def Samples.chan (m : Samples) (c : Nat) : Int :=
  if c = 0 then m.vbus else if c = 1 then m.vstr else if c = 8 then m.istrA else if c = 9 then m.istrB else (m.iph[c - 2]?).getD 0

/-- The coefficient register at an offset (05 Table 5.13). -/
def Coeffs.read (c : Coeffs) (o : Nat) : Nat :=
  pick o [(0x040, c.kpPh.toNat), (0x044, c.kiPh.toNat), (0x048, c.kff.toNat), (0x04C, c.kpStr.toNat), (0x050, c.kiStr.toNat), (0x054, c.kpBus.toNat), (0x058, c.kiBus.toNat)]

/-- STRn_STATUS (05 Table 5.14). -/
def State.strStatus (n : Fin 8) (s : State) : Nat :=
  let e := s.str[n]
  fields [(e.state.code, 28), flag e.busMode 27, flag e.synced 26, flag e.syncLost 25, flag e.lockout 24, flag (s.strLease n) 23,
    flag e.loop.ramping 22, flag e.sat 21, (maskOf (phases.map fun p => (e.gd[p]).healthy), 15)]

/-- STRn_EVT, STRn_MISS and the other plain registers of the string engine (05 Tables 5.13 to 5.22, 06 Table 6.9). -/
def StrEng.read (n : Fin 8) (o : Nat) (s : State) : Nat :=
  let e := s.str[n]
  let r := s.rc[n]
  if inRun o 0x040 0x058 then e.coeffs.read o
  else if inRun o 0x080 0x0A4 then twos 32 (satInt 32 (e.smp.chan (ixOf 0x080 o)))
  else if inRun o 0x0C0 0x0D4 then fixU 24 (((e.duty[ixOf 0x0C0 o]?).getD 0) * 2 ^ 24)
  else if inRun o 0x0E0 0x0F4 then
    let g := (e.gd[ixOf 0x0E0 o]?).getD {}
    fields [flag g.dataFault 31, flag g.mgmtFault 30, flag g.session 29, (g.flags.toNat, 16), (g.temp.toNat, 0)]
  else if inRun o 0x100 0x114 then fixU 18 (((e.loop.weights[ixOf 0x100 o]?).getD 0) * 2 ^ 16)
  else
    pick o [(0x000, s.strStatus n), (0x008, codeWord e.resCode e.resDetail), (0x00C, fields [(min 3 e.missConsec, 4), flag e.missTripped 1, flag e.missFlag 0]),
      (0x010, e.evt.toNat), (0x014, e.phaseCfg.toNat), (0x018, e.period.toNat), (0x01C, e.ctl.toNat), (0x020, e.ramp.toNat), (0x024, e.ilimChg.toNat),
      (0x028, e.ilimDis.toNat), (0x02C, codeWord e.tbalG 0 + e.tbalWmax.toNat), (0x030, fields [(e.aux.toNat, 8), (e.drives.toNat, 0)]), (0x0B0, e.snsValid.toNat),
      (0x400, fields [flag r.learning 31, flag r.applied 30, flag r.locked 29, flag r.fading 28, flag r.high 27, flag r.source 26]),
      (0x404, r.gain.toNat), (0x408, r.freq.toNat), (0x40C, r.resid.toNat)]

/-- STATE of STRn_SWP_STATUS (04 Table 4.15). -/
def SweepState.code : SweepState → Nat
  | .idle => 0 | .running => 1 | .redo => 2 | .done => 3 | .aborted => 4

/-- Sweep registers of a string (04 Tables 4.13 to 4.15). -/
def Sweep.read (n : Fin 8) (o : Nat) (s : State) : Nat :=
  let w := s.sweep[n]
  if inRun o 0xC40 0xCFC then Sparse.get w.regFreq (ixOf 0xC40 o) 0
  else
    pick o [(0xC00, w.regCfg.toNat), (0xC08, fields [(w.state.code, 28), flag w.pending.isSome 27, flag w.tpt 26, (w.point % 64, 16), (w.id.toNat, 0)]),
      (0xC0C, codeWord w.resCode w.resDetail), (0xC10, ((w.pending.map fun p => p.id.toNat)).getD 0), (0xC14, wordOf w.refused.toNat 0),
      (0xC18, wordOf w.refused.toNat 1), (0xC1C, w.regTpt.toNat)]

/-- MODE of RINGn_STATUS (03 Table 3.14). -/
def RingMode.code : RingMode → Nat
  | .idle => 0 | .silent => 1 | .enum => 2 | .closed => 3 | .split => 4 | .lost => 5 | .enumFailed => 6

/-- STATE of RINGn_FLOOP (03 Table 3.18). -/
def LoopState.code : LoopState → Nat
  | .closed => 0 | .opened => 1 | .abnLow => 2 | .abnHigh => 3

/-- Ring port and sensing registers (03 Tables 3.13 to 3.19, 04 Tables 4.9 to 4.12). -/
def RingPort.read (n : Fin 8) (o : Nat) (s : State) : Nat :=
  let r := s.ring[n]
  let d := s.sense[n]
  let node (i : Nat) : NodeEntry := (r.nodes[i]?).getD {}
  let comp (i : Nat) : SenseNode := (d.nodes[i]?).getD {}
  if inRun o 0x100 0x15C then codeWord (node (ixOf 0x100 o)).dlyB (node (ixOf 0x100 o)).dlyA
  else if inRun o 0x180 0x1DC then codeWord (node (ixOf 0x180 o)).tdlyB (node (ixOf 0x180 o)).tdlyA
  else if inRun o 0x200 0x25C then (node (ixOf 0x200 o)).status.toNat
  else if inRun o 0x300 0x35C then codeWord (comp (ixOf 0x300 o)).compB (comp (ixOf 0x300 o)).compA
  else
    pick o [(0x000, fields [(r.mode.code, 28), flag (s.ringLease n) 27, flag (s.repeating n) 26, flag r.drift 25, flag (r.closeStep != .none) 24, (r.nodeCount, 19)]),
      (0x008, codeWord r.resCode r.resDetail), (0x00C, fields [(r.pos2.toNat, 8), (r.pos.toNat, 0)]), (0x010, r.nodesMiss.toNat), (0x014, r.loopEnum.toNat),
      (0x018, r.loopNow.toNat), (0x01C, r.segART.toNat), (0x020, r.segBRT.toNat), (0x024, fields [(r.floop.code, 30), (r.floopUa.toNat, 0)]),
      (0x360, fields [(twos 16 (satInt 16 d.deltaB), 16), (twos 16 (satInt 16 d.deltaA), 0)]), (0x364, fields [flag d.alignUnc 31, flag d.compPending 30])]

/-! ### Estimation, dispatch, impedance -/

/-- The string shown by EST_ZSEL (04 Table 4.16). -/
def State.zStr (s : State) : Fin 8 := Fin.ofNat 8 (bits s.est.zsel.toNat 18 16)

/-- The result of the point shown by EST_ZSEL. -/
def State.zPoint (s : State) : PointRes := Sparse.get s.sweep[s.zStr].results (bits s.est.zsel.toNat 5 0) {}

/-- The cell with number `c` of the string shown by EST_ZSEL, numbers from 1. -/
def State.zCell (c : Nat) (s : State) : Cell := s.cell (cellIndex s.zStr (s.topo s.zStr).cells c)

/-- EST_TINT of a cell (04 R124, Table 4.16): INVALID with no value, without an offset, or older than three periods. -/
def State.tintInvalid (c : Nat) (s : State) : Bool :=
  match (s.zCell c).tInt with
  | none => true
  | some (_, t) => let p := s.sweep[s.zStr].regTpt.toNat; p ≠ 0 && s.now - t > 3 * p * 1000000000

/-- A word of EST_TINT. -/
def State.tintWord (c : Nat) (s : State) : Nat :=
  match (s.zCell c).tInt with
  | none => 0x8000 + 0xFFFF * 65536
  | some (v, t) => satN 16 ((s.now - t) / 1000000000) * 65536 + (if s.tintInvalid c then 0x8000 else fixS 16 (100 * v))

/-- A word of four bytes, first in bits [7:0]. -/
def bytesWord (f : Nat → Nat) : Nat := f 0 + 256 * f 1 + 65536 * f 2 + 16777216 * f 3

/-- A byte of EST_TFLAG (04 Table 4.16). -/
def State.tflag (c : Nat) (s : State) : Nat := b2n (s.zCell c).learn.delta.isNone + 2 * b2n (s.tintInvalid c)

/-- Impedance registers (04 Tables 4.16, 4.17). -/
def Est.readZ (o : Nat) (s : State) : Nat :=
  let w := s.sweep[s.zStr]
  let p := s.zPoint
  if inRun o 0x31000 0x31BFC then
    let z := Sparse.get p.cells (ixOf 0x31000 o / 2 + 1) {}
    if !z.complete then nanWord.toNat else if ixOf 0x31000 o % 2 = 0 then z.re.toNat else z.im.toNat
  else if inRun o 0x32000 0x325FC then s.tintWord (ixOf 0x32000 o + 1)
  else if inRun o 0x32800 0x32BFC then bytesWord fun i => if o - 0x32800 + i < 384 then s.tflag (o - 0x32800 + i + 1) else 0
  else if inRun o 0x33000 0x33BFC then
    let x := s.zCell (ixOf 0x33000 o / 2 + 1)
    let v := if ixOf 0x33000 o % 2 = 0 then x.rOhm.map (·.1) else x.rCt
    ((v.map toF32).getD nanWord).toNat
  else
    pick o [(0x30000, s.est.zsel.toNat), (0x30004, fields [(w.id.toNat, 16), (w.lastStatus, 8), (p.status.toNat, 0)]), (0x30008, p.freq),
      (0x3000C, p.curRe.toNat), (0x30010, p.curIm.toNat), (0x30018, codeWord s.est.zres 0)]

/-- SOH_Q and SOH_R of a cell in 0.01 % (07 R185, Table 7.6). -/
def State.sohWord (x : Cell) (s : State) : Nat :=
  let m := s.img.cfg.model
  let q := if m.qNom = 0 then 0 else x.learn.q / m.qNom
  let r := if x.learn.rOhm = 0 then 0 else m.rOhmNom / x.learn.rOhm
  fixU 16 (10000 * q) * 65536 + fixU 16 (10000 * r)

/-- Is cell index `b` absent from the topology (07 R201). -/
def State.cellAbsent (b : Nat) (s : State) : Bool :=
  let c := s.topo (Fin.ofNat 8 (b / 384))
  !(c.declared && b % 384 / 16 < c.packs && b % 16 < c.cells)

/-- Is the last balancing command confirmed by a cell's node still in force (07 R200). -/
def State.balOf (b : Nat) (s : State) : Bool := s.since (Sparse.get s.est.strs[Fin.ofNat 8 (b / 384)].nodes (b % 384 / 16) {}).confirmUp < 2500000000

/-- A byte of EST_CFLAG (07 Table 7.6). -/
def State.cflag (b : Nat) (s : State) : Nat :=
  let x := if s.cellAbsent b then {} else s.cell b
  x.flags (s.balOf b) + (if s.cellAbsent b then 128 else 0)

/-- The per-cell registers (07 Table 7.6). -/
def Est.readCell (o : Nat) (s : State) : Nat :=
  if o < 0x2C000 && s.cellAbsent ((o - 0x20000) % 0x3000 / 4) then 0
  else if o < 0x23000 then let x := s.cell (ixOf 0x20000 o); fixU 16 (100 * x.learn.socR) * 65536 + fixU 16 (100 * x.socE)
  else if o < 0x26000 then s.sohWord (s.cell (ixOf 0x23000 o))
  else if o < 0x29000 then let x := s.cell (ixOf 0x26000 o); fixU 16 (10 * x.iPl) * 65536 + fixS 16 (10 * x.plm)
  else if o < 0x2C000 then fixU 24 (1000 * (s.cell (ixOf 0x29000 o)).learn.q)
  else bytesWord fun i => s.cflag (o - 0x2C000 + i)

/-- The power that the strings in RUN can take or give (07 Table 7.6). -/
def State.availPower (charge : Bool) (s : State) : Nat :=
  fixU 32 (sumQ ((strings.filter fun n => s.str[n].state == .run).map fun n =>
    (if charge then s.est.strs[n].iChg else s.est.strs[n].iDis) * s.str[n].vMean))

/-- EST_SOCn, EST_ICHGn, EST_IDISn and EST_PLMn (07 Table 7.6). -/
def Est.readStr (o : Nat) (s : State) : Nat :=
  let t := (s.est.strs[(o - 0x100) / 0x10]?).getD {}
  pick (o % 0x10) [(0x0, fixU 16 (100 * t.socS) * 65536 + fixU 16 (100 * t.socMin)), (0x4, fixU 16 (10 * t.iChg)), (0x8, fixU 16 (10 * t.iDis)), (0xC, t.mCell * 65536 + fixS 16 (10 * t.mS))]

/-- Estimation registers (07 Tables 7.6, 7.7). -/
def Est.readEst (o : Nat) (s : State) : Nat :=
  let e := s.est
  if inRun o 0x100 0x17C then Est.readStr o s
  else
    pick o [(0x000, fields [(if e.stretch ≤ 1 then 0 else if e.stretch = 2 then 1 else 2, 30), flag e.learnBusy 29, flag e.learnPending 28,
        (maskOf (e.strs.toList.map (·.converged)), 16), (maskOf (e.strs.toList.map (·.balActive)), 8), (maskOf (e.strs.toList.map (·.rest)), 0)]),
      (0x008, codeWord e.resCode 0), (0x00C, e.socRate.toNat), (0x010, e.balSuspend.toNat), (0x014, fixU 16 (100 * e.bankSoc)), (0x018, s.availPower true),
      (0x01C, s.availPower false), (0x020, wordOf s.jrn.learnSeq 0), (0x024, wordOf s.jrn.learnSeq 1), (0x028, satN 32 (if s.jrn.learnDone.isNone then 2 ^ 32 else s.learnAge / 1000000000))]

/-- Dispatch and bank registers (06 Tables 6.6, 6.7). -/
def Bank.read (o : Nat) (s : State) : Nat :=
  let b := s.bank
  if inRun o 0x10040 0x1005C then twos 32 (satInt 32 ((b.shares[ixOf 0x10040 o]?).getD {}).p)
  else if inRun o 0x10060 0x1007C then twos 32 (satInt 32 ((b.shares[ixOf 0x10060 o]?).getD {}).i)
  else
    pick o [(0x10000, b.state.code * 2 ^ 28), (0x10008, codeWord b.resCode b.resDetail),
      (0x1000C, fields [flag b.limited 31, flag b.mode 30, flag b.ramping 29, flag b.staleEst 28, (b.lead.toNat, 24), (b.eligible.toNat, 16), (s.waitingDisp.length, 0)]),
      (0x10010, wordOf s.jrn.accSeq 0), (0x10014, wordOf s.jrn.accSeq 1), (0x10018, wordOf s.jrn.doneSeq 0), (0x1001C, wordOf s.jrn.doneSeq 1),
      (0x10020, twos 32 b.target), (0x10024, satN 32 b.short), (0x10028, wordOf b.qsel.toNat 0), (0x1002C, wordOf b.qsel.toNat 1), (0x10030, b.qstat.toNat), (0x10034, b.gridFreq.toNat)]

/-! ### Safety, twin, trust -/

/-- Safety registers (08 Tables 8.8 to 8.12). -/
def Safety.read (o : Nat) (s : State) : Nat :=
  let t := s.saf
  let f := t.fab
  if inRun o 0x020 0x03C then ((t.cause[ixOf 0x020 o]?).getD 0).toNat
  else
    pick o [(0x000, fields [flag f.armed 31, flag t.a.run 30, flag t.b.run 29, flag t.cmpOk 28, flag t.testDue 27, flag t.estopActive 26, flag f.extLow.active 25,
        flag s.pcsStands 24, flag f.cfgMismatch 23, flag t.profileOk 22, ((t.a.shedDem ||| t.b.shedDem).toNat, 8), ((t.a.faultDem ||| t.b.faultDem).toNat, 0)]),
      (0x008, codeWord t.resCode t.resDetail), (0x00C, fields [(t.a.coil.toNat, 24), (t.b.coil.toNat, 16), (t.a.pwm.toNat, 8), (t.b.pwm.toNat, 0)]),
      (0x010, fields [flag f.global 31, (f.latchOc.toNat, 16), (f.latchGd.toNat, 8), (f.latchLoop.toNat, 0)]),
      (0x014, fields [flag f.discrepancy 3, flag f.resetArmed 2, flag (!f.estopB.active) 1, flag (!f.estopA.active) 0]),
      (0x018, match t.testUp with | some u => satN 32 (s.since u / 1000000000) | none => 0xFFFFFFFF)]

/-- Which leases of a group are held, as a mask. -/
def Lease.mask (l : List Lease) (peer : Bool) : Nat := maskOf (l.map fun x => if peer then x.peer else x.held)

/-- ACTIVE_IN (09 Table 9.11). -/
def Line3.code : Line3 → Nat
  | .low => 0 | .high => 1 | .floating => 2

/-- Twin registers (09 Tables 9.10 to 9.14). A module alone holds its leases without a line of Table 9.3. -/
def Twin.read (o : Nat) (s : State) : Nat :=
  let w := s.twin
  if inRun o 0x028 0x03C then Lease.mask ((w.pack.toList.drop (32 * ixOf 0x028 o)).take 32) false
  else if inRun o 0x040 0x05C then ((w.str[ixOf 0x040 o]?).getD {}).epoch.toNat
  else
    pick o [(0x000, fields [(w.role.code, 29), flag w.formed 28, flag w.solo 27, flag w.activeOut 26, (w.activeIn.code, 24), flag w.fenceOut 23, flag w.fenceConf 22,
        flag w.fenceIn 21, flag w.releasing 20, flag (w.resync != .idle) 19, flag w.timeLock 18]),
      (0x008, codeWord w.resCode w.resDetail), (0x00C, Config.peerSummary w.peer % 2 ^ 32), (0x010, fields [flag w.hbOk 3, flag w.lane1.up 1, flag w.lane0.up 0]),
      (0x014, twos 32 (satInt 32 w.tscOfs)), (0x018, twos 32 (satInt 32 w.ptpDiff)), (0x01C, (satN 16 (s.img.cfg.pair.formWaitMs / 100)) * 65536),
      (0x020, fields [(Lease.mask w.str.toList true, 8), (Lease.mask w.str.toList false, 0)]),
      (0x024, fields [flag w.hist.held 16, (Lease.mask w.ring.toList true, 8), (Lease.mask w.ring.toList false, 0)]), (0x060, w.hist.epoch.toNat),
      (0x108, fields [(s.counter 0x200109, 16), (s.counter 0x200108, 0)])]

/-- Trust registers (10 Tables 10.13, 10.14). -/
def Trust.read (o : Nat) (s : State) : Nat :=
  let t := s.trust
  let v := t.nv
  let own := match v.owner with | .unowned => 0 | .owned => 1 | .zeroised => 2
  if inRun o 0x024 0x050 then wordOf ((t.meas[t.msel.toNat]?).getD 0).toNat (ixOf 0x024 o)
  else if inRun o 0x060 0x06C then wordOf v.dik.toNat (ixOf 0x060 o)
  else if inRun o 0x070 0x07C then wordOf v.rsk.toNat (ixOf 0x070 o)
  else
    pick o [(0x000, fields [(own, 30), flag v.lock 29, flag v.tampered 28, flag t.policyReport 27, flag t.backupLow 26, flag t.backupFail 25, flag t.bankFallback 24,
        flag t.fwBank 23, flag t.pending.isSome 22, flag s.twin.peerKey.isSome 21, (v.keys.length, 16)]),
      (0x008, codeWord t.resCode t.resDetail), (0x00C, v.bootCount.toNat), (0x010, v.secVersion.toNat), (0x014, v.ownerGen.toNat), (0x018, v.tokenCtr.toNat),
      (0x01C, t.backupMv.toNat + 65536 * b2n t.charging), (0x020, t.msel.toNat)]

/-! ### Records -/

/-- STATE of HIST_STATUS (11 Table 11.10). -/
def HistState.code : HistState → Nat
  | .absent => 0 | .resuming => 1 | .writing => 2 | .stalled => 3 | .full => 4 | .notWriter => 5

/-- The state of a copy (11 Table 11.9). -/
def CopyState.code : CopyState → Nat
  | .absent => 0 | .labelling => 1 | .inSync => 2 | .rebuilding => 3 | .failed => 4 | .foreign => 5

/-- HIST_COPY_A and HIST_COPY_B (11 Table 11.9). -/
def HistCopy.word (c : HistCopy) : Nat := fields [(c.state.code, 28), (satN 28 c.rebuilt, 0)]

/-- HIST_STATUS (11 Table 11.10). -/
def Hist.status (h : Hist) : Nat :=
  let cs := [h.a, h.b]
  let attached := cs.filter fun c => c.state != .absent
  fields [(h.state.code, 28), (h.nv.profile.toNat, 24), flag h.low 23, flag h.refusing 22, flag ((cs.filter fun c => c.state == .inSync).length == 1) 21,
    flag (cs.any fun c => c.state == .labelling || c.state == .rebuilding) 20, flag (!attached.isEmpty && attached.all (·.reserved)) 19, flag h.raw 18]

/-- History registers (11 Table 11.9). -/
def Hist.read (o : Nat) (s : State) : Nat :=
  let h := s.hist
  if inRun o 0x040 0x06C then wordOf h.nv.headLink.toNat (ixOf 0x040 o)
  else if inRun o 0x070 0x07C then wordOf h.nv.storeId.toNat (ixOf 0x070 o)
  else
    pick o [(0x000, h.status), (0x008, codeWord h.resCode 0), (0x00C, h.capSeg), (0x010, h.nv.freeSeg), (0x014, h.nv.headSeg % 2 ^ 32), (0x018, h.rate.toNat),
      (0x01C, h.a.word), (0x020, h.b.word), (0x024, wordOf (h.nv.nextRseq - 1) 0), (0x028, wordOf (h.nv.nextRseq - 1) 1), (0x02C, wordOf h.wseq 0), (0x030, wordOf h.wseq 1)]

/-- The record shown in FFR_RDATA (11 Table 11.11): index 0 is the first. -/
def Ffr.selected (f : Ffr) : Option FfrRec := f.nv.recs.reverse[f.rsel.toNat]?

/-- A word of FFR_RDATA; reads beyond the record return zero (11 Table 11.11). -/
def State.rdataWord (i : Nat) (s : State) : Nat :=
  match s.ffr.selected with
  | none => 0
  | some r => field (r.stored) (4 * i) 4

/-- First-fault recorder registers (11 Table 11.11). With no record present FFR_FIRST_SEQ is open (log 3). -/
def Ffr.read (o : Nat) (s : State) : Nat :=
  let f := s.ffr
  if inRun o 0x1000 0x144C then s.rdataWord (ixOf 0x1000 o)
  else
    pick o [(0x000, fields [flag f.nv.full 31, flag f.nv.archived 30, flag (!f.mirroring.isEmpty) 29, (f.queue.length, 0)]), (0x008, codeWord f.resCode 0),
      (0x00C, f.nv.commitSeq.toNat), (0x010, f.nv.recs.length), (0x014, Ffr.area - f.nv.bytes),
      (0x018, match f.nv.recs.getLast? with | some r => r.seq.toNat | none => s.freshNat % 2 ^ 32), (0x01C, f.rsel.toNat)]

/-! ### Field buses, process I/O, plant logic, update -/

/-- ERR_STATE of CANn_STATUS (13 Table 13.9). -/
def CanErr.code : CanErr → Nat
  | .active => 0 | .passive => 1 | .busOff => 2 | .recovering => 3

/-- CANn_TXBb (13 Table 13.8). -/
def CanBuf.word (b : CanBuf) : Nat :=
  match b.frame with
  | none => 0
  | some f => fields [(1, 31), flag b.inTx 30, flag f.ide 29, (f.ident.toNat, 0)]

/-- CAN port registers (13 Tables 13.8, 13.9). -/
def CanPort.read (p : Fin 4) (o : Nat) (s : State) : Nat :=
  let c := s.can[p]
  let g := s.canCfg p
  if inRun o 0x020 0x028 then ((c.bufs[ixOf 0x020 o]?).getD {}).word
  else
    pick o [(0x000, fields [(c.err.code, 30), flag (s.canMonitor p) 29, flag g.idOrder 28, flag g.triple 27, flag c.autoWait 26, (c.q0.length, 7), (c.q1.length, 1)]),
      (0x008, codeWord c.resCode 0), (0x00C, c.tec * 65536 + c.recv), (0x010, g.nbt.toNat), (0x014, g.dbt.toNat), (0x018, fields [(c.tdcMeas.toNat, 16), (g.sspOffset, 0)]),
      (0x01C, c.txq.length), (0x030, fields [flag g.master 31, (c.cycleCount.toNat, 0)]), (0x034, c.stations.toNat)]

/-- HK_TGTt (13 Table 13.10). -/
def State.tgtWord (t : Nat) (s : State) : Nat :=
  let x := s.tgt t
  fields [flag x.present 31, (x.lastFail.toNat, 29), (((s.hkCfg t).map (·.addr)).getD 0, 0)]

/-- Housekeeping bus registers (13 Table 13.10). -/
def Hk.read (o : Nat) (s : State) : Nat :=
  let h := s.hk
  if inRun o 0x080 0x0FC then s.tgtWord (ixOf 0x080 o)
  else
    pick o [(0x000, fields [flag h.stuck 31, flag h.alert 30, flag (h.xact != .none) 29, flag h.alertHold 28, ((h.tgts.toList.filter (·.present)).length, 0)]),
      (0x008, codeWord h.resCode 0), (0x00C, s.beacon), (0x010, h.alertLast.toNat)]

/-- AIO_IRAWi (14 Table 14.5). -/
def AnaIn.rawWord (a : AnaIn) : Nat := fields [flag a.clamp 19, (a.cls, 16), (fixU 16 (a.filt.getD 0), 0)]

/-- AIO_OUTi (14 Table 14.6). -/
def AnaOut.word (a : AnaOut) : Nat := fields [flag a.fault 31, flag a.fail 30, flag a.hold 29, flag a.highZ 28, (a.cmd, 0)]

/-- Analogue I/O registers (14 Tables 14.4 to 14.6). -/
def Io.readAio (o : Nat) (s : State) : Nat :=
  let i := s.io
  let inp (k : Nat) : AnaIn := (i.ai[k]?).getD {}
  let out (k : Nat) : AnaOut := (i.ao[k]?).getD {}
  if inRun o 0x100 0x13C then let a := inp (ixOf 0x100 o); if a.invalid then nanWord.toNat else a.value.toNat
  else if inRun o 0x140 0x17C then (inp (ixOf 0x140 o)).rawWord
  else if inRun o 0x180 0x19C then (out (ixOf 0x180 o)).word
  else if inRun o 0x1A0 0x1BC then (out (ixOf 0x1A0 o)).readBack
  else pick o [(0x000, fields [flag i.supplyOk 31, (maskOf (i.ao.toList.map (·.fault)), 16), (maskOf (i.ai.toList.map (·.invalid)), 0)])]

/-- Mode of a quadrature channel (14 Table 14.7). -/
def QinMode.code : QinMode → Nat
  | .x1 => 0 | .x2 => 1 | .x4 => 2 | .pulse => 3 | .pulseDir => 4

/-- The time that the registers of a domain's block show: of its last run where it sleeps (01 R35). -/
def State.upAt (d : Nat) (s : State) : Nat := Sparse.get s.pwr.sleepAt d s.clk.upNs

/-- Quadrature registers (14 Table 14.7). -/
def Qin.read (n : Fin 8) (o : Nat) (s : State) : Nat :=
  let q := s.io.qin[n]
  pick o [(0x00, fields [flag q.uncertain 31, flag q.suspect 30, flag q.wrapped 29, (s.img.cfg.io.qin[n].mode.code, 0)]), (0x08, codeWord q.resCode 0),
    (0x0C, q.count.toNat), (0x10, q.preset.toNat), (0x14, twos 32 (satInt 32 (q.rate (s.upAt 116))))]

/-- Flow registers (14 Table 14.7). Before any valid pair the age of Q is open (log 3). -/
def Usf.read (n : Fin 8) (o : Nat) (s : State) : Nat :=
  let u := s.io.usf[n]
  let age := match u.lastUp with | some t => satN 16 ((s.upAt (117 + n) - t) / 1000000) | none => s.freshNat % 65536
  pick o [(0x00, fields [flag u.valid 31, flag u.xdcr 30, (u.lastFail.toNat, 28), flag u.lastCause 27, (age, 0)]), (0x08, codeWord u.resCode 0),
    (0x0C, (if u.valid then toF32 u.q else nanWord).toNat), (0x10, u.tdn.toNat), (0x14, u.tup.toNat), (0x18, u.sos.toNat), (0x1C, u.qual.toNat)]

/-- Scan engine and discrete I/O registers (14 Table 14.8, 15 Tables 15.5, 15.6). -/
def Scan.read (o : Nat) (s : State) : Nat :=
  let c := s.scan
  pick o [(0x000, fields [(c.state.code, 30), flag c.codeBank 29, flag c.stepPend 28, flag s.scanShadow 27, (satN 8 (c.bad.filter fun k => k < 0x500).length, 8)]),
    (0x008, codeWord c.resCode 0), (0x00C, s.img.cfg.io.scanMs % 1024), (0x010, satN 16 c.maxUs * 65536 + satN 16 c.lastUs), (0x014, wordOf c.count 0), (0x018, wordOf c.count 1),
    (0x01C, satN 32 (s.holdTotal / 1000000)), (0xF00, s.io.din.toNat), (0xF04, fields [(s.io.doutRb.toNat, 16), (s.io.dout.toNat, 0)]),
    (0xF08, (strings.foldl (fun a n => a + s.str[n].aux.toNat * 2 ^ (3 * n.val)) 0))]

/-- STATE of UPD_STATUS (17 Table 17.8). -/
def UpdState.code : UpdState → Nat
  | .idle => 0 | .loading => 1 | .armed => 2 | .partXfer => 3

/-- Update registers (17 Tables 17.7, 17.8). -/
def Upd.read (o : Nat) (s : State) : Nat :=
  let u := s.upd
  let ver (f : FwInfo) : Nat := if f.valid then f.version.toNat else 0
  let part (p : Option PartStore) : Nat := (p.map fun x => x.hdr.version * 65536 + x.hdr.build).getD 0
  pick o [(0x000, fields [(u.state.code, 28), flag u.runBank 27, flag s.otherBank.valid 26, flag u.nextBank 25, flag u.sdCard 24, (u.partPending.toNat, 16), (s.updCond, 0)]),
    (0x008, codeWord u.resCode u.resDetail), (0x00C, ver u.bank0), (0x010, ver u.bank1), (0x014, part u.partNode), (0x018, part u.partGd), (0x01C, u.progress)]

/-! ### The whole map -/

/-- Is a register a counter: its value stands in the counter table under its address (00 R11, 18 Table 18.2). -/
def Block.counterAt (b : Block) (o : Nat) : Bool :=
  match b with
  | .power => inRun o 0x100 0x108 || o == 0x208 || inRun o 0x400 0x404
  | .ptp => inRun o 0x100 0x10C
  | .lhp => inRun o 0x200 0x214
  | .str _ => inRun o 0x200 0x22C || inRun o 0x410 0x414 || inRun o 0xC20 0xC2C
  | .ring _ => inRun o 0x040 0x06C || inRun o 0x380 0x388
  | .est => inRun o 0x200 0x21C || inRun o 0x10100 0x10110
  | .saf => inRun o 0x100 0x124
  | .twin => inRun o 0x100 0x11C && o != 0x108
  | .trust => inRun o 0x100 0x114
  | .hist => inRun o 0x100 0x118
  | .ffr => inRun o 0x100 0x114
  | .can _ => inRun o 0x100 0x124
  | .hk => inRun o 0x100 0x118
  | .aio => inRun o 0x200 0x208
  | .qin _ => o == 0x20
  | .usf _ => inRun o 0x20 0x28
  | .scan => inRun o 0x100 0x10C || o == 0xF10
  | .upd => inRun o 0x100 0x108
  | _ => false

/-- What a block reads at an offset that is no counter. -/
def Block.read (b : Block) (o : Nat) (s : State) : Nat :=
  match b with
  | .ident => Ident.read o s
  | .power => Pwr.read o s
  | .ptp => Ptp.read o s
  | .lhp => HostIf.read o s
  | .img => Img.read o s
  | .str n => if o ≥ 0xC00 then Sweep.read n o s else StrEng.read n o s
  | .ring n => RingPort.read n o s
  | .est => if o ≥ 0x30000 then Est.readZ o s else if o ≥ 0x20000 then Est.readCell o s else if o ≥ 0x10000 then Bank.read o s else Est.readEst o s
  | .saf => Safety.read o s
  | .twin => Twin.read o s
  | .trust => Trust.read o s
  | .hist => Hist.read o s
  | .ffr => Ffr.read o s
  | .can p => CanPort.read p o s
  | .hk => Hk.read o s
  | .aio => Io.readAio o s
  | .qin n => Qin.read n o s
  | .usf n => Usf.read n o s
  | .scan => Scan.read o s
  | .upd => Upd.read o s

/-- The value of the register at an address: a WO register reads zero (00 Table 0.5); a write that waits for the next T0 is what its register
reads (01 R30; log 33). -/
def State.readReg (a : Nat) (s : State) : Word :=
  match Block.of a, Reg.access a with
  | some (b, o), some k =>
    if k == .wo || k == .clr then 0
    else
      match Sparse.find s.host.regWrites a with
      | some v => v
      | none => BitVec.ofNat 32 (if b.counterAt o then s.counter a else b.read o s)
  | _, _ => 0

end Sys2Proof.Machine
end

