-- ==== Sys2Proof/Machine/RegWrite.lean ====
section
/-! DEFINITION. What a host write does to each register (spec 00 R12, R14; 01 R30): one definition per block. A command register answers
to the same `Write` as the command's own row. -/

namespace Sys2Proof.Machine

/-! ### Counter clears -/

/-- The counters that a clear register's bits select; a lane counter has two halves (00 R12, 09 Table 9.10). -/
def Reg.cleared (a v : Nat) : List Nat :=
  match Reg.clears a with
  | none => []
  | some (base, n) => ((List.range n).filter fun i => bit v i).map fun i => base + 4 * i

/-- The keys under which a counter register stands in the counter table. -/
def Counter.keys (a : Nat) : List Nat := if a = 0x200108 then [0x200108, 0x200109] else [a]

/-- Counters cleared (00 R12; 18 R435, R436): the record and the signed report carry the address, the bits and every prior value. -/
def State.clearCounters (a v : Nat) (s : State) : State :=
  let l := Reg.cleared a v
  let keys := (l.map Counter.keys).flatten
  let body := ints ([a, v] ++ l.map fun c => (s.readReg c).toNat)
  if l.isEmpty then s
  else
    let t := (s.setCtr (s.ctr.filter fun c => !keys.contains c.1)).setCtrSat (s.ctrSat.filter fun c => !keys.contains c)
    (t.emit 0x0002 (Counter.source a) body).signedReport 3 0 (valBytes 4 body)

/-- The write of a counter-clear register. -/
def Reg.clearWrite (a : Nat) (v : Word) : Write := fun _ s => (0, s.clearCounters a v.toNat)

/-! ### Refusals -/

/-- A value that a field does not define: ACCESS_DENIED, also in the block's RESULT (00 R14). -/
def Reg.deny (result : Nat → State → State) : Write := fun _ s => (0x0C12, result 0x0C12 s)

/-- Where a block has no RESULT register. -/
def Reg.denyBare : Write := fun _ s => (0x0C12, s)

/-- A write accepted without a check. -/
def Reg.store (f : State → State) : Write := fun _ s => (0, f s)

/-- The refusals of an IW write outside the strings: the range, the tuning lock, the image (00 R14, Table 0.5; 02 Table 2.8). -/
def State.iwCode (a : Nat) (ok : Bool) (s : State) : Nat :=
  firstCode [(!ok, 0x0C12), (s.sw2 4, 0x0505), (decide (a ∈ s.img.cfg.iwDenied), 0x0C12)]

/-- An IW write of the PTP block: a refusal's code stands in PTP_RESULT too (00 R14). -/
def Ptp.iw (a : Nat) (f : State → State) : Write := Write.cmd (fun _ s => s.iwCode a true) State.ptpResult f

/-! ### Module blocks -/

/-- The command byte of a command register. -/
def cmdByte (v : Word) : Nat := bits v.toNat 7 0

/-- Identity. -/
def Ident.write (o : Nat) (v : Word) : Write := if o = 0x18 then Reg.store fun s => s.modIdent fun i => { i with scratch := v } else Reg.denyBare

/-- PWR_CMD. -/
def Pwr.write (v : Word) : Write :=
  if cmdByte v = 1 then Pwr.testCmd else Reg.deny fun c s => s.modPwr fun p => { p with resCode := BitVec.ofNat 16 c }

/-- TSC and PTP (12 Table 12.9). -/
def Ptp.write (o : Nat) (v : Word) : Write :=
  let a := 0x020000 + o
  match o with
  | 0x004 => if cmdByte v = 1 then Ptp.accept else Reg.deny State.ptpResult
  | 0x00C => Ptp.iw a fun s => s.modPtp fun p => { p with servo := bit v.toNat 31, locked := p.locked && bit v.toNat 31 }
  | 0x018 => Ptp.incrLo v
  | 0x01C => Ptp.incrHi v
  | 0x020 => Ptp.offset v
  | 0x038 => Ptp.iw a fun s => s.modPtp fun p => { p with asymA := BitVec.ofNat 16 v.toNat }
  | 0x03C => Ptp.iw a fun s => s.modPtp fun p => { p with asymB := BitVec.ofNat 16 v.toNat }
  | _ => Reg.denyBare

/-- LHP (12 Table 12.7): a selected target is one of Table 12.3. -/
def HostIf.write (o : Nat) (v : Word) : Write :=
  if o = 0x00C then
    (if cmdByte v = 1 then HostIf.forget (bits v.toNat 11 8) else Reg.deny fun c s => s.modHost fun h => { h with resCode := BitVec.ofNat 16 c })
  else if o = 0x014 then
    (if bits v.toNat 1 0 = 0 then Reg.deny fun c s => s.modHost fun h => { h with resCode := BitVec.ofNat 16 c }
     else Reg.store fun s => s.modHost fun h => { h with xferSel := BitVec.ofNat 2 v.toNat })
  else Reg.denyBare

/-- IMG_CMD (02 Table 2.12): any other value is refused too, with PLAN_BUSY while a step is pending (02 R46). -/
def Img.write (v : Word) : Write :=
  match cmdByte v with
  | 1 => Img.change .commit false
  | 2 => Img.change .forward false
  | 3 => Img.change .forward true
  | 4 => Img.change .reverse false
  | 5 => Img.change .reverse true
  | 6 => Img.discard
  | _ => Write.cmd (fun _ s => if s.img.pend.isSome then 0x0114 else 0x0C12) (fun c s => s.imgResult c 0) id

/-! ### Strings and Rings -/

/-- STRn_CMD (05 Table 5.15). -/
def StrEng.writeCmd (n : Fin 8) (v : Word) : Write :=
  match cmdByte v with
  | 1 => StrEng.enableCmd n
  | 2 => StrEng.disableCmd n
  | 3 => StrEng.startCmd n
  | 4 => StrEng.holdCmd n
  | 5 => StrEng.resumeCmd n
  | 6 => StrEng.stopCmd n
  | 7 => StrEng.shedCmd n
  | 8 => StrEng.serviceCmd n
  | 9 => StrEng.clearCmd n
  | _ => StrEng.cmd n (fun _ _ => (0x0C12, 0)) id

/-- The refusals of an IW write to a string: the lease, the bounds, the tuning lock, the image (05 R158, R139, Table 5.13). -/
def State.strIwCode (n : Fin 8) (o : Nat) (ok : StrCfg → Bool) (s : State) : Nat :=
  firstCode [(!s.strLease n, 0x0508), (!ok s.boundCfg.strs[n], 0x0503), (s.sw2 4, 0x0505), (decide (Reg.str n o ∈ s.img.cfg.iwDenied), 0x0C12)]

/-- An IW write to a string (05 Table 5.13). -/
def StrEng.iw (n : Fin 8) (o : Nat) (ok : StrCfg → Bool) (f : State → State) : Write :=
  Write.cmd (fun _ s => s.strIwCode n o ok) (State.tuneResult n o) f

/-- A binary32 value within the bounds of CONTROL (06 Table 6.8). -/
def StrCfg.f32In (o : Nat) (lo hi : Rat) (v : Word) (c : StrCfg) : Bool := ((f32 v).map fun q => c.inBound o lo hi q).getD false

/-- Is a temperature period in s one of Table 4.13 within the bounds of CONTROL; 0 is none (04 Table 4.13; 02 Table 2.9). -/
def StrCfg.tptOk (c : StrCfg) (p : Nat) : Bool := p = 0 || (30 ≤ p && p ≤ 3600 && c.inBound 0xC1C 30 3600 p)

/-- Is the value of a register that waits for T0 within its range and the bounds of CONTROL (05 Table 5.13). -/
def StrCfg.heldOk (c : StrCfg) (o w : Nat) : Bool :=
  match o with
  | 0x020 => 10 ≤ w % 65536 && w % 65536 ≤ 2000 && c.inBound o 10 2000 (w % 65536 : Nat)
  | 0x024 => w % 65536 ≤ c.iChgMax
  | 0x028 => w % 65536 ≤ c.iDisMax
  | 0x02C => bits w 31 16 ≤ 500 && bits w 7 0 ≤ 15 && c.inBound o 0 500 (bits w 31 16 : Nat)
  | _ => true

/-- Is a value of EST_SOC_RATE within its range and the bounds of CONTROL (07 Table 7.6). -/
def DispCfg.socRateOk (c : DispCfg) (w : Nat) : Bool := max 10 c.socRateLo ≤ w % 65536 && w % 65536 ≤ min 1000 c.socRateHi

/-- The bits of a held register that its fields take; the reserved ones read zero (00 R14). -/
def Reg.heldMask (a : Nat) : Word :=
  match Block.of a with
  | some (.str _, 0x02C) => 0xFFFF00FF
  | some (.est, 0x10) => 0xFF
  | _ => 0xFFFF

/-- A held write takes effect (01 R30): a register of a string, or of estimation. -/
def State.applyReg (a : Nat) (v : Word) (s : State) : State :=
  let w := v.toNat
  match Block.of a with
  | some (.str n, o) =>
    s.modStr n fun e =>
      match o with
      | 0x020 => { e with ramp := BitVec.ofNat 16 w }
      | 0x024 => { e with ilimChg := BitVec.ofNat 16 w }
      | 0x028 => { e with ilimDis := BitVec.ofNat 16 w }
      | 0x02C => { e with tbalG := BitVec.ofNat 16 (bits w 31 16), tbalWmax := BitVec.ofNat 8 (bits w 7 0) }
      | _ => e
  | some (.est, 0x0C) => s.modEst fun e => { e with socRate := BitVec.ofNat 16 w }
  | some (.est, 0x10) => s.modEst fun e => { e with balSuspend := BitVec.ofNat 8 w }
  | _ => s

/-- A held write judged by the configuration in force at its T0: in effect, or refused with its code and the register unchanged (02 R51; log
63). -/
def State.applyHeld (a : Nat) (v : Word) (s : State) : State :=
  match Block.of a with
  | some (.str n, o) => if (s.topo n).heldOk o v.toNat then s.applyReg a v else s.tuneResult n o 0x0503
  | some (.est, 0x0C) => if s.img.cfg.disp.socRateOk v.toNat then s.applyReg a v else s.estResult 0x0C12
  | _ => s.applyReg a v

/-- Every held write takes effect at T0. -/
def State.applyRegs (s : State) : State :=
  (State.forEach s.host.regWrites (fun e s => s.applyHeld e.1 e.2) s).modHost fun h => { h with regWrites := [] }

/-- A write that feeds bank-cycle work: held until the next T0, and in effect at once where it completes exactly at T0; at the T0 of a commit
it waits for the new configuration (01 R30; 02 R51). -/
def State.deferReg (a : Nat) (v : Word) (s : State) : State :=
  let v := v &&& Reg.heldMask a
  if s.now = s.clk.cycleT0 && !s.commitDue then s.applyReg a v else s.modHost fun h => { h with regWrites := Sparse.put h.regWrites a v }

/-- An IW write to a string that feeds bank-cycle work: it takes effect at the next T0 (01 R30; log 33). -/
def StrEng.iwLater (n : Fin 8) (o : Nat) (v : Word) : Write := StrEng.iw n o (fun c => c.heldOk o v.toNat) (State.deferReg (Reg.str n o) v)

/-- STRn_SWP_CMD (04 Table 4.13). -/
def Sweep.writeCmd (n : Fin 8) (v : Word) : Write :=
  match cmdByte v with
  | 1 => Sweep.start n
  | 2 => Sweep.abort n
  | 3 => Sweep.cancel n
  | _ => Reg.deny (State.swpResult n)

/-- Sweep registers (04 Tables 4.13, 4.14). -/
def Sweep.write (n : Fin 8) (o : Nat) (v : Word) : Write :=
  if o = 0xC00 then StrEng.iw n o (fun c => c.swpOk v.toNat) fun s => s.modSweep n fun w => { w with regCfg := v &&& 0xFFFF003F }
  else if o = 0xC04 then Sweep.writeCmd n v
  else if o = 0xC1C then
    let p := v.toNat % 65536
    StrEng.iw n o (fun c => c.tptOk p) fun s => s.modSweep n fun w => { w with regTpt := BitVec.ofNat 16 p, tptDueIn := p }
  else if inRun o 0xC40 0xCFC then
    StrEng.iw n o (fun c => v.toNat % 2 ^ 24 = 0 || c.swpFreqBound (v.toNat % 2 ^ 24)) fun s => s.modSweep n fun w => { w with regFreq := Sparse.set w.regFreq (ixOf 0xC40 o) (v.toNat % 2 ^ 24) }
  else Reg.denyBare

/-- String engine registers (05 Tables 5.13 to 5.20, 06 Table 6.8). -/
def StrEng.write (n : Fin 8) (o : Nat) (v : Word) : Write :=
  let w := v.toNat
  if o ≥ 0xC00 then Sweep.write n o v
  else if inRun o 0x040 0x058 then StrEng.cwWrite n (Fin.ofNat 7 (ixOf 0x040 o)) v
  else
    match o with
    | 0x004 => StrEng.writeCmd n v
    | 0x00C => Reg.store fun s => s.modStr n fun e => { e with missFlag := e.missFlag && !bit w 0, missTripped := e.missTripped && !bit w 1 }
    | 0x010 => Reg.store fun s => s.modStr n fun e => { e with evt := e.evt &&& ~~~(BitVec.ofNat 8 w) }
    | 0x014 => StrEng.iw n o (fun _ => true) fun s => s.modStr n fun e => { e with phaseCfg := BitVec.ofNat 16 w }
    | 0x01C => StrEng.ctlWrite n v
    | 0x020 | 0x024 | 0x028 | 0x02C => StrEng.iwLater n o v
    | 0x404 => StrEng.iw n o (StrCfg.f32In o (1 / 1000) (1 / 20) v) fun s => s.modRc n fun r => { r with gain := v }
    | _ => Reg.denyBare

/-- RINGn_CMD (03 Table 3.15): any other value is refused too, without the lease with RING_NO_LEASE (03 R96). -/
def RingPort.write (n : Fin 8) (v : Word) : Write :=
  match cmdByte v with
  | 1 => Ring.enumerate n
  | 2 => Ring.close n
  | _ => Write.cmd (fun _ s => if s.ringLease n then 0x0C12 else 0x020B) (fun c s => s.ringResult n c 0) id

/-! ### Estimation and dispatch -/

/-- EST_CMD (07 Table 7.6). -/
def Est.writeCmd (v : Word) : Write :=
  match cmdByte v with
  | 1 => Est.reinitCmd (BitVec.ofNat 8 (bits v.toNat 15 8))
  | 2 => Est.learnCmd
  | _ => Write.cmd (fun _ s => if s.leads then 0x0702 else 0x0701) State.estResult id

/-- EST_BANK_CMD (06 Table 6.6). Precharge's outcome, where only the word is given, is open (log 33). -/
def Bank.writeCmd (v : Word) : Write :=
  match cmdByte v with
  | 1 => Bank.standbyCmd
  | 2 => fun x s => Bank.prechargeCmd (if h : s.freshNat % 9 < 8 then some ⟨s.freshNat % 9, h⟩ else none) x s.tick
  | 3 => Bank.runCmd
  | 4 => Bank.holdCmd
  | 5 => Bank.stopCmd
  | 6 => Bank.clearCmd
  | 7 => Bank.serviceCmd
  | 8 => Bank.offCmd
  | _ => Reg.deny fun c s => s.bankResult c 0

/-- EST_ZSEL (04 Table 4.16): a POINT above 47 names no point. -/
def Est.writeZsel (v : Word) : Write :=
  if bits v.toNat 5 0 > 47 then Reg.deny State.estResult else Reg.store fun s => s.modEst fun e => { e with zsel := v &&& 0x0007003F }

/-- EST_ZCMD (04 Table 4.16). -/
def Est.writeZcmd (v : Word) : Write :=
  if cmdByte v = 1 then Sweep.calTemp (BitVec.ofNat 8 (bits v.toNat 15 8)) else Reg.deny fun c s => s.modEst fun e => { e with zres := BitVec.ofNat 16 c }

/-- Estimation, dispatch and impedance registers (04 Table 4.16, 06 Table 6.6, 07 Table 7.6). -/
def Est.write (o : Nat) (v : Word) : Write :=
  let a := 0x180000 + o
  match o with
  | 0x00004 => Est.writeCmd v
  | 0x0000C => Write.cmd (fun _ s => s.iwCode a (s.img.cfg.disp.socRateOk v.toNat)) State.estResult (State.deferReg a v)
  | 0x00010 => Write.cmd (fun _ s => if s.leads then 0 else 0x0701) State.estResult (State.deferReg a v)
  | 0x10004 => Bank.writeCmd v
  | 0x10028 => Reg.store fun s => s.modBank fun b => { b with qsel := BitVec.ofNat 64 (wordOf b.qsel.toNat 1 * 2 ^ 32 + v.toNat) }
  | 0x1002C => Bank.query v
  | 0x10034 => Bank.gridWrite v
  | 0x30000 => Est.writeZsel v
  | 0x30014 => Est.writeZcmd v
  | _ => Reg.denyBare

/-! ### The other blocks -/

/-- SAF_CMD (08 R233, Table 8.8). The test's outcome, where only the word is given, is open (log 33). -/
def Safety.write (v : Word) : Write :=
  if cmdByte v = 1 then fun x s => Safety.testCmd (if h : s.freshNat % 9 < 8 then some ⟨s.freshNat % 9, h⟩ else none) x s.tick
  else fun x s => if !s.leads then (0x0802, s.safResult 0x0802 0) else Reg.deny (fun c s => s.safResult c 0) x s

/-- TWIN_CMD (09 R262, Table 9.12). -/
def Twin.write (v : Word) : Write :=
  match cmdByte v with
  | 1 => Twin.switchoverCmd
  | 2 => Twin.unfenceCmd
  | 3 => Twin.resyncCmd
  | _ => fun x s =>
    if !s.img.cfg.paired || s.twin.role != .active then Twin.cmd (fun _ _ => (0x0901, 0)) id x s
    else Reg.deny (fun c s => s.twinResult c 0) x s

/-- TRUST_CMD and TRUST_MSEL (10 Tables 10.13, 10.15). -/
def Trust.write (o : Nat) (v : Word) : Write :=
  let mask : Byte := BitVec.ofNat 8 (bits v.toNat 15 8)
  if o = 0x020 then Reg.store fun s => s.modTrust fun t => { t with msel := BitVec.ofNat 3 v.toNat }
  else
    match cmdByte v with
    | 1 => Trust.applyToken
    | 2 => Trust.secCommit
    | 3 => Trust.gdSession mask
    | 4 => Trust.bindCmd mask
    | _ => Reg.deny fun c s => s.trustResult c 0

/-- HIST_CMD (11 Table 11.9). The namespace found, where only the word is given, is open (log 33). -/
def Hist.write (v : Word) : Write :=
  let force := bit v.toNat 16
  match cmdByte v with
  | 1 => fun x s => Hist.attach false force (Config.freeShelf s.free) x s.tick
  | 2 => fun x s => Hist.attach true force (Config.freeShelf s.free) x s.tick
  | 3 => Hist.newStore
  | 4 => Hist.sealCmd
  | 5 => Hist.selectProfile (BitVec.ofNat 4 (bits v.toNat 11 8))
  | _ => Write.cmd (fun _ s => if s.writes then 0x0C12 else 0x0B04) State.histResult id

/-- CLEAR in a plain register write (11 R314): the service role; a commit in progress makes it fail. -/
def Ffr.clearCmd : Write :=
  Write.cmd (fun x s => firstCode [(s.roleOf x != .service, 0x0B07), (s.ffr.writing || s.ffr.revising.isSome || !s.ffr.nv.archived, 0x0B06)])
    State.ffrResult State.clearRecords

/-- FFR_CMD and FFR_RSEL (11 Table 11.11): an index that holds no record names nothing present. -/
def Ffr.write (o : Nat) (v : Word) : Write :=
  if o = 0x01C then fun x s =>
    if v.toNat < s.ffr.nv.recs.length then (0, s.modFfr fun f => { f with rsel := v }) else Reg.deny State.ffrResult x s
  else
    match cmdByte v with
    | 1 => Ffr.archive
    | 2 => Ffr.clearCmd
    | _ => Reg.deny State.ffrResult

/-- CANn_CMD (13 Table 13.8, R363). -/
def CanPort.write (p : Fin 4) (v : Word) : Write :=
  match cmdByte v with
  | 1 => CanPort.recoverCmd p
  | 2 => CanPort.abortCmd p (BitVec.ofNat 2 (bits v.toNat 9 8))
  | _ => Write.cmd (fun _ s => if s.leads then 0x0C12 else 0x0D02) (State.canResult p) id

/-- HK_CMD (13 Table 13.10, R363). The line after the clear, where only the word is given, is open (log 33). -/
def Hk.write (v : Word) : Write :=
  if cmdByte v = 1 then fun x s => Hk.clearCmd (s.freshNat % 2 == 1) x s.tick
  else Write.cmd (fun _ s => if s.leads then 0x0C12 else 0x0D10) (fun c s => s.modHk fun h => { h with resCode := BitVec.ofNat 16 c }) id

/-- Quadrature channel (14 Table 14.7). -/
def Qin.write (n : Fin 8) (o : Nat) (v : Word) : Write :=
  if o = 0x10 then Reg.store fun s => s.modQin n fun q => { q with preset := v }
  else
    match cmdByte v with
    | 1 => Qin.presetCmd n
    | 2 => Qin.clearCmd n
    | _ => Write.cmd (fun _ s => if s.leads then 0x0C12 else 0x0E01) (State.qinResult n) id

/-- Flow channel (14 Table 14.7). -/
def Usf.write (n : Fin 8) (v : Word) : Write := 
  if cmdByte v = 1 then Usf.captureCmd n else Write.cmd (fun _ s => if s.leads then 0x0C12 else 0x0E01) (State.usfResult n) id

/-- SCAN_CMD (15 Table 15.5). -/
def Scan.write (v : Word) : Write :=
  match cmdByte v with
  | 1 => Scan.runCmd
  | 2 => Scan.stopCmd
  | 3 => Scan.holdCmd
  | 4 => Scan.stepCmd
  | 5 => Scan.resumeCmd
  | _ => Write.cmd (fun _ s => if s.leads then 0x0C12 else 0x0F02) State.scanResult id

/-- UPD_CMD (17 Table 17.9). The card's files, where only the word is given, are open (log 33). -/
def Upd.write (v : Word) : Write :=
  let gd := bit v.toNat 21
  let pos := bits v.toNat 20 16
  let n : Fin 8 := Fin.ofNat 8 (bits v.toNat 10 8)
  match cmdByte v with
  | 1 => fun x s => Upd.loadSd (Config.freeFiles s.free) x s.tick
  | 2 => Upd.activateCmd
  | 3 => Upd.partLoad gd n pos
  | 4 => Upd.partActivate gd n pos
  | 5 => fun x s => Upd.loadImage (Config.freeFiles s.free) x s.tick
  | 6 => Upd.abortCmd
  | _ => Upd.cmd (fun _ _ => 0x0C12) (fun _ => 0) id

/-! ### The whole map -/

/-- The write of a register of a block that has a writable field. -/
def Block.write (b : Block) (o : Nat) (v : Word) : Write :=
  match b with
  | .ident => Ident.write o v
  | .power => Pwr.write v
  | .ptp => Ptp.write o v
  | .lhp => HostIf.write o v
  | .img => Img.write v
  | .str n => StrEng.write n o v
  | .ring n => RingPort.write n v
  | .est => Est.write o v
  | .saf => Safety.write v
  | .twin => Twin.write v
  | .trust => Trust.write o v
  | .hist => Hist.write v
  | .ffr => Ffr.write o v
  | .can p => CanPort.write p v
  | .hk => Hk.write v
  | .aio => Reg.denyBare
  | .qin n => Qin.write n o v
  | .usf n => Usf.write n v
  | .scan => Scan.write v
  | .upd => Upd.write v

/-- The power domain of class S that a block's registers lie in (16 Table 16.3). -/
def Block.domain : Block → Option Nat
  | .can p => some (98 + p)
  | .hk => some 102
  | .qin _ => some 116
  | .usf n => some (117 + n)
  | _ => none

/-- A write in the domain of its block: one that sleeps wakes, takes the value, and, its condition still standing, sleeps again (01 R35; 16 Table
16.3; log 113). -/
def Block.awake (b : Block) (w : Write) : Write := fun x s =>
  match b.domain with
  | none => w x s
  | some d =>
    if s.img.cfg.io.used d then w x s
    else
      let r := w x (s.wakeDomain d)
      (r.1, r.2.modPwr fun p => { p with sleepAt := Sparse.put p.sleepAt d s.clk.upNs })

/-- One word written to an address (12 R328): the address, then the access code, then the register's own rules (01 R34, 00 R14). -/
def Reg.write (a : Nat) (v : Word) : Write := fun x s =>
  if Reg.addrCode a ≠ 0 then (Reg.addrCode a, s)
  else
    match Block.of a, Reg.access a with
    | some (b, o), some k =>
      if k == .ro then (0x0C12, s) else b.awake (if k == .clr then Reg.clearWrite a v else Block.write b o v) x s
    | _, _ => (0x0C10, s)

/-- Words applied in ascending order: the first refusal stops the rest (12 R328). -/
def Reg.writeAll : Nat → List Word → Write
  | _, [] => fun _ s => (0, s)
  | a, v :: t => fun x s =>
    let r := Reg.write a v x s
    if r.1 = 0 then Reg.writeAll (a + 4) t x r.2 else r

end Sys2Proof.Machine
end

