-- ==== Sys2Proof/Machine/HostLate.lean ====
section
/-! DEFINITION. Host requests that act on registers, the journal or a whole transfer (spec 01 R36; 10 R282; 12 R328 to R332), and the
completion of accepted work (00 R5). -/

namespace Sys2Proof.Machine

/-! ### Registers (12 R328) -/

/-- The word a session reads: the half latched for it, else the register (01 R36). -/
def State.readFor (x : Session) (a : Nat) (s : State) : Word :=
  Sparse.get x.latch a (s.readReg a)

/-- What a dark module still answers: the identity registers, TRUST_STATUS and the first-fault recorder (10 R268, R287). -/
def Reg.inDark (a : Nat) : Bool := a < 0x20 || a == 0x240000 || (0x2C0000 ≤ a && a < 0x300000)

/-- One word read by a session: a _LO register latches its _HI half for it (01 R36). -/
def State.readWord (id a : Nat) (s : State) : Word × State :=
  (s.readFor ((s.session id).getD {}) a,
    s.when (Reg.isLo a) fun s => s.modSession id fun y => { y with latch := Sparse.put y.latch (a + 4) (s.readReg (a + 4)) })

/-- Consecutive words read in ascending order (12 R328). -/
def State.readWords (id : Nat) : Nat → Nat → State → List Byte × State
  | _, 0, s => ([], s)
  | a, k + 1, s =>
    let r := s.readWord id a
    let t := State.readWords id (a + 4) k r.2
    (leBytes 4 r.1.toNat ++ t.1, t.2)

/-- The addresses of COUNT consecutive words (12 R328). -/
def Reg.run (addr count : Nat) : List Nat := (List.range count).map fun i => addr + 4 * i

/-- The code of the first refused word of a read, 0 where none is (12 R328). -/
def Reg.runCode (addr count : Nat) : Nat := firstCode ((Reg.run addr count).map fun a => (Reg.addrCode a ≠ 0, Reg.addrCode a))

/-- READ_LO_LATCH (01 R36; 12 R328): a READ of 1 to 256 words; the first refused word ends it. -/
def execReadLoLatch (q : Req) (addr count : Nat) (s : State) : Host.Outcome State Fault Refusal :=
  .next <| if s.dark && !((Reg.run addr count).all Reg.inDark) then s else s.withReq q 0x01 (fun _ => true) fun _ s =>
    let c := if count < 1 || count > 256 then 0x0C01 else Reg.runCode addr count
    if c ≠ 0 then s.refuseReq q c
    else
      let r := s.readWords q.session addr count
      (r.2.reply q 0 r.1).tick

/-- REGISTER_WRITE (00 R14; 12 R328). -/
def execRegisterWrite (q : Req) (addr : Nat) (words : List Word) (s : State) : Host.Outcome State Fault Refusal :=
  .next (s.hostWrite q (Reg.writeAll addr words))

/-- COUNTER_CLEAR (00 R12). -/
def execCounterClear (q : Req) (addr : Nat) (value : Word) (s : State) : Host.Outcome State Fault Refusal :=
  .next (s.hostWrite q (Reg.write addr value))

/-! ### Signed reports (10 R282, 12 Table 12.1) -/

/-- The words of a register snapshot, or the code of the first word that is refused. -/
def State.snapshot (addr count : Nat) (s : State) : Nat × List Byte :=
  (Reg.runCode addr count, ((Reg.run addr count).map fun a => leBytes 4 (s.readReg a).toNat).flatten)

/-- The committed records with their tails in force (11 R314). -/
def State.ffrExport (s : State) : List Byte :=
  ((s.ffr.nv.recs.reverse.filter (·.committed)).map FfrRec.bytes).flatten

/-- REPORT (10 R282): KIND 1 and 2; any other is refused with LHP_FORMAT; a zeroised module signs nothing. -/
def execReport (q : Req) (kind addr count nonce : Nat) (s : State) : Host.Outcome State Fault Refusal :=
  .next <| s.withReq q 0x08 (fun _ => true) fun _ s =>
    let snap := if kind = 1 then s.snapshot addr count else (0, s.ffrExport)
    let c := firstCode [(kind != 1 && kind != 2, 0x0C01), (s.trust.nv.owner == .zeroised, 0x0A0A), (snap.1 ≠ 0, snap.1)]
    if c ≠ 0 then s.refuseReq q c else (s.countReport.reply q 0 (s.reportBytes kind nonce snap.2)).tick

/-! ### Journaled writes (12 R329, R330) -/

/-- May a register be journaled: RW, IW or CW, and no command (12 R329). -/
def Reg.journalable (a : Nat) : Bool :=
  match Reg.access a with
  | some .rw => true
  | some .iw => true
  | some .cw => true
  | _ => false

/-- The last write tag of an identity, with its JSEQ; none before the first (12 R320, R321, R329). -/
def State.lastTag (x : Session) (s : State) : Option (BitVec 64 × Nat) :=
  if x.port == .console then (if s.jrn.consoleJseq = 0 then none else some (s.jrn.consoleTag, s.jrn.consoleJseq))
  else ((s.jrn.identOf x.ident).filter fun h => h.jseq ≠ 0).map fun h => (h.wtag, h.jseq)

/-- Is WTAG at or below the last accepted one of its identity (12 R329). -/
def State.tagOld (x : Session) (wtag : BitVec 64) (s : State) : Bool := ((s.lastTag x).map fun t => decide (wtag ≤ t.1)).getD false

/-- The JSEQ already given to a write whose WTAG is the last accepted one of its identity (12 R329). -/
def State.jseqGiven (x : Session) (wtag : BitVec 64) (s : State) : Option Nat := ((s.lastTag x).filter fun t => t.1 == wtag).map (·.2)

/-- Would a write open a 1,025th address (12 R329). -/
def State.journalFull (a : Nat) (s : State) : Bool :=
  let as := (s.jrn.writes.map (·.addr) ++ s.host.jwait.map (·.entry.addr)).eraseDups
  !as.contains a && as.length ≥ 1024

/-- The refusals of a JOURNALED write before its tag is compared (12 R329). -/
def State.journalEarly (x : Session) (addr count : Nat) (s : State) : Nat :=
  firstCode [(count ≠ 1, 0x0C04), (Reg.addrCode addr ≠ 0, Reg.addrCode addr), (!Reg.journalable addr, 0x0C04), (!s.leads, 0x0C08),
    (x.port != .console && !s.identRoom x.ident, 0x0C07)]

/-- JOURNALED_WRITE (12 R329): the checks, the repeat of the last tag, the register's own rules; then the work waits for its journal write,
or for the twin's copy, under the JSEQ that is set aside for it (log 87). -/
def execJournaledWrite (q : Req) (wtag : BitVec 64) (addr : Nat) (words : List Word) (s : State) : Host.Outcome State Fault Refusal :=
  .next <| s.withReq q 0x02 HostRole.mayWrite fun x s =>
    let c := s.journalEarly x addr words.length
    let v := words.headD 0
    if c ≠ 0 then s.refuseReq q c
    else
      match s.jseqGiven x wtag with
      | some j => s.reply q 0 (leBytes 8 j)
      | none =>
        let r := Reg.write addr v x s
        if s.tagOld x wtag then s.refuseReq q 0x0C05
        else if s.journalFull addr then s.refuseReq q 0x0C06
        else if r.1 ≠ 0 then r.2.refuseReq q r.1
        else
          let w : JWait := { session := q.session, msgId := q.msg, ident := x.ident, wtag := wtag, entry := { addr := addr, value := v, jseq := s.jrn.nextJseq }, alone := !s.paired }
          ((s.modJrn fun j => { j with nextJseq := j.nextJseq + 1 }).modHost fun h => { h with jwait := h.jwait ++ [w] }).when s.copies (State.twinRecord (.work (.write w.entry x.ident wtag)) "WRITE")

/-- The journal with a write acknowledged at `tsc`: the newest value of its address, the identity's tag and JSEQ (12 R320, R329). -/
def Journal.keepWrite (tsc : Nat) (w : JWait) (j : Journal) : Journal :=
  let j := { j with writes := (j.writes.filter fun (e : JEntry) => e.addr != w.entry.addr) ++ [{ w.entry with tsc := tsc }] }
  if w.session = 8 then { j with consoleTag := w.wtag, consoleJseq := w.entry.jseq } else j.modIdent w.ident fun h => { h with wtag := w.wtag, jseq := w.entry.jseq }

/-- A journaled write accepted: stamped, kept, answered with its JSEQ, in effect under 01 R30 (01 R23; 12 R329). One whose tag has been accepted
meanwhile is answered as the repeat or the old one that it is by then. -/
def State.journalAck (w : JWait) (s : State) : State :=
  let q : Req := { session := w.session, msg := w.msgId }
  let x : Session := (s.session w.session).getD { id := w.session, port := if w.session = 8 then .console else .a, ident := w.ident }
  let s := s.modHost fun h => { h with jwait := h.jwait.filter fun v => v.entry.jseq != w.entry.jseq }
  match s.jseqGiven x w.wtag with
  | some j => s.reply q 0 (leBytes 8 j)
  | none =>
    if s.tagOld x w.wtag then s.refuseReq q 0x0C05
    else
      let s := (s.modJrn (Journal.keepWrite (s.stampOf 0x080) w)).stamped 0x080
      (Reg.write w.entry.addr w.entry.value x s).2.reply q 0 (leBytes 8 w.entry.jseq)

/-- The journaled write that waits under a JSEQ. -/
def State.jWaiting (jseq : Nat) (s : State) : Option JWait := s.host.jwait.find? fun j => j.entry.jseq == jseq

/-- JOURNAL_WRITE_DONE (00 R5): the acknowledgement of work taken while no pair was formed is released, also where one has formed since. -/
def execJournalWriteDone (w : AckWork) (s : State) : Host.Outcome State Fault Refusal :=
  .next <|
    match w with
    | .dispatch seq =>
      match s.dispWaiting seq with
      | none => s
      | some d => if d.alone then s.dispHeld seq else s
    | .write jseq =>
      match s.jWaiting jseq with
      | none => s
      | some j => if j.alone then s.journalAck j else s

/-- The copy of an archive's last record confirmed, or the writer's admission reported: ARCHIVE has completed (11 R314). -/
def Ffr.archived (rseq : Nat) (f : Ffr) : Ffr :=
  match f.archPend with
  | none => f
  | some (r, _) => if rseq < r then f else { f with archPend := none, nv := { f.nv with archived := true, archRseq := rseq } }

/-- The twin holds a history record: its admission has completed, and a NOTE is answered (11 R299; 09 R249). -/
def State.histConfirmed (rseq : Nat) (s : State) : State :=
  let qs := (s.hist.twinWait.filter fun w => w.rseq == rseq).filterMap (·.req)
  State.forEach qs (fun q s => s.reply q 0 []) (s.modHist fun h => { h with twinWait := h.twinWait.filter fun w => w.rseq != rseq })

/-- WORK_COPY_CONFIRMED (00 R5; 11 R299, R314, R315; 12 R329): the twin holds the work. -/
def execWorkCopyConfirmed (f : TwinFrame) (w : WorkCopy) (s : State) : Host.Outcome State Fault Refusal :=
  .next <| s.withFrame f fun s =>
    match w with
    | .journaled jseq =>
      match s.jWaiting jseq with
      | none => s
      | some j => if j.alone then s else s.journalAck j
    | .history rseq => s.histConfirmed rseq
    | .ffr seq => s.modFfr fun f => { f with mirroring := f.mirroring.filter fun m => m != seq.toNat }
    | .archive rseq => (s.histConfirmed rseq).modFfr (Ffr.archived rseq)

/-- One journaled value applied again: the rules of its register, save the role and the lease, which a host's write needs (12 R330; log 34). -/
def State.reapplyOne (e : JEntry) (s : State) : State :=
  let role := s.twin.role
  let r := Reg.write e.addr e.value {} (s.modTwin fun w => { w with role := .alone })
  let t := r.2.modTwin fun w => { w with role := role }
  if r.1 = 0 then t
  else
    ((t.modJrn fun j => { j with writes := j.writes.filter fun x => x.addr != e.addr }).bump 0x030210).emit 0x4C35 0x080 (ints [e.addr, e.value.toNat, e.jseq])

/-- JOURNAL_REAPPLY (12 R330): at the first T0 after the image passed, every journaled value is applied again or ends. -/
def execJournalReapply (s : State) : Host.Outcome State Fault Refusal :=
  .next <|
    if s.host.reapplyDue && s.img.cur.valid
    then (State.forEach s.jrn.writes State.reapplyOne s).applyRegs.modHost fun h => { h with reapplyDue := false }
    else s

/-! ### The end of a block transfer (12 R331) -/

/-- The target's own checks on a whole transfer: its code and the state after. -/
def State.takeWhole (target : Nat) (b : List Byte) (s : State) : Nat × State :=
  if target = 1 then s.verifyImage b
  else if target = 2 then s.loadPackage b false
  else (0, s.modTrust fun t => { t with buffer := b, bufferOk := true })

/-- BLOCK_END (12 R331, R332): the digest, then the target's own checks; with the wrong digest the transfer stays open. -/
def execBlockEnd (q : Req) (target : Nat) (s : State) : Host.Outcome State Fault Refusal :=
  .next <| s.withReq q 0x05 (fun r => r.mayBlock target) fun x s =>
    match (s.xfer target).filter fun t => t.ident == x.ident with
    | none => s.refuseReq q 0x0C0C
    | some t =>
      if t.bytes.length ≠ t.total || Config.sha384 t.bytes != t.digest then s.refuseReq q 0x0C0A
      else
        let r := (s.dropXfer target).takeWhole target t.bytes
        if r.1 = 0 then r.2.reply q 0 [] else r.2.refuseReq q r.1

end Sys2Proof.Machine
end

