-- ==== Sys2Proof/Machine/Cycle.lean ====
section
/-! DEFINITION. The fixed instants of a bank cycle (01 R27, Table 1.5; 03 Table 3.8): T0, the close of a set, the guard window. -/

namespace Sys2Proof.Machine

/-! ### History records of a set and of a cycle (11 R297, R298, R302) -/

/-- The intake profile in force (11 R302). -/
def State.intake (s : State) : Profile := (s.img.cfg.policy.profiles[s.hist.nv.profile.toNat]?).getD { cellSet := 0, tempSet := 0, strSum := 0, estPeriod := 0 }

/-- Does a decimation keep item number `i`: one in `d`, none for 0 (11 R302). -/
def decimated (d i : Nat) : Bool := d ≠ 0 && i % d == 0

/-- The values of a node's entry, cell by cell, PRI then SEC (11 R298). -/
def NodeEntry.values (cells : Nat) (e : NodeEntry) : List (BitVec 16) :=
  ((List.range cells).map fun c => [e.pri.getD c 0xFFFF, e.sec.getD c 0xFFFF]).flatten

/-- What a CELL_SET holds of one string: VALID, and the values of every node, none of an invalid one (11 R298). -/
def State.setOf (n : Fin 8) (s : State) : Nat × List (List (BitVec 16)) :=
  let on (e : NodeEntry) : Bool := e.enumerated && e.valid
  (maskOf (s.ring[n].nodes.toList.map on), s.ring[n].nodes.toList.map fun e => if on e then e.values (s.topo n).cells else [])

/-- The block of one string against the base record (11 R298). -/
def State.setBlock (base : List (Nat × Nat × List (List (BitVec 16)))) (n : Fin 8) (s : State) : List Byte :=
  let v := s.setOf n
  let b := Sparse.find base n.val
  let key := s.cycle % 1000 == 0 || match b with | none => true | some o => v.1 ||| o.1 != o.1
  let idx := (List.range 24).filter fun i => bit v.1 i
  let old := idx.map fun i => ((b.map fun o => o.2.getD i []).getD [])
  CellSet.block n key s.hist.raw (s.ring[n].mode == .split) (s.topo n).cells v.1 old (idx.map fun i => v.2.getD i [])

/-- The strings with at least one valid entry. -/
def State.setStrings (s : State) : List (Fin 8) := strings.filter fun n => (s.setOf n).1 ≠ 0

/-- The body of a CELL_SET against a base record. -/
def State.setBody (base : List (Nat × Nat × List (List (BitVec 16)))) (s : State) : List Byte := (s.setStrings.map fun n => s.setBlock base n).flatten

/-- The segment that a CELL_SET goes into is opened before its blocks are coded, so that the first of a segment is KEY (11 R295, R298). -/
def State.setSegment (s : State) : State :=
  s.makeRoom (Hist.recLen (s.setBody s.hist.nv.base).length)

/-- The stamp of a record of a set: the earliest of its Ring ports' sets (01 R23, R24). -/
def State.setStamp (l : List (Fin 8)) (s : State) : Nat :=
  match l.map fun n => s.ring[n].setTsc with
  | [] => s.clk.cycleT0 + 25000
  | t :: r => r.foldl min t

/-- FLAGS of a record of a set: ALIGN_UNCERTAIN and RAW (11 Table 11.4; 04 R106). -/
def State.setFlags (l : List (Fin 8)) (raw : Bool) (s : State) : Nat := 4 * b2n (l.any fun n => s.sense[n].alignUnc) + 8 * b2n raw

/-- CELL_SET of the closed set, stamped with its common sample instant; one that is admitted is the base of the next (01 R23; 11 R298). -/
def State.cellSet (s : State) : State :=
  let l := s.setStrings
  if l.isEmpty || !decimated s.intake.cellSet s.cycle then s
  else
    let s := s.setSegment
    let b := s.setBody s.hist.nv.base
    let new := l.map fun n => (n.val, s.setOf n)
    let r := s.admitAt 0x10 0x060 (s.setStamp l) (s.setFlags l s.hist.raw) b
    if r.1 = 0 then r.2.modHist fun h => { h with nv := { h.nv with base := new } } else r.2

/-- The CELL_SET that a standby would write of the closed set, with every value whole, marked SWITCHOVER (07 R197; 11 Table 11.4; log 96). -/
def State.gapHistory (s : State) : State :=
  let l := s.setStrings
  if l.isEmpty || !decimated s.intake.cellSet s.cycle then s
  else s.modTwin fun w => { w with gapHist := w.gapHist ++ [(s.setStamp l, s.setFlags l s.hist.raw + 2, s.setBody [])] }

/-- TEMP_SET of a set that carries TEMP: its decimation counts those sets (11 R302; 03 R83). -/
def State.tempSet (s : State) : State :=
  let l := s.setStrings
  if l.isEmpty || s.cycle % 10 ≠ 0 || !decimated s.intake.tempSet (s.cycle / 10) then s
  else
    let one (n : Fin 8) : List Int :=
      let ks := (List.finRange 24).filter fun (k : Fin 24) => s.ring[n].nodes[k].enumerated && s.ring[n].nodes[k].valid
      (ks.map fun (k : Fin 24) => ints [n.val, k.val + 1] ++ s.ring[n].nodes[k].temps.map fun t => t.toInt).flatten
    let b := (l.map one).flatten
    (s.admitAt 0x12 0x060 (s.setStamp l) (s.setFlags l false) (valBytes 2 b)).2

/-- STRING_SUM of the cycle that ended: the summaries and the chorus-aligned samples (11 Table 11.5). -/
def State.stringSum (s : State) : State :=
  let l := s.declared
  if l.isEmpty || !decimated s.intake.strSum s.cycle then s
  else
    let one (n : Fin 8) : List Int :=
      let e := s.str[n]
      [(n.val : Int), e.sum.n, e.sum.iSum, e.sum.iMin, e.sum.iMax, e.sum.vbSum, e.sum.vbMin, e.sum.vbMax, e.sum.vsSum, e.chorusLast.istrA, e.chorusLast.istrB, e.chorusLast.vstr, e.chorusLast.vbus]
    let b := (l.map one).flatten
    (s.admitAt 0x11 0x060 (s.clk.cycleT0 - 1000000 + 25000) 0 (valBytes 8 b)).2

/-- EST_SUMMARY at its period, a record for each string: SOC_r, SOC_e, SOH, limits and plating margin of every cell (11 R297, Table 11.5; log 107). -/
def State.estSummary (s : State) : State :=
  if !s.leads || !decimated (1000 * s.intake.estPeriod) s.cycle then s
  else
    let one (b : Nat) (s : State) : List Int :=
      let x := s.cell b
      [(b : Int), roundQ (100 * x.learn.socR), roundQ (100 * x.socE), s.sohWord x, roundQ (10 * x.iPl), roundQ (10 * x.iVmax), roundQ (10 * x.iVmin), roundQ (10 * x.plm)]
    let put (n : Fin 8) (s : State) : State :=
      let cells := (s.topo n).cellList.map fun k => cellNo n k.1 k.2
      if cells.isEmpty then s else s.intoHistory 0x14 0x030 (valBytes 4 (cells.map fun b => one b s).flatten)
    State.forEach s.declared put s

/-! ### T0 -/

/-- The clock at the next T0 (01 R16, R27). -/
def State.nextT0 (s : State) : State :=
  (s.atCycle 1000000).modClk fun c => { c with cycleT0 := c.cycleT0 + 1000000, cycleNo := (c.cycleT0 + 1000000) / 1000000 }

/-- A declared break takes effect: SPLIT, with every node's compensation kept as it stood (03 R90; 04 R105). -/
def State.splitEntry (n : Fin 8) (s : State) : State :=
  if !s.ring[n].splitNext then s
  else
    (s.modRing n fun r => { r with splitNext := false, mode := if r.mode == .closed then .split else r.mode, both := r.both || r.mode == .closed, missedRet := 0 }).modSense n RingSense.enterSplit

/-- A sweep point starts at this T0: a request waits, or the point before has ended (04 R111, R114). -/
def Sweep.pointDue (w : Sweep) : Bool := (w.running.isNone && (w.pending.isSome || w.calPend)) || w.startNext || (w.running.isSome && w.phase == .waitStart)

/-- The sweep as the point that starts now leaves it: what the BEACON describes (04 R116). -/
def State.sweepNow (n : Fin 8) (s : State) : Sweep := if s.sweep[n].pointDue then (s.pointStart n).sweep[n] else s.sweep[n]

/-- The sweep-point descriptor: POINT, FREQ, START_SET, CTRL (04 Table 4.6). -/
def Sweep.descriptor (cycle : Nat) (w : Sweep) : List Byte :=
  let f := (Sparse.get w.work w.point {}).freq
  let acc := w.accFrom ≤ cycle && cycle ≤ w.lastCycle
  leBytes 1 w.point ++ leBytes 3 f ++ leBytes 1 (w.startCycle % 256) ++ leBytes 1 (b2n (cycle == w.startCycle) + 2 * b2n acc + 4 * b2n (cycle == w.lastCycle) + 8 * b2n (f > 20000))

/-- FLAGS of the BEACON: TEMP_REQ, SPLIT, SWEEP (03 Table 3.4, R83). DESIGN CHOICE (log 78): in LOST the flag SPLIT is clear, also while
both ends go on being served. -/
def State.beaconFlags (n : Fin 8) (w : Sweep) (s : State) : Nat :=
  let r := s.ring[n]
  b2n (s.cycle % 10 == 0) + 2 * b2n (r.mode == .split && r.closeStep != .awaitReturn) + 4 * b2n w.running.isSome

/-- The BEACON of one end, to the broadcast address under the broadcast key: TSC_T0, FLAGS, the descriptor (03 R67, Table 3.4). -/
def State.sendBeacon (n : Fin 8) (endB : Bool) (s : State) : State :=
  let w := s.sweepNow n
  let d := if w.running.isSome then w.descriptor s.cycle else leBytes 6 0
  s.sendRing n endB "BEACON" 0 0x01 0x3F 0 0 (leBytes 8 s.clk.cycleT0 ++ leBytes 2 (s.beaconFlags n w) ++ d) s.ring[n].bcastKey

/-- May the Chorus launch at this T0: the Ring is served under its lease, no enumeration is awaited after a step of the time, and
900 us have passed since the previous launch (04 R102, R103; 03 R82, R96). -/
def State.mayBeacon (n : Fin 8) (s : State) : Bool :=
  s.ring[n].served && s.str[n].state != .disabled && s.ringLease n && !s.sense[n].enumNeeded && !s.trust.keysErased && s.since s.ring[n].beaconUp ≥ 900000

/-- The BEACON of one Ring: from end A, and in SPLIT from end B too, but for the test launch of a CLOSE (03 R82, R90, R93). -/
def State.launchBeacon (n : Fin 8) (s : State) : State :=
  if !s.mayBeacon n then s
  else
    let b := s.ring[n].both && s.ring[n].closeStep != .awaitReturn
    ((s.sendBeacon n false).when b (State.sendBeacon n true)).modRing n fun r => { r with beaconUp := s.clk.upNs }

/-- One Ring at a T0: the set opens, the window of the cycle before is over, SPLIT takes effect, the BEACON leaves. -/
def State.ringT0 (n : Fin 8) (s : State) : State :=
  (((s.splitEntry n).modRing n fun r => { r with setClosed := false, windowOpen := false, ignoreAbove := none, nodes := Vec.updAll r.nodes fun _ e => { e with got := false } })).launchBeacon n

/-- The trip requests of a string on which a trip changes nothing have been recorded by both channels when the cycle ends, and stand no longer (05
R155; log 124). -/
def StrEng.endRequests (e : StrEng) : StrEng :=
  if e.state.active || e.state == .fault then e else { e with sendReq := false, deadReq := false, contReq := false }

/-- One string at a T0: its summary closes and the published setpoint is adopted at its next boundary (a DISABLED string has none),
precharge advances, the halves are granted (01 R17, R27; 05 R153; 08 R203). -/
def State.stringT0 (n : Fin 8) (s : State) : State :=
  let s := s.modSweep n fun w => if w.running.isSome && !w.startNext then w else { w with holdLearn := false }
  (((s.modStr n fun e => { e.endRequests with adopt := true, handDue := false, chorusGot := false, chorusLast := e.chorus }).when (s.str[n].state == .disabled) (State.closeSum n)).prechargeT0 n).grant n

/-- A change of S at a multiple of 4, with the clock of the Gecko cluster (07 R181; 16 R409). -/
def State.stretchT0 (s : State) : State :=
  let e := s.est
  if s.cycle % 4 ≠ 0 ∨ e.stretchNext = e.stretch then s
  else
    ((s.modEst fun e => { e with stretch := e.stretchNext }).modPwr fun p => { p with gkDiv := if e.stretchNext = 4 then 2 else if e.stretchNext = 2 then 1 else 0 }).emit 0x0713 0x030
      (ints [e.stretch, e.stretchNext])

/-- An estimation step of length S begins at a multiple of S, unless the step before still runs; a running step is due in its last
cycle (07 R181; 01 R29). Only a leading member estimates (09 R247). -/
def State.estimationT0 (s : State) : State :=
  let s := s.stretchT0
  if !s.leads || s.pwr.quiesced then s.modEst fun e => { e with sets := [] }
  else
    let s := if s.cycle % s.est.stretch = 0 ∧ ¬ s.est.stepRun then s.modEst fun e => { e with stepRun := true, stepFrom := s.cycle, stepSets := e.sets, sets := [], strs := e.strs.map fun t => { t with reinitRun := t.reinit, reinit := false } } else s
    s.modEst fun e => { e with stepDue := e.stepRun && decide (s.cycle ≥ e.stepFrom + e.stretch - 1) }

/-- CELL_SET is admitted RAW in WARM and HOT, from the next whole second (16 Table 16.6). -/
def State.rawSecond (s : State) : State := s.when (s.cycle % 1000 == 0) fun s => s.modHist fun h => { h with raw := s.thm.band == .warm || s.thm.band == .hot }

/-- Gate-driver sessions whose step is overdue fail (10 R278). -/
def State.gdDeadlines (s : State) : State :=
  let late (n : Fin 8) (p : Fin 6) : Bool := ((s.str[n].gd[p].sess).map fun r => decide (s.since r.startUp > 10000000)).getD false
  let l := (strings.map fun n => (phases.filter fun p => late n p).map fun p => (n, p)).flatten
  State.forEach l (fun (e : Fin 8 × Fin 6) => State.gdAuthFail e.1 e.2) s

/-- The T0 of a bank cycle (01 R27, R30): the pair's changes, the host's held writes, the Rings, the strings, the estimation step. -/
def State.bankT0 (s : State) : State :=
  let s := s.nextT0
  let s := (s.when s.bank.lapseDue State.lapseWaiting).modBank fun b => { b with acceptedThisCycle := 0, lapseDue := false, splitDue := false }
  let s := (((s.rekeyT0.pairT0.handT0).when (!s.commitDue) State.applyRegs).rawSecond).scanT0.gdDeadlines
  let s := State.forEach strings State.stringT0 s
  let s := State.forEach strings State.ringT0 s
  s.settleStrobes.standbyStrobes.adoptThr.estSummary.estimationT0

/-- BANK_CYCLE_START (01 R27). A module whose update is armed resets at this T0 instead: POWER_ON_RESET follows (17 R425). In the shelf
state only the island runs (10 R288). -/
def execBankCycleStart (s : State) : Host.Outcome State Fault Refusal :=
  .next (if s.pwr.shelf then s else if s.upd.armed then s.send .line 0 "RESET" [] else s.bankT0)

/-! ### The close of a set -/

/-- The fault loops that opened since the last set are judged from this one on (08 R222). -/
def State.loopSet (s : State) : State := s.modSaf fun t => { t with fab := { t.fab with loopEval := t.fab.loopEval ||| t.fab.loopPend, loopPend := 0 } }

/-! ### The guard window -/

/-- S of a band (07 R181; 16 Table 16.6). -/
def Band.stretch : Band → Nat
  | .cold | .normal => 1
  | .warm => 2
  | .hot => 4

/-- GUARD_WINDOW (03 R82; 16 R408, R409): timed WRAP and UNWRAP, then the band; its S is taken at a later T0. -/
def execGuardWindow (s : State) : Host.Outcome State Fault Refusal :=
  .next <| if s.pwr.shelf then s else
    let s := s.guardWindow.bandWindow.bandSettings
    s.modEst fun e => { e with stretchNext := s.thm.band.stretch }

end Sys2Proof.Machine
end

