-- ==== Sys2Proof/Machine/Exchange.lean ====
section
/-! DEFINITION. The end of a command exchange on a Ring (03 R71, R84, R93): a reply, a failure, and what each means to the block that
asked. -/

namespace Sys2Proof.Machine

/-- The requests of a port, those outstanding too. -/
def RingPort.requests (r : RingPort) : List RingCmdReq := r.queue ++ r.outA.toList ++ r.outB.toList

/-- COMP_PENDING: a SET_COMP is not yet confirmed: one waits or is outstanding, or a node served has not confirmed its values (04 R101, Table 4.12). -/
def State.compWaits (n : Fin 8) (s : State) : State :=
  let r := s.ring[n]
  let open_ := (List.finRange 24).any fun k =>
    let e := r.nodes[k]
    let d := s.sense[n].nodes[k]
    e.enumerated && !e.isolated && !(Comp.value e.dlyA.toNat d.corrA == d.compA && Comp.value e.dlyB.toNat d.corrB == d.compB)
  s.modSense n fun c => { c with compPending := open_ || r.requests.any fun c => c.opcode == 0x0010 }

/-- A SET_COMP of a node failed (04 R101): the node keeps its previous values, and the command goes again at the next update, unless a later one is on its
way. -/
def State.compFail (n : Fin 8) (k : Fin 24) (s : State) : State :=
  let later := s.ring[n].requests.any fun c => c.opcode == 0x0010 && c.node == k.val + 1
  (s.when (!later) (State.modSenseNode n k fun d => { d with sentA := d.compA, sentB := d.compB })).compWaits n

/-- READ_INFO of a node: what later rules use of it (07 R176, R200; 17 R427). -/
def State.nodeInfo (n : Fin 8) (k : Fin 24) (i : PartInfo) (s : State) : State :=
  (s.modNodeBal n k fun b => { b with rBleed := i.rBleed, etaX := i.etaX, fw := i.version, hw := i.hw, infoOk := true }).partRead false n (k + 1) (some i)

/-- What a reply to a command, whose payload is `sent`, means to the block that asked (03 Table 3.6): SET_COMP confirms the values that it carried (04
R101). DESIGN CHOICE (log 76): an OPEN is taken as done whatever its status. -/
def State.replied (n : Fin 8) (k : Fin 24) (sent : List Byte) (f : ReplyFrame) (s : State) : State :=
  let ok := f.status == .ok
  match f.opcode.toNat with
  | 0x0001 => if (s.ring[n].at .openCmd).isSome then (s.modEnum n fun e => { e with phase := .assign, sess := none, probes := [] }).nodeStep n else s
  | 0x0002 => if ok then s.unwrapDone n (k + 1) else s.unwrapFail n
  | 0x0003 => s.modRing n fun r => { r with closeDone := r.closeDone ||| r.sideMask (k + 1) }
  | 0x0010 => (s.when ok (State.modSenseNode n k fun d => { d with compA := BitVec.ofNat 16 (field sent 0 2), compB := BitVec.ofNat 16 (field sent 2 2) })).compWaits n
  | 0x0020 => if ok || f.status == .partialDone then s.balReply n k (f.status == .partialDone) f.payload else s
  | 0x0030 => s.modSenseNode n k fun d => { d with cfgOk := ok }
  | 0x0040 => if ok then s.nodeInfo n k (Config.partInfo f.payload) else s.partRead false n (k + 1) none
  | 0x0050 | 0x0051 => s.partReply false n (k + 1) f.opcode ok
  | _ => s

/-- What a command that failed after its re-sends means to the block that asked (03 R84, R93; 04 R101; 07 R200; 17 R428). -/
def State.unreplied (n : Fin 8) (k : Fin 24) (opcode : BitVec 16) (s : State) : State :=
  match opcode.toNat with
  | 0x0001 => if (s.ring[n].at .openCmd).isSome then s.enumFail n 0x0202 (k + 1) else s
  | 0x0002 => s.unwrapFail n
  | 0x0010 => s.compFail n k
  | 0x0020 => s.balFail n k
  | 0x0030 => s.modSenseNode n k fun d => { d with cfgOk := false }
  | 0x0040 => s.partRead false n (k + 1) none
  | 0x0050 | 0x0051 =>
    match s.upd.xfer with
    | some x => if !x.gd && x.str == n && x.pos == k.val + 1 then s.partFail 0x040E 0 else s
    | none => s
  | _ => s

/-- A failed exchange (03 R84): sent again with the same CTR, in this window or first in the next, at most twice; the third failure is
counted, recorded and reported. -/
def State.exchangeFail (n : Fin 8) (endB : Bool) (s : State) : State :=
  match s.ring[n].outAt endB with
  | none => s
  | some c =>
    let c := { c with fails := c.fails + 1 }
    if c.fails < 3 && (s.ring[n].reachable c.node || s.ring[n].enumRun.isSome) then
      if s.ring[n].enumRun.isSome || (s.ring[n].windowOpen && s.mayLaunch n endB && s.fits c s.now) then s.launch n endB c
      else (s.setExchange n endB none).modRing n fun r => { r with queue := { c with urgent := true, stamp := 0 } :: r.queue }
    else
      match nodeAt c.node with
      | none => s.setExchange n endB none
      | some k => ((((s.setExchange n endB none).bump (Reg.ring n 0x058)).emit 0x8217 (Src.node n k) (ints [n, c.node])).unreplied n k c.opcode).pump n endB

/-- EXCHANGE_TIMEOUT (03 R84): no reply within 30 us of the command's end delimiter; it is then at least that late (log 70). -/
def execExchangeTimeout (n : Fin 8) (endB : Bool) (s : State) : Host.Outcome State Fault Refusal :=
  .next (if (s.ring[n].outAt endB).isNone then s else (s.atTsc (s.ring[n].cmdEnd endB + 30000)).exchangeFail n endB)

/-- CTR_ERR (03 R71): counted; the counter is set from the node's CTR_LAST, the command goes again with CTR_LAST + 1, and the exchange
counts as failed. -/
def State.ctrError (n : Fin 8) (endB : Bool) (k : Fin 24) (last : BitVec 8) (s : State) : State :=
  let again := ((s.ring[n].outAt endB).map fun c => decide (c.fails < 2)).getD false
  ((s.bump (Reg.ring n 0x04C)).modNode n k fun e => { e with ctr := if again then last + 1 else last }).exchangeFail n endB

/-- A good REPLY of the node and opcode that the end awaits; any other is not the reply of its command (03 R71, R84). -/
def State.goodReply (n : Fin 8) (endB : Bool) (k : Fin 24) (f : ReplyFrame) (s : State) : State :=
  match s.ring[n].outAt endB with
  | none => s
  | some c =>
    if c.node ≠ k.val + 1 ∨ c.opcode ≠ f.opcode ∨ s.ring[n].nodes[k].isolated then s
    else if f.status == .ctrErr then s.ctrError n endB k f.ctrLast
    else if f.ctr ≠ s.ring[n].nodes[k].ctr then s
    else (((s.setExchange n endB none).replied n k c.payload f).pump n endB)

/-- REPLY_RECEIVED (03 R66, R68, R71, R84): a node's frame has at most 112 bytes of payload. A reply to the outstanding command is at
least a frame later than its end delimiter (log 70). -/
def execReplyReceived (n : Fin 8) (endB : Bool) (f : ReplyFrame) (s : State) : Host.Outcome State Fault Refusal :=
  .next <|
    let crc := f.crcOk && f.payload.length ≤ 112
    if !(crc && f.macOk) then s.frameBad n f.node crc
    else
      match nodeAt f.node with
      | none => s
      | some k => State.goodReply n endB k f (if (s.ring[n].outAt endB).isNone then s else s.atTsc (s.ring[n].cmdEnd endB + Lane.frameNs f.payload.length))

/-- Commands queued for a node that has been isolated are reported as failed to the blocks that asked (03 R84, R92). -/
def State.dropIsolated (n : Fin 8) (s : State) : State :=
  let gone (c : RingCmdReq) : Bool := match nodeAt c.node with | some k => s.ring[n].nodes[k].isolated | none => true
  let l := s.ring[n].queue.filter gone
  if l.isEmpty then s
  else
    State.forEach l (fun c s => match nodeAt c.node with | some k => s.unreplied n k c.opcode | none => s)
      (s.modRing n fun r => { r with queue := r.queue.filter fun c => !gone c })

/-- The stamp of a Ring port's set: its common sample instant, or 1 ns after the port's item before it (01 R23, R24); the first set of a sweep
point's accumulation stamps the point's record. -/
def State.stampSet (n : Fin 8) (s : State) : State :=
  let t := s.stampAt (Src.ring n) (s.clk.cycleT0 + 25000)
  ((s.stampedAt (Src.ring n) (s.clk.cycleT0 + 25000)).modRing n fun r => { r with setTsc := t }).modSweep n fun w => if w.running.isSome && w.accFrom = s.cycle then { w with firstTsc := t } else w

/-- SET_CLOSE (01 R28): every port closes its set; the safety channels, Gecko and history take it, and the string summaries of the cycle
before, which have closed at each string's first boundary (01 R17). `noSig` says which ends receive no signal
then, end A of Ring n in bit 2n and end B in bit 2n + 1 (03 R88, R93; log 77). -/
def execSetClose (noSig : BitVec 16) (s : State) : Host.Outcome State Fault Refusal :=
  .next <| if s.pwr.shelf then s else
    let s := (s.atCycle 665000).mapAllRing fun n r => { r with losA := bit noSig.toNat (2 * n), losB := bit noSig.toNat (2 * n + 1) }
    let s := State.forEach (strings.filter fun n => s.ring[n].served) State.stampSet s
    let s := State.forEach strings State.dropIsolated (State.forEach strings State.closeSet s)
    let s := (State.forEach s.declared State.anchorCheck s.loopSet).when s.leads State.keepSet
    let s := s.when (s.twin.role == .standby) fun s => s.gapSet.gapHistory
    s.stringSum.cellSet.tempSet

end Sys2Proof.Machine
end

