-- ==== Sys2Proof/Machine/Commit.lean ====
section
/-! DEFINITION. A pending change judged at T0 − 100 us and in effect at T0 (02 R43 to R57). -/

namespace Sys2Proof.Machine

/-! ### The conditions of a step (02 R48, Table 2.4) -/

/-- The envelope of a pending step: forward, or the reverse one of the step that is reversed. -/
def State.pendEnv (p : PendStep) (s : State) : Option Envelope :=
  let steps := if p.wasComplete then s.img.cur.plan else s.img.stg.plan
  match p.kind with
  | .commit => none
  | .forward => (steps[p.index - 1]?).map (·.fwd)
  | .reverse => (steps[p.index - 1]?).map (·.rev)

/-- Does a string's state count as running against RUN_ALLOWED: not DISABLED, OFF, SHED or SERVICE. -/
def StrState.inService : StrState → Bool
  | .disabled | .off | .shed | .service => false
  | _ => true

/-- Strings above their I_MAX over the latest summary. -/
def State.envCurrent (e : Envelope) (s : State) : Nat :=
  maskOf (strings.map fun (n : Fin 8) =>
    let u := s.str[n].sum
    decide (u.n > 0 ∧ e.iMax[n] ≠ 0xFFFF ∧ max u.iMin.natAbs u.iMax.natAbs > 100 * e.iMax[n]))

/-- IMG_ENV_FAIL (02 Table 2.14): what fails of an envelope. -/
def State.envFail (e : Envelope) (s : State) : BitVec 26 :=
  let sums := (strings.map fun n => s.str[n].sum).filter fun u => u.n > 0
  let low := sums.any fun u => decide (u.vbMin < 10 * (e.vBusMin : Int))
  let high := sums.any fun u => decide (u.vbMax > 10 * (e.vBusMax : Int))
  let run := maskOf (strings.map fun (n : Fin 8) => !bit e.runAllowed.toNat n && s.str[n].state.inService)
  let st := if bit e.bankStates.toNat s.bank.state.code then 0 else 2 ^ s.bank.state.code
  BitVec.ofNat 26 (st + 256 * run + 65536 * s.envCurrent e + 2 ^ 24 * b2n low + 2 ^ 25 * b2n high)

/-- A runtime value against its bound. -/
structure Tunable where
  /-- MODEL: register address. -/
  addr : Nat
  /-- MODEL. -/
  ok : Bool

/-- The runtime tunables of one string against the bounds of a configuration (02 R48; 05 Table 5.13; 06 Table 6.8; 04 R110). A coefficient
set that the change replaces is not judged. -/
def State.strTunables (new : Cfg) (n : Fin 8) (s : State) : List Tunable :=
  let c := new.strs[n]
  let e := s.str[n]
  let co : List (BitVec 32) := [e.coeffs.kpPh, e.coeffs.kiPh, e.coeffs.kff, e.coeffs.kpStr, e.coeffs.kiStr, e.coeffs.kpBus, e.coeffs.kiBus]
  let coefs := if c.coeffs != (s.topo n).coeffs then [] else
    co.zipIdx.map fun v => { addr := Reg.str n (0x40 + 4 * v.2), ok := c.f32In (0x40 + 4 * v.2) (-(2 ^ 128)) (2 ^ 128) v.1 : Tunable }
  ([0x020, 0x024, 0x028, 0x02C].map fun o => { addr := Reg.str n o, ok := c.heldOk o (s.readReg (Reg.str n o)).toNat : Tunable }) ++ coefs ++
  [{ addr := Reg.str n 0x404, ok := c.f32In 0x404 (1 / 1000) (1 / 20) s.rc[n].gain }, { addr := Reg.str n 0xC00, ok := c.swpOk s.sweep[n].regCfg.toNat },
    { addr := Reg.str n 0xC1C, ok := c.tptOk s.sweep[n].regTpt.toNat }] ++
  s.sweep[n].regFreq.map fun f => { addr := Reg.str n (0xC40 + 4 * f.1), ok := c.swpFreqBound f.2 }

/-- Every runtime tunable against the bounds of a configuration. -/
def State.tunables (new : Cfg) (s : State) : List Tunable :=
  ((strings.filter fun n => new.strs[n].declared).map fun n => s.strTunables new n).flatten ++
  [{ addr := 0x18000C, ok := new.disp.socRateOk (s.readReg 0x18000C).toNat }]

/-- The first tunable outside the new bounds. -/
def State.conflict (new : Cfg) (s : State) : Option Nat := ((s.tunables new).find? fun t => !t.ok).map (·.addr)

/-- Does a commit of the staged image need SW2-1: SAFETY_CHANGED, and no step plan (02 R53). -/
def Img.needsPermit (i : Img) : Bool := i.stg.hdr.safetyChanged && i.stg.plan.isEmpty

/-- The refusal of a pending change at T0 − 100 us, with its detail: the bank for a commit, the envelope with the bank state, the permit,
the tunables, then the twin's answer (02 R45, R48, R53, R56). -/
def State.evalCode (p : PendStep) (s : State) : Nat × Nat :=
  let env := s.pendEnv p
  let safety := (env.map (·.touchesSafety)).getD s.img.needsPermit
  if p.kind == .commit && !(s.bank.state == .off || s.bank.state == .stop) then (0x0109, 0)
  else if (env.map fun e => s.envFail e != 0).getD false then (0x0110, p.index)
  else if safety && !s.sw2 1 then (0x0113, p.index)
  else
    match s.conflict p.cfg with
    | some a => (0x0112, a % 65536)
    | none =>
      if s.twin.role == .alone then (0, 0)
      else match p.peerReady with | some true => (0, 0) | some false => (0x0115, p.index) | none => (0x0116, p.index)

/-- Is the pending change judged at this T0 − 100 us: its shadow is ready, and in a pair, formed or not, PREPARE has gone for the coming
T0 (02 R47, R56). -/
def State.evalDue (p : PendStep) (s : State) : Bool :=
  !p.passed && ((p.shadowReady.map fun t => decide (t ≤ s.now)).getD false) && (s.twin.role == .alone || (p.prepared && p.target == s.clk.cycleT0 + 1000000))

/-- STEP_EVALUATE (02 R48, R56; 10 R274): passed, with the decision journaled and sent, or refused; a prepared token was decided at T0 − 300 us. -/
def execStepEvaluate (s : State) : Host.Outcome State Fault Refusal :=
  .next <|
    let s := (s.atCycle 700000).tokenDecide.atCycle 900000
    match s.img.pend with
    | none => s
    | some p =>
      if !s.leads || !s.evalDue p then s
      else
        let c := s.evalCode p
        let s := s.modImg fun i => { i with envFail := ((s.pendEnv p).map s.envFail).getD i.envFail }
        let s := s.when s.paired (State.twinSend "DECIDE" (ints [p.index, b2n (c.1 == 0)]))
        if c.1 ≠ 0 then s.refusePending c.1 c.2
        else
          let t0 := s.clk.cycleT0 + 1000000
          (s.modImg fun i => { i with pend := some { p with passed := true, target := t0 } }).modJrn fun j => { j with decided := some (p.kind.outcome p.index, t0) }

/-! ### What a commit replaces -/

/-- Measurement register M7 extended (10 R267). -/
def State.extendM7 (d : BitVec 384) (s : State) : State :=
  s.modTrust fun t => { t with meas := Vector.ofFn fun i => if i = 7 then Config.sha384 (leBytes 48 t.meas[i].toNat ++ leBytes 48 d.toNat) else t.meas[i] }

/-- The entries of journaled writes to a string's registers end with a commit that replaces their values (12 R330; 05 R140). -/
def State.supersede (n : Fin 8) (offs : List Nat) (k : Nat) (s : State) : State :=
  let hit (e : JEntry) : Bool := offs.any fun o => e.addr == Reg.str n o
  let gone := s.jrn.writes.filter hit
  (State.forEach gone (fun (e : JEntry) => State.emit 0x0C37 0x080 (ints [e.addr, e.jseq, k])) s).modJrn fun j => { j with writes := j.writes.filter fun e => !hit e }

/-- A changed coefficient set takes effect at the string's first boundary from now on; pending CW writes are discarded and refused
(02 R50; 05 R140). -/
def State.coefSet (old : Cfg) (n : Fin 8) (k : Nat) (s : State) : State :=
  let c := s.topo n
  if c.coeffs == old.strs[n].coeffs then s
  else
    let late := s.str[n].coefNext
    let s := State.forEach late (fun (e : Nat × BitVec 32) => State.tuneResult n e.1 0x0504) s
    (s.modStr n fun e => { e with coefNext := [], coefCommit := some c.coeffs }).supersede n [0x40, 0x44, 0x48, 0x4C, 0x50, 0x54, 0x58] k

/-- The other settings that CONTROL initialises follow the image where a commit changes their value there (02 R50; log 85): PHASE, RAMP,
TBAL_CFG and RC_GAIN. -/
def State.initSet (old : Cfg) (n : Fin 8) (k : Nat) (s : State) : State :=
  let c := s.topo n
  let o := old.strs[n]
  let offs := (if c.phase == o.phase then [] else [0x014]) ++ (if c.ramp == o.ramp then [] else [0x020]) ++ (if c.tbal == o.tbal then [] else [0x02C]) ++ (if c.rcGain == o.rcGain then [] else [0x404])
  let s := s.modStr n fun e =>
    let e := { e with phaseCfg := if c.phase == o.phase then e.phaseCfg else c.phase, ramp := if c.ramp == o.ramp then e.ramp else c.ramp }
    if c.tbal == o.tbal then e else { e with tbalG := BitVec.ofNat 16 (c.tbal.toNat / 65536), tbalWmax := BitVec.ofNat 8 c.tbal.toNat }
  (s.modRc n fun r => if c.rcGain == o.rcGain then r else { r with gain := c.rcGain }).supersede n offs k

/-- A string's TOPOLOGY or ALLOWLIST differs between two configurations (02 R52). -/
def Cfg.needsEnum (a b : Cfg) (n : Fin 8) : Bool :=
  let x := a.strs[n]
  let y := b.strs[n]
  x.declared != y.declared || x.packs != y.packs || x.cells != y.cells || x.routing != y.routing || x.vLo != y.vLo || x.vHi != y.vHi || ((List.finRange 24).any fun k => a.nodeIdent n k != b.nodeIdent n k) || phases.any fun p => a.gdIdent n p != b.gdIdent n p

/-- One string at a commit: its coefficients, and its sweep, which a change of the CONTROL record aborts (02 R50, R52; 04 R120). -/
def State.strCommit (old : Cfg) (k : Nat) (n : Fin 8) (s : State) : State :=
  let o := old.strs[n]
  let changed := s.topo n != o
  let control := { s.topo n with declared := o.declared, packs := o.packs, cells := o.cells, routing := o.routing, vLo := o.vLo, vHi := o.vHi } != o
  let s := s.when changed fun s => s.modStr n fun e => { e with eff := { e.eff with cfg := some (e.eff.cfg.getD old.strs[n]) } }
  let s := (s.coefSet old n k).initSet old n k
  let s := s.when (old.needsEnum s.img.cfg n) fun s => s.modImg fun i => { i with reenum := setBit i.reenum n true }
  s.when control (State.abortSweep n 4)

/-- The learned values of a cell as a LEARN_SNAPSHOT carries them (07 R193, R196): capacity, baselines, calibration offset, SOC_r,
hysteresis, anchor and its charge. -/
def Cell.snapshot (b : Nat) (x : Cell) : List Int :=
  let l := x.learned
  let a := l.anchor.getD (0, 0)
  [(b : Int), roundQ (1000 * l.q), roundQ (10 * l.rOhm), roundQ (10 * l.rCt), (b2n l.delta.isSome : Int), roundQ (100 * l.delta.getD 0), roundQ (100 * l.socR), (((toF32 l.hyst).toNat : Nat) : Int), (b2n l.anchor.isSome : Int), roundQ (100 * a.1), (a.2 : Int), roundQ (1000 * l.qCnt)]

/-- The learned values of a replaced pack: written to history, then initial again, with every anchor discarded (07 R196). -/
def State.snapshotPack (old : Cfg) (n : Fin 8) (k : Fin 24) (s : State) : State :=
  let cells := List.range old.strs[n].cells
  let body := (cells.map fun c => (s.cell (cellNo n k c)).snapshot (cellNo n k c)).flatten
  let s := s.intoHistory 0x15 0x030 (valBytes 8 body)
  State.forEach cells (fun c => State.modCell (cellNo n k c) fun _ => s.img.cfg.model.fresh) s

/-- The packs whose ALLOWLIST entry changed, removed ones too; cells declared anew begin with the initial values, and those declared no
longer have none (07 R176, R196, R201). -/
def State.packsCommit (old : Cfg) (s : State) : State :=
  let packs := (strings.filter fun n => old.strs[n].declared).map fun n => old.strs[n].nodes.map fun k => (n, k)
  let diff := packs.flatten.filter fun (e : Fin 8 × Fin 24) => old.nodeIdent e.1 e.2 != s.img.cfg.nodeIdent e.1 e.2
  let s := State.forEach diff (fun (e : Fin 8 × Fin 24) => State.snapshotPack old e.1 e.2) s
  let cells := (s.declared.map fun n => (s.topo n).cellList.map fun k => cellNo n k.1 k.2).flatten
  let s := State.forEach (cells.filter fun b => (Sparse.find s.est.cells b).isNone) (fun b => State.modCell b fun _ => s.img.cfg.model.fresh) s
  s.modEst fun e => { e with cells := e.cells.filter fun x => x.1 ∈ cells }

/-- A change of CELL_MODEL keeps every learned value and restarts each covariance (07 R196). -/
def State.modelCommit (old : Cfg) (s : State) : State :=
  s.when (old.model != s.img.cfg.model) fun s => s.modEst fun e => { e with cells := e.cells.map fun x => (x.1, { x.2 with cov := s.img.cfg.model.covInit }) }

/-- A change of PLANT_LOGIC waits for the next scan (15 R395). -/
def State.plantCommit (old : Cfg) (s : State) : State :=
  s.when (old.plant != s.img.cfg.plant) fun s => s.modScan fun c => { c with olc := some ((c.olc).getD old.plant.vars) }

/-- The active profile after a commit: that of the adopted position, if the image defines it; where none was adopted yet, the agreed position selects; its CRCs and
copies (02 R59, R60; 08 R205). -/
def State.profileCommit (bad : Option (Bool × List Byte)) (s : State) : State :=
  let s := match s.img.profPos with
    | some p => s.modImg fun i => { i with profActive := if s.img.cfg.defined p then some p else none }
    | none => if s.saf.a.sw1 == s.saf.b.sw1 then s.selectProfile s.saf.a.sw1 else s
  (s.profileCrcsWith bad).adoptThr

/-- The settings that PTP takes from the image (12 Table 12.11). -/
def State.settingsCommit (s : State) : State :=
  let io := s.img.cfg.io
  s.modPtp fun p => { p with profile := io.ptpProfile, domain := io.ptpDomain, classMax := io.ptpClassMax }

/-- The island's copy of TAMPER_RESPONSE, updated at a commit and at no other time (10 R285). -/
def State.policyCommit (s : State) : State := s.modTrust fun t => { t with policyReport := s.img.cfg.policy.tamperReport }

/-- The domains of the field I/O wake or sleep for good at a commit T0 and at no other time (16 R402); a block that sleeps keeps its registers' values in
the shadow file (01 R35; log 113). -/
def State.domainSwitch (old : Cfg) (s : State) : State :=
  let ds := (List.range 28).map (· + 98)
  let s := State.forEach (ds.filter fun d => old.io.used d && !s.img.cfg.io.used d) (fun d s => s.modPwr fun p => { p with sleepAt := Sparse.put p.sleepAt d s.clk.upNs }) s
  State.forEach (ds.filter fun d => !old.io.used d && s.img.cfg.io.used d) (fun d s => (s.wakeDomain d).modPwr fun p => { p with sleepAt := p.sleepAt.filter fun e => e.1 ≠ d }) s

/-- A configuration takes effect (02 R45, R50 to R52), after `k` completed steps; `bad` is a channel that reads the profile wrong
(02 R60). -/
def State.applyCfg (bad : Option (Bool × List Byte)) (new : Cfg) (k : Nat) (s : State) : State :=
  let old := s.img.cfg
  let s := s.modImg fun i => { i with cfg := new }
  let s := State.forEach strings (State.strCommit old k) s
  let s := (((((s.packsCommit old).modelCommit old).plantCommit old).domainSwitch old).settingsCommit.policyCommit.profileCommit bad).aoActivate
  let s := s.extendM7 (Config.cfgDigest new)
  s.intoHistory 8 0x050 (leBytes 48 s.trust.meas[7].toNat ++ leBytes 48 s.img.cur.hdr.digest.toNat ++ leBytes 8 k)

/-! ### The slots (02 R43, R54) -/

/-- Current and staged slot exchanged. -/
def Img.swap (i : Img) : Img := { i with cur := i.stg, stg := i.cur }

/-- The slots and the plan after a change, with the completed steps (02 R43, R54): a whole image keeps no base; a completed plan keeps its
base in the staged slot; a reversal of a completed plan makes the base current again. DESIGN CHOICE (log 61): PEER_MATCH clears where the
staged slot ceases to hold the image that was matched. -/
def Img.settled (kind : StepKind) (index : Nat) (wasComplete : Bool) (i : Img) : Img × Nat :=
  let i := { i with pend := none, peer := none }
  match kind with
  | .commit => ({ i with cur := i.stg, stg := {}, plan := .none, peerMatch := false }, 0)
  | .forward => if index ≥ i.stg.plan.length then ({ i.swap with plan := .complete, peerMatch := false }, index) else ({ i with plan := .partly }, index)
  | .reverse =>
    let j := if wasComplete then { i.swap with peerMatch := false } else i
    ({ j with plan := if index ≤ 1 then .ready else .partly }, index - 1)

/-- A decided change is in effect: the slots, the journal, the configuration, the record (02 R43, R44, R48). -/
def State.effect (bad : Option (Bool × List Byte)) (kind : StepKind) (index : Nat) (wasComplete : Bool) (cfg : Cfg) (s : State) : State :=
  let r := s.img.settled kind index wasComplete
  let mask : BitVec 8 := match kind with
    | .commit => 0
    | .forward => (((s.img.stg.plan)[index - 1]?).map (·.fwd.reenum)).getD 0
    | .reverse => ((((if wasComplete then s.img.cur.plan else s.img.stg.plan))[index - 1]?).map (·.fwd.reenum)).getD 0
  let s := (s.modImg fun _ => { r.1 with resCode := 0, resDetail := 0, reenum := r.1.reenum ||| mask }).modJrn fun j => { j with stepsDone := r.2, planOpen := r.1.plan == .partly, planPend := false, decided := none }
  let s := s.applyCfg bad cfg r.2
  if kind == .reverse then s.emit 0x0152 0x050 (ints [index]) else s.emit 0x0151 0x050 (ints [r.2])

/-- STEP_ALL and ROLLBACK_ALL go on with the next step, unless nothing is left; STEP_ALL stops too where the bank is in FAULT (02 R45). -/
def State.nextStep (kind : StepKind) (s : State) : State :=
  if s.img.request kind s.jrn.stepsDone ≠ 0 || (kind == .forward && s.bank.state == .fault) then s else s.makePending kind true

/-- The configuration that the standby's prepared change leads to. -/
def Img.peerCfg (p : PeerPrep) (i : Img) : Cfg :=
  match p.kind with
  | .commit => i.stg.cfg
  | .forward => i.cfgAt p.index
  | .reverse => i.cfgAt (p.index - 1)

/-- The standby adopts a decided change (02 R56). -/
def State.peerEffect (bad : Option (Bool × List Byte)) (p : PeerPrep) (s : State) : State := s.effect bad p.kind p.index (s.img.plan == .complete) (s.img.peerCfg p)

/-- A change left behind by a switchover is not committed (02 R57). -/
def State.dropPend (s : State) : State :=
  if s.img.pend.isNone && s.img.peer.isNone then s
  else
    let back := (s.img.pend.map (·.wasComplete)).getD (s.img.plan == .complete)
    ((s.modImg fun i => { i with pend := none, peer := none, plan := if back then .complete else if i.plan == .pending then .none else i.plan }).modImg fun i => { i with plan := i.restPlan s.jrn.stepsDone }).modJrn fun j => { j with planPend := false, decided := none }

/-- STEP_COMMIT (02 R45, R48, R51, R56, R57): at the T0 of a change that passed; on the standby, of one whose DECIDE has come. The host's held
writes take effect after it. -/
def execStepCommit (bad : Option (Bool × List Byte)) (s : State) : Host.Outcome State Fault Refusal :=
  .next <|
    if s.leads then
      match s.img.pend with
      | none => s.dropPend
      | some p =>
        if !p.passed || s.now < p.target then s
        else
          let s := (s.effect bad p.kind p.index p.wasComplete p.cfg).applyRegs
          s.when p.all (State.nextStep p.kind)
    else
      let s := s.when s.img.pend.isSome State.dropPend
      match s.img.peer with
      | none => s
      | some p =>
        if s.now < p.target then s
        else match p.decided with
          | some true => (s.peerEffect bad p).applyRegs
          | some false => s.modImg fun i => { i with peer := none }
          | none => s

/-- A standby without DECIDE takes the step index from the active member's first heartbeat after the T0 and adopts the configuration that it
names; a whole image has no step, and its digest names it (02 R56). -/
def State.lateDecide (h : Heartbeat) (s : State) : State :=
  match s.img.peer with
  | none => s
  | some p =>
    if s.twin.role != .standby || h.role != .active || s.now < p.target || p.decided.isSome then s
    else if (if p.kind == .commit then h.cfgDigest == p.digest.extractLsb' 0 128 else h.step.toNat == p.kind.outcome p.index) then s.peerEffect none p
    else s.modImg fun i => { i with peer := none }

/-- HEARTBEAT_RECEIVED (09 R237, R250, R261; 02 R56). -/
def execHeartbeatReceived (f : TwinFrame) (h : Heartbeat) (s : State) : Host.Outcome State Fault Refusal :=
  .next (s.withFrame f fun s => ((s.lateDecide h).takeHeartbeat f.tsc h).serveResync)

end Sys2Proof.Machine
end

