-- ==== Sys2Proof/Machine/PowerOn.lean ====
section
/-! DEFINITION. The start of a module: measured start-up, what a reset keeps, and what the journal, the image and the inputs give it (10
R266 to R268; 17 R414, R417, R425). -/

namespace Sys2Proof.Machine

/-! ### What a reset keeps (01 Table 1.8) -/

/-- Counters after a reset: those that the journal mirrors (18 R437). -/
def State.keepCounters (s : State) : State :=
  (s.setCtr s.jctr).setCtrSat ((s.jctr.filter fun c => c.2 = Counter.max c.1).map (·.1))

/-- Every other state at its reset value; the journal, the recorder, the history write state, the flash, the trust core's store and the
island keep theirs (01 Table 1.8, R33). The store of the hold-up keeps its charge through a reset that is no power-on. -/
def State.kept (i : ResetIn) (s : State) : State :=
  let r := State.reset
  let t := s.trust
  let u := s.upd
  let r := (((r.setFree s.free).setOut s.out).setPending s.pending).modJrn fun _ => s.jrn
  let r := (r.modIdent fun _ => { s.ident with member := i.member, memberPin := i.member, scratch := 0 }).modImg fun _ => { cur := s.img.cur, stg := s.img.stg }
  let r := r.modTrust fun _ => { nv := t.nv, policyReport := t.policyReport, backupMv := t.backupMv, backupLow := t.backupLow, backupFail := t.backupFail, tamperLog := t.tamperLog }
  let r := (r.modHist fun _ => { nv := s.hist.nv }).modFfr fun _ => { nv := s.ffr.nv }
  let r := r.modUpd fun _ => { bank0 := u.bank0, bank1 := u.bank1, runBank := u.runBank, nextBank := u.nextBank, marked := u.marked, partNode := u.partNode, partGd := u.partGd }
  let r := r.modHw fun _ => { rtc := i.rtc, wake := s.hw.wake }
  let r := r.when (!i.power) fun x => x.modPwr fun _ => { energy := s.pwr.energy, cap := s.pwr.cap, full := s.pwr.full }
  (r.setJctr s.jctr).keepCounters

/-! ### Tadpole (10 R266 to R268, Table 10.2) -/

/-- A measurement register extended (10 R267). -/
def State.measure (k : Fin 8) (d : BitVec 384) (s : State) : State :=
  s.modTrust fun t => { t with meas := Vec.upd t.meas k fun m => Config.sha384 (leBytes 48 m.toNat ++ leBytes 48 d.toNat) }

/-- The trust store unwrapped: without the TRK the module is ZEROISED; BOOT_COUNT counts, saturating (10 Table 10.2, R287). -/
def State.bootTrust (s : State) : State :=
  s.modTrust fun t =>
    let nv := if t.nv.trk then t.nv else t.nv.keyless
    { t with keysErased := nv.owner == .zeroised, nv := { nv with bootCount := if t.nv.bootCount = 0xFFFFFFFF then t.nv.bootCount else t.nv.bootCount + 1 } }

/-- A firmware bank. -/
def Upd.bank (b : Bool) (u : Upd) : FwInfo := if b then u.bank1 else u.bank0

/-- Does a bank verify: its signatures and digests, the contents complete, and no version below the one held (10 R268, R269; 17 R422). -/
def State.bankOk (b ok : Bool) (s : State) : Bool :=
  let f := s.upd.bank b
  ok && f.valid && f.secVersion ≥ s.trust.nv.secVersion.toNat

/-- The bank that starts: the marked one where it verifies, else the other where it verifies (10 R268); none after a failed self-check or known-answer
test (10 Table 10.2). -/
def State.startBank (i : ResetIn) (s : State) : Option Bool :=
  let b := s.upd.nextBank
  if !i.selfOk then none else if s.bankOk b i.markedOk then some b else if s.bankOk (!b) i.otherOk then some (!b) else none

/-- The running firmware is that of a bank; its components are measured (10 R267, R268). -/
def State.runBank (b : Bool) (s : State) : State :=
  let f := s.upd.bank b
  let s := (s.modUpd fun u => { u with runBank := b }).modTrust fun t => { t with fwBank := b }
  let s := s.when f.valid fun s => s.modIdent fun x => { x with version := f.version }
  State.forEach [1, 2, 3, 4, 5, 6] (fun (k : Fin 8) => State.measure k (Config.componentDigest k f.digest)) s

/-- BOOT_BANK_FALLBACK, or UPD_ACTIVATED after an ACTIVATE whose bank verified (10 R268; 17 R425). -/
def State.bootRecord (i : ResetIn) (s : State) : State :=
  let marked := s.upd.marked
  let s := s.modUpd fun u => { u with marked := false }
  if s.upd.runBank != s.upd.nextBank then (s.modTrust fun t => { t with bankFallback := true }).emit 0x4A13 0x050 [(i.failed : Int)]
  else s.when marked fun s => (s.bump 0x440104).emit 0x0411 0x050 (ints [(s.upd.bank (!s.upd.runBank)).version.toNat, s.ident.version.toNat])

/-! ### The image (02 R42 to R44, R59) -/

/-- A decision journaled before the reset counts as a completed change (02 R44). -/
def State.bootDecided (s : State) : State :=
  match s.jrn.decided with
  | none => s
  | some (k, _) =>
    let was := !s.jrn.planOpen && s.jrn.stepsDone > 0
    let r :=
      if k = 255 then s.img.settled .commit 0 was
      else if k < s.jrn.stepsDone then s.img.settled .reverse (k + 1) was
      else s.img.settled .forward k was
    (s.modImg fun _ => r.1).modJrn fun j => { j with stepsDone := r.2, planOpen := r.1.plan == .partly, planPend := false, decided := none }

/-- Checks 1 to 4 of a slot (02 R42): the number of the check that fails, 0 where all pass. -/
def State.slotCheck (x : Slot) (s : State) : Nat := firstCode (s.imageChecks14 x.data) % 0x100

/-- IMG_CHECK_FAIL with the check and the slot, 0 current and 1 staged (02 Table 2.16). -/
def State.checkFail (check slot : Nat) (s : State) : State := s.emit 0x8155 0x050 (ints [check, slot])

/-- The check that a staged slot fails: checks 1 to 4, and, while the journal shows the plan as READY, PARTIAL or PENDING, check 8 against
the current slot (02 R42, R43). -/
def State.stagedCheck (s : State) : Nat :=
  let x := s.img.stg
  let c := s.slotCheck x
  let base := s.jrn.planOpen || s.jrn.planPend || s.jrn.stepsDone = 0
  if c ≠ 0 then c else if base && x.hdr.delta && !(s.img.cur.valid && x.hdr.baseDigest == s.img.cur.hdr.digest) then 8 else 0

/-- The current slot checked (02 R42). -/
def State.bootCurrent (s : State) : State :=
  let c := s.slotCheck s.img.cur
  (s.modImg fun i => { i with cur := { i.cur with valid := c == 0 } }).when (c != 0) (State.checkFail c 0)

/-- The staged slot checked: with a plan partly applied or a change pending in the journal its failure leaves no image active (02 R42, R44). -/
def State.bootStaged (s : State) : State :=
  let c := s.stagedCheck
  let s := s.modImg fun i => { i with stg := { i.stg with valid := c == 0 } }
  s.when (c != 0 && (s.jrn.planOpen || s.jrn.planPend)) fun s => (s.modImg fun i => { i with cur := { i.cur with valid := false } }).checkFail c 1

/-- PLAN_STATE from the journal and the slots (02 R43, R44). DESIGN CHOICE (log 62): without a valid staged slot it is NONE even where a
plan was partly applied, so that the host can load a fresh image; a change that was only pending is dropped. -/
def State.bootPlan (s : State) : State :=
  let k := s.jrn.stepsDone
  let p : PlanState := if !s.img.stg.valid then .none else if s.jrn.planOpen then .partly else if k > 0 then .complete else .ready
  (s.modImg fun i => { i with plan := p }).modJrn fun j =>
    { j with planPend := false, stepsDone := if p == .none then 0 else j.stepsDone, planOpen := j.planOpen && p != .none }

/-- The configuration in force rebuilt, and M7 extended with the current IMAGE_DIGEST (02 R44; 10 R267). -/
def State.bootCfg (s : State) : State :=
  s.when s.img.cur.valid fun s => (s.modImg fun i => { i with cfg := i.cfgAt s.jrn.stepsDone }).measure 7 s.img.cur.hdr.digest

/-- The switches as read at reset: the agreed SW1 selects the profile; a difference is recorded (02 R58, R59). -/
def State.bootSwitches (i : ResetIn) (s : State) : State :=
  let s := s.modSaf fun t => { t with a := { t.a with sw1 := i.sw1a, sw2 := i.sw2a }, b := { t.b with sw1 := i.sw1b, sw2 := i.sw2b } }
  let d := s.saf.switchDiff
  let s := s.modImg fun x => { x with swDisagree := d }
  let s := s.when (d != 0) (State.emit 0x4822 0x000 (ints [i.sw1a.toNat, i.sw1b.toNat, i.sw2a.toNat, i.sw2b.toNat]))
  (s.when (i.sw1a == i.sw1b) (State.selectProfile i.sw1a)).when (s.img.cur.valid && i.badProfile.isSome) (State.profileCrcsWith i.badProfile)

/-- The image's stage of the start (17 Table 17.1). -/
def State.bootImage (i : ResetIn) (s : State) : State :=
  ((s.bootDecided.bootCurrent.bootStaged.bootPlan.bootCfg).bootSwitches i).settingsCommit

/-! ### What the configuration and the journal give each block -/

/-- A string engine at start: OFF where declared, its tunables from the image, LOCKOUT from the journal (05 R155, Table 5.13, R157).
DESIGN CHOICE (log 2): the limits of STRn_ILIM_CHG and STRn_ILIM_DIS start at the image's absolute limits. -/
def StrEng.boot (c : StrCfg) (aux : BitVec 3) (lockout : Bool) (e : StrEng) : StrEng :=
  { e with state := if c.declared then .off else .disabled, aux := aux, lockout := lockout, phaseCfg := c.phase, ramp := c.ramp, ilimChg := BitVec.ofNat 16 c.iChgMax, ilimDis := BitVec.ofNat 16 c.iDisMax, tbalG := BitVec.ofNat 16 (c.tbal.toNat / 65536), tbalWmax := BitVec.ofNat 8 c.tbal.toNat, coeffs := c.coeffs, busMode := false }

/-- A repetitive controller at start: its memory is the learned one (06 R164). -/
def RcCtl.boot (c : StrCfg) (m : Option (BitVec 17 × List (Nat × Rat))) (r : RcCtl) : RcCtl :=
  { r with source := c.rcHost, gain := c.rcGain, memFreq := (m.map (·.1)).getD 0, mem := (m.map (·.2)).getD [] }

/-- The string engines at start, and a gate-driver session for each declared string (05 R155; 17 Table 17.1). -/
def State.bootStrings (i : ResetIn) (s : State) : State :=
  let a := s.jrn.newest
  let s := s.mapAllStr fun n e => e.boot (s.topo n) i.aux[n] (bit s.jrn.lockout.toNat n)
  let s := s.mapAllRc fun n r => r.boot (s.topo n) (if a.valid then Sparse.find a.rc n else none)
  s.when (s.img.cur.valid && !s.trust.keysErased) fun s => State.forEach s.declared State.gdSessions s

/-- A Ring port's loop and the fabric's input as they read at start; the emergency stop inputs and EXT_TRIP_N (03 R86; 08 R221). -/
def State.bootInputs (i : ResetIn) (s : State) : State :=
  let s := s.mapAllRing fun n r => { r with floop := LoopState.ofCurrent i.loopUa[n].toNat, floopUa := i.loopUa[n] }
  s.modSaf fun t => { t with a := { t.a with run := true }, b := { t.b with run := true }, fab := { t.fab with armed := true, inLoop := Vec.updAll t.fab.inLoop fun n _ => { active := i.loopUa[n].toNat < 4000 }, estopA := { active := !i.estopA }, estopB := { active := !i.estopB }, extLow := { active := i.extLow } } }

/-- The twin's lines and the role at start: a member whose image declares no pair is ALONE, whatever FENCE_IN reads (09 R238, Table 9.2, R239,
R240; log 98). -/
def State.bootTwin (i : ResetIn) (s : State) : State :=
  let role : Role := if !s.img.cfg.paired then .alone else if i.fenceIn then .fenced else .unsynced
  let e := s.jrn.epochs
  State.formTrack <| s.modTwin fun w =>
    { w with role := role, fenceIn := i.fenceIn, activeIn := i.activeIn, str := Vec.updAll w.str fun n l => { l with epoch := Sparse.get e n 0 }, ring := Vec.updAll w.ring fun n l => { l with epoch := Sparse.get e (8 + n) 0 }, pack := Vec.updAll w.pack fun n l => { l with epoch := Sparse.get e (32 + n) 0 }, hist := { w.hist with epoch := Sparse.get e 16 0 } }

/-- A record of the recorder without COMMIT is erased, and FFR_TORN follows; a record that was being written has its COMMIT (11 R310). -/
def State.bootFfr (i : ResetIn) (s : State) : State :=
  match s.ffr.nv.recs with
  | [] => s
  | r :: t =>
    if r.committed then s
    else if i.torn then ((s.modFfr fun f => { f with nv := { f.nv with recs := t, bytes := f.nv.bytes - r.size } }).bump 0x2C0110).emit 0x8B1B 0x070 [r.seq.toNat]
    else s.modFfr fun f => { f with nv := { f.nv with recs := { r with committed := true } :: t, commitSeq := f.nv.commitSeq + 1 } }

/-- A copy of the store as its namespace shows it (11 R306, Table 11.9). -/
def HistCopy.boot (storeId : BitVec 128) (ns : Option ShelfNs) : HistCopy :=
  match ns with
  | none => {}
  | some x =>
    let st : CopyState := if x.blank then .absent else if x.storeId == storeId then .inSync else .foreign
    { state := st, ns := true, capBytes := x.capBytes, storeId := x.storeId, blank := x.blank }

/-- History at start: the writer takes the reservation and resumes the open segment; a member of a pair waits for its lease (11 R293, R304, R308). -/
def State.bootHistory (i : ResetIn) (s : State) : State :=
  let id := s.hist.nv.storeId
  let s := s.modHist fun h => { h with a := HistCopy.boot id i.shelfA, b := HistCopy.boot id i.shelfB, state := if s.writes then .absent else .notWriter }
  let s := s.modHist fun h => { h with capSeg := h.capacity }
  let h := s.hist
  let s := s.modHist fun h => { h with full := h.capSeg > 0 && h.nv.freeSeg ≤ 16 }
  if !s.writes then s.when s.img.cfg.paired fun s => s.send .shelf 0 "REGISTER" [Hist.shelfKey s.ident.serial.toNat]
  else
    let s := s.reserveShelf
    if s.hist.full then s.modHist fun h => { h with state := .full } else s.when (h.a.state == .inSync || h.b.state == .inSync) (State.resumeHistory false)

/-- Plant logic at start (15 Table 15.2, R387). -/
def State.bootScan (s : State) : State :=
  let p := s.img.cfg.plant
  s.modScan fun c => { c with autoDue := s.img.cur.valid && p.present && s.img.cfg.policy.autoStart, data := p.restored s.jrn.retain }

/-- Door, card, console, host ports and discrete inputs as they stand (12 R321; 14 R381; 17 R420; 19 R447). -/
def State.bootHw (i : ResetIn) (s : State) : State :=
  let s := (s.modHw fun h => { h with doorOpen := i.door, console := i.console }).modUpd fun u => { u with sdCard := i.sdCard, sdMounts := i.sdCard && i.sdMounts }
  let s := s.modHost fun h => { h with sessions := if i.console then [{ id := 8, port := .console }] else [], portA := { h.portA with fitted := i.sfpA }, portB := { h.portB with fitted := i.sfpB }, reapplyDue := s.img.cur.valid }
  (s.modIo fun o => { o with din := i.din }).aoActivate

/-- The TSC from the RTC, with TSC_VALID clear (01 R20). -/
def State.bootClock (i : ResetIn) (s : State) : State :=
  s.modClk fun c => { c with tscFix := i.rtc * 2 ^ 32, cycleT0 := i.rtc / 1000000 * 1000000, cycleNo := i.rtc / 1000000 }

/-- The tamper events that the island kept are recorded again (10 R285). -/
def State.bootTamper (s : State) : State := State.forEach s.trust.tamperLog (fun (e : Nat × Nat) => State.emit 0xCA1A 0x0F0 (ints [e.1, e.2])) s

/-- The Reset row of Table 6.1, recorded. DESIGN CHOICE (log 86): its old state is OFF, for the row has none; the commands that waited before it lapse in the first bank cycle (06 R166, R169). -/
def State.bootBank (s : State) : State := (s.modBank fun b => { b with lapseDue := true }).emit 0x0620 0x030 (ints [BankState.code .off, BankState.code .off, 0])

/-- The reset row of Table 9.2 that gave the role, recorded. DESIGN CHOICE (log 86): its old role is 7, for the row has none (09 R238). -/
def State.bootRole (s : State) : State := s.emit 0x0910 0x040 (ints [7, s.twin.role.code, 0])

/-- The stages after the bank has verified; BOOT_MEASURED once M0 to M7 stand (10 Table 10.2). -/
def State.bootRun (i : ResetIn) (b : Bool) (s : State) : State :=
  let s := ((s.runBank b).bootRecord i).bootImage i
  let s := ((s.bootInputs i).bootTwin i).bootStrings i
  (((s.bootCells.bootFfr i).bootHistory i).bootScan.bootHw i).bootTamper.bootRole.bootBank.emit 0x0A10 0x050 [s.trust.nv.bootCount.toNat]

/-- The start of the module. After a failed self-check, which leaves the trust store wrapped, or with no bank that verifies it stays in BOOT_HALT: the fabric is armed, everything else at reset (10 R268). -/
def State.powerOn (i : ResetIn) (s : State) : State :=
  let s := (((s.kept i).bootClock i).measure 0 (Config.componentDigest 0 0)).when i.selfOk State.bootTrust
  match s.startBank i with
  | some b => s.bootRun i b
  | none => ((s.modTrust fun t => { t with bootHalt := true }).modSaf fun t => { t with fab := { t.fab with armed := true } }).bootHw i

/-- POWER_ON_RESET (10 R266; 17 R414). A module whose shutdown latch is set stays quiesced (16 R410). -/
def execPowerOnReset (i : ResetIn) (s : State) : Host.Outcome State Fault Refusal := .next (if s.pwr.shutLatch then s else s.powerOn i)

end Sys2Proof.Machine
end

