-- ==== Sys2Proof/Machine/Dispatch.lean ====
section
/-! DEFINITION. One arm per command, each calling its meaning. -/

namespace Sys2Proof.Machine

def exec (i : Instr) (s : State) : Host.Outcome State Fault Refusal :=
  match i with
  | .powerOnReset r => Sys2Proof.Machine.execPowerOnReset r s
  | .bankCycleStart => Sys2Proof.Machine.execBankCycleStart s
  | .estimationStepDone => Sys2Proof.Machine.execEstimationStepDone s
  | .commonSampleInstant raw => Sys2Proof.Machine.execCommonSampleInstant raw s
  | .setClose noSig => Sys2Proof.Machine.execSetClose noSig s
  | .safetyEvaluation channelB => Sys2Proof.Machine.execSafetyEvaluation channelB s
  | .tripRequest channelB n => Sys2Proof.Machine.execTripRequest channelB n s
  | .dispatchSplit => Sys2Proof.Machine.execDispatchSplit s
  | .setpointPublish => Sys2Proof.Machine.execSetpointPublish s
  | .safetyCrossCompare => Sys2Proof.Machine.execSafetyCrossCompare s
  | .compareMessage channelB ok => Sys2Proof.Machine.execCompareMessage channelB ok s
  | .compareDeadline channelB => Sys2Proof.Machine.execCompareDeadline channelB s
  | .channelHeartbeatSilent channelB => Sys2Proof.Machine.execChannelHeartbeatSilent channelB s
  | .guardWindow => Sys2Proof.Machine.execGuardWindow s
  | .controlCycleBoundary n b => Sys2Proof.Machine.execControlCycleBoundary n b s
  | .dutyComputed n late => Sys2Proof.Machine.execDutyComputed n late s
  | .scanStart acts => Sys2Proof.Machine.execScanStart acts s
  | .scanComplete acts o => Sys2Proof.Machine.execScanComplete acts o s
  | .scanWatchdog => Sys2Proof.Machine.execScanWatchdog s
  | .memberSelectChanged pin => Sys2Proof.Machine.execMemberSelectChanged pin s
  | .readLoLatch q addr count => Sys2Proof.Machine.execReadLoLatch q addr count s
  | .registerWrite q addr words => Sys2Proof.Machine.execRegisterWrite q addr words s
  | .counterClear q addr value => Sys2Proof.Machine.execCounterClear q addr value s
  | .commit q => Sys2Proof.Machine.execCommit q s
  | .stepNext q => Sys2Proof.Machine.execStepNext q s
  | .stepAll q => Sys2Proof.Machine.execStepAll q s
  | .rollback q => Sys2Proof.Machine.execRollback q s
  | .rollbackAll q => Sys2Proof.Machine.execRollbackAll q s
  | .discard q => Sys2Proof.Machine.execDiscard q s
  | .shadowReady => Sys2Proof.Machine.execShadowReady s
  | .stepEvaluate => Sys2Proof.Machine.execStepEvaluate s
  | .stepCommit bad => Sys2Proof.Machine.execStepCommit bad s
  | .stepPrepare => Sys2Proof.Machine.execStepPrepare s
  | .prepareReceived f p => Sys2Proof.Machine.execPrepareReceived f p s
  | .stepPeerAnswer f token ready => Sys2Proof.Machine.execStepPeerAnswer f token ready s
  | .decideReceived f token commit => Sys2Proof.Machine.execDecideReceived f token commit s
  | .peerMatchConfirm f digest => Sys2Proof.Machine.execPeerMatchConfirm f digest s
  | .switchChange channelB sw1 sw2 => Sys2Proof.Machine.execSwitchChange channelB sw1 sw2 s
  | .profileCrcCheck bad => Sys2Proof.Machine.execProfileCrcCheck bad s
  | .ringEnumerate q n => Sys2Proof.Machine.execRingEnumerate q n s
  | .ringClose q n => Sys2Proof.Machine.execRingClose q n s
  | .enumSilenceEnd n => Sys2Proof.Machine.execEnumSilenceEnd n s
  | .identityReceived n crcOk ident => Sys2Proof.Machine.execIdentityReceived n crcOk ident s
  | .enumTimeout n => Sys2Proof.Machine.execEnumTimeout n s
  | .assignAtEndB n => Sys2Proof.Machine.execAssignAtEndB n s
  | .transitAtEndB n transit => Sys2Proof.Machine.execTransitAtEndB n transit s
  | .ringSessionFrame n f => Sys2Proof.Machine.execRingSessionFrame n f s
  | .sessionDeadline n => Sys2Proof.Machine.execSessionDeadline n s
  | .probeReplyReceived n crcOk macOk elapsed turn => Sys2Proof.Machine.execProbeReplyReceived n crcOk macOk elapsed turn s
  | .sampleReceived n k f => Sys2Proof.Machine.execSampleReceived n k f s
  | .replyReceived n endB f => Sys2Proof.Machine.execReplyReceived n endB f s
  | .ringCommandRequest n c => Sys2Proof.Machine.execRingCommandRequest n c s
  | .commandWindowOpen n => Sys2Proof.Machine.execCommandWindowOpen n s
  | .exchangeTimeout n endB => Sys2Proof.Machine.execExchangeTimeout n endB s
  | .ringLos n endB => Sys2Proof.Machine.execRingLos n endB s
  | .losSilenceEnd n endB => Sys2Proof.Machine.execLosSilenceEnd n endB s
  | .beaconReturn n endB transit => Sys2Proof.Machine.execBeaconReturn n endB transit s
  | .missedReturn n => Sys2Proof.Machine.execMissedReturn n s
  | .ringDelayDrift n => Sys2Proof.Machine.execRingDelayDrift n s
  | .faultLoopOpen n current => Sys2Proof.Machine.execFaultLoopOpen n current s
  | .faultLoopAbnormal n => Sys2Proof.Machine.execFaultLoopAbnormal n s
  | .faultLoopStateChange n current => Sys2Proof.Machine.execFaultLoopStateChange n current s
  | .trackingUpdate => Sys2Proof.Machine.execTrackingUpdate s
  | .sweepStart q n => Sys2Proof.Machine.execSweepStart q n s
  | .sweepAbort q n => Sys2Proof.Machine.execSweepAbort q n s
  | .sweepCancelPending q n => Sys2Proof.Machine.execSweepCancelPending q n s
  | .sweepPointStart n => Sys2Proof.Machine.execSweepPointStart n s
  | .sweepAccumulateStart n => Sys2Proof.Machine.execSweepAccumulateStart n s
  | .sweepPointLastSet n => Sys2Proof.Machine.execSweepPointLastSet n s
  | .sweepResultDeadline n => Sys2Proof.Machine.execSweepResultDeadline n s
  | .tempPointDue n => Sys2Proof.Machine.execTempPointDue n s
  | .calTemp q mask => Sys2Proof.Machine.execCalTemp q mask s
  | .syncInEdge interval => Sys2Proof.Machine.execSyncInEdge interval s
  | .syncCoast n => Sys2Proof.Machine.execSyncCoast n s
  | .cwWrite q n reg value => Sys2Proof.Machine.execCwWrite q n reg value s
  | .holdIntWrite q n value => Sys2Proof.Machine.execHoldIntWrite q n value s
  | .thermalBalanceUpdate n => Sys2Proof.Machine.execThermalBalanceUpdate n s
  | .gdStatusReceived n p f => Sys2Proof.Machine.execGdStatusReceived n p f s
  | .gdFibreFault n p => Sys2Proof.Machine.execGdFibreFault n p s
  | .auxInputChange n aux => Sys2Proof.Machine.execAuxInputChange n aux s
  | .contactorMismatch n ix => Sys2Proof.Machine.execContactorMismatch n ix s
  | .coilPullinEnd n ix => Sys2Proof.Machine.execCoilPullinEnd n ix s
  | .prechargeTimeout n => Sys2Proof.Machine.execPrechargeTimeout n s
  | .kNegReleaseDelay n => Sys2Proof.Machine.execKNegReleaseDelay n s
  | .tripOpenTimeout n => Sys2Proof.Machine.execTripOpenTimeout n s
  | .stringEnable q n => Sys2Proof.Machine.execStringEnable q n s
  | .stringDisable q n => Sys2Proof.Machine.execStringDisable q n s
  | .stringStart q n => Sys2Proof.Machine.execStringStart q n s
  | .stringHold q n => Sys2Proof.Machine.execStringHold q n s
  | .stringResume q n => Sys2Proof.Machine.execStringResume q n s
  | .stringStop q n => Sys2Proof.Machine.execStringStop q n s
  | .stringShed q n => Sys2Proof.Machine.execStringShed q n s
  | .stringService q n => Sys2Proof.Machine.execStringService q n s
  | .stringClear q n => Sys2Proof.Machine.execStringClear q n s
  | .rcLearn n => Sys2Proof.Machine.execRcLearn n s
  | .rcPeriodLost n => Sys2Proof.Machine.execRcPeriodLost n s
  | .rcFadeEnd n => Sys2Proof.Machine.execRcFadeEnd n s
  | .rippleHigh n => Sys2Proof.Machine.execRippleHigh n s
  | .gridFreqWrite q value => Sys2Proof.Machine.execGridFreqWrite q value s
  | .bankStandby q => Sys2Proof.Machine.execBankStandby q s
  | .bankPrecharge q failed => Sys2Proof.Machine.execBankPrecharge q failed s
  | .bankRun q => Sys2Proof.Machine.execBankRun q s
  | .bankHold q => Sys2Proof.Machine.execBankHold q s
  | .bankStop q => Sys2Proof.Machine.execBankStop q s
  | .bankClear q => Sys2Proof.Machine.execBankClear q s
  | .bankService q => Sys2Proof.Machine.execBankService q s
  | .bankOff q => Sys2Proof.Machine.execBankOff q s
  | .dispatch q body => Sys2Proof.Machine.execDispatch q body s
  | .dispatchConfirm f seq => Sys2Proof.Machine.execDispatchConfirm f seq s
  | .dispatchPeerTimeout seq => Sys2Proof.Machine.execDispatchPeerTimeout seq s
  | .journalWriteDone w => Sys2Proof.Machine.execJournalWriteDone w s
  | .dispatchQuery q value => Sys2Proof.Machine.execDispatchQuery q value s
  | .reinit q mask => Sys2Proof.Machine.execReinit q mask s
  | .learnNow q => Sys2Proof.Machine.execLearnNow q s
  | .learnedValuesWrite => Sys2Proof.Machine.execLearnedValuesWrite s
  | .learnWriteDone ok => Sys2Proof.Machine.execLearnWriteDone ok s
  | .balancingDecision => Sys2Proof.Machine.execBalancingDecision s
  | .overCurrent n chB => Sys2Proof.Machine.execOverCurrent n chB s
  | .estop inputB => Sys2Proof.Machine.execEstop inputB s
  | .extTrip => Sys2Proof.Machine.execExtTrip s
  | .fenceInActive => Sys2Proof.Machine.execFenceInActive s
  | .fabricCfgMismatch channelB thr => Sys2Proof.Machine.execFabricCfgMismatch channelB thr s
  | .estopDiscrepancy => Sys2Proof.Machine.execEstopDiscrepancy s
  | .estopResetArmed => Sys2Proof.Machine.execEstopResetArmed s
  | .estopCoilTimer => Sys2Proof.Machine.execEstopCoilTimer s
  | .inputSelftest channelB failed => Sys2Proof.Machine.execInputSelftest channelB failed s
  | .outputTest q failed => Sys2Proof.Machine.execOutputTest q failed s
  | .testDue => Sys2Proof.Machine.execTestDue s
  | .heartbeatSend => Sys2Proof.Machine.execHeartbeatSend s
  | .heartbeatReceived f h => Sys2Proof.Machine.execHeartbeatReceived f h s
  | .heartbeatTimeout => Sys2Proof.Machine.execHeartbeatTimeout s
  | .twinLaneDown lane1 => Sys2Proof.Machine.execTwinLaneDown lane1 s
  | .leaseTick => Sys2Proof.Machine.execLeaseTick s
  | .leaseExpiry l => Sys2Proof.Machine.execLeaseExpiry l s
  | .leaseClaim l => Sys2Proof.Machine.execLeaseClaim l s
  | .activeInChange v => Sys2Proof.Machine.execActiveInChange v s
  | .fenceWaitEnd => Sys2Proof.Machine.execFenceWaitEnd s
  | .fenceConfirmed => Sys2Proof.Machine.execFenceConfirmed s
  | .fenceUnconfirmed => Sys2Proof.Machine.execFenceUnconfirmed s
  | .pairFormation contend => Sys2Proof.Machine.execPairFormation contend s
  | .controlRecordReceived f n c => Sys2Proof.Machine.execControlRecordReceived f n c s
  | .estimationRecordReceived f e => Sys2Proof.Machine.execEstimationRecordReceived f e s
  | .standbyDesync => Sys2Proof.Machine.execStandbyDesync s
  | .switchover q => Sys2Proof.Machine.execSwitchover q s
  | .switchoverRelease => Sys2Proof.Machine.execSwitchoverRelease s
  | .releaseReceived f leases => Sys2Proof.Machine.execReleaseReceived f leases s
  | .unfence q => Sys2Proof.Machine.execUnfence q s
  | .resync q => Sys2Proof.Machine.execResync q s
  | .axolotlResyncStart peerTsc => Sys2Proof.Machine.execAxolotlResyncStart peerTsc s
  | .axolotlDone c => Sys2Proof.Machine.execAxolotlDone c s
  | .resyncFail stp => Sys2Proof.Machine.execResyncFail stp s
  | .timeFrameReceived f arrived renew => Sys2Proof.Machine.execTimeFrameReceived f arrived renew s
  | .twinTimeUnlock => Sys2Proof.Machine.execTwinTimeUnlock s
  | .twinPtpDiff => Sys2Proof.Machine.execTwinPtpDiff s
  | .pairHello h => Sys2Proof.Machine.execPairHello h s
  | .pairRekey => Sys2Proof.Machine.execPairRekey s
  | .applyToken q => Sys2Proof.Machine.execApplyToken q s
  | .tokenEffect => Sys2Proof.Machine.execTokenEffect s
  | .secCommit q => Sys2Proof.Machine.execSecCommit q s
  | .gdSession q mask => Sys2Proof.Machine.execGdSession q mask s
  | .bindRing q mask => Sys2Proof.Machine.execBindRing q mask s
  | .gdSessionFrame n p f => Sys2Proof.Machine.execGdSessionFrame n p f s
  | .attest q nonce => Sys2Proof.Machine.execAttest q nonce s
  | .report q kind addr count nonce => Sys2Proof.Machine.execReport q kind addr count nonce s
  | .tamperDetected source rtc => Sys2Proof.Machine.execTamperDetected source rtc s
  | .backupLow mv => Sys2Proof.Machine.execBackupLow mv s
  | .backupFail mv charger => Sys2Proof.Machine.execBackupFail mv charger s
  | .tlsConnect c => Sys2Proof.Machine.execTlsConnect c s
  | .tlsKeyUpdate session => Sys2Proof.Machine.execTlsKeyUpdate session s
  | .historyAdmission kind source body => Sys2Proof.Machine.execHistoryAdmission kind source body s
  | .shelfWriteDone rseq => Sys2Proof.Machine.execShelfWriteDone rseq s
  | .shelfCommandFail copyB cmd => Sys2Proof.Machine.execShelfCommandFail copyB cmd s
  | .checkpoint => Sys2Proof.Machine.execCheckpoint s
  | .attachA q force ns => Sys2Proof.Machine.execAttachA q force ns s
  | .attachB q force ns => Sys2Proof.Machine.execAttachB q force ns s
  | .histAttached copyB => Sys2Proof.Machine.execHistAttached copyB s
  | .newStore q => Sys2Proof.Machine.execNewStore q s
  | .seal q => Sys2Proof.Machine.execSeal q s
  | .selectProfile q profile => Sys2Proof.Machine.execSelectProfile q profile s
  | .profileChangeApply => Sys2Proof.Machine.execProfileChangeApply s
  | .ffrEventDelivery code source body => Sys2Proof.Machine.execFfrEventDelivery code source body s
  | .ffrWriterTake => Sys2Proof.Machine.execFfrWriterTake s
  | .ffrCommitDone full => Sys2Proof.Machine.execFfrCommitDone full s
  | .ffrSecondEnd => Sys2Proof.Machine.execFfrSecondEnd s
  | .archive q => Sys2Proof.Machine.execArchive q s
  | .ffrClear q => Sys2Proof.Machine.execFfrClear q s
  | .ffrMirrorReceived f r => Sys2Proof.Machine.execFfrMirrorReceived f r s
  | .ffrMirrorTimeout seq => Sys2Proof.Machine.execFfrMirrorTimeout seq s
  | .hostLinkDown p why => Sys2Proof.Machine.execHostLinkDown p why s
  | .hostFrameDiscard p => Sys2Proof.Machine.execHostFrameDiscard p s
  | .journaledWrite q wtag addr words => Sys2Proof.Machine.execJournaledWrite q wtag addr words s
  | .journalReapply => Sys2Proof.Machine.execJournalReapply s
  | .blockBegin q target restart total digest => Sys2Proof.Machine.execBlockBegin q target restart total digest s
  | .blockData q target offset data => Sys2Proof.Machine.execBlockData q target offset data s
  | .blockEnd q target => Sys2Proof.Machine.execBlockEnd q target s
  | .timeSet q tai => Sys2Proof.Machine.execTimeSet q tai s
  | .note q text => Sys2Proof.Machine.execNote q text s
  | .subscribe q minClass => Sys2Proof.Machine.execSubscribe q minClass s
  | .keepalive q => Sys2Proof.Machine.execKeepalive q s
  | .sessionIdleTimeout session => Sys2Proof.Machine.execSessionIdleTimeout session s
  | .transferExpiry target => Sys2Proof.Machine.execTransferExpiry target s
  | .forgetIdentity q index => Sys2Proof.Machine.execForgetIdentity q index s
  | .ptpSyncReceived m => Sys2Proof.Machine.execPtpSyncReceived m s
  | .ptpFollowUp m => Sys2Proof.Machine.execPtpFollowUp m s
  | .ptpDelayReqDue raw => Sys2Proof.Machine.execPtpDelayReqDue raw s
  | .ptpDelayResp m => Sys2Proof.Machine.execPtpDelayResp m s
  | .ptpPdelayReq m => Sys2Proof.Machine.execPtpPdelayReq m s
  | .ptpAnnounce m => Sys2Proof.Machine.execPtpAnnounce m s
  | .ptpMasterLost => Sys2Proof.Machine.execPtpMasterLost s
  | .acceptMaster q => Sys2Proof.Machine.execAcceptMaster q s
  | .ptpIncrementHi q value => Sys2Proof.Machine.execPtpIncrementHi q value s
  | .ptpIncrementLo q value => Sys2Proof.Machine.execPtpIncrementLo q value s
  | .ptpOffset q value => Sys2Proof.Machine.execPtpOffset q value s
  | .tscSet => Sys2Proof.Machine.execTscSet s
  | .canFrameReceived p f => Sys2Proof.Machine.execCanFrameReceived p f s
  | .canMapPeriod p ix data => Sys2Proof.Machine.execCanMapPeriod p ix data s
  | .canTxDone p b sof => Sys2Proof.Machine.execCanTxDone p b sof s
  | .canBusError p tec recv failed => Sys2Proof.Machine.execCanBusError p tec recv failed s
  | .recover q p => Sys2Proof.Machine.execRecover q p s
  | .abortTx q p b => Sys2Proof.Machine.execAbortTx q p b s
  | .busoffAutoDelay p => Sys2Proof.Machine.execBusoffAutoDelay p s
  | .canBusRecovered p => Sys2Proof.Machine.execCanBusRecovered p s
  | .canStationLost p ix => Sys2Proof.Machine.execCanStationLost p ix s
  | .canReferenceDue p => Sys2Proof.Machine.execCanReferenceDue p s
  | .hkPollDue t => Sys2Proof.Machine.execHkPollDue t s
  | .hkPollDone t r => Sys2Proof.Machine.execHkPollDone t r s
  | .hkAlert => Sys2Proof.Machine.execHkAlert s
  | .hkAlertReadDone addr pecOk still => Sys2Proof.Machine.execHkAlertReadDone addr pecOk still s
  | .hkAlertHoldEnd => Sys2Proof.Machine.execHkAlertHoldEnd s
  | .hkArbLost inStop => Sys2Proof.Machine.execHkArbLost inStop s
  | .hkBusStuck sdaLow => Sys2Proof.Machine.execHkBusStuck sdaLow s
  | .busClear q sdaLow => Sys2Proof.Machine.execBusClear q sdaLow s
  | .hkTargetAccess writeBit thirdByte => Sys2Proof.Machine.execHkTargetAccess writeBit thirdByte s
  | .analogueSample raw rb supply => Sys2Proof.Machine.execAnalogueSample raw rb supply s
  | .aiConfirm ix => Sys2Proof.Machine.execAiConfirm ix s
  | .aoFault ix readBack => Sys2Proof.Machine.execAoFault ix readBack s
  | .loopSupplyFault => Sys2Proof.Machine.execLoopSupplyFault s
  | .qinTransition n a b => Sys2Proof.Machine.execQinTransition n a b s
  | .qinSuspectCleared n => Sys2Proof.Machine.execQinSuspectCleared n s
  | .preset q n => Sys2Proof.Machine.execPreset q n s
  | .clearUncertain q n => Sys2Proof.Machine.execClearUncertain q n s
  | .usfMeasurementPair n dn up drive1 drive2 => Sys2Proof.Machine.execUsfMeasurementPair n dn up drive1 drive2 s
  | .usfHoldExpiry n => Sys2Proof.Machine.execUsfHoldExpiry n s
  | .captureRef q n => Sys2Proof.Machine.execCaptureRef q n s
  | .discreteInputChange din => Sys2Proof.Machine.execDiscreteInputChange din s
  | .doFault ix readBack => Sys2Proof.Machine.execDoFault ix readBack s
  | .scanRun q => Sys2Proof.Machine.execScanRun q s
  | .scanStop q => Sys2Proof.Machine.execScanStop q s
  | .scanHold q => Sys2Proof.Machine.execScanHold q s
  | .scanStep q => Sys2Proof.Machine.execScanStep q s
  | .scanResume q => Sys2Proof.Machine.execScanResume q s
  | .holdMaxExpiry => Sys2Proof.Machine.execHoldMaxExpiry s
  | .supplyDip => Sys2Proof.Machine.execSupplyDip s
  | .powerFail a b => Sys2Proof.Machine.execPowerFail a b s
  | .quiescence => Sys2Proof.Machine.execQuiescence s
  | .shelfStateEntry => Sys2Proof.Machine.execShelfStateEntry s
  | .supplyReturn => Sys2Proof.Machine.execSupplyReturn s
  | .pwrInputHigh => Sys2Proof.Machine.execPwrInputHigh s
  | .holdupTest q => Sys2Proof.Machine.execHoldupTest q s
  | .holdupTestDone cap => Sys2Proof.Machine.execHoldupTestDone cap s
  | .pwrDomainFault d => Sys2Proof.Machine.execPwrDomainFault d s
  | .clockFault c => Sys2Proof.Machine.execClockFault c s
  | .thermalSensorRead j bp safA safB m => Sys2Proof.Machine.execThermalSensorRead j bp safA safB m s
  | .thmBand => Sys2Proof.Machine.execThmBand s
  | .shutdownPending => Sys2Proof.Machine.execShutdownPending s
  | .thermalShutdown a b => Sys2Proof.Machine.execThermalShutdown a b s
  | .shelfWake => Sys2Proof.Machine.execShelfWake s
  | .loadSd q files => Sys2Proof.Machine.execLoadSd q files s
  | .loadSdImage q files => Sys2Proof.Machine.execLoadSdImage q files s
  | .activate q => Sys2Proof.Machine.execActivate q s
  | .activateEvaluate => Sys2Proof.Machine.execActivateEvaluate s
  | .partLoad q gd n pos => Sys2Proof.Machine.execPartLoad q gd n pos s
  | .partActivate q gd n pos => Sys2Proof.Machine.execPartActivate q gd n pos s
  | .abort q => Sys2Proof.Machine.execAbort q s
  | .updStaged => Sys2Proof.Machine.execUpdStaged s
  | .startEnumeration => Sys2Proof.Machine.execStartEnumeration s
  | .standbyAtStart => Sys2Proof.Machine.execStandbyAtStart s
  | .serviceDoorOpened => Sys2Proof.Machine.execServiceDoorOpened s
  | .serviceDoorClosed => Sys2Proof.Machine.execServiceDoorClosed s
  | .consoleAttach => Sys2Proof.Machine.execConsoleAttach s
  | .consoleDetach => Sys2Proof.Machine.execConsoleDetach s
  | .sdCardRemoved => Sys2Proof.Machine.execSdCardRemoved s
  | .twinLaneUp lane1 => Sys2Proof.Machine.execTwinLaneUp lane1 s
  | .fenceInReleased => Sys2Proof.Machine.execFenceInReleased s
  | .hostLinkUp p => Sys2Proof.Machine.execHostLinkUp p s
  | .tlsSessionClosed session => Sys2Proof.Machine.execTlsSessionClosed session s
  | .acceptedWorkReceived f w => Sys2Proof.Machine.execAcceptedWorkReceived f w s
  | .workCopyConfirmed f w => Sys2Proof.Machine.execWorkCopyConfirmed f w s
  | .imageForwardReceived f data => Sys2Proof.Machine.execImageForwardReceived f data s
  | .outputHoldExpiry => Sys2Proof.Machine.execOutputHoldExpiry s
  | .estopInputClosed inputB => Sys2Proof.Machine.execEstopInputClosed inputB s
  | .tripInputReleased ix => Sys2Proof.Machine.execTripInputReleased ix s
  | .gdReplyReceived n p f => Sys2Proof.Machine.execGdReplyReceived n p f s
  | .gdReplyTimeout n p => Sys2Proof.Machine.execGdReplyTimeout n p s
  | .shutdownLatchClear => Sys2Proof.Machine.execShutdownLatchClear s
  | .backupCellExhausted => Sys2Proof.Machine.execBackupCellExhausted s
  | .holdupCharged => Sys2Proof.Machine.execHoldupCharged s
  | .sdCardInserted mounts => Sys2Proof.Machine.execSdCardInserted mounts s
  | .undefinedMessage q type len => Sys2Proof.Machine.execUndefinedMessage q type len s
  | .shelfReadDone copyB r => Sys2Proof.Machine.execShelfReadDone copyB r s

end Sys2Proof.Machine
end

