-- ==== Sys2Proof/Safety.lean ====
section
/-! DEFINITION. The terms the statements use: when a host request is served, what it is for an event to be recorded, which parts of
the state a command leaves alone, and the invariants. -/

namespace Sys2Proof.Machine

/-- The message of `q` is heard: its session `x` is open and holds a credit, and the module is neither zeroised nor in BOOT_HALT (12 R327;
10 R268, R287). -/
abbrev State.hears (q : Req) (x : Session) (s : State) : Prop :=
  s.session q.session = some x ∧ x.credits ≠ 0 ∧ s.dark = false

/-- A WRITE of `q` is served: it is heard and its session has the operate or service role (12 Table 12.1, R321). -/
abbrev State.serves (q : Req) (x : Session) (s : State) : Prop := s.hears q x ∧ (s.roleOf x).mayWrite = true

/-- Nothing else is owed to the session of `q` and no credit is withheld, so that the answer to `q` leaves at once with its one credit
(12 R325, R327). -/
abbrev State.prompt (q : Req) (x : Session) (s : State) : Prop :=
  s.hears q x ∧ x.fifo = [] ∧ x.withheld = 0 ∧ x.inExec < 15 ∧ s.hist.refusing = false

/-- The response to a request of TYPE `type` with its bytes: TYPE + 0x80, MSG_ID, credits returned, STATUS, body (12 Table 12.2). -/
def Req.response (q : Req) (type credit status : Nat) (body : List Byte) : Out :=
  { chan := .lhp, ix := q.session, what := "RESPONSE", args := (lhpBytes (type + 0x80) q.msg credit status body).map fun b => (b.toNat : Int) }

/-- The answer to a request of a quiet session: it returns the one credit of its request (12 Table 12.2, R327). -/
def Req.answer (q : Req) (type status : Nat) (body : List Byte) : Out := q.response type 1 status body

/-- Room in the first-fault queue for what one command records (11 R311). -/
abbrev State.room (s : State) : Prop := s.ffr.queue.length + 16 ≤ Ffr.capacity

/-- Between `s` and `t` an event was recorded: it stands in the first-fault queue with its code, source and body, and its stamp is later
than every stamp that source had given (01 R24; 11 R311). -/
def State.recorded (code src : Nat) (body : List Int) (s t : State) : Prop :=
  ∃ e ∈ t.ffr.queue, e.code = BitVec.ofNat 16 code ∧ e.source = src ∧ e.body = body ∧ Sparse.get s.clk.lastStamp src 0 < e.tsc

/-- Between `s` and `t` the counter at a register address went up by one, or held at its saturation value (00 R8, R11). -/
def State.counted (a : Nat) (s t : State) : Prop := t.counter a = min (Counter.max a) (s.counter a + 1)

/-- The parts of the state. -/
inductive Part where
  /-- Of State, the clock but the last stamps. -/
  | clk
  /-- Of State, the last stamp of each source. -/
  | stamps
  /-- The field `ident` of State. -/
  | ident
  /-- The field `img` of State. -/
  | img
  /-- The field `ring` of State. -/
  | ring
  /-- The field `sense` of State. -/
  | sense
  /-- The field `sweep` of State. -/
  | sweep
  /-- The field `str` of State. -/
  | str
  /-- The field `rc` of State. -/
  | rc
  /-- The field `bank` of State. -/
  | bank
  /-- The field `est` of State. -/
  | est
  /-- The field `saf` of State. -/
  | saf
  /-- The field `twin` of State. -/
  | twin
  /-- The field `trust` of State. -/
  | trust
  /-- The field `hist` of State. -/
  | hist
  /-- Of State, the recorder but its queue. -/
  | ffr
  /-- Of State, the first-fault queue and what it dropped. -/
  | queue
  /-- Of State, the host interface but the sessions. -/
  | host
  /-- Of State, the open sessions. -/
  | sessions
  /-- The field `jrn` of State. -/
  | jrn
  /-- The field `ptp` of State. -/
  | ptp
  /-- The field `can` of State. -/
  | can
  /-- The field `hk` of State. -/
  | hk
  /-- The field `ctr` of State. -/
  | ctr
  /-- The field `ctrSat` of State. -/
  | ctrSat
  /-- The field `jctr` of State. -/
  | jctr
  /-- The field `upd` of State. -/
  | upd
  /-- The field `io` of State. -/
  | io
  /-- The field `scan` of State. -/
  | scan
  /-- The field `pwr` of State. -/
  | pwr
  /-- The field `thm` of State. -/
  | thm
  /-- The field `hw` of State. -/
  | hw
  /-- The field `free` of State. -/
  | free
  /-- The field `out` of State. -/
  | out
  /-- The field `pending` of State. -/
  | pending
  deriving DecidableEq, Repr

/-- Do two states agree on a part. -/
def Part.same (p : Part) (s t : State) : Prop :=
  match p with
  | .clk => { t.clk with lastStamp := s.clk.lastStamp } = s.clk
  | .stamps => t.clk.lastStamp = s.clk.lastStamp
  | .ident => t.ident = s.ident
  | .img => t.img = s.img
  | .ring => t.ring = s.ring
  | .sense => t.sense = s.sense
  | .sweep => t.sweep = s.sweep
  | .str => t.str = s.str
  | .rc => t.rc = s.rc
  | .bank => t.bank = s.bank
  | .est => t.est = s.est
  | .saf => t.saf = s.saf
  | .twin => t.twin = s.twin
  | .trust => t.trust = s.trust
  | .hist => t.hist = s.hist
  | .ffr => { t.ffr with queue := s.ffr.queue, dropped := s.ffr.dropped, dropFirst := s.ffr.dropFirst, dropLast := s.ffr.dropLast } = s.ffr
  | .queue => t.ffr.queue = s.ffr.queue ∧ t.ffr.dropped = s.ffr.dropped ∧ t.ffr.dropFirst = s.ffr.dropFirst ∧ t.ffr.dropLast = s.ffr.dropLast
  | .host => { t.host with sessions := s.host.sessions } = s.host
  | .sessions => t.host.sessions = s.host.sessions
  | .jrn => t.jrn = s.jrn
  | .ptp => t.ptp = s.ptp
  | .can => t.can = s.can
  | .hk => t.hk = s.hk
  | .ctr => t.ctr = s.ctr
  | .ctrSat => t.ctrSat = s.ctrSat
  | .jctr => t.jctr = s.jctr
  | .upd => t.upd = s.upd
  | .io => t.io = s.io
  | .scan => t.scan = s.scan
  | .pwr => t.pwr = s.pwr
  | .thm => t.thm = s.thm
  | .hw => t.hw = s.hw
  | .free => t.free = s.free
  | .out => t.out = s.out
  | .pending => t.pending = s.pending

/-- Nothing differs between `s` and `t` but what the parts in `l` hold. -/
def State.onlyIn (l : List Part) (s t : State) : Prop := ∀ p : Part, p ∉ l → p.same s t

/-- What recording an event or counting may change: the first-fault queue, the last stamps, the counters. -/
abbrev Part.notes : List Part := [.stamps, .queue, .ctr, .ctrSat]

/-- What answering a host request may change besides: the sessions and what was sent. -/
abbrev Part.answers : List Part := [.sessions, .out] ++ Part.notes

/-- The parts of `l` and what recording may change. -/
abbrev Part.withNotes (l : List Part) : List Part := l ++ Part.notes

/-- The parts of `l` and what answering may change. -/
abbrev Part.withAnswers (l : List Part) : List Part := l ++ Part.answers

/-- The module is ZEROISED exactly where its trust root key is gone, and then no token, its own or the twin's, waits for its T0 (10 R274,
R285, R287). -/
abbrev State.trustInv (s : State) : Prop :=
  (s.trust.nv.owner = .zeroised ↔ s.trust.nv.trk = false) ∧ (s.trust.nv.owner = .zeroised → s.trust.pending = none ∧ s.trust.peerToken = none)

/-- Every counter, and every copy in the journal, stands at or below its saturation value (00 R11). -/
def State.countersInv (s : State) : Prop :=
  ∀ a, s.counter a ≤ Counter.max a ∧ Sparse.get s.jctr a 0 ≤ Counter.max a

/-- The records in the history ring stand in the order of their RSEQs, each once, and the next RSEQ is above all of them (00 R3; 11 R297). -/
abbrev State.historyInv (s : State) : Prop :=
  s.hist.nv.ring.Pairwise (fun a b => a.rseq < b.rseq) ∧ ∀ r ∈ s.hist.nv.ring, r.rseq < s.hist.nv.nextRseq

/-- Between `s` and `t` the request of `q` was refused with a code and nothing else happened: the answer went to its session, the
refusal was counted in LHP_REFUSE_CNT, and all else is as it was (00 R7; 12 R323). -/
def State.onlyRefused (q : Req) (type code : Nat) (s t : State) : Prop :=
  t.out = q.answer type code [] :: s.out ∧ State.counted 0x030200 s t ∧ s.onlyIn Part.answers t

/-- Is a PAIR_HELLO that of the member that PAIR names, by its fingerprint, its point's and its signature, which covers its own body or the
own PAIR_HELLO too (10 R279). -/
def State.helloFits (h : PairHello) (s : State) : Bool :=
  h.ident == (if h.member then s.img.cfg.pair.identity1 else s.img.cfg.pair.identity0) && Trust.fingerprint (leBytes 49 h.point) == h.ident &&
    (Config.ecdsaOk h.point (Config.sha384 h.body) h.sig || (s.twin.helloSent && Config.ecdsaOk h.point (Config.sha384 (h.body ++ s.twin.hello)) h.sig))

/-- Does the signature of a PAIR_HELLO cover the own PAIR_HELLO too (10 R279). -/
def State.helloCovers (h : PairHello) (s : State) : Bool := s.twin.helloSent && Config.ecdsaOk h.point (Config.sha384 (h.body ++ s.twin.hello)) h.sig

/-- The commands that may lower a counter: the writes through which a clear register is reached, and a reset (00 R12; 18 R437). -/
def mayClear : Instr → Bool
  | .registerWrite _ _ _ | .counterClear _ _ _ | .journaledWrite _ _ _ _ | .journalWriteDone _ | .workCopyConfirmed _ _ | .journalReapply
  | .powerOnReset _ => true
  | _ => false

/-- The commands that may end a pending step: its build, its evaluation, its T0, a standby's late adoption, and a reset (02 R46, R48,
R56). -/
def mayEndStep : Instr → Bool
  | .shadowReady | .stepEvaluate | .stepCommit _ | .heartbeatReceived _ _ | .powerOnReset _ => true
  | _ => false

end Sys2Proof.Machine
end

