-- ==== Sys2Proof/Certificates/Slice0/Obligations.lean ====
section
/-! DEFINITION. The statements about the block. -/

open Sys2Proof Sys2Proof.Machine

/-- For every command c, rest of the queue and state whose queue is c followed by the rest, step is exec of c on the state with the queue's rest. With an empty queue one tick passes: the TSC adds its increment and, of the correction still to be slewed, a part of at most 0.002 ns in its direction, and nothing else changes but the elapsed time; that ticks pass on an empty queue is the model's choice (log 1). Every command, with every operand and in every state, answers a next state: a request that is refused is answered and counted. -/
def Obligations.StepRunsTheFrontCommand : Prop :=
    (∀ (c : Instr) (rest : List Instr) (s : State), s.pending = c :: rest → step s = exec c (s.setPending rest)) ∧
    (∀ s : State, s.pending = [] → ∃ d : Int, -8589934 ≤ d ∧ d ≤ 8589934 ∧ (0 ≤ s.clk.slewRem → 0 ≤ d ∧ d ≤ s.clk.slewRem) ∧ (s.clk.slewRem ≤ 0 → s.clk.slewRem ≤ d ∧ d ≤ 0) ∧ step s = .next (s.modClk fun c => { c with tscFix := ((c.tscFix : Int) + c.incr.toNat + d).toNat % 2 ^ 96, slewRem := c.slewRem - d, upNs := c.upNs + 2 })) ∧
    (∀ (c : Instr) (s : State), ∃ t, exec c s = .next t)

/-- After reset TSC_VALID is clear with the nominal increment of 2.0 ns, M0 to M7 are zero bytes, the module is UNOWNED with no token pending, every string with no declaration is DISABLED with no duty and every coil down, every Ring is without a key, the next SWEEP_ID of every string is 1, the bank is OFF with nothing in force, every counter reads 0, the servo is on and not locked, and no command waits. -/
def Obligations.ResetState : Prop :=
    (State.reset.clk.tscValid = false ∧ State.reset.clk.incr = 0x200000000 ∧ (∀ i : Fin 8, State.reset.trust.meas[i] = 0) ∧ State.reset.trust.nv.owner = .unowned ∧ State.reset.trust.pending = none) ∧
    (∀ n : Fin 8, State.reset.str[n].state = .disabled ∧ State.reset.str[n].drives = 0 ∧ State.reset.sweep[n].nextId = 1 ∧ (∀ k : Fin 24, State.reset.ring[n].nodes[k].key = none)) ∧
    (State.reset.bank.state = .off ∧ State.reset.bank.inForce = none ∧ (∀ a, State.reset.counter a = 0) ∧ State.reset.ptp.servo = true ∧ State.reset.ptp.locked = false ∧ State.reset.pending = [])

/-- After reset the trust core's invariant, the bound on every counter, the order of the history ring and the bound on the first-fault queue hold. -/
def Obligations.InvariantsAtReset : Prop :=
    (State.reset.trustInv ∧ State.reset.countersInv ∧ State.reset.historyInv ∧ State.reset.ffr.queue.length ≤ Ffr.capacity)

/-- For every state in which the module is ZEROISED exactly where its trust root key is gone, with no token pending or prepared for the twin then, every step that answers a next state gives a state of which the same holds. -/
def Obligations.TrustInvariantKept : Prop :=
    (∀ s t : State, s.trustInv → step s = .next t → t.trustInv)

/-- Every counter saturates at 0xFFFF or, where its register table names it as 32-bit, at 0xFFFF_FFFF; every step from a state whose counters stand within their saturation values gives such a state; and no command but a write through which a clear register is reached, and a reset, ever lowers a counter. -/
def Obligations.CountersNeverWrap : Prop :=
    (∀ a : Nat, Counter.max a = 0xFFFF ∨ Counter.max a = 0xFFFFFFFF) ∧
    (∀ s t : State, s.countersInv → step s = .next t → t.countersInv) ∧
    (∀ (c : Instr) (s t : State) (a : Nat), mayClear c = false → s.countersInv → exec c s = .next t → s.counter a ≤ t.counter a)

/-- For every state whose history ring holds its records in the strictly rising order of their RSEQs, all below the next RSEQ, every step that answers a next state gives a state of which the same holds: a record that the twin sends stands at its place too, in whatever order the lanes deliver it. -/
def Obligations.HistoryStaysInOrder : Prop :=
    (∀ s t : State, s.historyInv → step s = .next t → t.historyInv)

/-- From every state whose first-fault queue holds at most 512 entries, every step that answers a next state gives such a state. -/
def Obligations.FirstFaultQueueBounded : Prop :=
    (∀ s t : State, s.ffr.queue.length ≤ 512 → step s = .next t → t.ffr.queue.length ≤ 512)

/-- No command but the end of a resync, which takes the active member's journal, lowers the number that the next dispatch command, the next journaled write or the next history record will receive. -/
def Obligations.AcceptanceNumbersRise : Prop :=
    (∀ (c : Instr) (s t : State), (∀ p, c ≠ .axolotlDone p) → exec c s = .next t → s.jrn.nextSeq ≤ t.jrn.nextSeq ∧ s.jrn.nextJseq ≤ t.jrn.nextJseq ∧ s.hist.nv.nextRseq ≤ t.hist.nv.nextRseq)

/-- From a state of the trust invariant in which the module is ZEROISED, every step that answers a next state, a reset among them, leaves it ZEROISED, without its trust root key and with no token pending; no command but POWER_ON_RESET changes M0 to M6. -/
def Obligations.ZeroisedAndMeasuredStay : Prop :=
    (∀ s t : State, s.trustInv → s.trust.nv.owner = .zeroised → step s = .next t → t.trust.nv.owner = .zeroised ∧ t.trust.nv.trk = false ∧ t.trust.pending = none) ∧
    (∀ (c : Instr) (s t : State) (i : Fin 8), (∀ r, c ≠ .powerOnReset r) → i ≠ 7 → exec c s = .next t → t.trust.meas[i] = s.trust.meas[i])

/-- A reset of a module whose shutdown latch is clear keeps the journal but for the plan's own fields, the history write state, both firmware banks, the trust store's lock, COUNTER, report sequence and security version, with the trust root key its roots and keys, every committed first-fault record and the queue of commands; TSC_VALID is clear, the bank (but for the waiting commands being due to lapse) and every sweep and CAN port are as at reset, and no node keeps a session key. Where the shutdown latch is set the command changes nothing. -/
def Obligations.ResetKeeps : Prop :=
    (∀ (s : State) (r : ResetIn), s.pwr.shutLatch = false → 
      ∃ t, exec (.powerOnReset r) s = .next t ∧ { t.jrn with stepsDone := s.jrn.stepsDone, planOpen := s.jrn.planOpen, planPend := s.jrn.planPend, decided := s.jrn.decided } = s.jrn ∧ t.hist.nv = s.hist.nv ∧ t.upd.bank0 = s.upd.bank0 ∧ t.upd.bank1 = s.upd.bank1 ∧ (s.trust.nv.trk = true → t.trust.nv.roots = s.trust.nv.roots ∧ t.trust.nv.keys = s.trust.nv.keys) ∧ t.trust.nv.lock = s.trust.nv.lock ∧ t.trust.nv.tokenCtr = s.trust.nv.tokenCtr ∧ t.trust.nv.reportSeq = s.trust.nv.reportSeq ∧ t.trust.nv.secVersion = s.trust.nv.secVersion ∧ (∀ e ∈ s.ffr.nv.recs, e.committed = true → e ∈ t.ffr.nv.recs) ∧ t.pending = s.pending ∧ t.clk.tscValid = false ∧ t.bank = { State.reset.bank with lapseDue := t.bank.lapseDue } ∧ t.sweep = State.reset.sweep ∧ t.can = State.reset.can ∧ (∀ (n : Fin 8) (k : Fin 24), t.ring[n].nodes[k].key = none)) ∧
    (∀ (s : State) (r : ResetIn), s.pwr.shutLatch = true → 
      ∃ t, exec (.powerOnReset r) s = .next t ∧ t = s)

/-- A command register's write, DISPATCH, TIME_SET, NOTE and a journaled write from a session with the read role are answered LHP_ROLE; the refusal is counted in LHP_REFUSE_CNT, and nothing but the session, what was sent and the counters' own records may differ. -/
def Obligations.ReadRoleWritesRefused : Prop :=
    (∀ (s : State) (q : Req) (x : Session), s.prompt q x → s.roleOf x = .read →
      (∀ (addr : Nat) (words : List Word), ∃ t, exec (.registerWrite q addr words) s = .next t ∧ s.onlyRefused q 2 0x0C02 t) ∧
      (∀ (addr : Nat) (value : Word), ∃ t, exec (.counterClear q addr value) s = .next t ∧ s.onlyRefused q 2 0x0C02 t) ∧
      (∃ t, exec (.commit q) s = .next t ∧ s.onlyRefused q 2 0x0C02 t) ∧
      (∃ t, exec (.stepNext q) s = .next t ∧ s.onlyRefused q 2 0x0C02 t) ∧
      (∃ t, exec (.stepAll q) s = .next t ∧ s.onlyRefused q 2 0x0C02 t) ∧
      (∃ t, exec (.rollback q) s = .next t ∧ s.onlyRefused q 2 0x0C02 t) ∧
      (∃ t, exec (.rollbackAll q) s = .next t ∧ s.onlyRefused q 2 0x0C02 t) ∧
      (∃ t, exec (.discard q) s = .next t ∧ s.onlyRefused q 2 0x0C02 t) ∧
      (∀ (n : Fin 8), ∃ t, exec (.ringEnumerate q n) s = .next t ∧ s.onlyRefused q 2 0x0C02 t) ∧
      (∀ (n : Fin 8), ∃ t, exec (.ringClose q n) s = .next t ∧ s.onlyRefused q 2 0x0C02 t) ∧
      (∀ (n : Fin 8), ∃ t, exec (.sweepStart q n) s = .next t ∧ s.onlyRefused q 2 0x0C02 t) ∧
      (∀ (n : Fin 8), ∃ t, exec (.sweepAbort q n) s = .next t ∧ s.onlyRefused q 2 0x0C02 t) ∧
      (∀ (n : Fin 8), ∃ t, exec (.sweepCancelPending q n) s = .next t ∧ s.onlyRefused q 2 0x0C02 t) ∧
      (∀ (mask : Byte), ∃ t, exec (.calTemp q mask) s = .next t ∧ s.onlyRefused q 2 0x0C02 t) ∧
      (∀ (n : Fin 8) (reg : Fin 7) (value : Word), ∃ t, exec (.cwWrite q n reg value) s = .next t ∧ s.onlyRefused q 2 0x0C02 t) ∧
      (∀ (n : Fin 8) (value : Word), ∃ t, exec (.holdIntWrite q n value) s = .next t ∧ s.onlyRefused q 2 0x0C02 t) ∧
      (∀ (n : Fin 8), ∃ t, exec (.stringEnable q n) s = .next t ∧ s.onlyRefused q 2 0x0C02 t) ∧
      (∀ (n : Fin 8), ∃ t, exec (.stringDisable q n) s = .next t ∧ s.onlyRefused q 2 0x0C02 t) ∧
      (∀ (n : Fin 8), ∃ t, exec (.stringStart q n) s = .next t ∧ s.onlyRefused q 2 0x0C02 t) ∧
      (∀ (n : Fin 8), ∃ t, exec (.stringHold q n) s = .next t ∧ s.onlyRefused q 2 0x0C02 t) ∧
      (∀ (n : Fin 8), ∃ t, exec (.stringResume q n) s = .next t ∧ s.onlyRefused q 2 0x0C02 t) ∧
      (∀ (n : Fin 8), ∃ t, exec (.stringStop q n) s = .next t ∧ s.onlyRefused q 2 0x0C02 t) ∧
      (∀ (n : Fin 8), ∃ t, exec (.stringShed q n) s = .next t ∧ s.onlyRefused q 2 0x0C02 t) ∧
      (∀ (n : Fin 8), ∃ t, exec (.stringService q n) s = .next t ∧ s.onlyRefused q 2 0x0C02 t) ∧
      (∀ (n : Fin 8), ∃ t, exec (.stringClear q n) s = .next t ∧ s.onlyRefused q 2 0x0C02 t) ∧
      (∀ (value : Word), ∃ t, exec (.gridFreqWrite q value) s = .next t ∧ s.onlyRefused q 2 0x0C02 t) ∧
      (∃ t, exec (.bankStandby q) s = .next t ∧ s.onlyRefused q 2 0x0C02 t) ∧
      (∀ (failed : Option (Fin 8)), ∃ t, exec (.bankPrecharge q failed) s = .next t ∧ s.onlyRefused q 2 0x0C02 t) ∧
      (∃ t, exec (.bankRun q) s = .next t ∧ s.onlyRefused q 2 0x0C02 t) ∧
      (∃ t, exec (.bankHold q) s = .next t ∧ s.onlyRefused q 2 0x0C02 t) ∧
      (∃ t, exec (.bankStop q) s = .next t ∧ s.onlyRefused q 2 0x0C02 t) ∧
      (∃ t, exec (.bankClear q) s = .next t ∧ s.onlyRefused q 2 0x0C02 t) ∧
      (∃ t, exec (.bankService q) s = .next t ∧ s.onlyRefused q 2 0x0C02 t) ∧
      (∃ t, exec (.bankOff q) s = .next t ∧ s.onlyRefused q 2 0x0C02 t) ∧
      (∀ (body : DispBody), ∃ t, exec (.dispatch q body) s = .next t ∧ s.onlyRefused q 6 0x0C02 t) ∧
      (∀ (value : Word), ∃ t, exec (.dispatchQuery q value) s = .next t ∧ s.onlyRefused q 2 0x0C02 t) ∧
      (∀ (mask : Byte), ∃ t, exec (.reinit q mask) s = .next t ∧ s.onlyRefused q 2 0x0C02 t) ∧
      (∃ t, exec (.learnNow q) s = .next t ∧ s.onlyRefused q 2 0x0C02 t) ∧
      (∀ (failed : Option (Fin 8)), ∃ t, exec (.outputTest q failed) s = .next t ∧ s.onlyRefused q 2 0x0C02 t) ∧
      (∃ t, exec (.switchover q) s = .next t ∧ s.onlyRefused q 2 0x0C02 t) ∧
      (∃ t, exec (.unfence q) s = .next t ∧ s.onlyRefused q 2 0x0C02 t) ∧
      (∃ t, exec (.resync q) s = .next t ∧ s.onlyRefused q 2 0x0C02 t) ∧
      (∃ t, exec (.applyToken q) s = .next t ∧ s.onlyRefused q 2 0x0C02 t) ∧
      (∃ t, exec (.secCommit q) s = .next t ∧ s.onlyRefused q 2 0x0C02 t) ∧
      (∀ (mask : Byte), ∃ t, exec (.gdSession q mask) s = .next t ∧ s.onlyRefused q 2 0x0C02 t) ∧
      (∀ (mask : Byte), ∃ t, exec (.bindRing q mask) s = .next t ∧ s.onlyRefused q 2 0x0C02 t) ∧
      (∀ (force : Bool) (ns : ShelfNs), ∃ t, exec (.attachA q force ns) s = .next t ∧ s.onlyRefused q 2 0x0C02 t) ∧
      (∀ (force : Bool) (ns : ShelfNs), ∃ t, exec (.attachB q force ns) s = .next t ∧ s.onlyRefused q 2 0x0C02 t) ∧
      (∃ t, exec (.newStore q) s = .next t ∧ s.onlyRefused q 2 0x0C02 t) ∧
      (∃ t, exec (.seal q) s = .next t ∧ s.onlyRefused q 2 0x0C02 t) ∧
      (∀ (profile : BitVec 4), ∃ t, exec (.selectProfile q profile) s = .next t ∧ s.onlyRefused q 2 0x0C02 t) ∧
      (∃ t, exec (.archive q) s = .next t ∧ s.onlyRefused q 2 0x0C02 t) ∧
      (∃ t, exec (.ffrClear q) s = .next t ∧ s.onlyRefused q 2 0x0C02 t) ∧
      (∀ (wtag : BitVec 64) (addr : Nat) (words : List Word), ∃ t, exec (.journaledWrite q wtag addr words) s = .next t ∧ s.onlyRefused q 2 0x0C02 t) ∧
      (∀ (tai : Nat), ∃ t, exec (.timeSet q tai) s = .next t ∧ s.onlyRefused q 9 0x0C02 t) ∧
      (∀ (text : List Byte), ∃ t, exec (.note q text) s = .next t ∧ s.onlyRefused q 10 0x0C02 t) ∧
      (∀ (index : Nat), ∃ t, exec (.forgetIdentity q index) s = .next t ∧ s.onlyRefused q 2 0x0C02 t) ∧
      (∃ t, exec (.acceptMaster q) s = .next t ∧ s.onlyRefused q 2 0x0C02 t) ∧
      (∀ (value : Word), ∃ t, exec (.ptpIncrementHi q value) s = .next t ∧ s.onlyRefused q 2 0x0C02 t) ∧
      (∀ (value : Word), ∃ t, exec (.ptpIncrementLo q value) s = .next t ∧ s.onlyRefused q 2 0x0C02 t) ∧
      (∀ (value : Word), ∃ t, exec (.ptpOffset q value) s = .next t ∧ s.onlyRefused q 2 0x0C02 t) ∧
      (∀ (p : Fin 4), ∃ t, exec (.recover q p) s = .next t ∧ s.onlyRefused q 2 0x0C02 t) ∧
      (∀ (p : Fin 4) (b : BitVec 2), ∃ t, exec (.abortTx q p b) s = .next t ∧ s.onlyRefused q 2 0x0C02 t) ∧
      (∀ (sdaLow : Bool), ∃ t, exec (.busClear q sdaLow) s = .next t ∧ s.onlyRefused q 2 0x0C02 t) ∧
      (∀ (n : Fin 8), ∃ t, exec (.preset q n) s = .next t ∧ s.onlyRefused q 2 0x0C02 t) ∧
      (∀ (n : Fin 8), ∃ t, exec (.clearUncertain q n) s = .next t ∧ s.onlyRefused q 2 0x0C02 t) ∧
      (∀ (n : Fin 8), ∃ t, exec (.captureRef q n) s = .next t ∧ s.onlyRefused q 2 0x0C02 t) ∧
      (∃ t, exec (.scanRun q) s = .next t ∧ s.onlyRefused q 2 0x0C02 t) ∧
      (∃ t, exec (.scanStop q) s = .next t ∧ s.onlyRefused q 2 0x0C02 t) ∧
      (∃ t, exec (.scanHold q) s = .next t ∧ s.onlyRefused q 2 0x0C02 t) ∧
      (∃ t, exec (.scanStep q) s = .next t ∧ s.onlyRefused q 2 0x0C02 t) ∧
      (∃ t, exec (.scanResume q) s = .next t ∧ s.onlyRefused q 2 0x0C02 t) ∧
      (∃ t, exec (.holdupTest (some q)) s = .next t ∧ s.onlyRefused q 2 0x0C02 t) ∧
      (∀ (files : List (List Byte)), ∃ t, exec (.loadSd q files) s = .next t ∧ s.onlyRefused q 2 0x0C02 t) ∧
      (∀ (files : List (List Byte)), ∃ t, exec (.loadSdImage q files) s = .next t ∧ s.onlyRefused q 2 0x0C02 t) ∧
      (∃ t, exec (.activate q) s = .next t ∧ s.onlyRefused q 2 0x0C02 t) ∧
      (∀ (gd : Bool) (n : Fin 8) (pos : BitVec 5), ∃ t, exec (.partLoad q gd n pos) s = .next t ∧ s.onlyRefused q 2 0x0C02 t) ∧
      (∀ (gd : Bool) (n : Fin 8) (pos : BitVec 5), ∃ t, exec (.partActivate q gd n pos) s = .next t ∧ s.onlyRefused q 2 0x0C02 t) ∧
      (∃ t, exec (.abort q) s = .next t ∧ s.onlyRefused q 2 0x0C02 t))

/-- A write, DISPATCH, TIME_SET or NOTE of a session that holds no credit is answered LHP_NO_CREDIT with no credit, counted, and nothing else happens. A module in BOOT_HALT or ZEROISED answers no request but a read: every other request leaves it as it was. -/
def Obligations.RequestsTurnedAway : Prop :=
    (∀ (s : State) (q : Req) (x : Session), s.session q.session = some x → x.credits = 0 → s.dark = false → x.fifo = [] → x.withheld = 0 → x.inExec < 15 → s.hist.refusing = false →
      (∀ (addr : Nat) (words : List Word), ∃ t, exec (.registerWrite q addr words) s = .next t ∧ t.out = q.response 2 0 0x0C03 [] :: s.out ∧ State.counted 0x030204 s t ∧ s.onlyIn Part.answers t) ∧
      (∀ (addr : Nat) (value : Word), ∃ t, exec (.counterClear q addr value) s = .next t ∧ t.out = q.response 2 0 0x0C03 [] :: s.out ∧ State.counted 0x030204 s t ∧ s.onlyIn Part.answers t) ∧
      (∃ t, exec (.commit q) s = .next t ∧ t.out = q.response 2 0 0x0C03 [] :: s.out ∧ State.counted 0x030204 s t ∧ s.onlyIn Part.answers t) ∧
      (∃ t, exec (.stepNext q) s = .next t ∧ t.out = q.response 2 0 0x0C03 [] :: s.out ∧ State.counted 0x030204 s t ∧ s.onlyIn Part.answers t) ∧
      (∃ t, exec (.stepAll q) s = .next t ∧ t.out = q.response 2 0 0x0C03 [] :: s.out ∧ State.counted 0x030204 s t ∧ s.onlyIn Part.answers t) ∧
      (∃ t, exec (.rollback q) s = .next t ∧ t.out = q.response 2 0 0x0C03 [] :: s.out ∧ State.counted 0x030204 s t ∧ s.onlyIn Part.answers t) ∧
      (∃ t, exec (.rollbackAll q) s = .next t ∧ t.out = q.response 2 0 0x0C03 [] :: s.out ∧ State.counted 0x030204 s t ∧ s.onlyIn Part.answers t) ∧
      (∃ t, exec (.discard q) s = .next t ∧ t.out = q.response 2 0 0x0C03 [] :: s.out ∧ State.counted 0x030204 s t ∧ s.onlyIn Part.answers t) ∧
      (∀ (n : Fin 8), ∃ t, exec (.ringEnumerate q n) s = .next t ∧ t.out = q.response 2 0 0x0C03 [] :: s.out ∧ State.counted 0x030204 s t ∧ s.onlyIn Part.answers t) ∧
      (∀ (n : Fin 8), ∃ t, exec (.ringClose q n) s = .next t ∧ t.out = q.response 2 0 0x0C03 [] :: s.out ∧ State.counted 0x030204 s t ∧ s.onlyIn Part.answers t) ∧
      (∀ (n : Fin 8), ∃ t, exec (.sweepStart q n) s = .next t ∧ t.out = q.response 2 0 0x0C03 [] :: s.out ∧ State.counted 0x030204 s t ∧ s.onlyIn Part.answers t) ∧
      (∀ (n : Fin 8), ∃ t, exec (.sweepAbort q n) s = .next t ∧ t.out = q.response 2 0 0x0C03 [] :: s.out ∧ State.counted 0x030204 s t ∧ s.onlyIn Part.answers t) ∧
      (∀ (n : Fin 8), ∃ t, exec (.sweepCancelPending q n) s = .next t ∧ t.out = q.response 2 0 0x0C03 [] :: s.out ∧ State.counted 0x030204 s t ∧ s.onlyIn Part.answers t) ∧
      (∀ (mask : Byte), ∃ t, exec (.calTemp q mask) s = .next t ∧ t.out = q.response 2 0 0x0C03 [] :: s.out ∧ State.counted 0x030204 s t ∧ s.onlyIn Part.answers t) ∧
      (∀ (n : Fin 8) (reg : Fin 7) (value : Word), ∃ t, exec (.cwWrite q n reg value) s = .next t ∧ t.out = q.response 2 0 0x0C03 [] :: s.out ∧ State.counted 0x030204 s t ∧ s.onlyIn Part.answers t) ∧
      (∀ (n : Fin 8) (value : Word), ∃ t, exec (.holdIntWrite q n value) s = .next t ∧ t.out = q.response 2 0 0x0C03 [] :: s.out ∧ State.counted 0x030204 s t ∧ s.onlyIn Part.answers t) ∧
      (∀ (n : Fin 8), ∃ t, exec (.stringEnable q n) s = .next t ∧ t.out = q.response 2 0 0x0C03 [] :: s.out ∧ State.counted 0x030204 s t ∧ s.onlyIn Part.answers t) ∧
      (∀ (n : Fin 8), ∃ t, exec (.stringDisable q n) s = .next t ∧ t.out = q.response 2 0 0x0C03 [] :: s.out ∧ State.counted 0x030204 s t ∧ s.onlyIn Part.answers t) ∧
      (∀ (n : Fin 8), ∃ t, exec (.stringStart q n) s = .next t ∧ t.out = q.response 2 0 0x0C03 [] :: s.out ∧ State.counted 0x030204 s t ∧ s.onlyIn Part.answers t) ∧
      (∀ (n : Fin 8), ∃ t, exec (.stringHold q n) s = .next t ∧ t.out = q.response 2 0 0x0C03 [] :: s.out ∧ State.counted 0x030204 s t ∧ s.onlyIn Part.answers t) ∧
      (∀ (n : Fin 8), ∃ t, exec (.stringResume q n) s = .next t ∧ t.out = q.response 2 0 0x0C03 [] :: s.out ∧ State.counted 0x030204 s t ∧ s.onlyIn Part.answers t) ∧
      (∀ (n : Fin 8), ∃ t, exec (.stringStop q n) s = .next t ∧ t.out = q.response 2 0 0x0C03 [] :: s.out ∧ State.counted 0x030204 s t ∧ s.onlyIn Part.answers t) ∧
      (∀ (n : Fin 8), ∃ t, exec (.stringShed q n) s = .next t ∧ t.out = q.response 2 0 0x0C03 [] :: s.out ∧ State.counted 0x030204 s t ∧ s.onlyIn Part.answers t) ∧
      (∀ (n : Fin 8), ∃ t, exec (.stringService q n) s = .next t ∧ t.out = q.response 2 0 0x0C03 [] :: s.out ∧ State.counted 0x030204 s t ∧ s.onlyIn Part.answers t) ∧
      (∀ (n : Fin 8), ∃ t, exec (.stringClear q n) s = .next t ∧ t.out = q.response 2 0 0x0C03 [] :: s.out ∧ State.counted 0x030204 s t ∧ s.onlyIn Part.answers t) ∧
      (∀ (value : Word), ∃ t, exec (.gridFreqWrite q value) s = .next t ∧ t.out = q.response 2 0 0x0C03 [] :: s.out ∧ State.counted 0x030204 s t ∧ s.onlyIn Part.answers t) ∧
      (∃ t, exec (.bankStandby q) s = .next t ∧ t.out = q.response 2 0 0x0C03 [] :: s.out ∧ State.counted 0x030204 s t ∧ s.onlyIn Part.answers t) ∧
      (∀ (failed : Option (Fin 8)), ∃ t, exec (.bankPrecharge q failed) s = .next t ∧ t.out = q.response 2 0 0x0C03 [] :: s.out ∧ State.counted 0x030204 s t ∧ s.onlyIn Part.answers t) ∧
      (∃ t, exec (.bankRun q) s = .next t ∧ t.out = q.response 2 0 0x0C03 [] :: s.out ∧ State.counted 0x030204 s t ∧ s.onlyIn Part.answers t) ∧
      (∃ t, exec (.bankHold q) s = .next t ∧ t.out = q.response 2 0 0x0C03 [] :: s.out ∧ State.counted 0x030204 s t ∧ s.onlyIn Part.answers t) ∧
      (∃ t, exec (.bankStop q) s = .next t ∧ t.out = q.response 2 0 0x0C03 [] :: s.out ∧ State.counted 0x030204 s t ∧ s.onlyIn Part.answers t) ∧
      (∃ t, exec (.bankClear q) s = .next t ∧ t.out = q.response 2 0 0x0C03 [] :: s.out ∧ State.counted 0x030204 s t ∧ s.onlyIn Part.answers t) ∧
      (∃ t, exec (.bankService q) s = .next t ∧ t.out = q.response 2 0 0x0C03 [] :: s.out ∧ State.counted 0x030204 s t ∧ s.onlyIn Part.answers t) ∧
      (∃ t, exec (.bankOff q) s = .next t ∧ t.out = q.response 2 0 0x0C03 [] :: s.out ∧ State.counted 0x030204 s t ∧ s.onlyIn Part.answers t) ∧
      (∀ (body : DispBody), ∃ t, exec (.dispatch q body) s = .next t ∧ t.out = q.response 6 0 0x0C03 [] :: s.out ∧ State.counted 0x030204 s t ∧ s.onlyIn Part.answers t) ∧
      (∀ (value : Word), ∃ t, exec (.dispatchQuery q value) s = .next t ∧ t.out = q.response 2 0 0x0C03 [] :: s.out ∧ State.counted 0x030204 s t ∧ s.onlyIn Part.answers t) ∧
      (∀ (mask : Byte), ∃ t, exec (.reinit q mask) s = .next t ∧ t.out = q.response 2 0 0x0C03 [] :: s.out ∧ State.counted 0x030204 s t ∧ s.onlyIn Part.answers t) ∧
      (∃ t, exec (.learnNow q) s = .next t ∧ t.out = q.response 2 0 0x0C03 [] :: s.out ∧ State.counted 0x030204 s t ∧ s.onlyIn Part.answers t) ∧
      (∀ (failed : Option (Fin 8)), ∃ t, exec (.outputTest q failed) s = .next t ∧ t.out = q.response 2 0 0x0C03 [] :: s.out ∧ State.counted 0x030204 s t ∧ s.onlyIn Part.answers t) ∧
      (∃ t, exec (.switchover q) s = .next t ∧ t.out = q.response 2 0 0x0C03 [] :: s.out ∧ State.counted 0x030204 s t ∧ s.onlyIn Part.answers t) ∧
      (∃ t, exec (.unfence q) s = .next t ∧ t.out = q.response 2 0 0x0C03 [] :: s.out ∧ State.counted 0x030204 s t ∧ s.onlyIn Part.answers t) ∧
      (∃ t, exec (.resync q) s = .next t ∧ t.out = q.response 2 0 0x0C03 [] :: s.out ∧ State.counted 0x030204 s t ∧ s.onlyIn Part.answers t) ∧
      (∃ t, exec (.applyToken q) s = .next t ∧ t.out = q.response 2 0 0x0C03 [] :: s.out ∧ State.counted 0x030204 s t ∧ s.onlyIn Part.answers t) ∧
      (∃ t, exec (.secCommit q) s = .next t ∧ t.out = q.response 2 0 0x0C03 [] :: s.out ∧ State.counted 0x030204 s t ∧ s.onlyIn Part.answers t) ∧
      (∀ (mask : Byte), ∃ t, exec (.gdSession q mask) s = .next t ∧ t.out = q.response 2 0 0x0C03 [] :: s.out ∧ State.counted 0x030204 s t ∧ s.onlyIn Part.answers t) ∧
      (∀ (mask : Byte), ∃ t, exec (.bindRing q mask) s = .next t ∧ t.out = q.response 2 0 0x0C03 [] :: s.out ∧ State.counted 0x030204 s t ∧ s.onlyIn Part.answers t) ∧
      (∀ (force : Bool) (ns : ShelfNs), ∃ t, exec (.attachA q force ns) s = .next t ∧ t.out = q.response 2 0 0x0C03 [] :: s.out ∧ State.counted 0x030204 s t ∧ s.onlyIn Part.answers t) ∧
      (∀ (force : Bool) (ns : ShelfNs), ∃ t, exec (.attachB q force ns) s = .next t ∧ t.out = q.response 2 0 0x0C03 [] :: s.out ∧ State.counted 0x030204 s t ∧ s.onlyIn Part.answers t) ∧
      (∃ t, exec (.newStore q) s = .next t ∧ t.out = q.response 2 0 0x0C03 [] :: s.out ∧ State.counted 0x030204 s t ∧ s.onlyIn Part.answers t) ∧
      (∃ t, exec (.seal q) s = .next t ∧ t.out = q.response 2 0 0x0C03 [] :: s.out ∧ State.counted 0x030204 s t ∧ s.onlyIn Part.answers t) ∧
      (∀ (profile : BitVec 4), ∃ t, exec (.selectProfile q profile) s = .next t ∧ t.out = q.response 2 0 0x0C03 [] :: s.out ∧ State.counted 0x030204 s t ∧ s.onlyIn Part.answers t) ∧
      (∃ t, exec (.archive q) s = .next t ∧ t.out = q.response 2 0 0x0C03 [] :: s.out ∧ State.counted 0x030204 s t ∧ s.onlyIn Part.answers t) ∧
      (∃ t, exec (.ffrClear q) s = .next t ∧ t.out = q.response 2 0 0x0C03 [] :: s.out ∧ State.counted 0x030204 s t ∧ s.onlyIn Part.answers t) ∧
      (∀ (wtag : BitVec 64) (addr : Nat) (words : List Word), ∃ t, exec (.journaledWrite q wtag addr words) s = .next t ∧ t.out = q.response 2 0 0x0C03 [] :: s.out ∧ State.counted 0x030204 s t ∧ s.onlyIn Part.answers t) ∧
      (∀ (tai : Nat), ∃ t, exec (.timeSet q tai) s = .next t ∧ t.out = q.response 9 0 0x0C03 [] :: s.out ∧ State.counted 0x030204 s t ∧ s.onlyIn Part.answers t) ∧
      (∀ (text : List Byte), ∃ t, exec (.note q text) s = .next t ∧ t.out = q.response 10 0 0x0C03 [] :: s.out ∧ State.counted 0x030204 s t ∧ s.onlyIn Part.answers t) ∧
      (∀ (index : Nat), ∃ t, exec (.forgetIdentity q index) s = .next t ∧ t.out = q.response 2 0 0x0C03 [] :: s.out ∧ State.counted 0x030204 s t ∧ s.onlyIn Part.answers t) ∧
      (∃ t, exec (.acceptMaster q) s = .next t ∧ t.out = q.response 2 0 0x0C03 [] :: s.out ∧ State.counted 0x030204 s t ∧ s.onlyIn Part.answers t) ∧
      (∀ (value : Word), ∃ t, exec (.ptpIncrementHi q value) s = .next t ∧ t.out = q.response 2 0 0x0C03 [] :: s.out ∧ State.counted 0x030204 s t ∧ s.onlyIn Part.answers t) ∧
      (∀ (value : Word), ∃ t, exec (.ptpIncrementLo q value) s = .next t ∧ t.out = q.response 2 0 0x0C03 [] :: s.out ∧ State.counted 0x030204 s t ∧ s.onlyIn Part.answers t) ∧
      (∀ (value : Word), ∃ t, exec (.ptpOffset q value) s = .next t ∧ t.out = q.response 2 0 0x0C03 [] :: s.out ∧ State.counted 0x030204 s t ∧ s.onlyIn Part.answers t) ∧
      (∀ (p : Fin 4), ∃ t, exec (.recover q p) s = .next t ∧ t.out = q.response 2 0 0x0C03 [] :: s.out ∧ State.counted 0x030204 s t ∧ s.onlyIn Part.answers t) ∧
      (∀ (p : Fin 4) (b : BitVec 2), ∃ t, exec (.abortTx q p b) s = .next t ∧ t.out = q.response 2 0 0x0C03 [] :: s.out ∧ State.counted 0x030204 s t ∧ s.onlyIn Part.answers t) ∧
      (∀ (sdaLow : Bool), ∃ t, exec (.busClear q sdaLow) s = .next t ∧ t.out = q.response 2 0 0x0C03 [] :: s.out ∧ State.counted 0x030204 s t ∧ s.onlyIn Part.answers t) ∧
      (∀ (n : Fin 8), ∃ t, exec (.preset q n) s = .next t ∧ t.out = q.response 2 0 0x0C03 [] :: s.out ∧ State.counted 0x030204 s t ∧ s.onlyIn Part.answers t) ∧
      (∀ (n : Fin 8), ∃ t, exec (.clearUncertain q n) s = .next t ∧ t.out = q.response 2 0 0x0C03 [] :: s.out ∧ State.counted 0x030204 s t ∧ s.onlyIn Part.answers t) ∧
      (∀ (n : Fin 8), ∃ t, exec (.captureRef q n) s = .next t ∧ t.out = q.response 2 0 0x0C03 [] :: s.out ∧ State.counted 0x030204 s t ∧ s.onlyIn Part.answers t) ∧
      (∃ t, exec (.scanRun q) s = .next t ∧ t.out = q.response 2 0 0x0C03 [] :: s.out ∧ State.counted 0x030204 s t ∧ s.onlyIn Part.answers t) ∧
      (∃ t, exec (.scanStop q) s = .next t ∧ t.out = q.response 2 0 0x0C03 [] :: s.out ∧ State.counted 0x030204 s t ∧ s.onlyIn Part.answers t) ∧
      (∃ t, exec (.scanHold q) s = .next t ∧ t.out = q.response 2 0 0x0C03 [] :: s.out ∧ State.counted 0x030204 s t ∧ s.onlyIn Part.answers t) ∧
      (∃ t, exec (.scanStep q) s = .next t ∧ t.out = q.response 2 0 0x0C03 [] :: s.out ∧ State.counted 0x030204 s t ∧ s.onlyIn Part.answers t) ∧
      (∃ t, exec (.scanResume q) s = .next t ∧ t.out = q.response 2 0 0x0C03 [] :: s.out ∧ State.counted 0x030204 s t ∧ s.onlyIn Part.answers t) ∧
      (∃ t, exec (.holdupTest (some q)) s = .next t ∧ t.out = q.response 2 0 0x0C03 [] :: s.out ∧ State.counted 0x030204 s t ∧ s.onlyIn Part.answers t) ∧
      (∀ (files : List (List Byte)), ∃ t, exec (.loadSd q files) s = .next t ∧ t.out = q.response 2 0 0x0C03 [] :: s.out ∧ State.counted 0x030204 s t ∧ s.onlyIn Part.answers t) ∧
      (∀ (files : List (List Byte)), ∃ t, exec (.loadSdImage q files) s = .next t ∧ t.out = q.response 2 0 0x0C03 [] :: s.out ∧ State.counted 0x030204 s t ∧ s.onlyIn Part.answers t) ∧
      (∃ t, exec (.activate q) s = .next t ∧ t.out = q.response 2 0 0x0C03 [] :: s.out ∧ State.counted 0x030204 s t ∧ s.onlyIn Part.answers t) ∧
      (∀ (gd : Bool) (n : Fin 8) (pos : BitVec 5), ∃ t, exec (.partLoad q gd n pos) s = .next t ∧ t.out = q.response 2 0 0x0C03 [] :: s.out ∧ State.counted 0x030204 s t ∧ s.onlyIn Part.answers t) ∧
      (∀ (gd : Bool) (n : Fin 8) (pos : BitVec 5), ∃ t, exec (.partActivate q gd n pos) s = .next t ∧ t.out = q.response 2 0 0x0C03 [] :: s.out ∧ State.counted 0x030204 s t ∧ s.onlyIn Part.answers t) ∧
      (∃ t, exec (.abort q) s = .next t ∧ t.out = q.response 2 0 0x0C03 [] :: s.out ∧ State.counted 0x030204 s t ∧ s.onlyIn Part.answers t)) ∧
    (∀ (s : State) (q : Req), s.dark = true →
      (∀ (addr : Nat) (words : List Word), exec (.registerWrite q addr words) s = .next s) ∧
      (∀ (addr : Nat) (value : Word), exec (.counterClear q addr value) s = .next s) ∧
      (exec (.commit q) s = .next s) ∧
      (exec (.stepNext q) s = .next s) ∧
      (exec (.stepAll q) s = .next s) ∧
      (exec (.rollback q) s = .next s) ∧
      (exec (.rollbackAll q) s = .next s) ∧
      (exec (.discard q) s = .next s) ∧
      (∀ (n : Fin 8), exec (.ringEnumerate q n) s = .next s) ∧
      (∀ (n : Fin 8), exec (.ringClose q n) s = .next s) ∧
      (∀ (n : Fin 8), exec (.sweepStart q n) s = .next s) ∧
      (∀ (n : Fin 8), exec (.sweepAbort q n) s = .next s) ∧
      (∀ (n : Fin 8), exec (.sweepCancelPending q n) s = .next s) ∧
      (∀ (mask : Byte), exec (.calTemp q mask) s = .next s) ∧
      (∀ (n : Fin 8) (reg : Fin 7) (value : Word), exec (.cwWrite q n reg value) s = .next s) ∧
      (∀ (n : Fin 8) (value : Word), exec (.holdIntWrite q n value) s = .next s) ∧
      (∀ (n : Fin 8), exec (.stringEnable q n) s = .next s) ∧
      (∀ (n : Fin 8), exec (.stringDisable q n) s = .next s) ∧
      (∀ (n : Fin 8), exec (.stringStart q n) s = .next s) ∧
      (∀ (n : Fin 8), exec (.stringHold q n) s = .next s) ∧
      (∀ (n : Fin 8), exec (.stringResume q n) s = .next s) ∧
      (∀ (n : Fin 8), exec (.stringStop q n) s = .next s) ∧
      (∀ (n : Fin 8), exec (.stringShed q n) s = .next s) ∧
      (∀ (n : Fin 8), exec (.stringService q n) s = .next s) ∧
      (∀ (n : Fin 8), exec (.stringClear q n) s = .next s) ∧
      (∀ (value : Word), exec (.gridFreqWrite q value) s = .next s) ∧
      (exec (.bankStandby q) s = .next s) ∧
      (∀ (failed : Option (Fin 8)), exec (.bankPrecharge q failed) s = .next s) ∧
      (exec (.bankRun q) s = .next s) ∧
      (exec (.bankHold q) s = .next s) ∧
      (exec (.bankStop q) s = .next s) ∧
      (exec (.bankClear q) s = .next s) ∧
      (exec (.bankService q) s = .next s) ∧
      (exec (.bankOff q) s = .next s) ∧
      (∀ (body : DispBody), exec (.dispatch q body) s = .next s) ∧
      (∀ (value : Word), exec (.dispatchQuery q value) s = .next s) ∧
      (∀ (mask : Byte), exec (.reinit q mask) s = .next s) ∧
      (exec (.learnNow q) s = .next s) ∧
      (∀ (failed : Option (Fin 8)), exec (.outputTest q failed) s = .next s) ∧
      (exec (.switchover q) s = .next s) ∧
      (exec (.unfence q) s = .next s) ∧
      (exec (.resync q) s = .next s) ∧
      (exec (.applyToken q) s = .next s) ∧
      (exec (.secCommit q) s = .next s) ∧
      (∀ (mask : Byte), exec (.gdSession q mask) s = .next s) ∧
      (∀ (mask : Byte), exec (.bindRing q mask) s = .next s) ∧
      (∀ (nonce : Nat), exec (.attest q nonce) s = .next s) ∧
      (∀ (kind addr count nonce : Nat), exec (.report q kind addr count nonce) s = .next s) ∧
      (∀ (force : Bool) (ns : ShelfNs), exec (.attachA q force ns) s = .next s) ∧
      (∀ (force : Bool) (ns : ShelfNs), exec (.attachB q force ns) s = .next s) ∧
      (exec (.newStore q) s = .next s) ∧
      (exec (.seal q) s = .next s) ∧
      (∀ (profile : BitVec 4), exec (.selectProfile q profile) s = .next s) ∧
      (exec (.archive q) s = .next s) ∧
      (exec (.ffrClear q) s = .next s) ∧
      (∀ (wtag : BitVec 64) (addr : Nat) (words : List Word), exec (.journaledWrite q wtag addr words) s = .next s) ∧
      (∀ (target : Nat) (restart : Bool) (total : Nat) (digest : BitVec 384), exec (.blockBegin q target restart total digest) s = .next s) ∧
      (∀ (target offset : Nat) (data : List Byte), exec (.blockData q target offset data) s = .next s) ∧
      (∀ (target : Nat), exec (.blockEnd q target) s = .next s) ∧
      (∀ (tai : Nat), exec (.timeSet q tai) s = .next s) ∧
      (∀ (text : List Byte), exec (.note q text) s = .next s) ∧
      (∀ (minClass : Byte), exec (.subscribe q minClass) s = .next s) ∧
      (exec (.keepalive q) s = .next s) ∧
      (∀ (index : Nat), exec (.forgetIdentity q index) s = .next s) ∧
      (exec (.acceptMaster q) s = .next s) ∧
      (∀ (value : Word), exec (.ptpIncrementHi q value) s = .next s) ∧
      (∀ (value : Word), exec (.ptpIncrementLo q value) s = .next s) ∧
      (∀ (value : Word), exec (.ptpOffset q value) s = .next s) ∧
      (∀ (p : Fin 4), exec (.recover q p) s = .next s) ∧
      (∀ (p : Fin 4) (b : BitVec 2), exec (.abortTx q p b) s = .next s) ∧
      (∀ (sdaLow : Bool), exec (.busClear q sdaLow) s = .next s) ∧
      (∀ (n : Fin 8), exec (.preset q n) s = .next s) ∧
      (∀ (n : Fin 8), exec (.clearUncertain q n) s = .next s) ∧
      (∀ (n : Fin 8), exec (.captureRef q n) s = .next s) ∧
      (exec (.scanRun q) s = .next s) ∧
      (exec (.scanStop q) s = .next s) ∧
      (exec (.scanHold q) s = .next s) ∧
      (exec (.scanStep q) s = .next s) ∧
      (exec (.scanResume q) s = .next s) ∧
      (exec (.holdupTest (some q)) s = .next s) ∧
      (∀ (files : List (List Byte)), exec (.loadSd q files) s = .next s) ∧
      (∀ (files : List (List Byte)), exec (.loadSdImage q files) s = .next s) ∧
      (exec (.activate q) s = .next s) ∧
      (∀ (gd : Bool) (n : Fin 8) (pos : BitVec 5), exec (.partLoad q gd n pos) s = .next s) ∧
      (∀ (gd : Bool) (n : Fin 8) (pos : BitVec 5), exec (.partActivate q gd n pos) s = .next s) ∧
      (exec (.abort q) s = .next s))

/-- An accepted COMMIT, STEP_NEXT, STEP_ALL, ROLLBACK or ROLLBACK_ALL leaves a step pending; while one is pending every IMG_CMD write is refused with PLAN_BUSY and leaves it as it is; and no command but the build, the evaluation and the T0 of the step, a standby's late adoption and a reset ends it or changes what it is. -/
def Obligations.PendingStepHolds : Prop :=
    (∀ (s : State) (q : Req) (x : Session) (t : State), s.serves q x → s.img.pend = none → exec (.commit q) s = .next t → t.img.resCode = 0 → t.img.pend.isSome = true) ∧
    (∀ (s : State) (q : Req) (x : Session) (t : State), s.serves q x → s.img.pend = none → exec (.stepNext q) s = .next t → t.img.resCode = 0 → t.img.pend.isSome = true) ∧
    (∀ (s : State) (q : Req) (x : Session) (t : State), s.serves q x → s.img.pend = none → exec (.stepAll q) s = .next t → t.img.resCode = 0 → t.img.pend.isSome = true) ∧
    (∀ (s : State) (q : Req) (x : Session) (t : State), s.serves q x → s.img.pend = none → exec (.rollback q) s = .next t → t.img.resCode = 0 → t.img.pend.isSome = true) ∧
    (∀ (s : State) (q : Req) (x : Session) (t : State), s.serves q x → s.img.pend = none → exec (.rollbackAll q) s = .next t → t.img.resCode = 0 → t.img.pend.isSome = true) ∧
    (∀ (s : State) (q : Req) (x : Session) (p : PendStep), s.serves q x → s.img.pend = some p → 
      ∃ t, exec (.commit q) s = .next t ∧ t.img.pend = some p ∧ t.img.plan = s.img.plan ∧ t.img.cfg = s.img.cfg ∧ t.img.resCode = 0x0114) ∧
    (∀ (s : State) (q : Req) (x : Session) (p : PendStep), s.serves q x → s.img.pend = some p → 
      ∃ t, exec (.stepNext q) s = .next t ∧ t.img.pend = some p ∧ t.img.plan = s.img.plan ∧ t.img.cfg = s.img.cfg ∧ t.img.resCode = 0x0114) ∧
    (∀ (s : State) (q : Req) (x : Session) (p : PendStep), s.serves q x → s.img.pend = some p → 
      ∃ t, exec (.stepAll q) s = .next t ∧ t.img.pend = some p ∧ t.img.plan = s.img.plan ∧ t.img.cfg = s.img.cfg ∧ t.img.resCode = 0x0114) ∧
    (∀ (s : State) (q : Req) (x : Session) (p : PendStep), s.serves q x → s.img.pend = some p → 
      ∃ t, exec (.rollback q) s = .next t ∧ t.img.pend = some p ∧ t.img.plan = s.img.plan ∧ t.img.cfg = s.img.cfg ∧ t.img.resCode = 0x0114) ∧
    (∀ (s : State) (q : Req) (x : Session) (p : PendStep), s.serves q x → s.img.pend = some p → 
      ∃ t, exec (.rollbackAll q) s = .next t ∧ t.img.pend = some p ∧ t.img.plan = s.img.plan ∧ t.img.cfg = s.img.cfg ∧ t.img.resCode = 0x0114) ∧
    (∀ (s : State) (q : Req) (x : Session) (p : PendStep), s.serves q x → s.img.pend = some p → 
      ∃ t, exec (.discard q) s = .next t ∧ t.img.pend = some p ∧ t.img.plan = s.img.plan ∧ t.img.cfg = s.img.cfg ∧ t.img.resCode = 0x0114) ∧
    (∀ (c : Instr) (s t : State) (p : PendStep), mayEndStep c = false → s.img.pend = some p → exec c s = .next t → ∃ p', t.img.pend = some p' ∧ p'.kind = p.kind ∧ p'.all = p.all ∧ p'.index = p.index ∧ p'.cfg = p.cfg)

/-- A write of PTP_INCREMENT_HI is held and leaves the increment alone; a write of PTP_INCREMENT_LO loads the held integer part with the written fraction, which takes effect at once; an increment below 1.9 ns or above 2.1 ns is refused with ACCESS_DENIED and leaves the increment alone; PTP_OFFSET adds its signed correction to what is slewed; while TSC_VALID is clear it is refused with TIME_NOT_VALID. When the PTP master disappears the TSC runs on at the last increment, TSC_VALID stays as it is, and the loss is recorded. -/
def Obligations.TimeRegistersFollowTheirRules : Prop :=
    (∀ (s : State) (q : Req) (x : Session) (v : Word), s.serves q x → 
      ∃ t, exec (.ptpIncrementHi q v) s = .next t ∧ t.ptp.incrHiHeld = BitVec.ofNat 8 (v.toNat % 256) ∧ t.clk.incr = s.clk.incr) ∧
    (∀ (s : State) (q : Req) (x : Session) (v : Word), s.serves q x → s.ptp.servo = false → 19 * 2 ^ 32 ≤ 10 * (s.ptp.incrHiHeld.toNat * 2 ^ 32 + v.toNat) → 10 * (s.ptp.incrHiHeld.toNat * 2 ^ 32 + v.toNat) ≤ 21 * 2 ^ 32 → 
      ∃ t, exec (.ptpIncrementLo q v) s = .next t ∧ t.clk.incr = BitVec.ofNat 40 (s.ptp.incrHiHeld.toNat * 2 ^ 32 + v.toNat) ∧ t.clk.tscFix = s.clk.tscFix) ∧
    (∀ (s : State) (q : Req) (x : Session) (v : Word), s.serves q x → s.ptp.servo = false → 10 * (s.ptp.incrHiHeld.toNat * 2 ^ 32 + v.toNat) < 19 * 2 ^ 32 ∨ 21 * 2 ^ 32 < 10 * (s.ptp.incrHiHeld.toNat * 2 ^ 32 + v.toNat) → 
      ∃ t, exec (.ptpIncrementLo q v) s = .next t ∧ t.clk.incr = s.clk.incr ∧ t.ptp.resCode = 0x0C12 ∧ State.counted 0x030200 s t) ∧
    (∀ (s : State) (q : Req) (x : Session) (v : Word), s.serves q x → s.ptp.servo = false → s.clk.tscValid = true → s.tooLarge (signed 32 v.toNat) = false → 
      ∃ t, exec (.ptpOffset q v) s = .next t ∧ t.clk.slewRem = s.clk.slewRem + Clock.fix (signed 32 v.toNat) ∧ t.clk.tscFix = s.clk.tscFix ∧ t.clk.incr = s.clk.incr) ∧
    (∀ (s : State) (q : Req) (x : Session) (v : Word), s.serves q x → s.ptp.servo = false → s.clk.tscValid = false → 
      ∃ t, exec (.ptpOffset q v) s = .next t ∧ t.clk.slewRem = s.clk.slewRem ∧ t.ptp.resCode = 0x0C23 ∧ State.counted 0x030200 s t) ∧
    (∀ (s : State), s.room → 
      ∃ t, exec (.ptpMasterLost) s = .next t ∧ t.clk.incr = s.clk.incr ∧ t.clk.tscValid = s.clk.tscValid ∧ t.clk.tscFix = s.clk.tscFix ∧ State.recorded 0x4C33 0x090 [(s.ptp.gmId.toNat : Int)] s t)

/-- SESSION_IDLE_TIMEOUT closes a session whose last message is 30 s or more ago and leaves one that is younger as it was; a KEEPALIVE restarts the session's timer at the present. -/
def Obligations.SilentSessionCloses : Prop :=
    (∀ (s : State) (i : Nat) (x : Session), s.session i = some x → 30000000000 ≤ s.since x.idleUp → 
      ∃ t, exec (.sessionIdleTimeout i) s = .next t ∧ (t.session i = none ∧ (∀ j, j ≠ i → t.session j = s.session j))) ∧
    (∀ (s : State) (i : Nat) (x : Session), s.session i = some x → s.since x.idleUp < 30000000000 → 
      ∃ t, exec (.sessionIdleTimeout i) s = .next t ∧ t = s) ∧
    (∀ (s : State) (q : Req) (x : Session), s.hears q x → 
      ∃ t, exec (.keepalive q) s = .next t ∧ (t.session q.session).map (·.idleUp) = some s.clk.upNs)

/-- Without the Ring lease ENUMERATE and CLOSE are refused with RING_NO_LEASE; without the string lease every write of STRn_CMD is refused with STR_NO_LEASE; on a member that is neither ALONE nor ACTIVE every SCAN_CMD is refused with SCAN_NO_ROLE, every QINn_CMD and USFn_CMD with IO_NO_ROLE and TIME_SET with LHP_NO_ROLE; on a member that does not write history ATTACH, NEW_STORE, SEAL and SELECT_PROFILE are refused with HIST_NO_ROLE; in FAULT every EST_BANK_CMD but CLEAR is refused with BANK_STATE_REFUSED. The RESULT register holds the code, the refusal is counted, and the object of the command is as it was. -/
def Obligations.CommandsRefusedByTheirOwner : Prop :=
    (∀ (s : State) (q : Req) (x : Session) (n : Fin 8), s.serves q x → s.ringLease n = false → 
      ∃ t, exec (.ringEnumerate q n) s = .next t ∧ t.ring[n].resCode = 0x020B ∧ t.ring[n].mode = s.ring[n].mode ∧ t.ring[n].enumRun = s.ring[n].enumRun ∧ t.ring[n].nodes = s.ring[n].nodes ∧ State.counted 0x030200 s t) ∧
    (∀ (s : State) (q : Req) (x : Session) (n : Fin 8), s.serves q x → s.ringLease n = false → 
      ∃ t, exec (.ringClose q n) s = .next t ∧ t.ring[n].resCode = 0x020B ∧ t.ring[n].mode = s.ring[n].mode ∧ t.ring[n].enumRun = s.ring[n].enumRun ∧ t.ring[n].nodes = s.ring[n].nodes ∧ State.counted 0x030200 s t) ∧
    (∀ (s : State) (q : Req) (x : Session) (n : Fin 8), s.serves q x → s.strLease n = false → 
      ∃ t, exec (.stringEnable q n) s = .next t ∧ t.str[n].resCode = 0x0508 ∧ t.str[n].state = s.str[n].state ∧ t.str[n].drives = s.str[n].drives ∧ t.str[n].loop = s.str[n].loop ∧ State.counted 0x030200 s t) ∧
    (∀ (s : State) (q : Req) (x : Session) (n : Fin 8), s.serves q x → s.strLease n = false → 
      ∃ t, exec (.stringDisable q n) s = .next t ∧ t.str[n].resCode = 0x0508 ∧ t.str[n].state = s.str[n].state ∧ t.str[n].drives = s.str[n].drives ∧ t.str[n].loop = s.str[n].loop ∧ State.counted 0x030200 s t) ∧
    (∀ (s : State) (q : Req) (x : Session) (n : Fin 8), s.serves q x → s.strLease n = false → 
      ∃ t, exec (.stringStart q n) s = .next t ∧ t.str[n].resCode = 0x0508 ∧ t.str[n].state = s.str[n].state ∧ t.str[n].drives = s.str[n].drives ∧ t.str[n].loop = s.str[n].loop ∧ State.counted 0x030200 s t) ∧
    (∀ (s : State) (q : Req) (x : Session) (n : Fin 8), s.serves q x → s.strLease n = false → 
      ∃ t, exec (.stringHold q n) s = .next t ∧ t.str[n].resCode = 0x0508 ∧ t.str[n].state = s.str[n].state ∧ t.str[n].drives = s.str[n].drives ∧ t.str[n].loop = s.str[n].loop ∧ State.counted 0x030200 s t) ∧
    (∀ (s : State) (q : Req) (x : Session) (n : Fin 8), s.serves q x → s.strLease n = false → 
      ∃ t, exec (.stringResume q n) s = .next t ∧ t.str[n].resCode = 0x0508 ∧ t.str[n].state = s.str[n].state ∧ t.str[n].drives = s.str[n].drives ∧ t.str[n].loop = s.str[n].loop ∧ State.counted 0x030200 s t) ∧
    (∀ (s : State) (q : Req) (x : Session) (n : Fin 8), s.serves q x → s.strLease n = false → 
      ∃ t, exec (.stringStop q n) s = .next t ∧ t.str[n].resCode = 0x0508 ∧ t.str[n].state = s.str[n].state ∧ t.str[n].drives = s.str[n].drives ∧ t.str[n].loop = s.str[n].loop ∧ State.counted 0x030200 s t) ∧
    (∀ (s : State) (q : Req) (x : Session) (n : Fin 8), s.serves q x → s.strLease n = false → 
      ∃ t, exec (.stringShed q n) s = .next t ∧ t.str[n].resCode = 0x0508 ∧ t.str[n].state = s.str[n].state ∧ t.str[n].drives = s.str[n].drives ∧ t.str[n].loop = s.str[n].loop ∧ State.counted 0x030200 s t) ∧
    (∀ (s : State) (q : Req) (x : Session) (n : Fin 8), s.serves q x → s.strLease n = false → 
      ∃ t, exec (.stringService q n) s = .next t ∧ t.str[n].resCode = 0x0508 ∧ t.str[n].state = s.str[n].state ∧ t.str[n].drives = s.str[n].drives ∧ t.str[n].loop = s.str[n].loop ∧ State.counted 0x030200 s t) ∧
    (∀ (s : State) (q : Req) (x : Session) (n : Fin 8), s.serves q x → s.strLease n = false → 
      ∃ t, exec (.stringClear q n) s = .next t ∧ t.str[n].resCode = 0x0508 ∧ t.str[n].state = s.str[n].state ∧ t.str[n].drives = s.str[n].drives ∧ t.str[n].loop = s.str[n].loop ∧ State.counted 0x030200 s t) ∧
    (∀ (s : State) (q : Req) (x : Session), s.serves q x → s.leads = false → 
      ∃ t, exec (.scanRun q) s = .next t ∧ t.scan.resCode = 0x0F02 ∧ t.scan.state = s.scan.state ∧ t.scan.pend = s.scan.pend ∧ t.scan.stepPend = s.scan.stepPend ∧ State.counted 0x030200 s t) ∧
    (∀ (s : State) (q : Req) (x : Session), s.serves q x → s.leads = false → 
      ∃ t, exec (.scanStop q) s = .next t ∧ t.scan.resCode = 0x0F02 ∧ t.scan.state = s.scan.state ∧ t.scan.pend = s.scan.pend ∧ t.scan.stepPend = s.scan.stepPend ∧ State.counted 0x030200 s t) ∧
    (∀ (s : State) (q : Req) (x : Session), s.serves q x → s.leads = false → 
      ∃ t, exec (.scanHold q) s = .next t ∧ t.scan.resCode = 0x0F02 ∧ t.scan.state = s.scan.state ∧ t.scan.pend = s.scan.pend ∧ t.scan.stepPend = s.scan.stepPend ∧ State.counted 0x030200 s t) ∧
    (∀ (s : State) (q : Req) (x : Session), s.serves q x → s.leads = false → 
      ∃ t, exec (.scanStep q) s = .next t ∧ t.scan.resCode = 0x0F02 ∧ t.scan.state = s.scan.state ∧ t.scan.pend = s.scan.pend ∧ t.scan.stepPend = s.scan.stepPend ∧ State.counted 0x030200 s t) ∧
    (∀ (s : State) (q : Req) (x : Session), s.serves q x → s.leads = false → 
      ∃ t, exec (.scanResume q) s = .next t ∧ t.scan.resCode = 0x0F02 ∧ t.scan.state = s.scan.state ∧ t.scan.pend = s.scan.pend ∧ t.scan.stepPend = s.scan.stepPend ∧ State.counted 0x030200 s t) ∧
    (∀ (s : State) (q : Req) (x : Session) (n : Fin 8), s.serves q x → s.leads = false → 
      ∃ t, exec (.preset q n) s = .next t ∧ t.io.qin[n].resCode = 0x0E01 ∧ t.io.qin[n].count = s.io.qin[n].count ∧ t.io.qin[n].uncertain = s.io.qin[n].uncertain ∧ State.counted 0x030200 s t) ∧
    (∀ (s : State) (q : Req) (x : Session) (n : Fin 8), s.serves q x → s.leads = false → 
      ∃ t, exec (.clearUncertain q n) s = .next t ∧ t.io.qin[n].resCode = 0x0E01 ∧ t.io.qin[n].count = s.io.qin[n].count ∧ t.io.qin[n].uncertain = s.io.qin[n].uncertain ∧ State.counted 0x030200 s t) ∧
    (∀ (s : State) (q : Req) (x : Session) (n : Fin 8), s.serves q x → s.leads = false → 
      ∃ t, exec (.captureRef q n) s = .next t ∧ t.io.usf[n].resCode = 0x0E01 ∧ t.io.usf[n].capture = s.io.usf[n].capture ∧ State.counted 0x030200 s t) ∧
    (∀ (s : State) (q : Req) (x : Session) (force : Bool) (ns : ShelfNs), s.serves q x → s.writes = false → 
      ∃ t, exec (.attachA q force ns) s = .next t ∧ t.hist.resCode = 0x0B04 ∧ t.hist.nv = s.hist.nv ∧ t.hist.a = s.hist.a ∧ t.hist.b = s.hist.b ∧ State.counted 0x030200 s t) ∧
    (∀ (s : State) (q : Req) (x : Session) (force : Bool) (ns : ShelfNs), s.serves q x → s.writes = false → 
      ∃ t, exec (.attachB q force ns) s = .next t ∧ t.hist.resCode = 0x0B04 ∧ t.hist.nv = s.hist.nv ∧ t.hist.a = s.hist.a ∧ t.hist.b = s.hist.b ∧ State.counted 0x030200 s t) ∧
    (∀ (s : State) (q : Req) (x : Session), s.serves q x → s.writes = false → 
      ∃ t, exec (.newStore q) s = .next t ∧ t.hist.resCode = 0x0B04 ∧ t.hist.nv = s.hist.nv ∧ t.hist.a = s.hist.a ∧ t.hist.b = s.hist.b ∧ State.counted 0x030200 s t) ∧
    (∀ (s : State) (q : Req) (x : Session), s.serves q x → s.writes = false → 
      ∃ t, exec (.seal q) s = .next t ∧ t.hist.resCode = 0x0B04 ∧ t.hist.nv = s.hist.nv ∧ t.hist.a = s.hist.a ∧ t.hist.b = s.hist.b ∧ State.counted 0x030200 s t) ∧
    (∀ (s : State) (q : Req) (x : Session) (p : BitVec 4), s.serves q x → s.writes = false → 
      ∃ t, exec (.selectProfile q p) s = .next t ∧ t.hist.resCode = 0x0B04 ∧ t.hist.nv = s.hist.nv ∧ t.hist.a = s.hist.a ∧ t.hist.b = s.hist.b ∧ State.counted 0x030200 s t) ∧
    (∀ (s : State) (q : Req) (x : Session) (tai : Nat), s.prompt q x → (s.roleOf x).mayWrite = true → (s.ptp.servo && s.ptp.locked) = false → s.leads = false → 
      ∃ t, exec (.timeSet q tai) s = .next t ∧ s.onlyRefused q 9 0x0C08 t) ∧
    (∀ (s : State) (q : Req) (x : Session), s.serves q x → s.bank.state = .fault → 
      ∃ t, exec (.bankStandby q) s = .next t ∧ t.bank.resCode = 0x0610 ∧ t.bank.state = .fault ∧ t.str = s.str ∧ State.counted 0x030200 s t) ∧
    (∀ (s : State) (q : Req) (x : Session) (failed : Option (Fin 8)), s.serves q x → s.bank.state = .fault → 
      ∃ t, exec (.bankPrecharge q failed) s = .next t ∧ t.bank.resCode = 0x0610 ∧ t.bank.state = .fault ∧ t.str = s.str ∧ State.counted 0x030200 s t) ∧
    (∀ (s : State) (q : Req) (x : Session), s.serves q x → s.bank.state = .fault → 
      ∃ t, exec (.bankRun q) s = .next t ∧ t.bank.resCode = 0x0610 ∧ t.bank.state = .fault ∧ t.str = s.str ∧ State.counted 0x030200 s t) ∧
    (∀ (s : State) (q : Req) (x : Session), s.serves q x → s.bank.state = .fault → 
      ∃ t, exec (.bankHold q) s = .next t ∧ t.bank.resCode = 0x0610 ∧ t.bank.state = .fault ∧ t.str = s.str ∧ State.counted 0x030200 s t) ∧
    (∀ (s : State) (q : Req) (x : Session), s.serves q x → s.bank.state = .fault → 
      ∃ t, exec (.bankStop q) s = .next t ∧ t.bank.resCode = 0x0610 ∧ t.bank.state = .fault ∧ t.str = s.str ∧ State.counted 0x030200 s t) ∧
    (∀ (s : State) (q : Req) (x : Session), s.serves q x → s.bank.state = .fault → 
      ∃ t, exec (.bankService q) s = .next t ∧ t.bank.resCode = 0x0610 ∧ t.bank.state = .fault ∧ t.str = s.str ∧ State.counted 0x030200 s t) ∧
    (∀ (s : State) (q : Req) (x : Session), s.serves q x → s.bank.state = .fault → 
      ∃ t, exec (.bankOff q) s = .next t ∧ t.bank.resCode = 0x0610 ∧ t.bank.state = .fault ∧ t.str = s.str ∧ State.counted 0x030200 s t)

/-- Where nothing is pending and the command has something to act on, COMMIT, STEP_NEXT, STEP_ALL, ROLLBACK and ROLLBACK_ALL make their change pending with the right index and configuration and leave the configuration in force alone; DISCARD invalidates the staged slot; the shadow is ready exactly where its digest is the plan's and the step is refused otherwise; at T0 - 100 us a due change passes, with its decision journaled, exactly where no condition refuses it; at its T0 a passed change puts its configuration in force and settles the slots and the completed steps. -/
def Obligations.ImageStepsComplete : Prop :=
    (∀ (s : State) (q : Req) (x : Session), s.serves q x → s.img.pend = none → s.img.request .commit s.jrn.stepsDone = 0 → (s.img.cfg.paired && (!s.leads || (!s.img.peerMatch && s.twin.role != .alone))) = false → 
      ∃ t, exec (.commit q) s = .next t ∧ (∃ p, t.img.pend = some p ∧ p.kind = .commit ∧ p.all = false ∧ p.cfg = s.img.stg.cfg) ∧ t.img.plan = .pending ∧ t.img.cfg = s.img.cfg ∧ t.img.resCode = 0) ∧
    (∀ (s : State) (q : Req) (x : Session), s.serves q x → s.img.pend = none → s.img.request .forward s.jrn.stepsDone = 0 → (s.img.cfg.paired && (!s.leads || (!s.img.peerMatch && s.twin.role != .alone))) = false → 
      ∃ t, exec (.stepNext q) s = .next t ∧ (∃ p, t.img.pend = some p ∧ p.kind = .forward ∧ p.all = false ∧ p.index = s.jrn.stepsDone + 1 ∧ p.cfg = s.img.cfgAt (s.jrn.stepsDone + 1)) ∧ t.img.plan = .pending ∧ t.img.cfg = s.img.cfg ∧ t.img.resCode = 0) ∧
    (∀ (s : State) (q : Req) (x : Session), s.serves q x → s.img.pend = none → s.img.request .forward s.jrn.stepsDone = 0 → (s.img.cfg.paired && (!s.leads || (!s.img.peerMatch && s.twin.role != .alone))) = false → 
      ∃ t, exec (.stepAll q) s = .next t ∧ (∃ p, t.img.pend = some p ∧ p.kind = .forward ∧ p.all = true ∧ p.index = s.jrn.stepsDone + 1 ∧ p.cfg = s.img.cfgAt (s.jrn.stepsDone + 1)) ∧ t.img.plan = .pending ∧ t.img.cfg = s.img.cfg ∧ t.img.resCode = 0) ∧
    (∀ (s : State) (q : Req) (x : Session), s.serves q x → s.img.pend = none → s.jrn.stepsDone ≠ 0 → (s.img.cfg.paired && !s.leads) = false → 
      ∃ t, exec (.rollback q) s = .next t ∧ (∃ p, t.img.pend = some p ∧ p.kind = .reverse ∧ p.all = false ∧ p.index = s.jrn.stepsDone ∧ p.cfg = s.img.cfgAt (s.jrn.stepsDone - 1)) ∧ t.img.plan = .pending ∧ t.img.cfg = s.img.cfg ∧ t.img.resCode = 0) ∧
    (∀ (s : State) (q : Req) (x : Session), s.serves q x → s.img.pend = none → s.jrn.stepsDone ≠ 0 → (s.img.cfg.paired && !s.leads) = false → 
      ∃ t, exec (.rollbackAll q) s = .next t ∧ (∃ p, t.img.pend = some p ∧ p.kind = .reverse ∧ p.all = true ∧ p.index = s.jrn.stepsDone ∧ p.cfg = s.img.cfgAt (s.jrn.stepsDone - 1)) ∧ t.img.plan = .pending ∧ t.img.cfg = s.img.cfg ∧ t.img.resCode = 0) ∧
    (∀ (s : State) (q : Req) (x : Session), s.serves q x → s.img.pend = none → s.img.plan ≠ .partly → s.img.stg.valid = true → 
      ∃ t, exec (.discard q) s = .next t ∧ t.img.stg.valid = false ∧ t.img.plan = .none ∧ t.jrn.stepsDone = 0 ∧ t.img.cfg = s.img.cfg ∧ t.img.cur = s.img.cur) ∧
    (∀ (s : State) (p : PendStep), s.img.pend = some p → 
      ∃ t, exec (.shadowReady) s = .next t ∧ ((∀ d, s.pendDigest p = some d → d = Config.cfgDigest p.cfg) → t.img.pend = some { p with shadowReady := some s.now }) ∧ ((∃ d, s.pendDigest p = some d ∧ d ≠ Config.cfgDigest p.cfg) → t.img.pend = none ∧ t.img.resCode = 0x0111 ∧ t.img.cfg = s.img.cfg)) ∧
    (∀ (s : State) (p : PendStep), s.leads = true → s.trust.pending = none → s.img.pend = some p → ((s.atCycle 700000).atCycle 900000).evalDue p = true → 
      ∃ t, exec (.stepEvaluate) s = .next t ∧ ((((s.atCycle 700000).atCycle 900000).evalCode p).1 = 0 → t.img.pend = some { p with passed := true, target := s.clk.cycleT0 + 1000000 } ∧ t.jrn.decided = some (p.kind.outcome p.index, s.clk.cycleT0 + 1000000)) ∧ ((((s.atCycle 700000).atCycle 900000).evalCode p).1 ≠ 0 → t.img.pend = none ∧ t.img.resCode = BitVec.ofNat 16 (((s.atCycle 700000).atCycle 900000).evalCode p).1 ∧ t.jrn.decided = none) ∧ t.img.cfg = s.img.cfg) ∧
    (∀ (s : State) (bad : Option (Bool × List Byte)) (p : PendStep), s.leads = true → s.img.pend = some p → p.passed = true → p.target ≤ s.now → p.all = false → 
      ∃ t, exec (.stepCommit bad) s = .next t ∧ t.img.cfg = p.cfg ∧ t.img.pend = none ∧ t.jrn.decided = none ∧ t.jrn.stepsDone = (s.img.settled p.kind p.index p.wasComplete).2 ∧ t.img.cur = (s.img.settled p.kind p.index p.wasComplete).1.cur ∧ t.img.stg = (s.img.settled p.kind p.index p.wasComplete).1.stg)

/-- The exchange with the twin (PREPARE, READY, DECIDE, the forwarded image and PEER_MATCH) changes what R55 and R56 say; a switch reading is kept per channel with the readings on which the channels differ; each channel reads the active profile into its own copy and computes the CRC-32 of that, and nothing may be enabled where the two differ; a change of the member-select pin is recorded and has no other effect. -/
def Obligations.ImageExchangeComplete : Prop :=
    (∀ (s : State) (p : PendStep), s.paired = true → s.twin.role = .active → s.img.pend = some p → p.shadowReady.isSome = true → 
      ∃ t, exec (.stepPrepare) s = .next t ∧ t.img.pend = some { p with prepared := true, target := s.clk.cycleT0 + 1000000 }) ∧
    (∀ (s : State) (f : TwinFrame) (p : Prepare), s.frameOk f = true → s.twin.taken f.seq = false → s.twin.role = .standby → p.token = false → 
      ∃ t, exec (.prepareReceived f p) s = .next t ∧ (∃ r, t.img.peer = some r ∧ r.index = p.index ∧ r.digest = p.digest ∧ r.target = p.target ∧ r.kind = p.kind ∧ r.decided = none)) ∧
    (∀ (s : State) (f : TwinFrame) (p : Prepare), s.frameOk f = true → s.twin.taken f.seq = false → s.twin.role = .standby → p.token = true → 
      ∃ t, exec (.prepareReceived f p) s = .next t ∧ ((s.trust.nv.owner == .zeroised || s.tokenChecks p.data ≠ 0) = true → t.trust.peerToken = none ∧ t.out = (s.twinSend "REFUSE" []).out) ∧ ((s.trust.nv.owner == .zeroised || s.tokenChecks p.data ≠ 0) = false → t.trust.peerToken = Token.parse p.data ∧ t.trust.peerTarget = p.target ∧ t.trust.peerGo = false ∧ t.out = (s.twinSend "READY" []).out)) ∧
    (∀ (s : State) (f : TwinFrame) (r : Bool) (p : PendStep), s.frameOk f = true → s.twin.taken f.seq = false → s.img.pend = some p → p.prepared = true → 
      ∃ t, exec (.stepPeerAnswer f false r) s = .next t ∧ (t.img.pend = some { p with peerReady := if s.now + 300000 ≤ p.target then some r else p.peerReady })) ∧
    (∀ (s : State) (f : TwinFrame) (r : Bool) (t0 : Nat), s.frameOk f = true → s.twin.taken f.seq = false → s.trust.pendTarget = some t0 → 
      ∃ t, exec (.stepPeerAnswer f true r) s = .next t ∧ (t.trust.pendingReady = if s.now + 300000 ≤ t0 then some r else s.trust.pendingReady)) ∧
    (∀ (s : State) (f : TwinFrame) (c : Bool) (p : PeerPrep), s.frameOk f = true → s.twin.taken f.seq = false → s.img.peer = some p → 
      ∃ t, exec (.decideReceived f false c) s = .next t ∧ t.img.peer = some { p with decided := some c } ∧ (c = true → t.jrn.decided = some (p.kind.outcome p.index, p.target))) ∧
    (∀ (s : State) (f : TwinFrame) (c : Bool), s.frameOk f = true → s.twin.taken f.seq = false → 
      ∃ t, exec (.decideReceived f true c) s = .next t ∧ (t.trust.peerToken = (if c then s.trust.peerToken else none) ∧ t.trust.peerGo = (c && s.trust.peerToken.isSome) ∧ t.img = s.img ∧ t.jrn = s.jrn)) ∧
    (∀ (s : State) (f : TwinFrame) (d : BitVec 384), s.frameOk f = true → s.twin.taken f.seq = false → 
      ∃ t, exec (.peerMatchConfirm f d) s = .next t ∧ t.img = { s.img with peerMatch := s.img.stg.valid && s.img.stg.hdr.digest == d }) ∧
    (∀ (s : State) (f : TwinFrame) (data : List Byte), s.frameOk f = true → s.twin.taken f.seq = false → s.twin.role = .standby ∨ s.twin.role = .unsynced → s.planOpen = false → 
      ∃ t, exec (.imageForwardReceived f data) s = .next t ∧ (firstCode (s.beginImageLoad.imageChecks data) = 0 → t.img.stg = Slot.ofBytes data ∧ t.img.plan = .ready) ∧ (firstCode (s.beginImageLoad.imageChecks data) ≠ 0 → t.img.stg.valid = false ∧ t.img.resCode = BitVec.ofNat 16 (firstCode (s.beginImageLoad.imageChecks data))) ∧ t.img.cfg = s.img.cfg) ∧
    (∀ (s : State) (f : TwinFrame) (data : List Byte), s.frameOk f = true → s.twin.taken f.seq = false → s.twin.role = .standby ∨ s.twin.role = .unsynced → s.planOpen = true → 
      ∃ t, exec (.imageForwardReceived f data) s = .next t ∧ t.img = { s.img with resCode := 0x010A, resDetail := 0 }) ∧
    (∀ (s : State) (c : Bool) (sw1 sw2 : BitVec 4), 
      ∃ t, exec (.switchChange c sw1 sw2) s = .next t ∧ (c = false → t.saf.a.sw1 = sw1 ∧ t.saf.a.sw2 = sw2 ∧ t.saf.b.sw1 = s.saf.b.sw1 ∧ t.saf.b.sw2 = s.saf.b.sw2) ∧ (c = true → t.saf.b.sw1 = sw1 ∧ t.saf.b.sw2 = sw2 ∧ t.saf.a.sw1 = s.saf.a.sw1 ∧ t.saf.a.sw2 = s.saf.a.sw2) ∧ t.img.swDisagree = t.saf.switchDiff ∧ (∀ a, s.img.profPos = some a → t.saf.a.sw1 = t.saf.b.sw1 → t.img.profPending = (t.saf.a.sw1 != a) ∧ t.img.profActive = s.img.profActive)) ∧
    (∀ (s : State) (b : Bool) (v : List Byte) (p : BitVec 4), s.img.profActive = some p → 
      ∃ t, exec (.profileCrcCheck (some (b, v))) s = .next t ∧ (t.saf.chan b).prof = v ∧ (t.saf.chan b).profCrc = BitVec.ofNat 32 (crc32 v) ∧ (t.saf.chan (!b)).prof = s.img.cfg.profile p ∧ (t.saf.chan (!b)).profCrc = BitVec.ofNat 32 (crc32 (s.img.cfg.profile p)) ∧ t.saf.profileOk = ((t.saf.chan b).profCrc == (t.saf.chan (!b)).profCrc)) ∧
    (∀ (s : State) (p : BitVec 4), s.img.profActive = some p → 
      ∃ t, exec (.profileCrcCheck none) s = .next t ∧ ((∀ b : Bool, (t.saf.chan b).prof = s.img.cfg.profile p ∧ (t.saf.chan b).profCrc = BitVec.ofNat 32 (crc32 (s.img.cfg.profile p))) ∧ t.saf.profileOk = true)) ∧
    (∀ (s : State) (bad : Option (Bool × List Byte)), s.img.profActive = none → 
      ∃ t, exec (.profileCrcCheck bad) s = .next t ∧ t.saf.profileOk = false) ∧
    (∀ (s : State) (pin : Bool), s.room → pin ≠ s.ident.memberPin → 
      ∃ t, exec (.memberSelectChanged pin) s = .next t ∧ t.ident = { s.ident with memberPin := pin } ∧ State.recorded 0x4154 0x040 [(b2n pin : Int)] s t)

/-- ENUMERATE under the lease, with nothing running and the string idle with open contactors, begins the silence and takes every address and key; at the end of the silence idle leaves both ends (that it was sent in the last 10 ms is log 138) and ASSIGN follows; each step goes on to the next (ASSIGN, SESSION, the measurement from end A, OPEN, the transit frame, the measurement from end B) where its check holds and the run does not wait for a band change between two node steps; no IDENTITY in time ends it with ENUM_FAILED and 0x0202, a SESSION that fails or misses its deadline with 0x0205; CLOSE of a split Ring that the conditions allow begins, with UNWRAP at once where both exchanges still fit this window. -/
def Obligations.RingEnumerationComplete : Prop :=
    (∀ (s : State) (q : Req) (x : Session) (n : Fin 8), s.serves q x → s.ringLease n = true → s.ring[n].busy = false → s.str[n].state.active = false → s.str[n].auxOpen = true → 
      ∃ t, exec (.ringEnumerate q n) s = .next t ∧ t.ring[n].mode = .silent ∧ t.ring[n].enumRun.map (·.phase) = some .silence ∧ t.ring[n].resCode = 0 ∧ (∀ k : Fin 24, t.ring[n].nodes[k].enumerated = false ∧ t.ring[n].nodes[k].key = none)) ∧
    (∀ (s : State) (q : Req) (x : Session) (n : Fin 8), s.serves q x → s.ringLease n = true → s.ring[n].busy = false → s.ring[n].mode = .split → s.ring[n].closeBlocked = false → s.ring[n].signalOk (s.topo n).packs = true → 
      ∃ t, exec (.ringClose q n) s = .next t ∧ (t.ring[n].closeStep = (if s.unwrapFits n false && s.unwrapFits n true then .unwrap else .wait) ∧ t.ring[n].mode = .split ∧ t.ring[n].resCode = 0)) ∧
    (∀ (s : State) (n : Fin 8) (e : EnumRun), s.ring[n].at .silence = some e → 
      ∃ t, exec (.enumSilenceEnd n) s = .next t ∧ t.ring[n].mode = .enum ∧ t.ring[n].enumRun.map (·.phase) = some .assign ∧ t.out = (((s.send .ring n "IDLE" [0]).send .ring n "IDLE" [1]).sendRing n false "ASSIGN" 0 0x05 0 0 0 (leBytes 1 (e.k + 1)) none).out) ∧
    (∀ (s : State) (n : Fin 8) (ident : BitVec 128), s.room → 
      ∃ t, exec (.identityReceived n false ident) s = .next t ∧ State.counted (Reg.ring n 0x044) s t ∧ t.ring = s.ring) ∧
    (∀ (s : State) (n : Fin 8) (ident : BitVec 128) (e : EnumRun) (i : Fin 24), s.trust.keysErased = false → s.ring[n].at .assign = some e → e.k + 1 ≤ (s.topo n).packs → nodeAt (e.k + 1) = some i → ident = s.img.cfg.nodeIdent n i → 
      ∃ t, exec (.identityReceived n true ident) s = .next t ∧ (t.ring[n].enumRun.map (fun r => (r.phase, r.k)) = some (.session, e.k + 1))) ∧
    (∀ (s : State) (n : Fin 8) (e : EnumRun), s.room → s.ring[n].at .assign = some e → 
      ∃ t, exec (.enumTimeout n) s = .next t ∧ t.ring[n].mode = .enumFailed ∧ t.ring[n].enumRun = none ∧ t.ring[n].resCode = 0x0202 ∧ t.ring[n].resDetail = BitVec.ofNat 16 (e.k + 1) ∧ State.recorded 0x821B (Src.ring n) [0x0202, (e.k + 1 : Int)] s t) ∧
    (∀ (s : State) (n : Fin 8) (e : EnumRun), s.ring[n].at .assign = some e → (s.topo n).packs ≤ e.k → 
      ∃ t, exec (.assignAtEndB n) s = .next t ∧ t.ring[n].enumRun.map (·.phase) = some .transit ∧ t.out = (s.sendRing n false "TRANSIT" 0 0x05 0 0 0 (leBytes 1 ((s.topo n).packs + 1)) none).out) ∧
    (∀ (s : State) (n : Fin 8) (d : Nat) (e : EnumRun), s.ring[n].at .transit = some e → d ≤ (e.dA.getLast?).getD 0 + 1800 * s.hops n ((s.topo n).packs + 1) → 
      ∃ t, exec (.transitAtEndB n d) s = .next t ∧ (t.ring[n].enumRun.map (fun r => (r.phase, r.transit, r.k)) = some (.measureB, d, (s.topo n).packs))) ∧
    (∀ (s : State) (n : Fin 8) (f : SessFrame) (e : EnumRun) (i : Fin 24) (r : SessRun), s.ring[n].at .session = some e → nodeAt e.k = some i → e.sess = some r → f.crcOk = true → f.macOk = true → r.step = 5 → f.step = 6 → f.mac = r.doneMac → 
      ∃ t, exec (.ringSessionFrame n f) s = .next t ∧ t.ring[n].nodes[i].key = some r.key ∧ t.ring[n].enumRun.map (·.phase) = some .measureA) ∧
    (∀ (s : State) (n : Fin 8) (f : SessFrame) (e : EnumRun) (i : Fin 24) (r : SessRun), s.ring[n].at .session = some e → nodeAt e.k = some i → e.sess = some r → f.crcOk = true → f.macOk = true → r.step = 1 → f.step = 2 → 
      ∃ t, exec (.ringSessionFrame n f) s = .next t ∧ (s.partnerOk (s.img.cfg.nodeIdent n i) r f = true → t.ring[n].enumRun.map (fun e => e.sess.map (·.step)) = some (some 5)) ∧ (s.partnerOk (s.img.cfg.nodeIdent n i) r f = false → t.ring[n].mode = .enumFailed ∧ t.ring[n].resCode = 0x0205)) ∧
    (∀ (s : State) (n : Fin 8) (e : EnumRun), s.ring[n].at .session = some e → 
      ∃ t, exec (.sessionDeadline n) s = .next t ∧ t.ring[n].mode = .enumFailed ∧ t.ring[n].enumRun = none ∧ t.ring[n].resCode = 0x0205) ∧
    (∀ (s : State) (n : Fin 8) (elapsed turn : Nat) (e : EnumRun), s.ring[n].enumRun = some e → e.held = false → e.phase = .measureA ∨ e.phase = .measureB → e.probes.length < 63 → 
      ∃ t, exec (.probeReplyReceived n true true elapsed turn) s = .next t ∧ t.ring[n].enumRun = some { e with probes := e.probes ++ [(elapsed : Int) - 2 * turn] }) ∧
    (∀ (s : State) (n : Fin 8) (elapsed turn : Nat) (e : EnumRun), s.ring[n].enumRun = some e → e.held = false → e.peer = false → e.phase = .measureA → e.probes.length = 63 → EnumRun.mean (e.probes ++ [(elapsed : Int) - 2 * turn]) ≤ (e.dA.getLast?).getD 0 + 1800 * s.hops n e.k → 
      ∃ t, exec (.probeReplyReceived n true true elapsed turn) s = .next t ∧ t.ring[n].enumRun = some { e with phase := .openCmd, dA := e.dA ++ [EnumRun.mean (e.probes ++ [(elapsed : Int) - 2 * turn])], probes := [] })

/-- A request of a command is queued with its stamp, launched at once where it is the only one and its end is idle in an open window in which it fits, or refused with RING_CMD_FULL and counted where 64 wait; the window launches the one queued command that fits; a good reply to a SET_COMP confirms the values which that command carried and ends the exchange; a missed reply sends the command again with the same counter, and the third failure is counted and recorded; a loss of signal is recorded and counted, and after its silence idle leaves the end again unless the silence of an enumeration forbids it; in CLOSED, under the lease, a BEACON return at end B within 200 ns of LOOP_NOW is the new LOOP_NOW and any other changes nothing, a first missed return with no wrap seen is only counted, and a second, or one with a wrap seen, declares the break at the position of R89 (which set is the current one there, and which set a loss of signal belongs to: log 132), in force from the next T0; the return of the test launch within 6 ns of LOOP_ENUM ends CLOSE in CLOSED; drift and the changes of the fault loop are recorded as R94 and R86 say. -/
def Obligations.RingTrafficComplete : Prop :=
    (∀ (s : State) (n : Fin 8) (endB : Bool) (f : ReplyFrame) (k : Fin 24) (c : RingCmdReq), f.crcOk = true → f.macOk = true → nodeAt f.node = some k → s.ring[n].outAt endB = some c → c.node = k.val + 1 → c.opcode = 0x0010 → f.opcode = 0x0010 → f.status = .ok → f.ctr = s.ring[n].nodes[k].ctr → f.payload.length ≤ 112 → s.ring[n].nodes[k].isolated = false → s.ring[n].queue = [] → 
      ∃ t, exec (.replyReceived n endB f) s = .next t ∧ t.sense[n].nodes[k].compA = BitVec.ofNat 16 (field c.payload 0 2) ∧ t.sense[n].nodes[k].compB = BitVec.ofNat 16 (field c.payload 2 2) ∧ t.ring[n].outAt endB = none) ∧
    (∀ (s : State) (n : Fin 8) (c : RingCmdReq), s.ring[n].queue.length < 64 → c.payload.length ≤ 256 → (∀ k, nodeAt c.node = some k → s.ring[n].nodes[k].isolated = false) → s.ring[n].windowOpen = false → 
      ∃ t, exec (.ringCommandRequest n c) s = .next t ∧ ({ c with stamp := s.now, fails := 0 } : RingCmdReq) ∈ t.ring[n].queue ∧ t.ring[n].queue.length = s.ring[n].queue.length + 1) ∧
    (∀ (s : State) (n : Fin 8) (c : RingCmdReq) (k : Fin 24), nodeAt c.node = some k → s.ring[n].reachable c.node = true → s.ring[n].queue = [] → c.payload.length ≤ 256 → s.ring[n].windowOpen = true → s.ring[n].outAt (s.ring[n].fromB c.node) = none → s.mayLaunch n (s.ring[n].fromB c.node) = true → s.fits { c with stamp := s.now, fails := 0 } s.now = true → 
      ∃ t, exec (.ringCommandRequest n c) s = .next t ∧ t.ring[n].outAt (s.ring[n].fromB c.node) = some (s.timed { c with stamp := s.now, fails := 0 }) ∧ t.ring[n].queue = [] ∧ t.ring[n].nodes[k].ctr = s.ring[n].nodes[k].ctr + 1) ∧
    (∀ (s : State) (n : Fin 8) (c : RingCmdReq), s.room → 64 ≤ s.ring[n].queue.length → c.urgent = false → c.payload.length ≤ 256 → (∀ k, nodeAt c.node = some k → s.ring[n].nodes[k].isolated = false) → 
      ∃ t, exec (.ringCommandRequest n c) s = .next t ∧ t.ring[n].queue = s.ring[n].queue ∧ t.ring[n].resCode = 0x020D ∧ State.counted (Reg.ring n 0x05C) s t) ∧
    (∀ (s : State) (n : Fin 8) (c : RingCmdReq) (k : Fin 24), s.ringLease n = true → s.ring[n].silentA = false → s.ring[n].mode = .closed → s.ring[n].closeStep = .none → s.ring[n].both = false → s.ring[n].queue = [c] → s.ring[n].outA = none → nodeAt c.node = some k → s.ring[n].reachable c.node = true → s.fits c (s.atCycle 665000).now = true → 
      ∃ t, exec (.commandWindowOpen n) s = .next t ∧ t.ring[n].windowOpen = true ∧ t.ring[n].outA = some (s.timed c) ∧ t.ring[n].queue = []) ∧
    (∀ (s : State) (n : Fin 8) (endB : Bool) (c : RingCmdReq) (k : Fin 24), s.ring[n].outAt endB = some c → c.fails < 2 → nodeAt c.node = some k → s.ring[n].reachable c.node = true → s.ring[n].windowOpen = true → s.mayLaunch n endB = true → s.fits { c with fails := c.fails + 1 } (s.atTsc (s.ring[n].cmdEnd endB + 30000)).now = true → 
      ∃ t, exec (.exchangeTimeout n endB) s = .next t ∧ t.ring[n].outAt endB = some (s.timed { c with fails := c.fails + 1 }) ∧ t.ring[n].nodes[k].ctr = s.ring[n].nodes[k].ctr) ∧
    (∀ (s : State) (n : Fin 8) (endB : Bool) (c : RingCmdReq) (k : Fin 24), s.room → s.ring[n].outAt endB = some c → c.fails = 2 → nodeAt c.node = some k → 
      ∃ t, exec (.exchangeTimeout n endB) s = .next t ∧ State.counted (Reg.ring n 0x058) s t ∧ State.recorded 0x8217 (Src.node n k) [(n : Int), (c.node : Int)] s t) ∧
    (∀ (s : State) (n : Fin 8) (endB : Bool), s.room → 
      ∃ t, exec (.ringLos n endB) s = .next t ∧ State.recorded 0x421A (Src.ring n) [(b2n endB : Int)] s t ∧ State.counted (Reg.ring n 0x06C) s t ∧ (endB = true → t.ring[n].losB = true ∧ t.ring[n].silentB = true) ∧ (endB = false → t.ring[n].losA = true ∧ t.ring[n].silentA = true)) ∧
    (∀ (s : State) (n : Fin 8) (endB : Bool), 
      ∃ t, exec (.losSilenceEnd n endB) s = .next t ∧ (endB = true → t.ring[n].silentB = false) ∧ (endB = false → t.ring[n].silentA = false)) ∧
    (∀ (s : State) (n : Fin 8) (endB : Bool), s.enumSilence n = false → 
      ∃ t, exec (.losSilenceEnd n endB) s = .next t ∧ Out.mk .ring n "IDLE" [(b2n endB : Int)] .plain ∈ t.out) ∧
    (∀ (s : State) (n : Fin 8) (endB : Bool), s.enumSilence n = true → s.ring[n].queue = [] → 
      ∃ t, exec (.losSilenceEnd n endB) s = .next t ∧ t.out = s.out) ∧
    (∀ (s : State) (n : Fin 8) (d : Nat), s.ringLease n = true → s.ring[n].closeStep ≠ .awaitReturn → s.ring[n].mode = .closed → d ≤ s.ring[n].loopNow.toNat + 800 → 
      ∃ t, exec (.beaconReturn n true d) s = .next t ∧ t.ring[n].loopNow = BitVec.ofNat 32 d ∧ t.ring[n].missedRet = 0 ∧ t.ring[n].mode = .closed) ∧
    (∀ (s : State) (n : Fin 8) (endB : Bool) (d : Nat), s.ring[n].closeStep ≠ .awaitReturn → s.ring[n].mode = .closed → endB = false ∨ s.ring[n].loopNow.toNat + 800 < d → 
      ∃ t, exec (.beaconReturn n endB d) s = .next t ∧ t.ring = s.ring ∧ t.sense = s.sense) ∧
    (∀ (s : State) (n : Fin 8) (d : Nat), s.ring[n].closeStep = .awaitReturn → ((d : Int) - s.ring[n].loopEnum.toNat).natAbs ≤ 24 → 
      ∃ t, exec (.beaconReturn n true d) s = .next t ∧ t.ring[n].mode = .closed ∧ t.ring[n].closeStep = .none ∧ t.ring[n].pos = 0xFF ∧ t.ring[n].resCode = 0) ∧
    (∀ (s : State) (n : Fin 8), s.ringLease n = true → s.ring[n].closeStep ≠ .awaitReturn → s.ring[n].mode = .closed → s.ring[n].wrapSeen = false → s.ring[n].missedRet = 0 → 
      ∃ t, exec (.missedReturn n) s = .next t ∧ t.ring[n].missedRet = 1 ∧ t.ring[n].mode = .closed ∧ t.ring[n].splitNext = s.ring[n].splitNext) ∧
    (∀ (s : State) (n : Fin 8), s.room → s.ringLease n = true → s.ring[n].closeStep ≠ .awaitReturn → s.ring[n].mode = .closed → s.ring[n].missedRet = 1 ∨ s.ring[n].wrapSeen = true → 
      ∃ t, exec (.missedReturn n) s = .next t ∧ t.ring[n].splitNext = true ∧ t.ring[n].pos = BitVec.ofNat 8 (s.ring[n].breakPos (s.topo n).packs) ∧ State.counted (Reg.ring n 0x040) s t) ∧
    (∀ (s : State) (n : Fin 8), s.room → s.ringLease n = true → s.ring[n].drift = false → 
      ∃ t, exec (.ringDelayDrift n) s = .next t ∧ t.ring[n].drift = true ∧ State.recorded 0x4215 (Src.ring n) [(s.ring[n].loopNow.toNat : Int), (s.ring[n].loopEnum.toNat : Int)] s t) ∧
    (∀ (s : State) (n : Fin 8) (current : BitVec 16), s.room → 
      ∃ t, exec (.faultLoopOpen n current) s = .next t ∧ t.saf.fab.latchLoop = setBit s.saf.fab.latchLoop n true ∧ t.ring[n].floop = LoopState.ofCurrent current.toNat ∧ State.recorded 0xC214 (Src.ring n) [(current.toNat : Int)] s t) ∧
    (∀ (s : State) (n : Fin 8), s.room → s.ring[n].floop = .abnLow ∨ s.ring[n].floop = .abnHigh → s.ring[n].floopAbn = false → 
      ∃ t, exec (.faultLoopAbnormal n) s = .next t ∧ t.ring[n].floopAbn = true ∧ State.recorded 0xC219 (Src.ring n) [(s.ring[n].floopUa.toNat : Int)] s t) ∧
    (∀ (s : State) (n : Fin 8) (current : BitVec 16), 
      ∃ t, exec (.faultLoopStateChange n current) s = .next t ∧ t.ring[n].floop = LoopState.ofCurrent current.toNat ∧ t.ring[n].floopUa = current ∧ t.saf.fab.inLoop[n].active = (LoopState.ofCurrent current.toNat == .opened))

/-- Outside the shelf state: at a T0 of a module whose update is not armed the cycle's T0 moves on by 1 ms with the Ring cycle number, no Ring's set is closed any more, and the held host writes are in effect, said here where no commit waits at all (at the T0 of a commit they follow it); at the common sample instant three readings of every string are taken with its calibration (three channels, as 04 R108 names them, not ten: the model's choice, log 135); a good SAMPLE in time, with the right cell count, of a served Ring's node that is not isolated, fills its node's entry where it carries no extension and no sweep point waits for it; at the close every end's signal is noted, every served Ring of a string that is not DISABLED has its set closed and each enumerated, not isolated node is valid exactly where its SAMPLE came (where a failed CLOSE sets no entries aside), and on every other Ring every entry is invalid; the tracking update of a CLOSED Ring under its lease that has had returns takes their mean deviation and begins a new sum; in the guard window every command window is shut, a confirmed band takes effect where no Ring is inside a node step and otherwise waits, and the stretch of the estimation follows the band. -/
def Obligations.CycleInstantsComplete : Prop :=
    (∀ (s : State), s.pwr.shelf = false → s.upd.armed = false → 
      ∃ t, exec (.bankCycleStart) s = .next t ∧ t.clk.cycleT0 = s.clk.cycleT0 + 1000000 ∧ t.clk.cycleNo = (s.clk.cycleT0 + 1000000) / 1000000 ∧ (s.img.pend = none → s.img.peer = none → t.host.regWrites = []) ∧ (∀ n : Fin 8, t.ring[n].setClosed = false)) ∧
    (∀ (s : State) (raw : Vector AlignedRaw 8), s.pwr.shelf = false → 
      ∃ t, exec (.commonSampleInstant raw) s = .next t ∧ (∀ n : Fin 8, t.str[n].chorusGot = true ∧ t.str[n].chorus.vstr = (s.topo n).cal 1 raw[n].vstr ∧ t.str[n].chorus.istrA = (s.topo n).cal 8 raw[n].istrA ∧ t.str[n].chorus.istrB = (s.topo n).cal 9 raw[n].istrB)) ∧
    (∀ (s : State) (n : Fin 8) (k : Fin 24) (f : SampleFrame), f.crcOk = true → f.macOk = true → s.ring[n].served = true → s.ring[n].nodes[k].isolated = false → s.sampleLate n k f = false → s.cellsMatch n f = true → bit f.status.toNat 30 = false → s.sweep[n].ackDue = none → 
      ∃ t, exec (.sampleReceived n k f) s = .next t ∧ t.ring[n].nodes[k].got = true ∧ t.ring[n].nodes[k].status = f.status ∧ t.ring[n].nodes[k].pri = f.pri ∧ t.ring[n].nodes[k].sec = f.sec) ∧
    (∀ (s : State) (noSig : BitVec 16), s.pwr.shelf = false → 
      ∃ t, exec (.setClose noSig) s = .next t ∧ (∀ n : Fin 8, t.ring[n].losA = bit noSig.toNat (2 * n) ∧ t.ring[n].losB = bit noSig.toNat (2 * n + 1)) ∧ (∀ n : Fin 8, s.ring[n].served = true → s.str[n].state ≠ .disabled → t.ring[n].setClosed = true) ∧ (∀ (n : Fin 8) (k : Fin 24), s.ring[n].served = true → s.str[n].state ≠ .disabled → s.ring[n].nodes[k].enumerated = true → s.ring[n].nodes[k].isolated = false → s.ring[n].ignoreAbove = none → t.ring[n].nodes[k].valid = s.ring[n].nodes[k].got) ∧ (∀ (n : Fin 8) (k : Fin 24), (s.ring[n].served = false ∨ s.str[n].state = .disabled) → t.ring[n].nodes[k].valid = false)) ∧
    (∀ (s : State), 
      ∃ t, exec (.trackingUpdate) s = .next t ∧ (∀ n : Fin 8, s.ring[n].mode = .closed → s.ring[n].both = false → s.ringLease n = true → s.sense[n].cntNow ≠ 0 → t.sense[n].sumNow = 0 ∧ t.sense[n].cntNow = 0 ∧ t.sense[n].deltaA = roundQ (4 * ((s.sense[n].sumNow : Rat) / s.sense[n].cntNow / 4)))) ∧
    (∀ (s : State), s.pwr.shelf = false → 
      ∃ t, exec (.guardWindow) s = .next t ∧ (t.est.stretchNext = t.thm.band.stretch ∧ (∀ n : Fin 8, t.ring[n].windowOpen = false)) ∧ (∀ b, s.thm.pend = some b → (∀ m : Fin 8, s.ring[m].measuring = false) → t.thm.band = b) ∧ ((∃ m : Fin 8, s.ring[m].measuring = true) → t.thm.band = s.thm.band ∧ t.thm.pend = s.thm.pend))

/-- SWP_CMD = START in RUN with the registers in range runs the request under the next SWEEP_ID, or holds it in the pending slot while a sweep runs; ABORT ends the sweep with its results incomplete and empties the slot; CANCEL_PENDING empties the slot; a point's accumulate phase starts; after its last set the two phasors of its sums are held and the results of that attempt are due; a temperature point runs in RUN where no sweep does and is skipped and counted otherwise; CAL_TEMP with every condition met runs a temperature point on each string of the mask, after the sweep where one runs. Learning starts where nothing hinders it and goes on with its coefficients; the loss of the period counts and fades the waveform; the fade ends; RIPPLE_HIGH, above the limit for 5 s while learning, is recorded; EST_GRID_FREQ takes a value in range. -/
def Obligations.SweepAndRippleComplete : Prop :=
    (∀ (s : State) (q : Req) (x : Session) (n : Fin 8), s.serves q x → s.str[n].state = .run → s.sweep[n].request.ok (s.topo n) = true → ((s.sweep[n].request.freqs.all fun f => s.onHarmonic n f) = false) → s.sweep[n].pending = none → s.sweep[n].running = none → 
      ∃ t, exec (.sweepStart q n) s = .next t ∧ t.sweep[n].running = some { s.sweep[n].request with id := s.sweep[n].nextId, refused := BitVec.ofNat 48 (s.refusedMask n s.sweep[n].request) } ∧ t.sweep[n].startNext = true ∧ t.sweep[n].nextId = SweepReq.nextId s.sweep[n].nextId ∧ t.sweep[n].resCode = 0) ∧
    (∀ (s : State) (q : Req) (x : Session) (n : Fin 8), s.serves q x → s.str[n].state = .run → s.sweep[n].request.ok (s.topo n) = true → ((s.sweep[n].request.freqs.all fun f => s.onHarmonic n f) = false) → s.sweep[n].pending = none → s.sweep[n].running.isSome = true → 
      ∃ t, exec (.sweepStart q n) s = .next t ∧ t.sweep[n].pending = some { s.sweep[n].request with id := s.sweep[n].nextId, refused := BitVec.ofNat 48 (s.refusedMask n s.sweep[n].request) } ∧ t.sweep[n].running = s.sweep[n].running ∧ t.sweep[n].resCode = 0) ∧
    (∀ (s : State) (q : Req) (x : Session) (n : Fin 8), s.serves q x → s.sweep[n].running.isSome = true → s.sweep[n].tpt = false → s.sweep[n].startNext = false → ((s.enter q 2).deriveSweep n).room → 
      ∃ t, exec (.sweepAbort q n) s = .next t ∧ t.sweep[n].running = none ∧ t.sweep[n].pending = none ∧ t.sweep[n].state = .aborted ∧ t.sweep[n].lastStatus = 1 ∧ t.sweep[n].resCode = 0 ∧ State.recorded 0x4312 (Src.str n) [0, (s.sweep[n].lastComplete : Int)] s t) ∧
    (∀ (s : State) (q : Req) (x : Session) (n : Fin 8), s.serves q x → s.room → s.sweep[n].running.isSome = true → s.sweep[n].startNext = true ∨ s.sweep[n].tpt = true → 
      ∃ t, exec (.sweepAbort q n) s = .next t ∧ (t.sweep[n].running = none ∧ t.sweep[n].pending = none ∧ t.sweep[n].state = s.sweep[n].state ∧ t.sweep[n].lastStatus = s.sweep[n].lastStatus ∧ t.sweep[n].resCode = 0 ∧ (∃ k : Int, State.recorded 0x4312 (Src.str n) [0, k] s t))) ∧
    (∀ (s : State) (q : Req) (x : Session) (n : Fin 8) (r : SweepReq), s.serves q x → s.room → s.sweep[n].pending = some r → 
      ∃ t, exec (.sweepCancelPending q n) s = .next t ∧ t.sweep[n].pending = none ∧ t.sweep[n].running = s.sweep[n].running ∧ State.recorded 0x4313 (Src.str n) [(r.id.toNat : Int)] s t) ∧
    (∀ (s : State) (n : Fin 8) (r : SweepReq), s.sweep[n].running = some r → s.sweep[n].startNext = true → s.sweep[n].redoPass = false → s.sweep[n].tpt = false → 1 ≤ r.points → s.onHarmonic n (r.freqs.getD 0 0) = false → 
      ∃ t, exec (.sweepPointStart n) s = .next t ∧ t.sweep[n].point = 0 ∧ t.sweep[n].phase = .settle ∧ t.sweep[n].startNext = false ∧ t.sweep[n].state = .running ∧ t.sweep[n].startCycle = s.cycle ∧ t.sweep[n].accFrom = s.cycle + pointSets (r.freqs.getD 0 0) r.settle 20 ∧ t.sweep[n].lastCycle = s.cycle + pointSets (r.freqs.getD 0 0) r.settle 20 + pointSets (r.freqs.getD 0 0) r.acc 50 - 1) ∧
    (∀ (s : State) (n : Fin 8), s.sweep[n].running.isSome = true → 
      ∃ t, exec (.sweepAccumulateStart n) s = .next t ∧ t.sweep[n].phase = .accumulate) ∧
    (∀ (s : State) (n : Fin 8), s.sweep[n].running.isSome = true → s.sweep[n].ackDue = none → 
      ∃ t, exec (.sweepPointLastSet n) s = .next t ∧ t.sweep[n].phase = .waitStart ∧ t.sweep[n].ackDue = some s.sweep[n].point ∧ t.sweep[n].curA = Phasor.ofSums ((s.topo n).ampCor.getD 0 (1, 0)) s.sweep[n].accN s.sweep[n].accA ∧ t.sweep[n].curB = Phasor.ofSums ((s.topo n).ampCor.getD 1 (1, 0)) s.sweep[n].accN s.sweep[n].accB ∧ (∀ k : Fin 24, t.sense[n].nodes[k].heldPoint = none ∧ t.sense[n].nodes[k].heldCells = [])) ∧
    (∀ (s : State) (n : Fin 8) (p : Nat), s.sweep[n].ackDue = some p → s.sweep[n].startNext = true → s.sweep[n].tpt = false → s.sweep[n].running.isSome = true → 
      ∃ t, exec (.sweepResultDeadline n) s = .next t ∧ t.sweep[n].ackDue = none ∧ (Sparse.get t.sweep[n].results p {}).done = true) ∧
    (∀ (s : State) (n : Fin 8), s.sweep[n].regTpt ≠ 0 → s.str[n].state = .run → s.sweep[n].running = none → s.sweep[n].pending = none → 
      ∃ t, exec (.tempPointDue n) s = .next t ∧ t.sweep[n].running = some (s.tempReq n) ∧ t.sweep[n].startNext = true ∧ t.sweep[n].tpt = true ∧ t.sweep[n].tptDueIn = s.sweep[n].regTpt.toNat) ∧
    (∀ (s : State) (n : Fin 8), s.room → s.sweep[n].regTpt ≠ 0 → s.str[n].state ≠ .run → 
      ∃ t, exec (.tempPointDue n) s = .next t ∧ State.counted (Reg.str n 0xC2C) s t ∧ t.sweep[n].running = s.sweep[n].running) ∧
    (∀ (s : State) (q : Req) (x : Session) (mask : Byte), s.serves q x → (((stringsOf mask).all fun n => s.calReady n) = true) → 
      ∃ t, exec (.calTemp q mask) s = .next t ∧ t.est.zres = 0 ∧ (∀ n : Fin 8, n ∈ stringsOf mask → s.sweep[n].running = none → t.sweep[n].running = some (s.tempReq n) ∧ t.sweep[n].tpt = true ∧ t.sweep[n].cal = true) ∧ (∀ n : Fin 8, n ∈ stringsOf mask → s.sweep[n].running.isSome = true → t.sweep[n].running = s.sweep[n].running ∧ t.sweep[n].calPend = true)) ∧
    (∀ (s : State) (n : Fin 8), s.rcMayLearn n = true → 
      ∃ t, exec (.rcLearn n) s = .next t ∧ t.rc[n].mem = (RcCtl.learn (s.topo n) s.clk.upNs s.rc[n]).mem ∧ t.rc[n].acc = [] ∧ t.rc[n].dirty = false ∧ t.rc[n].genNo = s.rc[n].genNo + 1) ∧
    (∀ (s : State) (n : Fin 8), s.room → s.rcMayLearn n = false → 
      ∃ t, exec (.rcLearn n) s = .next t ∧ t.rc[n].mem = s.rc[n].mem ∧ t.rc[n].acc = [] ∧ t.rc[n].dirty = false ∧ State.counted (Reg.str n 0x410) s t) ∧
    (∀ (s : State) (n : Fin 8), s.room → 
      ∃ t, exec (.rcPeriodLost n) s = .next t ∧ t.rc[n].stopped = true ∧ t.rc[n].learning = false ∧ t.rc[n].fading = (!s.img.cfg.policy.rcLossHold) ∧ State.counted (Reg.str n 0x414) s t ∧ State.recorded 0x4625 (Src.str n) [] s t) ∧
    (∀ (s : State) (n : Fin 8), s.rc[n].fading = true → 
      ∃ t, exec (.rcFadeEnd n) s = .next t ∧ (t.rc[n].fading = false ∧ t.rc[n].fade = if s.rc[n].fadeUp then 1 else 0)) ∧
    (∀ (s : State) (n : Fin 8), s.room → s.rc[n].high = false → s.rippleHigh n = true → 
      ∃ t, exec (.rippleHigh n) s = .next t ∧ t.rc[n].high = true ∧ State.recorded 0x4624 (Src.str n) [(s.rc[n].resid.toNat : Int)] s t) ∧
    (∀ (s : State) (q : Req) (x : Session) (v : Word), s.serves q x → 45000 ≤ v.toNat % 2 ^ 17 → v.toNat % 2 ^ 17 ≤ 65000 → 
      ∃ t, exec (.gridFreqWrite q v) s = .next t ∧ t.bank.gridFreq = BitVec.ofNat 17 v.toNat ∧ t.bank.gridFreqUp = some s.clk.upNs)

/-- With the lease, from a state the table permits and with its conditions met, ENABLE enters OFF, DISABLE enters DISABLED and idles the Ring, START enters PRECHARGE with K_NEG awaiting the next T0, HOLD and RESUME change between RUN and HOLD with the ramp they start, STOP ramps down towards OFF and triggers the learned-values write, SHED ramps down towards SHED, SERVICE enters SERVICE, CLEAR leaves FAULT for OFF, clears the string's latches and ends its cause and lockout; a CW write waits for the next boundary and a write of STRn_CTL sets the holds. STRn_RESULT then reads 0. -/
def Obligations.StringCommandsComplete : Prop :=
    (∀ (s : State) (q : Req) (x : Session) (n : Fin 8), s.serves q x → s.strLease n = true → (s.topo n).declared = true → s.str[n].state = .disabled → s.ring[n].mode ≠ .enumFailed → 
      ∃ t, exec (.stringEnable q n) s = .next t ∧ t.str[n].state = .off ∧ t.str[n].resCode = 0) ∧
    (∀ (s : State) (q : Req) (x : Session) (n : Fin 8), s.serves q x → s.strLease n = true → s.str[n].state = .off ∨ s.str[n].state = .shed ∨ s.str[n].state = .service → s.ring[n].mode ≠ .enumFailed → 
      ∃ t, exec (.stringDisable q n) s = .next t ∧ t.str[n].state = .disabled ∧ t.ring[n].mode = .idle ∧ t.ring[n].queue = [] ∧ t.ring[n].bcastKey = none ∧ t.str[n].resCode = 0) ∧
    (∀ (s : State) (q : Req) (x : Session) (n : Fin 8), s.serves q x → s.strLease n = true → s.str[n].state = .off ∨ s.str[n].state = .shed ∨ s.str[n].state = .service → s.ring[n].mode = .enumFailed → 
      ∃ t, exec (.stringDisable q n) s = .next t ∧ t.str[n].state = s.str[n].state ∧ t.ring[n].mode = .enumFailed ∧ t.str[n].resCode = 0x0502 ∧ t.str[n].resDetail = 2) ∧
    (∀ (s : State) (q : Req) (x : Session) (n : Fin 8), s.serves q x → s.str[n].state = .off → s.bank.state = .precharge ∨ s.bank.state = .run ∨ s.bank.state = .hold → s.startMask n = 0 → s.strLease n = true → 
      ∃ t, exec (.stringStart q n) s = .next t ∧ t.str[n].state = .precharge ∧ t.str[n].prech = .waitT0 ∧ t.str[n].resCode = 0 ∧ t.str[n].drives = s.str[n].drives) ∧
    (∀ (s : State) (q : Req) (x : Session) (n : Fin 8), s.serves q x → s.strLease n = true → s.str[n].state = .run → s.str[n].opening = .none → 
      ∃ t, exec (.stringHold q n) s = .next t ∧ t.str[n].state = .hold ∧ t.str[n].loop.rampZero = true ∧ t.str[n].loop.ramping = false ∧ t.str[n].resCode = 0) ∧
    (∀ (s : State) (q : Req) (x : Session) (n : Fin 8), s.serves q x → s.strLease n = true → s.str[n].state = .hold → s.str[n].opening = .none → s.bank.state = .run → 
      ∃ t, exec (.stringResume q n) s = .next t ∧ t.str[n].state = .run ∧ t.str[n].loop.ramping = true ∧ t.str[n].loop.rampZero = false ∧ t.str[n].loop.xStr = s.str[n].loop.xStr ∧ t.str[n].loop.xPh = s.str[n].loop.xPh) ∧
    (∀ (s : State) (q : Req) (x : Session) (n : Fin 8), s.serves q x → s.strLease n = true → s.str[n].state = .precharge ∨ s.str[n].state = .run ∨ s.str[n].state = .hold → s.str[n].opening = .none → 
      ∃ t, exec (.stringStop q n) s = .next t ∧ t.str[n].opening = .rampDown ∧ t.str[n].target = .off ∧ t.str[n].loop.rampZero = true ∧ t.str[n].state = s.str[n].state ∧ t.est.learnBusy = true) ∧
    (∀ (s : State) (q : Req) (x : Session) (n : Fin 8), s.serves q x → s.strLease n = true → s.str[n].state = .shed ∨ s.str[n].state = .service → s.ringReady n = true → 
      ∃ t, exec (.stringStop q n) s = .next t ∧ t.str[n].state = .off ∧ t.est.learnBusy = true) ∧
    (∀ (s : State) (q : Req) (x : Session) (n : Fin 8), s.serves q x → s.strLease n = true → s.str[n].state = .precharge ∨ s.str[n].state = .run ∨ s.str[n].state = .hold → s.str[n].opening = .none → 
      ∃ t, exec (.stringShed q n) s = .next t ∧ t.str[n].opening = .rampDown ∧ t.str[n].target = .shed ∧ t.str[n].loop.rampZero = true ∧ t.str[n].state = s.str[n].state) ∧
    (∀ (s : State) (q : Req) (x : Session) (n : Fin 8), s.serves q x → s.strLease n = true → s.str[n].state = .off → s.ring[n].mode ≠ .enumFailed → bit s.img.reenum.toNat n = false → 
      ∃ t, exec (.stringService q n) s = .next t ∧ t.str[n].state = .service ∧ t.str[n].resCode = 0) ∧
    (∀ (s : State) (q : Req) (x : Session) (n : Fin 8), s.serves q x → s.strLease n = true → s.str[n].state = .fault → s.str[n].lockout = false → s.causeInactive n = true → s.channelsAgree = true → s.str[n].auxOpen = true → s.str[n].drives = 0 → s.ring[n].mode ≠ .enumFailed → 
      ∃ t, exec (.stringClear q n) s = .next t ∧ bit t.saf.fab.latchLoop.toNat n = false ∧ bit t.saf.fab.latchGd.toNat n = false ∧ bit t.saf.fab.latchOc.toNat n = false ∧ t.str[n].state = .off ∧ t.saf.cause[n] = 0 ∧ t.str[n].sendReq = false ∧ t.str[n].deadReq = false ∧ t.str[n].contReq = false ∧ bit t.saf.a.faultDem.toNat n = false ∧ bit t.saf.b.faultDem.toNat n = false) ∧
    (∀ (s : State) (q : Req) (x : Session) (n : Fin 8) (reg : Fin 7) (v : Word) (r : Rat), s.serves q x → s.strLease n = true → f32 v = some r → ((s.topo n).bound (0x40 + 4 * reg) (-(2 ^ 128)) (2 ^ 128)).1 ≤ r → r ≤ ((s.topo n).bound (0x40 + 4 * reg) (-(2 ^ 128)) (2 ^ 128)).2 → s.sw2 4 = false → s.str[n].coefCommit = none → 
      ∃ t, exec (.cwWrite q n reg v) s = .next t ∧ t.str[n].coefNext = s.str[n].coefNext ++ [(0x40 + 4 * reg.val, v)] ∧ t.str[n].coeffs = s.str[n].coeffs ∧ t.str[n].resCode = 0) ∧
    (∀ (s : State) (q : Req) (x : Session) (n : Fin 8) (v : Word), s.serves q x → 
      ∃ t, exec (.holdIntWrite q n v) s = .next t ∧ t.str[n].ctl = BitVec.ofNat 3 v.toNat ∧ t.str[n].holdInt = s.str[n].holdInt)

/-- An accepted change of the auxiliary inputs advances the sequence that waits for it, and precharge done enters RUN or HOLD by the bank's state; a precharge that times out drops every coil, is counted and recorded, and leaves PRECHARGE_FAIL in STRn_RESULT; a contactor that disagrees is counted, recorded and faults an active string; the drive passes to its economiser duty; K_NEG opens after its delay; a trip opens after 20 ms whatever the current, recorded where it is 2 A or more. -/
def Obligations.ContactorsComplete : Prop :=
    (∀ (s : State) (n : Fin 8) (aux : BitVec 3), s.str[n].state = .precharge → s.str[n].opening = .none → s.str[n].prech = .kNeg → bit aux.toNat 0 = true → 
      ∃ t, exec (.auxInputChange n aux) s = .next t ∧ t.str[n].aux = aux ∧ t.str[n].prech = .kPreT0 ∧ t.str[n].state = .precharge) ∧
    (∀ (s : State) (n : Fin 8) (aux : BitVec 3), s.str[n].state = .precharge → s.str[n].opening = .none → s.str[n].prech = .kPos → bit aux.toNat 2 = true → 
      ∃ t, exec (.auxInputChange n aux) s = .next t ∧ t.str[n].aux = aux ∧ t.str[n].prech = .kPreOpen ∧ t.str[n].drives = 5) ∧
    (∀ (s : State) (n : Fin 8) (aux : BitVec 3), s.str[n].state = .precharge → s.str[n].opening = .none → s.str[n].prech = .kPreOpen → bit aux.toNat 1 = false → 
      ∃ t, exec (.auxInputChange n aux) s = .next t ∧ (t.str[n].aux = aux ∧ t.str[n].prech = .idle ∧ t.str[n].state = (if s.bank.state = .run then .run else .hold) ∧ t.str[n].loop.xStr = 0)) ∧
    (∀ (s : State) (n : Fin 8), s.room → s.str[n].state = .precharge → s.str[n].prech = .kNeg ∨ s.str[n].prech = .kPreT0 ∨ s.str[n].prech = .kPre → 
      ∃ t, exec (.prechargeTimeout n) s = .next t ∧ t.str[n].drives = 0 ∧ t.str[n].resCode = 0x0507 ∧ State.counted (Reg.str n 0x228) s t ∧ State.recorded 0x8518 (Src.str n) [s.str[n].smp.vstr, (s.str[n].packSum : Int)] s t) ∧
    (∀ (s : State) (n : Fin 8) (i : Fin 3), s.room → 
      ∃ t, exec (.contactorMismatch n i) s = .next t ∧ (t.str[n].contReq = true ∧ t.str[n].state = (if s.str[n].state.active then .fault else s.str[n].state) ∧ State.counted (Reg.str n 0x224) s t ∧ State.recorded 0x8517 (Src.str n) [(i : Nat), b2n (bit s.str[n].drives.toNat i), b2n (bit s.str[n].aux.toNat i)] s t)) ∧
    (∀ (s : State) (n : Fin 8) (i : Fin 3), bit s.str[n].pullin.toNat i = true → 
      ∃ t, exec (.coilPullinEnd n i) s = .next t ∧ t.str[n].pullin = setBit s.str[n].pullin i false ∧ t.str[n].drives = s.str[n].drives ∧ t.out = Out.mk .line (n * 3 + i) "ECONOMISER" [((s.topo n).economiser : Int)] .plain :: s.out) ∧
    (∀ (s : State) (n : Fin 8), s.str[n].opening = .kNegDelay → 
      ∃ t, exec (.kNegReleaseDelay n) s = .next t ∧ t.str[n].drives = 0 ∧ bit t.saf.a.coil.toNat n = false ∧ bit t.saf.b.coil.toNat n = false) ∧
    (∀ (s : State) (n : Fin 8), s.room → s.str[n].opening = .tripWait → 2000 ≤ max s.str[n].smp.istrA.natAbs s.str[n].smp.istrB.natAbs → 
      ∃ t, exec (.tripOpenTimeout n) s = .next t ∧ t.str[n].drives = 0 ∧ State.recorded 0xC51A (Src.str n) [((max s.str[n].smp.istrA.natAbs s.str[n].smp.istrB.natAbs : Nat) : Int)] s t)

/-- At a boundary the ten channels are sampled, the computed duty becomes the running one, and a computation that is still running is a missed deadline, counted and recorded; the computation gives the duty and the loops' state of R136 and R137; an accepted SYNC_IN edge enters the average; a coasted boundary takes the average, counted; thermal weights follow the filtered temperatures, or are 1 with one missing; a valid STATUS frame updates the management view and a bad one is counted; a fibre fault latches the string's gate-driver latch. -/
def Obligations.ControlCycleComplete : Prop :=
    (∀ (s : State) (n : Fin 8) (i : BoundaryIn), s.str[n].state ≠ .disabled → s.str[n].computing = false → 
      ∃ t, exec (.controlCycleBoundary n i) s = .next t ∧ t.str[n].smp = (s.topo n).samples i.raw ∧ t.str[n].computing = true ∧ t.str[n].duty = s.str[n].dutyOut ∧ t.str[n].missConsec = 0) ∧
    (∀ (s : State) (n : Fin 8) (i : BoundaryIn), s.room → s.str[n].state ≠ .disabled → s.str[n].computing = true → 
      ∃ t, exec (.controlCycleBoundary n i) s = .next t ∧ t.str[n].smp = (s.topo n).samples i.raw ∧ t.str[n].computing = true ∧ t.str[n].duty = s.str[n].duty ∧ t.str[n].missFlag = true ∧ State.counted (Reg.str n 0x200) s t ∧ State.recorded 0x8515 (Src.str n) [((min 3 (s.str[n].missConsec + 1) : Nat) : Int)] s t) ∧
    (∀ (s : State) (n : Fin 8) (late : Bool), s.room → s.str[n].computing = true → s.str[n].smp.vbus ≠ 0 → 
      ∃ t, exec (.dutyComputed n late) s = .next t ∧ t.str[n].computing = false ∧ t.str[n].dutyOut = (s.str[n].compute (s.ctlCfg n) (s.perturb n) (s.str[n].feedforward 0)).1.dutyOut ∧ t.str[n].loop = (s.str[n].compute (s.ctlCfg n) (s.perturb n) (s.str[n].feedforward 0)).1.loop ∧ (late = true → State.counted (Reg.str n 0x204) s t)) ∧
    (∀ (s : State) (n : Fin 8) (iv : Nat), (s.topo n).sync = true → s.str[n].state ≠ .disabled → 95 * (s.topo n).pNom ≤ 100 * (s.str[n].syncSince + iv) → 
      ∃ t, exec (.syncInEdge iv) s = .next t ∧ t.str[n].syncSince = 0 ∧ t.str[n].coastRun = 0 ∧ t.str[n].syncIvals = ((s.str[n].syncSince + iv).toNat :: s.str[n].syncIvals).take 16) ∧
    (∀ (s : State) (n : Fin 8), s.room → (s.topo n).sync = true → 
      ∃ t, exec (.syncCoast n) s = .next t ∧ t.str[n].coastRun = min 16 (s.str[n].coastRun + 1) ∧ t.str[n].period = BitVec.ofNat 20 (s.str[n].pAvg (s.topo n)) ∧ State.counted (Reg.str n 0x208) s t ∧ (15 ≤ s.str[n].coastRun → t.str[n].syncLost = true)) ∧
    (∀ (s : State) (n : Fin 8) (p : Fin 6), s.str[n].gd[p].tempIn = none → 
      ∃ t, exec (.thermalBalanceUpdate n) s = .next t ∧ t.str[n].tbalUniform = true ∧ t.str[n].loop.weights = Vector.replicate 6 1) ∧
    (∀ (s : State) (n : Fin 8), ((List.finRange 6).all (fun p => s.str[n].gd[p].tempIn.isSome && s.str[n].gd[p].filt.isNone) = true) → 
      ∃ t, exec (.thermalBalanceUpdate n) s = .next t ∧ (t.str[n].tbalUniform = false ∧ t.str[n].loop.weights = thermalWeights s.str[n].eff.tbalG.toNat s.str[n].eff.tbalWmax.toNat (Vec.updAll (Vector.replicate 6 0) fun i _ => s.str[n].gd[i].tempIn.getD 0))) ∧
    (∀ (s : State) (n : Fin 8) (p : Fin 6) (f : StatusFrame), f.crcOk = true → f.macOk = true → 
      ∃ t, exec (.gdStatusReceived n p f) s = .next t ∧ (t.str[n].gd[p].flags = f.flags ∧ t.str[n].gd[p].seqEcho = f.seqEcho ∧ t.str[n].gd[p].statusRun = 0 ∧ t.str[n].gd[p].temp = (if f.tempL.toInt ≤ f.tempU.toInt then f.tempU else f.tempL))) ∧
    (∀ (s : State) (n : Fin 8) (p : Fin 6) (f : StatusFrame), s.room → f.crcOk = true → f.macOk = false → 
      ∃ t, exec (.gdStatusReceived n p f) s = .next t ∧ State.counted (Reg.str n 0x21C) s t ∧ t.str = s.str) ∧
    (∀ (s : State) (n : Fin 8) (p : Fin 6) (f : StatusFrame), s.room → f.crcOk = false → 
      ∃ t, exec (.gdStatusReceived n p f) s = .next t ∧ State.counted (Reg.str n 0x218) s t ∧ t.str = s.str) ∧
    (∀ (s : State) (n : Fin 8) (p : Fin 6), s.room → 
      ∃ t, exec (.gdFibreFault n p) s = .next t ∧ t.str[n].gd[p].dataFault = true ∧ bit t.saf.fab.latchGd.toNat n = true ∧ State.recorded 0xC81C (Src.gd n p) [(n : Int), (p : Nat)] s t ∧ State.counted 0x1C0100 s t)

/-- From a state of the row and with its conditions met, STANDBY, PRECHARGE with a passed output-stage test, RUN, HOLD, STOP, CLEAR, SERVICE and OFF enter the state of the row: RUN resumes every string in HOLD, HOLD holds every string in RUN, STOP starts a normal stop of every active string, clears the command in force and triggers the learned-values write, CLEAR ends the cause of the bank's FAULT. -/
def Obligations.BankCommandsComplete : Prop :=
    (∀ (s : State) (q : Req) (x : Session), s.serves q x → s.bank.state = .off ∨ s.bank.state = .stop → s.img.cur.valid = true → s.clk.tscValid = true → s.saf.profileOk = true → s.leads = true → s.stringsQuiet = true → 
      ∃ t, exec (.bankStandby q) s = .next t ∧ t.bank.state = .standby ∧ t.bank.resCode = 0) ∧
    (∀ (s : State) (q : Req) (x : Session), s.room → s.serves q x → s.bank.state = .standby → s.bankPermits = true → s.img.profPending = false → 
      ∃ t, exec (.bankPrecharge q none) s = .next t ∧ t.bank.state = .precharge ∧ t.bank.resCode = 0 ∧ t.saf.testUp = some s.clk.upNs ∧ t.saf.testDue = false ∧ State.recorded 0x0820 0x000 [] s t) ∧
    (∀ (s : State) (q : Req) (x : Session), s.serves q x → s.bank.state = .precharge ∨ s.bank.state = .hold → ((s.str.toList.any fun e => e.state.running) = true) → 
      ∃ t, exec (.bankRun q) s = .next t ∧ t.bank.state = .run ∧ t.bank.resCode = 0 ∧ (∀ n : Fin 8, s.str[n].state = .hold → s.str[n].opening = .none → t.str[n].state = .run ∧ t.str[n].loop.ramping = true)) ∧
    (∀ (s : State) (q : Req) (x : Session), s.serves q x → s.bank.state = .run → 
      ∃ t, exec (.bankHold q) s = .next t ∧ t.bank.state = .hold ∧ t.bank.resCode = 0 ∧ (∀ n : Fin 8, s.str[n].state = .run → t.str[n].state = .hold ∧ t.str[n].loop.rampZero = true)) ∧
    (∀ (s : State) (q : Req) (x : Session), s.serves q x → s.bank.state = .run ∨ s.bank.state = .hold → 
      ∃ t, exec (.bankStop q) s = .next t ∧ t.bank.state = .stop ∧ t.bank.inForce = none ∧ t.bank.target = 0 ∧ t.est.learnBusy = true ∧ (∀ n : Fin 8, s.str[n].state.active = true → s.str[n].opening = .none → t.str[n].opening = .rampDown ∧ t.str[n].target = .off ∧ t.str[n].loop.rampZero = true)) ∧
    (∀ (s : State) (q : Req) (x : Session), s.serves q x → s.bank.state = .fault → s.bankCauseGone = true → s.str.toList.all StrEng.auxOpen = true → s.channelsAgree = true → 
      ∃ t, exec (.bankClear q) s = .next t ∧ t.bank.state = .stop ∧ t.bank.faultCauses = [] ∧ t.saf.sf20 = false ∧ t.saf.a.bankDem = false ∧ t.saf.b.bankDem = false) ∧
    (∀ (s : State) (q : Req) (x : Session), s.serves q x → s.bank.state = .stop ∨ s.mayLeaveOff = true → s.bank.state = .off ∨ s.bank.state = .stop → s.roleOf x = .service → 
      ∃ t, exec (.bankService q) s = .next t ∧ t.bank.state = .service ∧ t.bank.resCode = 0) ∧
    (∀ (s : State) (q : Req) (x : Session), s.serves q x → s.bank.state = .off → s.mayLeaveOff = false → s.roleOf x = .service → 
      ∃ t, exec (.bankService q) s = .next t ∧ t.bank.state = .off ∧ t.bank.resCode = 0x0611) ∧
    (∀ (s : State) (q : Req) (x : Session), s.serves q x → s.bank.state = .standby ∨ s.bank.state = .stop ∨ s.bank.state = .service → 
      ∃ t, exec (.bankOff q) s = .next t ∧ t.bank.state = .off ∧ t.bank.resCode = 0)

/-- A DISPATCH that passes Table 6.3 waits for its confirmation under the number set aside for it; the confirmation of the only waiting command, by a good frame not yet taken, journals it under that number with its stamp and the tag of its identity, or answers it as the repeat that it is by then, and one behind an unconfirmed command stays waiting, confirmed; the only waiting command whose confirmation does not come is counted and dropped; the query shows the status of a number; at the split the waiting command accepted in an earlier cycle is in force with its MODE, EXECUTED, and, where no string is in RUN to hand over its ramp value first, the target ramps towards it; outside RUN and HOLD with none in force and no string in RUN every waiting command has lapsed and every share is 0; at 900 us a split still due is made, with none in force every share being 0, and the setpoints and the limits of active strings are published. -/
def Obligations.DispatchComplete : Prop :=
    (∀ (s : State) (q : Req) (x : Session) (body : DispBody), s.serves q x → x.port ≠ .console → s.leads = true → s.twin.releasing = false → s.bank.state = .run ∨ s.bank.state = .hold → s.identRoom x.ident = true → s.dispRepeat x.ident body = none → s.dispOld x.ident body = false → body.zero = 0 → body.flags.toNat ≤ 1 → s.img.cfg.disp.inRange body = true → body.validUntil = 0 → s.bank.acceptedThisCycle ≤ 64 → s.waitingDisp.length + s.bank.wait.length < 256 → 
      ∃ t, exec (.dispatch q body) s = .next t ∧ t.bank.wait = s.bank.wait ++ [{ session := q.session, msgId := q.msg, ident := x.ident, body := body, seq := s.jrn.nextSeq, alone := !s.paired }] ∧ t.bank.acceptedThisCycle = s.bank.acceptedThisCycle ∧ t.jrn = { s.jrn with nextSeq := s.jrn.nextSeq + 1 }) ∧
    (∀ (s : State) (f : TwinFrame) (w : DispWait), s.frameOk f = true → s.twin.taken f.seq = false → s.bank.wait = [w] → w.alone = false → s.dispRepeat w.ident w.body = none → s.dispOld w.ident w.body = false → 
      ∃ t, exec (.dispatchConfirm f w.seq) s = .next t ∧ (t.jrn.nextSeq = s.jrn.nextSeq ∧ t.jrn.disp = s.jrn.disp ++ [{ seq := w.seq, ident := w.ident, body := w.body, accCycle := s.cycle, tsc := s.stampOf 0x080 }] ∧ t.bank.wait = [] ∧ ((t.jrn.identOf w.ident).map fun h => (h.tag, h.seq)) = some (w.body.tag, w.seq)) ∧ t.bank.acceptedThisCycle = s.bank.acceptedThisCycle + 1) ∧
    (∀ (s : State) (f : TwinFrame) (w : DispWait) (k : Nat), s.room → s.frameOk f = true → s.twin.taken f.seq = false → s.bank.wait = [w] → w.alone = false → s.dispRepeat w.ident w.body = some k → 
      ∃ t, exec (.dispatchConfirm f w.seq) s = .next t ∧ t.jrn = s.jrn ∧ t.bank.wait = [] ∧ State.counted 0x190110 s t) ∧
    (∀ (s : State) (f : TwinFrame) (w v : DispWait), s.frameOk f = true → s.twin.taken f.seq = false → s.bank.wait = [w, v] → w.confirmed = false → v.alone = false → w.seq < v.seq → 
      ∃ t, exec (.dispatchConfirm f v.seq) s = .next t ∧ t.jrn = s.jrn ∧ t.bank.wait = [w, { v with confirmed := true }]) ∧
    (∀ (s : State) (w : DispWait), s.room → s.bank.wait = [w] → w.alone = false → w.confirmed = false → 
      ∃ t, exec (.dispatchPeerTimeout w.seq) s = .next t ∧ t.bank.wait = [] ∧ t.jrn = s.jrn ∧ State.counted 0x190100 s t ∧ State.counted 0x200114 s t) ∧
    (∀ (s : State) (q : Req) (x : Session) (v : Word), s.serves q x → 
      ∃ t, exec (.dispatchQuery q v) s = .next t ∧ t.bank.qstat = s.qstat (BitVec.ofNat 64 (v.toNat * 2 ^ 32 + s.bank.qsel.toNat % 2 ^ 32)).toNat) ∧
    (∀ (s : State) (d : DispEntry), s.leads = true → s.bank.state = .run ∨ s.bank.state = .hold → s.waitingDisp = [d] → d.accCycle < s.cycle → d.body.validUntil = 0 → 
      ∃ t, exec (.dispatchSplit) s = .next t ∧ (t.bank.inForce = some d ∧ t.bank.mode = d.body.busMode ∧ ((∀ n : Fin 8, s.str[n].state ≠ .run) → t.bank.target = (s.rampTarget d).bank.target) ∧ t.jrn.disp = s.jrn.disp.map (fun e => if e.seq == d.seq then { e with status := .executed, cycle := s.cycle } else e))) ∧
    (∀ (s : State), s.leads = true → s.bank.state.flowing = false → s.bank.inForce = none → (∀ n : Fin 8, s.str[n].state ≠ .run) → 
      ∃ t, exec (.dispatchSplit) s = .next t ∧ t.bank.eligible = 0 ∧ t.bank.limited = false ∧ t.bank.short = 0 ∧ (∀ d ∈ t.jrn.disp, d.status ≠ .waiting) ∧ (∀ n : Fin 8, t.bank.shares[n].p = 0 ∧ t.bank.shares[n].i = 0)) ∧
    (∀ (s : State), s.leads = true → s.bank.splitDue = true → s.bank.inForce = none → 
      ∃ t, exec (.setpointPublish) s = .next t ∧ t.bank.splitDue = false ∧ (∀ n : Fin 8, t.bank.shares[n].i = 0 ∧ t.bank.shares[n].pubI = 0)) ∧
    (∀ (s : State), s.leads = true → s.bank.splitDue = false → 
      ∃ t, exec (.setpointPublish) s = .next t ∧ (∀ n : Fin 8, t.bank.shares[n].pubI = s.bank.shares[n].i ∧ t.bank.shares[n].limChg = (if s.str[n].state.active then some (pubMa s.est.strs[n].iChg) else none) ∧ t.bank.shares[n].limDis = (if s.str[n].state.active then some (pubMa s.est.strs[n].iDis) else none)))

/-- A running estimation step ends with its sets spent and the bank's state of charge the capacity-weighted mean of the cells of the strings that carry or may carry current; REINIT marks the named strings for their next step; LEARN_NOW and 6 h since the last write start the write of the learned values as they are now; a write that is done leaves its area the newest copy and is recorded with its trigger, a failed one leaves the other area in force and is counted; a balancing decision marks which strings are balanced and journals the charges counted since the last write. -/
def Obligations.EstimationCommandsComplete : Prop :=
    (∀ (s : State), s.est.stepRun = true → 
      ∃ t, exec (.estimationStepDone) s = .next t ∧ (t.est.stepRun = false ∧ t.est.stepDue = false ∧ t.est.stepSets = [] ∧ t.est.upTo = ((s.est.stepSets.getLast?).map (·.cycle)).getD s.est.upTo ∧ t.est.bankSoc = meanSoc (((t.declared.filter fun n => t.str[n].state.running || t.str[n].state == .off || t.str[n].state == .shed).map fun n => t.cellsOf n).flatten))) ∧
    (∀ (s : State) (q : Req) (x : Session) (mask : Byte), s.serves q x → s.leads = true → 
      ∃ t, exec (.reinit q mask) s = .next t ∧ (∀ n : Fin 8, n ∈ stringsOf mask → t.est.strs[n].reinit = true) ∧ t.est.resCode = 0) ∧
    (∀ (s : State) (q : Req) (x : Session), s.serves q x → s.leads = true → s.est.learnBusy = false → 
      ∃ t, exec (.learnNow q) s = .next t ∧ t.est.learnBusy = true ∧ t.est.learnTrig = 2 ^ 6 ∧ t.est.learnWrite = some (s.learnArea s.jrn.nextLearn (2 ^ 6)) ∧ t.jrn.newest = s.jrn.newest ∧ t.est.resCode = 0) ∧
    (∀ (s : State), 21600000000000 ≤ s.learnAge → s.est.learnBusy = false → 
      ∃ t, exec (.learnedValuesWrite) s = .next t ∧ t.est.learnBusy = true ∧ t.est.learnTrig = 1 ∧ t.est.learnWrite = some (s.learnArea s.jrn.nextLearn 1) ∧ t.jrn.newest = s.jrn.newest) ∧
    (∀ (s : State) (a : LearnArea), s.room → s.est.learnWrite = some a → a.valid = true → s.jrn.area0.seq < a.seq → s.jrn.area1.seq < a.seq → 
      ∃ t, exec (.learnWriteDone true) s = .next t ∧ t.jrn.newest = a ∧ t.jrn.balCharge = [] ∧ t.jrn.strCharge = [] ∧ t.jrn.learnDone = some s.now ∧ t.est.learnBusy = s.est.learnPending ∧ State.recorded 0x0712 0x030 [(a.seq : Int), (a.trigger : Int)] s t) ∧
    (∀ (s : State) (a : LearnArea), s.room → s.est.learnWrite = some a → 
      ∃ t, exec (.learnWriteDone false) s = .next t ∧ t.jrn.newest = s.jrn.newest ∧ t.jrn.balCharge = s.jrn.balCharge ∧ t.jrn.learnDone = s.jrn.learnDone ∧ t.est.learnBusy = s.est.learnPending ∧ State.counted 0x180214 s t ∧ State.recorded 0x871A 0x030 [] s t) ∧
    (∀ (s : State) (ok : Bool), s.est.learnWrite = none → 
      ∃ t, exec (.learnWriteDone ok) s = .next t ∧ t = s) ∧
    (∀ (s : State) (n : Fin 8), s.leads = true → n ∈ s.declared → 
      ∃ t, exec (.balancingDecision) s = .next t ∧ (t.est.strs[n].balActive = s.balIncludes n ∧ t.jrn.balCharge = s.est.cells.map (fun e => (e.1, e.2.balQ)) ∧ t.jrn.strCharge = strings.map (fun n => (n.val, s.est.strs[n].chargeJ))))

/-- A channel evaluates the set, whether or not a profile is active: it runs unless it failed, numbers the set, and demands FAULT of an active judged string whose fault loop is open or whose nodes report a comparator or the loop; it services a contactor's trip request; each running channel sends its compare message; a message is good if every field of R208 is, and different enable vectors are noted; a channel that does not run is not judged; the third failing safety cycle, or a silent heartbeat, withdraws every half of the channel, counted and recorded, and with the silent heartbeat the halves of the silent channel have fallen too; a self-test keeps its failed inputs; a passed output test restarts its age; an overdue test is recorded once. -/
def Obligations.SafetyChannelsComplete : Prop :=
    (∀ (s : State) (b : Bool), 
      ∃ t, exec (.safetyEvaluation b) s = .next t ∧ (t.saf.chan b).run = (!(s.saf.chan b).failed) ∧ (t.saf.chan b).setNo = s.cycle) ∧
    (∀ (s : State) (b : Bool) (n : Fin 8), n ∈ s.judged → (s.ring[n].floop == .opened || s.ring[n].nodeFault) = true → s.str[n].state.active = true → n.val * 32 + 1 ∉ (s.saf.chan b).fired → 
      ∃ t, exec (.safetyEvaluation b) s = .next t ∧ t.str[n].state = .fault) ∧
    (∀ (s : State) (b : Bool) (n : Fin 8), (s.saf.chan b).failed = false → s.str[n].contReq = true → s.str[n].mismatch = false → s.str[n].state.active = true → n.val * 32 + 24 ∉ (s.saf.chan b).fired → 
      ∃ t, exec (.tripRequest b n) s = .next t ∧ t.str[n].state = .fault ∧ bit (t.saf.chan b).faultDem.toNat n = true ∧ bit (t.saf.chan b).pwm.toNat n = false) ∧
    (∀ (s : State) (b : Bool) (n : Fin 8), s.room → (s.saf.chan b).failed = false → s.str[n].contReq = true → s.str[n].mismatch = false → s.sweep[n].running = none → n.val * 32 + 24 ∉ (s.saf.chan b).fired → 
      ∃ t, exec (.tripRequest b n) s = .next t ∧ State.recorded 0xC812 (Src.chan b) [(n.val : Int), 24, 0x8517] s t) ∧
    (∀ (s : State), 
      ∃ t, exec (.safetyCrossCompare) s = .next t ∧ (t.saf.a.rxOk = false ∧ t.saf.b.rxOk = false ∧ t.saf.a.msgCtr = (if s.saf.a.run then s.saf.a.msgCtr + 1 else s.saf.a.msgCtr) ∧ t.saf.b.msgCtr = (if s.saf.b.run then s.saf.b.msgCtr + 1 else s.saf.b.msgCtr))) ∧
    (∀ (s : State) (b : Bool) (ok : Bool), 
      ∃ t, exec (.compareMessage b ok) s = .next t ∧ (t.saf.chan b).rxOk = (ok && (s.saf.chan (!b)).run && (s.saf.chan (!b)).msgCtr != (s.saf.chan b).rxCtr && (s.saf.chan (!b)).setNo == (s.saf.chan b).setNo && (s.saf.chan (!b)).profCrc == (s.saf.chan b).profCrc) ∧ t.saf.cmpOk = (t.saf.a.rxOk && t.saf.b.rxOk) ∧ t.saf.enDiff = (s.saf.enDiff || (ok && ((s.saf.chan (!b)).pwm != (s.saf.chan b).pwm || (s.saf.chan (!b)).coil != (s.saf.chan b).coil)))) ∧
    (∀ (s : State), s.room → s.saf.a.faultDem ≠ s.saf.b.faultDem → 
      ∃ t, exec (.compareMessage false true) s = .next t ∧ State.counted 0x1C010C s t ∧ State.recorded 0x4823 (Src.chan false) [(s.saf.a.faultDem.toNat : Int), (s.saf.a.shedDem.toNat : Int), (s.saf.b.faultDem.toNat : Int), (s.saf.b.shedDem.toNat : Int)] s t) ∧
    (∀ (s : State) (b : Bool), (s.saf.chan b).run = false → 
      ∃ t, exec (.compareDeadline b) s = .next t ∧ t.saf = s.saf) ∧
    (∀ (s : State) (b : Bool), (s.saf.chan b).run = true → (s.saf.chan b).rxOk = true → 
      ∃ t, exec (.compareDeadline b) s = .next t ∧ (t.saf.chan b).failRun = 0 ∧ (t.saf.chan b).failed = (s.saf.chan b).failed) ∧
    (∀ (s : State) (b : Bool), s.room → (s.saf.chan b).run = true → (s.saf.chan b).rxOk = false → (s.saf.chan b).failRun = 2 → (s.saf.chan b).failed = false → 
      ∃ t, exec (.compareDeadline b) s = .next t ∧ (t.saf.chan b).failed = true ∧ (t.saf.chan b).pwm = 0 ∧ (t.saf.chan b).coil = 0 ∧ (t.saf.chan b).run = false ∧ State.counted 0x1C0110 s t ∧ State.recorded 0xC816 (Src.chan b) [] s t) ∧
    (∀ (s : State) (b : Bool), s.room → (s.saf.chan b).failed = false → 
      ∃ t, exec (.channelHeartbeatSilent b) s = .next t ∧ (t.saf.chan (!b)).run = false ∧ (t.saf.chan (!b)).pwm = 0 ∧ (t.saf.chan (!b)).coil = 0 ∧ (t.saf.chan b).failed = true ∧ (t.saf.chan b).pwm = 0 ∧ (t.saf.chan b).coil = 0 ∧ (t.saf.chan b).run = false ∧ State.counted 0x1C0110 s t ∧ State.recorded 0xC816 (Src.chan b) [] s t) ∧
    (∀ (s : State) (b : Bool) (l : List FabricIn), 
      ∃ t, exec (.inputSelftest b l) s = .next t ∧ (t.saf.chan b).failIn = l ∧ (t.saf.chan (!b)).failIn = (s.saf.chan (!b)).failIn) ∧
    (∀ (s : State) (q : Req) (x : Session), s.room → s.serves q x → s.leads = true → s.bank.state = .standby → 
      ∃ t, exec (.outputTest q none) s = .next t ∧ t.saf.testUp = some s.clk.upNs ∧ t.saf.testDue = false ∧ t.saf.resCode = 0 ∧ State.recorded 0x0820 0x000 [] s t) ∧
    (∀ (s : State), s.room → s.saf.testDue = false → 
      ∃ t, exec (.testDue) s = .next t ∧ t.saf.testDue = true ∧ State.recorded 0x4825 0x000 [] s t)

/-- Over-current latches the string's latch, is recorded and counted and faults an active string; the emergency stop and EXT_TRIP_N set GLOBAL, open PCS_TRIP, fault every active string and are recorded, with ESTOP counted; settings that differ set FABRIC_CFG_MISMATCH once and the tighter is in force; an emergency stop whose inputs differ is recorded once; a closed input starts its 1 s, the reset is armed once both have been open together and are closed, the coil timer removes coil power and opens every driven contactor; a released input of the fabric starts its time, and a fibre with light again restores the data view. -/
def Obligations.TripFabricComplete : Prop :=
    (∀ (s : State) (n : Fin 8) (b : Bool), s.room → 
      ∃ t, exec (.overCurrent n b) s = .next t ∧ (bit t.saf.fab.latchOc.toNat n = true ∧ t.saf.fab.inOc[n].active = true ∧ State.counted 0x1C0100 s t ∧ State.recorded 0xC81B 0x002 [(n.val : Int), b2n b, if b then s.str[n].smp.istrB else s.str[n].smp.istrA] s t) ∧ (t.str[n].state = (if s.str[n].state.active then .fault else s.str[n].state))) ∧
    (∀ (s : State) (b : Bool), s.room → 
      ∃ t, exec (.estop b) s = .next t ∧ t.saf.fab.global = true ∧ t.saf.fab.pcsOpen = true ∧ t.saf.estopActive = true ∧ t.saf.fab.coilTimer = true ∧ State.counted 0x1C0114 s t ∧ State.recorded 0xC814 0x002 [b2n b] s t ∧ (∀ n : Fin 8, s.str[n].state.active = true → t.str[n].state = .fault)) ∧
    (∀ (s : State), s.room → 
      ∃ t, exec (.extTrip) s = .next t ∧ t.saf.fab.global = true ∧ t.saf.fab.pcsOpen = true ∧ t.saf.fab.extLow.active = true ∧ State.recorded 0xC815 0x002 [] s t ∧ (∀ n : Fin 8, s.str[n].state.active = true → t.str[n].state = .fault)) ∧
    (∀ (s : State) (b : Bool) (thr : List Nat), s.room → thr ≠ (s.saf.chan (!b)).thr → s.saf.fab.cfgMismatch = false → 
      ∃ t, exec (.fabricCfgMismatch b thr) s = .next t ∧ ((t.saf.chan b).thr = thr ∧ t.saf.fab.cfgMismatch = true ∧ t.saf.fab.thrActive = List.zipWith min t.saf.a.thr t.saf.b.thr ∧ State.counted 0x1C011C s t ∧ State.recorded 0x8826 0x002 [] s t)) ∧
    (∀ (s : State), s.room → s.saf.fab.estopA.active ≠ s.saf.fab.estopB.active → s.saf.fab.discrepancy = false → 
      ∃ t, exec (.estopDiscrepancy) s = .next t ∧ t.saf.fab.discrepancy = true ∧ State.counted 0x1C0118 s t ∧ State.recorded 0x4821 0x002 [b2n s.saf.fab.estopB.active] s t) ∧
    (∀ (s : State) (b : Bool), 
      ∃ t, exec (.estopInputClosed b) s = .next t ∧ (b = false → t.saf.fab.estopA = { active := false, inactiveUp := s.clk.upNs } ∧ t.saf.fab.estopB = s.saf.fab.estopB) ∧ (b = true → t.saf.fab.estopB = { active := false, inactiveUp := s.clk.upNs } ∧ t.saf.fab.estopA = s.saf.fab.estopA)) ∧
    (∀ (s : State), s.saf.fab.estopBothOpen = true → s.quiet s.saf.fab.estopA 1000000000 = true → s.quiet s.saf.fab.estopB 1000000000 = true → 
      ∃ t, exec (.estopResetArmed) s = .next t ∧ t.saf.fab.resetArmed = true ∧ t.saf.fab.discrepancy = false) ∧
    (∀ (s : State), s.saf.fab.coilTimer = true → 
      ∃ t, exec (.estopCoilTimer) s = .next t ∧ t.saf.fab.coilPowerOff = true ∧ t.saf.fab.coilTimer = false ∧ (∀ n : Fin 8, t.str[n].drives = 0)) ∧
    (∀ (s : State) (n : Fin 8), 
      ∃ t, exec (.tripInputReleased (.oc n)) s = .next t ∧ t.saf.fab.inOc[n] = { active := false, inactiveUp := s.clk.upNs } ∧ t.str = s.str) ∧
    (∀ (s : State), 
      ∃ t, exec (.tripInputReleased .ext) s = .next t ∧ t.saf.fab.extLow = { active := false, inactiveUp := s.clk.upNs } ∧ t.str = s.str) ∧
    (∀ (s : State) (n : Fin 8) (p : Fin 6), 
      ∃ t, exec (.tripInputReleased (.gd n p)) s = .next t ∧ t.saf.fab.inGd[n][p] = { active := false, inactiveUp := s.clk.upNs } ∧ t.str[n].gd[p].dataFault = false)

/-- A lane that goes down is counted and recorded, and the first lane that comes up ends the old keys and begins a new PAIR_HELLO, which a module that is not zeroised sends; a PAIR_HELLO whose identity, point and signature match PAIR gives a link without keys its two keys once the signature covers the own PAIR_HELLO too, and before that is only answered; one that does not match erases the keys; a rekey that is due begins a new exchange and is announced for two cycles on; heartbeats are sent, and a good one is taken while a bad frame only counts and a frame on a link without keys does nothing. -/
def Obligations.TwinLinkComplete : Prop :=
    (∀ (s : State) (l : Bool), s.room → (if l then s.twin.lane1.up else s.twin.lane0.up) = true → 
      ∃ t, exec (.twinLaneDown l) s = .next t ∧ ((if l then t.twin.lane1.up else t.twin.lane0.up) = false ∧ State.counted 0x20010C s t ∧ State.recorded 0x4913 0x040 [b2n l] s t)) ∧
    (∀ (s : State) (l : Bool), s.twin.lane0.up = false → s.twin.lane1.up = false → s.twin.role ≠ .alone → 
      ∃ t, exec (.twinLaneUp l) s = .next t ∧ ((if l then t.twin.lane1.up else t.twin.lane0.up) = true ∧ t.twin.helloSent = true ∧ t.twin.peerHello = [] ∧ t.twin.ownKey = none ∧ t.twin.peerKey = none ∧ t.twin.txSeq = (if s.trust.keysErased then s.twin.txSeq else s.twin.txSeq + 1))) ∧
    (∀ (s : State) (h : PairHello), s.room → s.twin.role ≠ .alone → s.trust.keysErased = false → 
      ∃ t, exec (.pairHello h) s = .next t ∧ (s.helloFits h = false → t.twin.ownKey = none ∧ t.twin.peerKey = none ∧ State.counted 0x240108 s t ∧ State.recorded 0x8A18 0x040 [b2n h.member] s t) ∧ (s.helloFits h = true → s.helloCovers h = false → t.twin.helloSent = true ∧ t.twin.peerHello = h.body ∧ t.twin.ownKey = s.twin.ownKey ∧ t.twin.peerKey = s.twin.peerKey ∧ t.twin.txSeq = s.twin.txSeq + 1) ∧ (s.helloFits h = true → s.helloCovers h = true → s.twin.ownKey = none → t.twin.peerHello = h.body ∧ t.twin.ownKey = some (t.pairKey t.ident.member h.serial) ∧ t.twin.peerKey = some (t.pairKey (!t.ident.member) h.serial) ∧ t.twin.frames = 0 ∧ t.twin.framesIn = 0 ∧ t.twin.rxSeq = 0)) ∧
    (∀ (s : State), s.twin.ownKey.isSome = true → s.twin.rekeyAt = none → s.rekeyDue = true → 
      ∃ t, exec (.pairRekey) s = .next t ∧ (t.twin.rekeyAt = some (s.cycle + 2) ∧ t.twin.ownKey = s.twin.ownKey ∧ t.twin.nextOwn = none ∧ t.twin.peerHello = [] ∧ t.twin.txSeq = (if s.trust.keysErased then s.twin.txSeq + 1 else s.twin.txSeq + 2))) ∧
    (∀ (s : State), s.twin.role ≠ .alone → s.twin.ownKey.isSome = true → 
      ∃ t, exec (.heartbeatSend) s = .next t ∧ (t.twin.txSeq = s.twin.txSeq + 1 ∧ t.out = Out.mk .twin 0 "HEARTBEAT" ((s.twinBytes 1 s.twin.ownKey s.heartbeat.bytes).map fun b => (b.toNat : Int)) .plain :: s.out)) ∧
    (∀ (s : State) (f : TwinFrame) (h : Heartbeat), s.frameOk f = true → s.twin.taken f.seq = false → s.img.peer = none → 
      ∃ t, exec (.heartbeatReceived f h) s = .next t ∧ t.twin.peer = some h ∧ t.twin.hbOk = true ∧ t.twin.hbTsc = f.tsc ∧ t.twin.rxSeq = (s.twin.take f.seq).rxSeq ∧ t.twin.rxGaps = (s.twin.take f.seq).rxGaps) ∧
    (∀ (s : State) (f : TwinFrame) (h : Heartbeat), s.room → s.twin.peerKey.isSome = true → s.frameOk f = false → 
      ∃ t, exec (.heartbeatReceived f h) s = .next t ∧ t.twin = s.twin ∧ State.counted (Twin.laneCtr f.lane1) s t) ∧
    (∀ (s : State) (f : TwinFrame) (h : Heartbeat), s.twin.peerKey = none → 
      ∃ t, exec (.heartbeatReceived f h) s = .next t ∧ t = s)

/-- A control record is kept by a standby that does not hold the lease, and a complete estimation record, with no profile and no token of the twin's waiting, replaces its states, dispatch state and bank state; an incomplete one changes none of these; the time frame that answers an own one gives the offset from its four stamps and the slew; lost time and differing PTP views are recorded once; accepted work is stored and confirmed, a history record at its place by RSEQ, a write with an older tag is dropped, and a second copy of a frame does nothing; RESYNC and the automatic resync start where every condition of R260 holds, equal journals make a STANDBY, different ones end the attempt, counted and recorded as its other failures are. -/
def Obligations.TwinRecordsComplete : Prop :=
    (∀ (s : State) (f : TwinFrame) (n : Fin 8) (c : CtlRecord), s.frameOk f = true → s.twin.taken f.seq = false → s.twin.str[n].held = false → s.twin.role = .standby → 
      ∃ t, exec (.controlRecordReceived f n c) s = .next t ∧ t.twin.ctl[n] = c ∧ t.twin.ctlMiss[n] = 0 ∧ t.twin.str[n].peer = true ∧ t.twin.str[n].expiry = s.clk.upNs + 100000 ∧ t.twin.str[n].epoch = maxBv s.twin.str[n].epoch c.epoch) ∧
    (∀ (s : State) (f : TwinFrame) (e : EstRecord), s.frameOk f = true → s.twin.taken f.seq = false → s.twin.role = .standby → e.complete = true → s.trust.peerToken = none → s.img.profPending = false → 
      ∃ t, exec (.estimationRecordReceived f e) s = .next t ∧ t.est.cells = e.merge s.img.cfg.model s.est.cells ∧ t.est.strs = e.strs ∧ t.est.upTo = e.upTo ∧ t.jrn = Journal.ofRecord e s.jrn ∧ t.twin.estMiss = 0 ∧ t.bank.state = e.state ∧ t.bank.target = e.target ∧ t.bank.inForce = e.inForce) ∧
    (∀ (s : State) (f : TwinFrame) (e : EstRecord), s.frameOk f = true → s.twin.taken f.seq = false → e.complete = false → 
      ∃ t, exec (.estimationRecordReceived f e) s = .next t ∧ t.est = s.est ∧ t.jrn = s.jrn ∧ t.bank = s.bank ∧ t.twin.estMiss = s.twin.estMiss) ∧
    (∀ (s : State) (f : TwinFrame) (arrived : BitVec 32) (renew : List (LeaseId × BitVec 32)), s.frameOk f = true → s.twin.taken f.seq = false → s.twin.role = .standby → arrived ≠ 0 → s.twin.timeOut ≠ 0 → (s.twoWay f arrived).natAbs ≤ 4000000000 → 
      ∃ t, exec (.timeFrameReceived f arrived renew) s = .next t ∧ t.twin.tscOfs = satInt 32 (s.twoWay f arrived) ∧ t.twin.timeTsc = f.tsc ∧ t.clk.slewRem = s.twoWay f arrived * 2 ^ 30 ∧ t.clk.tscFix = s.clk.tscFix) ∧
    (∀ (s : State) (u : Nat), s.room → s.twin.timeLost = false → s.twin.ofsSince = some u → 1000000 ≤ s.since u → 
      ∃ t, exec (.twinTimeUnlock) s = .next t ∧ t.twin.timeLost = true ∧ State.counted 0x200110 s t ∧ State.recorded 0x4918 0x090 [(s.twin.timeIn : Int), (s.twin.timeIn : Int), (s.twin.timeTsc : Int), (s.twin.timeTsc : Int), s.twin.tscOfs] s t) ∧
    (∀ (s : State) (u : Nat), s.room → s.twin.ptpLost = false → s.twin.ptpSince = some u → 1000000000 ≤ s.since u → 
      ∃ t, exec (.twinPtpDiff) s = .next t ∧ (t.twin.ptpLost = true ∧ State.counted 0x200110 s t ∧ State.recorded 0x4914 0x090 (ints [s.ptp.view.toNat, s.now, (s.twin.peer.map fun h => h.ptpView.toNat).getD 0, s.twin.hbTsc]) s t)) ∧
    (∀ (s : State) (f : TwinFrame) (e : DispEntry), s.frameOk f = true → s.twin.taken f.seq = false → s.twin.role ≠ .alone → 
      ∃ t, exec (.acceptedWorkReceived f (.dispatch e)) s = .next t ∧ (t.jrn.disp = s.jrn.disp.filter (fun d => d.seq ≠ e.seq) ++ [e] ∧ t.jrn.nextSeq = max s.jrn.nextSeq (e.seq + 1) ∧ ((t.jrn.identOf e.ident).map fun h => (h.tag, h.seq)) = some (e.body.tag, e.seq)) ∧ (s.twin.ownKey.isSome = true → t.twin.txSeq = s.twin.txSeq + 1 ∧ t.out = Out.mk .twin 0 "CONFIRM" ((s.twinBytes (Config.twinType "CONFIRM") s.twin.ownKey (Config.twinBody (.nums [0, (e.seq : Int)]))).map fun b => (b.toNat : Int)) (.nums [0, (e.seq : Int)]) :: s.out)) ∧
    (∀ (s : State) (f : TwinFrame) (e : JEntry) (ident : Nat) (wtag : BitVec 64), s.frameOk f = true → s.twin.taken f.seq = false → s.twin.role ≠ .alone → ((((s.jrn.identOf ident).map fun h => h.jseq ≠ 0 && wtag ≤ h.wtag).getD false) = false) → 
      ∃ t, exec (.acceptedWorkReceived f (.write e ident wtag)) s = .next t ∧ (t.jrn.writes = s.jrn.writes.filter (fun x => x.addr ≠ e.addr) ++ [e] ∧ t.jrn.nextJseq = max s.jrn.nextJseq (e.jseq + 1)) ∧ (s.twin.ownKey.isSome = true → t.twin.txSeq = s.twin.txSeq + 1 ∧ t.out = Out.mk .twin 0 "CONFIRM" ((s.twinBytes (Config.twinType "CONFIRM") s.twin.ownKey (Config.twinBody (.nums [1, (e.jseq : Int)]))).map fun b => (b.toNat : Int)) (.nums [1, (e.jseq : Int)]) :: s.out)) ∧
    (∀ (s : State) (f : TwinFrame) (e : JEntry) (ident : Nat) (wtag : BitVec 64) (h : HostIdent), s.frameOk f = true → s.twin.taken f.seq = false → s.jrn.identOf ident = some h → h.jseq ≠ 0 → wtag ≤ h.wtag → 
      ∃ t, exec (.acceptedWorkReceived f (.write e ident wtag)) s = .next t ∧ t.jrn = s.jrn) ∧
    (∀ (s : State) (f : TwinFrame) (r : HistRec), s.frameOk f = true → s.twin.taken f.seq = true → 
      ∃ t, exec (.acceptedWorkReceived f (.history r)) s = .next t ∧ t = s) ∧
    (∀ (s : State) (f : TwinFrame) (r : HistRec), s.frameOk f = true → s.twin.taken f.seq = false → s.twin.role ≠ .alone → s.hist.nv.freedTo < r.rseq → 
      ∃ t, exec (.acceptedWorkReceived f (.history r)) s = .next t ∧ t.hist.nv.ring = Hist.insert r s.hist.nv.ring ∧ t.hist.nv.nextRseq = max s.hist.nv.nextRseq (r.rseq + 1) ∧ (s.twin.ownKey.isSome = true → t.twin.txSeq = s.twin.txSeq + 1 ∧ t.out = Out.mk .twin 0 "CONFIRM" ((s.twinBytes (Config.twinType "CONFIRM") s.twin.ownKey (Config.twinBody (.nums [2, (r.rseq : Int)]))).map fun b => (b.toNat : Int)) (.nums [2, (r.rseq : Int)]) :: s.out)) ∧
    (∀ (s : State) (q : Req) (x : Session) (h : Heartbeat), s.serves q x → s.img.cfg.paired = true → s.twin.role = .unsynced → s.twin.resync = .idle → s.twin.fenceIn = false → s.twin.hbOk = true → s.twin.peer = some h → h.role = .active → h.member ≠ s.ident.member → h.cfgDigest = s.cfgDigest16 → s.versionsOk h = true → 
      ∃ t, exec (.resync q) s = .next t ∧ t.twin.resync = .time ∧ t.twin.resyncUp = s.clk.upNs ∧ t.twin.resCode = 0) ∧
    (∀ (s : State) (peerTsc : Nat) (h : Heartbeat), s.twin.role = .unsynced → s.twin.resync = .idle → s.img.cfg.pair.autoResync = true → s.twin.resyncTried = false → s.twin.fenceIn = false → s.twin.hbOk = true → s.twin.peer = some h → h.role = .active → h.member ≠ s.ident.member → h.cfgDigest = s.cfgDigest16 → s.versionsOk h = true → 
      ∃ t, exec (.axolotlResyncStart peerTsc) s = .next t ∧ t.twin.resync = .time ∧ t.twin.resyncUp = s.clk.upNs) ∧
    (∀ (s : State) (c : ResyncCopy), s.room → s.twin.role = .unsynced → s.twin.resync ≠ .idle → c.digestOk = true → 
      ∃ t, exec (.axolotlDone c) s = .next t ∧ (t.twin.role = .standby ∧ t.twin.resync = .idle ∧ t.jrn.disp = c.jrn.disp ∧ t.jrn.writes = c.jrn.writes ∧ t.est.cells.map (fun e => (e.1, e.2.learn)) = c.cells.map (fun e => (e.1, e.2.learn)) ∧ t.est.learnBusy = true ∧ t.twin.ctl = c.ctl ∧ State.recorded 0x0911 0x040 [] s t)) ∧
    (∀ (s : State) (c : ResyncCopy), s.room → s.twin.role = .unsynced → s.twin.resync ≠ .idle → c.digestOk = false → 
      ∃ t, exec (.axolotlDone c) s = .next t ∧ t.twin.role = .unsynced ∧ t.twin.resync = .idle ∧ t.twin.resyncTried = true ∧ t.jrn = s.jrn ∧ State.counted 0x20011C s t ∧ State.recorded 0x8919 0x040 [6, (s.jrn.learnSeq : Int), (s.now : Int), (c.jrn.learnSeq : Int), (s.twin.timeTsc : Int)] s t) ∧
    (∀ (s : State) (stp : ResyncStep), s.room → s.twin.resync ≠ .idle → 
      ∃ t, exec (.resyncFail stp) s = .next t ∧ t.twin.resync = .idle ∧ t.twin.resyncTried = true ∧ State.counted 0x20011C s t ∧ State.recorded 0x8919 0x040 [(stp.code : Int)] s t)

/-- A silent twin with ACTIVE_IN low is fenced by the active member, and with ACTIVE_IN high a standby records the lost link and becomes unsynced; leases are renewed, expire and are claimed as R240 to R242 say, the first STRING claim of a takeover makes the survivor ACTIVE, and with the last lease claimed, here a PACK lease, the takeover is done, counted and recorded with the epochs; a standby that sees ACTIVE fall without RELEASING fences; the fence goes out after its wait, is confirmed into a takeover, or is given up; FENCE_IN cuts the coils, is recorded, takes every lease and makes a paired member FENCED, and its release makes it unsynced. -/
def Obligations.LeasesAndFencingComplete : Prop :=
    (∀ (s : State), s.room → s.twin.role = .active → s.twin.activeIn = .low → s.twin.fenceIn = false → s.twin.fenceOut = false → s.twin.fenceWait = false → s.saf.a.failed = false → s.saf.b.failed = false → s.ident.member = false → 
      ∃ t, exec (.heartbeatTimeout) s = .next t ∧ t.twin.hbOk = false ∧ t.twin.fenceOut = true ∧ t.twin.fenceHalfA = true ∧ t.twin.fenceHalfB = true ∧ State.counted 0x200104 s t) ∧
    (∀ (s : State), s.room → s.twin.role = .standby → s.twin.activeIn = .high → 11 ∉ s.twin.disagree → 
      ∃ t, exec (.heartbeatTimeout) s = .next t ∧ (t.twin.hbOk = false ∧ t.twin.role = .unsynced ∧ t.twin.fenceOut = s.twin.fenceOut ∧ State.counted 0x200110 s t ∧ State.recorded 0x4917 0x040 (ints [Role.code .standby, s.now, (s.twin.peer.map fun h => h.role.code).getD 7, s.twin.hbTsc]) s t)) ∧
    (∀ (s : State), s.twin.selfFault = false → s.trust.keysErased = false → 
      ∃ t, exec (.leaseTick) s = .next t ∧ (∀ n : Fin 8, s.twin.ring[n].held = true → t.twin.ring[n].expiry = s.clk.upNs + 100000 ∧ t.twin.ring[n].held = true) ∧ (s.twin.hist.held = true → t.twin.hist.expiry = s.clk.upNs + 100000)) ∧
    (∀ (s : State) (l : LeaseId), (s.twin.lease l).held = true → 
      ∃ t, exec (.leaseExpiry l) s = .next t ∧ (t.twin.lease l).held = false ∧ (t.twin.lease l).epoch = (s.twin.lease l).epoch) ∧
    (∀ (s : State) (n : Fin 8), s.twin.ring[n].held = true → 
      ∃ t, exec (.leaseExpiry (.ring n)) s = .next t ∧ t.repeating n = (s.img.cfg.paired && s.twin.role != .alone)) ∧
    (∀ (s : State) (n : Fin 8), s.twin.fenceConf = true → s.twin.takeover = true → s.twin.activeIn = .low → s.leaseFree (.ring n) = true → 
      ∃ t, exec (.leaseClaim (.ring n)) s = .next t ∧ t.twin.ring[n].held = true ∧ t.twin.ring[n].epoch = maxBv s.twin.ring[n].epoch (Sparse.get s.jrn.epochs (8 + n) 0) + 1 ∧ t.repeating n = false) ∧
    (∀ (s : State) (n : Fin 8), s.room → s.twin.fenceConf = true → s.twin.takeover = true → s.twin.activeIn = .low → s.leaseFree (.str n) = true → 
      ∃ t, exec (.leaseClaim (.str n)) s = .next t ∧ t.twin.str[n].held = true ∧ t.twin.role = .active ∧ t.twin.activeOut = true) ∧
    (∀ (s : State) (n : Fin 8) (k : Fin 24), s.room → s.twin.fenceConf = true → s.twin.takeover = true → s.twin.activeIn = .low → s.leaseFree (.pack n k) = true → (∀ l ∈ LeaseId.all, l ≠ .pack n k → (s.twin.lease l).held = true) → 
      ∃ t, exec (.leaseClaim (.pack n k)) s = .next t ∧ (t.twin.takeover = false ∧ (∀ l ∈ LeaseId.all, (t.twin.lease l).held = true) ∧ State.counted 0x200100 s t ∧ State.recorded 0x0912 0x040 (ints t.epochs) s t)) ∧
    (∀ (s : State) (v : Line3), v = .low → s.twin.activeIn = .high → s.twin.role = .standby → s.twin.hand ≠ .released → ((s.twin.peer.map fun h => bit h.flags.toNat 7).getD false = false) → s.twin.fenceIn = false → s.twin.fenceOut = false → s.twin.fenceWait = false → s.saf.a.failed = false → s.saf.b.failed = false → s.ident.member = false → 
      ∃ t, exec (.activeInChange v) s = .next t ∧ t.twin.activeIn = .low ∧ t.twin.fenceOut = true ∧ t.twin.failDetected = true) ∧
    (∀ (s : State), s.room → s.twin.fenceWait = true → s.twin.fenceIn = false → 
      ∃ t, exec (.fenceWaitEnd) s = .next t ∧ t.twin.fenceOut = true ∧ t.twin.fenceWait = false ∧ State.counted 0x200104 s t) ∧
    (∀ (s : State), s.room → s.twin.fenceOut = true → s.twin.fenceConf = false → s.twin.role = .standby → 
      ∃ t, exec (.fenceConfirmed) s = .next t ∧ t.twin.fenceConf = true ∧ t.twin.takeover = true ∧ State.recorded 0xC91E 0x040 [] s t) ∧
    (∀ (s : State), s.room → s.twin.fenceOut = true → s.twin.fenceConf = false → 
      ∃ t, exec (.fenceUnconfirmed) s = .next t ∧ (t.twin.failDetected = false ∧ t.twin.role = (if s.twin.role = .standby then .unsynced else s.twin.role) ∧ State.recorded 0x891A 0x040 [] s t)) ∧
    (∀ (s : State), s.twin.role ≠ .alone → s.twin.role ≠ .fenced → 
      ∃ t, exec (.fenceInActive) s = .next t ∧ t.twin.fenceIn = true ∧ t.twin.role = .fenced ∧ t.twin.activeOut = false ∧ t.twin.fenceOut = false ∧ (∀ n : Fin 8, t.twin.str[n].held = false ∧ t.twin.ring[n].held = false ∧ t.repeating n = s.img.cfg.paired)) ∧
    (∀ (s : State), s.room → s.twin.role ≠ .fenced → (∀ n : Fin 8, s.ring[n].enumRun = none) → 
      ∃ t, exec (.fenceInActive) s = .next t ∧ t.twin.fenceIn = true ∧ State.recorded 0xC91F 0x040 [] s t) ∧
    (∀ (s : State), s.twin.role = .alone → 
      ∃ t, exec (.fenceInActive) s = .next t ∧ (t.twin.fenceIn = true ∧ t.twin.role = .alone ∧ ∀ n : Fin 8, t.coilPower n = 0)) ∧
    (∀ (s : State), s.twin.role = .fenced → 
      ∃ t, exec (.fenceInReleased) s = .next t ∧ t.twin.fenceIn = false ∧ t.twin.role = .unsynced)

/-- Formation claims every lease; a standby without copies is desynced; the commanded switchover waits two cycles, releases every lease at 990 us and is taken by the standby; UNFENCE releases the fence; held outputs end with the coils down and, on a member that is not fenced, PCS_TRIP open. -/
def Obligations.PairAndHandoverComplete : Prop :=
    (∀ (s : State), s.mayForm = true → 
      ∃ t, exec (.pairFormation false) s = .next t ∧ t.twin.role = .active ∧ t.twin.activeOut = true ∧ t.twin.hist.held = true ∧ (∀ n : Fin 8, t.twin.str[n].held = true ∧ t.twin.ring[n].held = true ∧ t.repeating n = false)) ∧
    (∀ (s : State), s.twin.estMiss = 3 → s.twin.role = .standby → 
      ∃ t, exec (.standbyDesync) s = .next t ∧ t.twin.role = .unsynced) ∧
    (∀ (s : State) (q : Req) (x : Session), s.serves q x → s.img.cfg.paired = true → s.twin.role = .active → s.mayHandOver = true → 
      ∃ t, exec (.switchover q) s = .next t ∧ t.twin.hand = .commanded ∧ t.twin.handCycle = s.cycle + 2 ∧ t.twin.resCode = 0) ∧
    (∀ (s : State), s.twin.hand = .running → s.twin.role = .active → s.twin.selfFault = false → 
      ∃ t, exec (.switchoverRelease) s = .next t ∧ t.twin.role = .standby ∧ t.twin.activeOut = false ∧ t.twin.hand = .none ∧ t.twin.releasing = false ∧ t.hist.state = .notWriter ∧ (∀ n : Fin 8, t.twin.str[n].held = false ∧ t.twin.ring[n].held = false ∧ t.repeating n = s.img.cfg.paired)) ∧
    (∀ (s : State) (f : TwinFrame) (leases : List LeaseId), s.frameOk f = true → s.twin.taken f.seq = false → s.twin.role = .standby → s.twin.activeIn ≠ .low → 
      ∃ t, exec (.releaseReceived f leases) s = .next t ∧ t.twin.hand = .released ∧ (∀ l ∈ leases, (t.twin.lease l).released = true ∧ (t.twin.lease l).peer = false)) ∧
    (∀ (s : State) (q : Req) (x : Session) (h : Heartbeat) (u : Nat), s.serves q x → s.img.cfg.paired = true → s.twin.fenceOut = true → s.roleOf x = .service → s.twin.peer = some h → s.twin.fenceBoot.toNat < h.bootCount.toNat → s.twin.peerHbSince = some u → 1000000000 ≤ s.since u → 
      ∃ t, exec (.unfence q) s = .next t ∧ t.twin.fenceOut = false ∧ t.twin.fenceConf = false ∧ t.twin.resCode = 0) ∧
    (∀ (s : State), s.twin.hold = true → 
      ∃ t, exec (.outputHoldExpiry) s = .next t ∧ t.twin.hold = false ∧ t.saf.fab.pcsOpen = (s.saf.fab.pcsOpen || !s.twin.fenceIn) ∧ (∀ n : Fin 8, t.str[n].drives = 0))

/-- Under conditions on the state and operands alone, APPLY_TOKEN, TOKEN_EFFECT, SEC_COMMIT, GD_SESSION, BIND_RING, GD_SESSION_FRAME, ATTEST and TAMPER_DETECTED each answer a next state with their own effect: APPLY_TOKEN makes the buffer's token pending exactly where every check of Table 10.4 passes and else leaves the code in TRUST_RESULT; at the T0 a pending token of a lone module takes effect, its COUNTER is kept, a LOCK token sets the lock and an UNLOCK token clears it; SEC_COMMIT raises the lowest accepted security version to the running firmware's; GD_SESSION ends the six sessions of each named string and, on a module that is not zeroised, begins new ones with HELLO; BIND_RING sets both BIND masks; NODE_ID and NODE_SIG of the gate driver that ALLOWLIST names bring the session to its key, any other ends it, counted, and DONE with a right MAC brings the key into force; ATTEST answers with the signed message; a tamper reports or zeroises by TAMPER_RESPONSE; BACKUP_LOW and BACKUP_FAIL keep the measured voltage and their flag. -/
def Obligations.TrustCommandsComplete : Prop :=
    (∀ (s : State) (q : Req) (x : Session), s.serves q x → 
      ∃ t, exec (.applyToken q) s = .next t ∧ (s.tokenCode x = 0 → t.trust.pending = Token.parse s.trust.buffer ∧ t.trust.resCode = 0) ∧ (s.tokenCode x ≠ 0 → t.trust.pending = s.trust.pending ∧ t.trust.resCode = BitVec.ofNat 16 (s.tokenCode x))) ∧
    (∀ (s : State) (k : Token), s.trust.pending = some k → s.trust.pendTarget = none → s.paired = false → 
      ∃ t, exec (.tokenEffect) s = .next t ∧ t.trust.pending = none ∧ t.trust.nv.tokenCtr = k.counter ∧ (k.kind = 5 → t.trust.nv.lock = true) ∧ (k.kind = 6 → t.trust.nv.lock = false)) ∧
    (∀ (s : State) (q : Req) (x : Session), s.serves q x → s.roleOf x = .service → s.trust.nv.secVersion.toNat < s.running.secVersion → 
      ∃ t, exec (.secCommit q) s = .next t ∧ t.trust.nv.secVersion = BitVec.ofNat 32 s.running.secVersion ∧ t.trust.resCode = 0) ∧
    (∀ (s : State) (q : Req) (x : Session) (m : Byte), s.serves q x → (∀ n ∈ stringsOf m, s.str[n].state ≠ .precharge ∧ s.str[n].state ≠ .run ∧ s.str[n].state ≠ .hold) → 
      ∃ t, exec (.gdSession q m) s = .next t ∧ (∀ n ∈ stringsOf m, ∀ p : Fin 6, t.str[n].gd[p].session = false ∧ t.str[n].gd[p].sess.map (·.step) = (if s.trust.keysErased then none else some 1)) ∧ t.trust.resCode = 0) ∧
    (∀ (s : State) (q : Req) (x : Session) (m : Byte), s.serves q x → s.roleOf x = .service → 
      ∃ t, exec (.bindRing q m) s = .next t ∧ t.trust.bindRing = s.trust.bindRing ||| m ∧ t.trust.bindGd = s.trust.bindGd ||| m) ∧
    (∀ (s : State) (n : Fin 8) (p : Fin 6) (f : SessFrame) (r : SessRun), s.str[n].gd[p].sess = some r → s.since r.startUp ≤ 10000000 → r.step = 5 → f.step = 6 → f.mac = r.doneMac → 
      ∃ t, exec (.gdSessionFrame n p f) s = .next t ∧ t.str[n].gd[p].session = true ∧ t.str[n].gd[p].key = some r.key ∧ t.str[n].gd[p].sess = none) ∧
    (∀ (s : State) (n : Fin 8) (p : Fin 6) (f : SessFrame) (r : SessRun), s.str[n].gd[p].sess = some r → s.since r.startUp ≤ 10000000 → r.step = 1 → f.step = 2 → 
      ∃ t, exec (.gdSessionFrame n p f) s = .next t ∧ (s.partnerOk (s.img.cfg.gdIdent n p) r f = true → t.str[n].gd[p].sess.map (fun u => (u.step, u.key)) = some (5, SessRun.keyOf (r.afterId f) "LX-GD-LINK" s.ident.serial.toNat n p)) ∧ (s.partnerOk (s.img.cfg.gdIdent n p) r f = false → t.str[n].gd[p].sess = none ∧ t.str[n].gd[p].session = false ∧ State.counted 0x240104 s t)) ∧
    (∀ (s : State) (q : Req) (x : Session) (nonce : Nat), s.prompt q x → s.trust.nv.owner ≠ .zeroised → 
      ∃ t, exec (.attest q nonce) s = .next t ∧ t.out = q.answer 7 0 (s.attestBody nonce ++ s.signWith 0 (s.attestBody nonce)) :: s.out) ∧
    (∀ (s : State) (source rtc : Nat), s.trust.policyReport = true → s.trust.nv.owner ≠ .unowned → 
      ∃ t, exec (.tamperDetected source rtc) s = .next t ∧ t.trust.nv.tampered = true ∧ t.trust.nv.owner = s.trust.nv.owner ∧ t.trust.nv.trk = s.trust.nv.trk) ∧
    (∀ (s : State) (source rtc : Nat), s.trust.policyReport = false ∨ s.trust.nv.owner = .unowned → 
      ∃ t, exec (.tamperDetected source rtc) s = .next t ∧ t.trust.nv.owner = .zeroised ∧ t.trust.nv.trk = false ∧ t.trust.nv.roots = [] ∧ t.trust.nv.keys = [] ∧ t.trust.pending = none ∧ t.trust.keysErased = true ∧ t.twin.ownKey = none ∧ t.twin.peerKey = none) ∧
    (∀ (s : State) (mv : BitVec 16), 
      ∃ t, exec (.backupLow mv) s = .next t ∧ t.trust.backupMv = mv ∧ t.trust.backupLow = decide (mv.toNat < 2700)) ∧
    (∀ (s : State) (mv : BitVec 16) (c : Bool), 
      ∃ t, exec (.backupFail mv c) s = .next t ∧ t.trust.backupMv = mv ∧ t.trust.backupFail = (c || decide (mv.toNat < 2400)))

/-- A record that the intake admits enters the ring under the next RSEQ, and a refused one leaves the ring and begins a run of refusals; a NOTE from a session that may write enters as HOST_NOTE; a completed chunk write frees the covered ring space; a failed command is reissued once and then fails the copy, and a command of a copy that has failed is only counted; a read completion ends the resumption of a store that is not full, advances a rebuild or reserves the copy; a checkpoint takes the rate of the second and the digest over the open segment's bytes, and waits while the segment is read back. -/
def Obligations.HistoryIntakeComplete : Prop :=
    (∀ (s : State) (kind : BitVec 16) (src : Nat) (body : List Byte), s.writes = true → Src.listed src = true → s.intakeCode (Hist.recLen body.length) = 0 → s.hist.gapDue = false → 
      ∃ t, exec (.historyAdmission kind src body) s = .next t ∧ (∃ r more, t.hist.nv.ring = s.hist.nv.ring ++ r :: more ∧ t.hist.nv.nextRseq = s.hist.nv.nextRseq + 1 + more.length ∧ r.kind = kind ∧ r.source = src ∧ r.len = Hist.recLen body.length ∧ r.rseq = s.hist.nv.nextRseq ∧ r.tsc = s.now ∧ r.body = body)) ∧
    (∀ (s : State) (kind : BitVec 16) (src : Nat) (body : List Byte), s.writes = true → Src.listed src = true → s.intakeCode (Hist.recLen body.length) ≠ 0 → 
      ∃ t, exec (.historyAdmission kind src body) s = .next t ∧ t.hist.nv.ring = s.hist.nv.ring ∧ t.hist.refusing = true ∧ t.hist.nv.nextRseq = s.hist.nv.nextRseq) ∧
    (∀ (s : State) (kind : BitVec 16) (src : Nat) (body : List Byte), Src.listed src = false ∨ s.writes = false → 
      ∃ t, exec (.historyAdmission kind src body) s = .next t ∧ t = s) ∧
    (∀ (s : State) (q : Req) (x : Session) (text : List Byte), s.serves q x → 1 ≤ text.length → text.length ≤ 4000 → s.writes = true → s.intakeCode (Hist.recLen text.length) = 0 → s.hist.gapDue = false → 
      ∃ t, exec (.note q text) s = .next t ∧ (∃ r more, t.hist.nv.ring = s.hist.nv.ring ++ r :: more ∧ r.kind = 0x30 ∧ r.source = 0x080 ∧ r.rseq = s.hist.nv.nextRseq ∧ r.body = text)) ∧
    (∀ (s : State) (rseq : Nat), 16 < s.hist.nv.freeSeg → 
      ∃ t, exec (.shelfWriteDone rseq) s = .next t ∧ (t.hist.nv.ring = s.hist.nv.ring.filter (fun r => decide (r.rseq > rseq)) ∧ t.hist.wseq = rseq ∧ t.hist.freed = true)) ∧
    (∀ (s : State) (b : Bool) (cmd : Nat), s.room → (s.hist.copy b).state ≠ .failed → cmd ∉ (s.hist.copy b).reissued → 
      ∃ t, exec (.shelfCommandFail b cmd) s = .next t ∧ (t.hist.copy b).reissued = cmd :: (s.hist.copy b).reissued ∧ (t.hist.copy b).state = (s.hist.copy b).state ∧ State.counted 0x280108 s t) ∧
    (∀ (s : State) (b : Bool) (cmd : Nat), s.room → (s.hist.copy b).state ≠ .failed → cmd ∈ (s.hist.copy b).reissued → 
      ∃ t, exec (.shelfCommandFail b cmd) s = .next t ∧ (t.hist.copy b).state = .failed ∧ State.counted 0x280108 s t ∧ State.recorded 0x8B17 0x060 [(b2n b : Int)] s t) ∧
    (∀ (s : State) (b : Bool) (cmd : Nat), (s.hist.copy b).state = .failed → 
      ∃ t, exec (.shelfCommandFail b cmd) s = .next t ∧ t.hist = s.hist ∧ t.out = s.out ∧ State.counted 0x280108 s t) ∧
    (∀ (s : State) (b : Bool) (d : List Byte), s.hist.state = .resuming → s.hist.takeover = false → s.hist.full = false → s.hist.late = [] → s.hist.ckDue = false → 
      ∃ t, exec (.shelfReadDone b (.openSegment d)) s = .next t ∧ (t.hist.resumeAt = 0 ∧ t.hist.state = if s.hist.a.state == .inSync || s.hist.b.state == .inSync then .writing else .stalled) ∧ (s.hist.checkOk d = false → t.hist.nv.segOpen = false ∧ State.counted 0x28010C s t)) ∧
    (∀ (s : State) (b ok : Bool), (s.hist.copy b).state = .rebuilding → 
      ∃ t, exec (.shelfReadDone b (.sealedSegment ok)) s = .next t ∧ (t.hist.copy b).rebuilt = (s.hist.copy b).rebuilt + 1) ∧
    (∀ (s : State) (b : Bool), 
      ∃ t, exec (.shelfReadDone b .reservation) s = .next t ∧ (t.hist.copy b).reserved = true) ∧
    (∀ (s : State), 
      ∃ t, exec (.checkpoint) s = .next t ∧ t.hist.rate = BitVec.ofNat 32 s.hist.secBytes) ∧
    (∀ (s : State), s.hist.nv.segOpen = true → s.writes = true → s.hist.state = .resuming → 
      ∃ t, exec (.checkpoint) s = .next t ∧ t.hist.ckDue = true ∧ t.hist.nv = s.hist.nv) ∧
    (∀ (s : State), s.hist.nv.segOpen = true → s.writes = true → s.hist.state ≠ .resuming → s.intakeCode 208 = 0 → s.hist.gapDue = false → s.hist.nv.offset + 208 ≤ Hist.recordEnd → 
      ∃ t, exec (.checkpoint) s = .next t ∧ (t.hist.nv.ckDigest = Config.sha384 s.hist.segBytes ∧ t.hist.nv.ckOffset = s.hist.nv.offset ∧ ∃ r more, t.hist.nv.ring = s.hist.nv.ring ++ r :: more ∧ r.kind = 3 ∧ r.offset = s.hist.nv.offset ∧ r.len = 208))

/-- ATTACH keeps the namespace's capacity and rebuilds the copy from one that is IN_SYNC, or with none takes a blank namespace to be labelled and one of the store as IN_SYNC; a finished rebuild is IN_SYNC; NEW_STORE ends STORE_FULL under an identity that is an open value, with LABEL and CERT as its first records; SEAL seals the open segment, whose seal is kept while it is read back (the model's reading, log 131); SELECT_PROFILE holds the profile for the next second, at which it takes effect and is recorded. -/
def Obligations.HistoryCopiesComplete : Prop :=
    (∀ (s : State) (q : Req) (x : Session) (force : Bool) (ns : ShelfNs), s.serves q x → s.writes = true → s.hist.a.state = .failed ∨ s.hist.a.state = .absent ∨ s.hist.a.state = .foreign → ns.blank = true ∨ ns.storeId = s.hist.nv.storeId ∨ (force = true ∧ s.roleOf x = .service) → 
      ∃ t, exec (.attachA q force ns) s = .next t ∧ t.hist.a.capBytes = ns.capBytes ∧ t.hist.a.ns = true ∧ t.hist.capSeg = t.hist.capacity ∧ t.hist.resCode = 0 ∧ (s.hist.b.state = .inSync → t.hist.a.state = .rebuilding) ∧ (s.hist.b.state ≠ .inSync → ns.blank = true → t.hist.a.state = .labelling) ∧ (s.hist.b.state ≠ .inSync → ns.blank = false → ns.storeId = s.hist.nv.storeId → t.hist.a.state = .inSync)) ∧
    (∀ (s : State) (q : Req) (x : Session) (force : Bool) (ns : ShelfNs), s.serves q x → s.writes = true → s.hist.b.state = .failed ∨ s.hist.b.state = .absent ∨ s.hist.b.state = .foreign → ns.blank = true ∨ ns.storeId = s.hist.nv.storeId ∨ (force = true ∧ s.roleOf x = .service) → 
      ∃ t, exec (.attachB q force ns) s = .next t ∧ t.hist.b.capBytes = ns.capBytes ∧ t.hist.b.ns = true ∧ t.hist.capSeg = t.hist.capacity ∧ t.hist.resCode = 0 ∧ (s.hist.a.state = .inSync → t.hist.b.state = .rebuilding) ∧ (s.hist.a.state ≠ .inSync → ns.blank = true → t.hist.b.state = .labelling) ∧ (s.hist.a.state ≠ .inSync → ns.blank = false → ns.storeId = s.hist.nv.storeId → t.hist.b.state = .inSync)) ∧
    (∀ (s : State) (b : Bool), s.room → (s.hist.copy b).state = .rebuilding → 
      ∃ t, exec (.histAttached b) s = .next t ∧ (t.hist.copy b).state = .inSync ∧ State.recorded 0x0B10 0x060 [(b2n b : Int)] s t) ∧
    (∀ (s : State) (q : Req) (x : Session), s.serves q x → s.writes = true → s.roleOf x = .service → s.hist.full = true ∨ (s.hist.a.blank = true ∧ s.hist.b.blank = true) → 
      ∃ t, exec (.newStore q) s = .next t ∧ (t.hist.full = false ∧ t.hist.resCode = 0 ∧ (∃ k, t.hist.nv.storeId = BitVec.ofNat 128 (Config.freeNat k)) ∧ ∃ r c, t.hist.nv.ring = s.hist.nv.ring ++ [r, c] ∧ r.kind = 1 ∧ r.rseq = s.hist.nv.nextRseq ∧ c.kind = 2 ∧ c.rseq = s.hist.nv.nextRseq + 1)) ∧
    (∀ (s : State) (q : Req) (x : Session), s.serves q x → s.writes = true → s.hist.nv.segOpen = true → 
      ∃ t, exec (.seal q) s = .next t ∧ t.hist.nv.segOpen = false ∧ t.hist.resCode = 0 ∧ (s.hist.state ≠ .resuming → t.hist.nv.headSeg = s.hist.nv.segNo) ∧ (s.hist.state = .resuming → t.hist.nv.headSeg = s.hist.nv.headSeg ∧ t.hist.late.length = s.hist.late.length + 1)) ∧
    (∀ (s : State) (q : Req) (x : Session) (p : BitVec 4), s.serves q x → s.writes = true → p.toNat ≤ 3 → 
      ∃ t, exec (.selectProfile q p) s = .next t ∧ t.hist.profNext = some (p, 0) ∧ t.hist.nv.profile = s.hist.nv.profile) ∧
    (∀ (s : State) (k : BitVec 4) (cause : Nat), s.room → s.hist.profNext = some (k, cause) → 
      ∃ t, exec (.profileChangeApply) s = .next t ∧ t.hist.nv.profile = k ∧ t.hist.profNext = none ∧ State.recorded 0x0B11 0x060 [(s.hist.nv.profile.toNat : Int), (k.toNat : Int), (cause : Int)] s t)

/-- A delivered event stands in the queue; the writer takes the first entry that is old enough and starts a new record under the next SEQ or revises the last record; a completed write commits the record and FFR_COMMIT_SEQ increments; the end of a second turns every tally into one SUMMARY that is due and opens a new rate window; ARCHIVE by the writing member sets ARCHIVED once every committed record was admitted; CLEAR after it leaves in the record area FFR_CLEARED alone, being written; a twin's record is committed as a MIRROR copy under this member's own SEQ and confirmed, or waits for the commit in progress; a copy not confirmed in time is counted. -/
def Obligations.RecorderCommandsComplete : Prop :=
    (∀ (s : State) (code : BitVec 16) (src : Nat) (body : List Int), s.room → Event.codeOk code = true → Src.listed src = true → 
      ∃ t, exec (.ffrEventDelivery code src body) s = .next t ∧ State.recorded code.toNat src body s t ∧ t.ffr.nv = s.ffr.nv) ∧
    (∀ (s : State) (e : Event) (l : List Event), s.ffr.writing = false → s.ffr.revising = none → s.ffr.due = [] → s.ffr.dropped = 0 → s.ffr.queue = e :: l → e.tsc + 5000 ≤ s.now → s.ffr.nv.full = false → ((s.ffr.nv.recs.head?.map fun r => r.takes s.img.cfg.policy e).getD false = false) → s.ffr.inSecond e.code < s.img.cfg.policy.ffrRate → s.ffr.nv.bytes + (80 + FfrRec.bodyLen e.body.length) + 96 ≤ Ffr.area → 
      ∃ t, exec (.ffrWriterTake) s = .next t ∧ (t.ffr.queue = l ∧ t.ffr.writing = true ∧ ∃ r, t.ffr.nv.recs = r :: s.ffr.nv.recs ∧ r.ev = e ∧ r.seq = s.ffr.nv.nextSeq ∧ r.committed = false)) ∧
    (∀ (s : State) (e : Event) (l : List Event) (r : FfrRec) (rs : List FfrRec), s.ffr.writing = false → s.ffr.revising = none → s.ffr.due = [] → s.ffr.dropped = 0 → s.ffr.queue = e :: l → e.tsc + 5000 ≤ s.now → s.ffr.nv.full = false → s.ffr.nv.recs = r :: rs → r.takes s.img.cfg.policy e = true → 
      ∃ t, exec (.ffrWriterTake) s = .next t ∧ (t.ffr.revising = some (r.rev + 1, if r.rep = 0xFFFF then r.rep else r.rep + 1, e.tsc) ∧ t.ffr.nv = s.ffr.nv)) ∧
    (∀ (s : State) (full : List Nat) (r : FfrRec) (rs : List FfrRec), s.ffr.revising = none → s.ffr.writing = true → s.ffr.nv.recs = r :: rs → s.ffr.clearReq = none → s.ffr.mirrorDue = [] → 
      ∃ t, exec (.ffrCommitDone full) s = .next t ∧ t.ffr.writing = false ∧ t.ffr.nv.commitSeq = s.ffr.nv.commitSeq + 1 ∧ t.ffr.nv.recs = { r with committed := true } :: rs) ∧
    (∀ (s : State), 
      ∃ t, exec (.ffrSecondEnd) s = .next t ∧ t.ffr.tallies = [] ∧ t.ffr.secCodes = [] ∧ t.ffr.due.length = s.ffr.due.length + s.ffr.tallies.length) ∧
    (∀ (s : State) (q : Req) (x : Session), s.serves q x → s.writes = true → s.hist.refusing = false → s.paired = false → ((s.enter q 2).archiveAll (s.ffr.nv.recs.reverse.filter (·.committed))).1 = 0 → 
      ∃ t, exec (.archive q) s = .next t ∧ t.ffr.nv.archived = true ∧ t.ffr.resCode = 0 ∧ t.ffr.nv.recs = s.ffr.nv.recs) ∧
    (∀ (s : State) (q : Req) (x : Session), s.serves q x → s.roleOf x = .service → s.ffr.writing = false → s.ffr.revising = none → s.ffr.nv.archived = true → 
      ∃ t, exec (.ffrClear q) s = .next t ∧ (t.ffr.nv.full = false ∧ t.ffr.writing = true ∧ t.ffr.resCode = 0 ∧ ∃ r, t.ffr.nv.recs = [r] ∧ r.ev.code = 0x0B12 ∧ r.committed = false ∧ t.ffr.nv.bytes = r.size)) ∧
    (∀ (s : State) (f : TwinFrame) (r : FfrRec), s.frameOk f = true → s.twin.taken f.seq = false → s.ffr.writing = false → s.ffr.revising = none → r.rev = 0 → s.ffr.nv.full = false → s.ffr.nv.bytes + r.size + 96 ≤ Ffr.area → 
      ∃ t, exec (.ffrMirrorReceived f r) s = .next t ∧ (∃ x, t.ffr.nv.recs = x :: s.ffr.nv.recs ∧ x.mirror = true ∧ x.committed = true ∧ x.ev = r.ev ∧ x.seq = s.ffr.nv.nextSeq) ∧ (s.twin.ownKey.isSome = true → (t.out.head?.map fun o => (o.what, o.msg)) = some ("FFR_CONFIRM", TwinMsg.nums [(r.seq.toNat : Int)]))) ∧
    (∀ (s : State) (f : TwinFrame) (r : FfrRec), s.frameOk f = true → s.twin.taken f.seq = false → s.ffr.writing = true ∨ s.ffr.revising.isSome = true → 
      ∃ t, exec (.ffrMirrorReceived f r) s = .next t ∧ t.ffr.mirrorDue = s.ffr.mirrorDue ++ [r] ∧ t.ffr.nv = s.ffr.nv ∧ t.ffr.writing = s.ffr.writing) ∧
    (∀ (s : State) (f : TwinFrame) (r : FfrRec), s.twin.taken f.seq = true → s.frameOk f = true → 
      ∃ t, exec (.ffrMirrorReceived f r) s = .next t ∧ t = s) ∧
    (∀ (s : State) (n : BitVec 32), s.room → n.toNat ∈ s.ffr.mirroring → 
      ∃ t, exec (.ffrMirrorTimeout n) s = .next t ∧ n.toNat ∉ t.ffr.mirroring ∧ State.counted 0x2C0114 s t)

/-- A host link that goes down is recorded and counted and every session of that port is closed, and one that comes up is UP; a discarded frame is counted; a connection that passes the handshake's own checks gives a session with the client's role, port and identity in the first free slot exactly where the client chain is valid, and else is counted as refused; a key update is sent; closing a connection and 30 s without a message each release the session's slot; a message with an undefined TYPE is answered LHP_FORMAT and one with an oversize LEN closes the session; KEEPALIVE answers and restarts the idle timer; SUBSCRIBE sets the session's MIN_CLASS. -/
def Obligations.HostLinksAndSessionsComplete : Prop :=
    (∀ (s : State) (p : HostPort) (why : LinkDown), s.room → (s.portOf p).up = true → 
      ∃ t, exec (.hostLinkDown p why) s = .next t ∧ ((∀ y ∈ t.host.sessions, y.port ≠ p) ∧ (t.portOf p).up = false) ∧ State.recorded 0x4C32 0x080 [(b2n (p == .b) : Int)] s t ∧ State.counted 0x03020C s t) ∧
    (∀ (s : State) (p : HostPort), p ≠ .console → 
      ∃ t, exec (.hostLinkUp p) s = .next t ∧ (t.portOf p).up = true ∧ t.host.sessions = s.host.sessions) ∧
    (∀ (s : State) (p : HostPort), s.room → 
      ∃ t, exec (.hostFrameDiscard p) s = .next t ∧ State.counted 0x030214 s t ∧ t.host = s.host) ∧
    (∀ (s : State) (c : TlsConn) (r : HostRole), s.room → s.pwr.quiesced = false → (s.portOf c.port).up = true → s.trust.nv.owner = .owned → s.trust.bootHalt = false → c.tls13 = true → c.suiteOk = true → c.groupOk = true → c.sigAlgOk = true → s.tlsSessions < 8 → c.ou = some r → 
      ∃ t, exec (.tlsConnect c) s = .next t ∧ (s.chainOk c = true → ∃ y, t.host.sessions = s.host.sessions ++ [y] ∧ y.id = s.freeSlot ∧ y.role = r ∧ y.port = c.port ∧ y.ident = c.ident ∧ y.credits = 16) ∧ (s.chainOk c = false → t.host.sessions = s.host.sessions ∧ State.counted 0x24010C s t)) ∧
    (∀ (s : State) (i : Nat), (s.session i).isSome = true → 
      ∃ t, exec (.tlsKeyUpdate i) s = .next t ∧ t.out = Out.mk .lhp i "KEY_UPDATE" [] .plain :: s.out) ∧
    (∀ (s : State) (x : Session) (i : Nat), s.session i = some x → 
      ∃ t, exec (.tlsSessionClosed i) s = .next t ∧ t.session i = none) ∧
    (∀ (s : State) (x : Session) (i : Nat), s.session i = some x → s.since x.idleUp ≥ 30000000000 → 
      ∃ t, exec (.sessionIdleTimeout i) s = .next t ∧ t.session i = none) ∧
    (∀ (s : State) (q : Req) (x : Session) (type len : Nat), s.prompt q x → len ≤ 65544 → 
      ∃ t, exec (.undefinedMessage q type len) s = .next t ∧ t.out = q.answer (type % 0x80) 0x0C01 [] :: s.out) ∧
    (∀ (s : State) (q : Req) (x : Session) (type len : Nat), s.session q.session = some x → len > 65544 → 
      ∃ t, exec (.undefinedMessage q type len) s = .next t ∧ t.session q.session = none) ∧
    (∀ (s : State) (q : Req) (x : Session), s.prompt q x → 
      ∃ t, exec (.keepalive q) s = .next t ∧ t.out = q.answer 0x0C 0 [] :: s.out ∧ (t.session q.session).map (·.idleUp) = some s.clk.upNs) ∧
    (∀ (s : State) (q : Req) (x : Session) (c : Byte), s.hears q x → c.toNat ≤ 3 → 
      ∃ t, exec (.subscribe q c) s = .next t ∧ (t.session q.session).map (·.minClass) = some (some c)) ∧
    (∀ (s : State) (q : Req) (x : Session), s.hears q x → 
      ∃ t, exec (.subscribe q 0xFF) s = .next t ∧ (t.session q.session).map (·.minClass) = some none)

/-- BLOCK_BEGIN from a session that may opens an empty transfer with the TOTAL, digest and identity given, and a begun IMAGE transfer invalidates the staged slot; BLOCK_DATA stores the block at its offset; BLOCK_END with the right digest ends the transfer, and for the TOKEN target puts the whole into the token buffer; a transfer whose session was lost for 10 min is dropped; FORGET_IDENTITY removes one entry; a read of one to 256 registers answers their words in order, and a _LO register latches its _HI half for the session; a write stores the scratch word; a counter-clear write clears the selected counters and issues a signed report; REPORT answers a signed report under the next REPORT_SEQ. -/
def Obligations.HostTransfersComplete : Prop :=
    (∀ (s : State) (q : Req) (x : Session) (target : Nat) (restart : Bool) (total : Nat) (digest : BitVec 384), s.hears q x → (s.roleOf x).mayXfer target = true → Xfer.totalOk target total = true → s.xfer target = none → ¬(target = 1 ∧ (s.img.plan = .partly ∨ s.img.plan = .pending)) → ¬(target = 2 ∧ s.trust.nv.lock = true) → 
      ∃ t, exec (.blockBegin q target restart total digest) s = .next t ∧ (∃ d, t.xfer target = some d ∧ d.total = total ∧ d.digest = digest ∧ d.ident = x.ident ∧ d.blocks = []) ∧ (target = 1 → t.img.stg.valid = false ∧ t.img.plan = .none ∧ t.img.loading = true)) ∧
    (∀ (s : State) (q : Req) (x : Session) (target offset : Nat) (data : List Byte) (d : XferDesc), s.hears q x → (s.roleOf x).mayXfer target = true → s.xfer target = some d → d.ident = x.ident → Xfer.blockOk d.total offset data.length = true → 
      ∃ t, exec (.blockData q target offset data) s = .next t ∧ ((t.xfer target).map (fun e => Sparse.get e.blocks (offset / 65536) []) = some data)) ∧
    (∀ (s : State) (q : Req) (x : Session) (target : Nat) (d : XferDesc), s.hears q x → (s.roleOf x).mayXfer target = true → s.xfer target = some d → d.ident = x.ident → d.bytes.length = d.total → Config.sha384 d.bytes = d.digest → 
      ∃ t, exec (.blockEnd q target) s = .next t ∧ t.xfer target = none ∧ (target = 3 → t.trust.buffer = d.bytes ∧ t.trust.bufferOk = true)) ∧
    (∀ (s : State) (target : Nat) (d : XferDesc) (u : Nat), s.xfer target = some d → d.lostUp = some u → s.since u ≥ 600000000000 → 
      ∃ t, exec (.transferExpiry target) s = .next t ∧ t.xfer target = none ∧ (target = 1 → t.img.loading = false)) ∧
    (∀ (s : State) (q : Req) (x : Session) (i : Nat), s.serves q x → s.roleOf x = .service → ((s.jrn.idents.any fun h => h.slot == i) = true) → 
      ∃ t, exec (.forgetIdentity q i) s = .next t ∧ (t.jrn.idents = s.jrn.idents.filter fun h => h.slot != i)) ∧
    (∀ (s : State) (q : Req) (x : Session) (a : Nat), s.prompt q x → Reg.addrCode a = 0 → 
      ∃ t, exec (.readLoLatch q a 1) s = .next t ∧ t.out = q.answer 1 0 (leBytes 4 ((s.enter q 1).readFor x a).toNat) :: s.out ∧ (Reg.isLo a = true → (t.session q.session).map (fun x => Sparse.find x.latch (a + 4)) = some (some ((s.enter q 1).readReg (a + 4))))) ∧
    (∀ (s : State) (q : Req) (x : Session) (a count : Nat), s.prompt q x → 1 ≤ count → count ≤ 256 → (∀ i < count, Reg.addrCode (a + 4 * i) = 0) → 
      ∃ t, exec (.readLoLatch q a count) s = .next t ∧ t.out = q.answer 1 0 ((s.enter q 1).readWords q.session a count).1 :: s.out) ∧
    (∀ (s : State) (q : Req) (x : Session) (v : Word), s.serves q x → 
      ∃ t, exec (.registerWrite q 0x18 [v]) s = .next t ∧ t.ident = { s.ident with scratch := v }) ∧
    (∀ (s : State) (q : Req) (x : Session) (a : Nat) (v : Word), s.serves q x → s.room → Reg.addrCode a = 0 → (Block.of a).isSome = true → Reg.access a = some .clr → Reg.cleared a v.toNat ≠ [] → 
      ∃ t, exec (.counterClear q a v) s = .next t ∧ ((∀ c ∈ Reg.cleared a v.toNat, t.counter c = 0) ∧ t.trust.nv.reportSeq = s.trust.nv.reportSeq + 1)) ∧
    (∀ (s : State) (q : Req) (x : Session) (addr count nonce : Nat), s.prompt q x → s.trust.nv.owner ≠ .zeroised → 
      ∃ t, exec (.report q 2 addr count nonce) s = .next t ∧ t.trust.nv.reportSeq = s.trust.nv.reportSeq + 1 ∧ t.out = q.answer 8 0 (s.reportBytes 2 nonce s.ffrExport) :: s.out) ∧
    (∀ (s : State) (q : Req) (x : Session) (addr count nonce : Nat), s.hears q x → s.trust.nv.owner ≠ .zeroised → (∀ i < count, Reg.addrCode (addr + 4 * i) = 0) → 
      ∃ t, exec (.report q 1 addr count nonce) s = .next t ∧ t.trust.nv.reportSeq = s.trust.nv.reportSeq + 1)

/-- TIME_SET requests the single set while TSC_VALID is clear and becomes a phase correction while it is set; at the set the TSC takes the first report carried to the present and TSC_VALID is set; the increment pair loads whole at the _LO write; PTP_OFFSET adds to the remainder of the slew; ACCEPT_MASTER lets the servo steer; a two-step Sync waits for its Follow_Up, a Sync of the adopted master gives the offset, and after 16 of them with the servo on a report is held for the set; the delay messages are sent and answered and give the path delay; an announce of a better grandmaster at or below CLASS_MAX is adopted in holdover; a lost master sets HOLDOVER. -/
def Obligations.TimeCommandsComplete : Prop :=
    (∀ (s : State) (q : Req) (x : Session) (tai : Nat), s.serves q x → (s.ptp.servo && s.ptp.locked) = false → s.leads = true → s.clk.tscValid = false → s.clk.setReq = none → 
      ∃ t, exec (.timeSet q tai) s = .next t ∧ t.clk.setReq = some { kind := .timeSet, value := tai, atUp := s.clk.upNs, req := some q } ∧ t.clk.tscFix = s.clk.tscFix) ∧
    (∀ (s : State) (q : Req) (x : Session) (tai : Nat), s.serves q x → (s.ptp.servo && s.ptp.locked) = false → s.leads = true → s.clk.tscValid = true → s.tooLarge ((tai : Int) - s.now) = false → 
      ∃ t, exec (.timeSet q tai) s = .next t ∧ t.clk.slewRem = s.clk.slewRem + Clock.fix ((tai : Int) - s.now) ∧ t.clk.tscFix = s.clk.tscFix) ∧
    (∀ (s : State) (r : TimeReport), s.clk.setReq = some r → s.clk.tscValid = false → 
      ∃ t, exec (.tscSet) s = .next t ∧ t.clk.tscFix = (r.value + (s.since r.atUp : Int)).toNat * 2 ^ 32 ∧ t.clk.tscValid = true ∧ t.clk.setReq = none ∧ t.clk.setWait = []) ∧
    (∀ (s : State) (q : Req) (x : Session), s.serves q x → s.ptp.masterPending = true → s.tooLarge (-(s.ptp.pendOfs / 4)) = false → 
      ∃ t, exec (.acceptMaster q) s = .next t ∧ t.ptp.masterPending = false ∧ t.ptp.holdover = false ∧ t.clk.slewRem = s.clk.slewRem + Clock.fix (-(s.ptp.pendOfs / 4))) ∧
    (∀ (s : State) (q : Req) (x : Session) (v : Word), s.serves q x → 
      ∃ t, exec (.ptpIncrementHi q v) s = .next t ∧ t.ptp = { s.ptp with incrHiHeld := BitVec.ofNat 8 (v.toNat % 256) } ∧ t.clk.incr = s.clk.incr) ∧
    (∀ (s : State) (q : Req) (x : Session) (v : Word), s.serves q x → s.ptp.servo = false → 19 * 2 ^ 32 ≤ (s.ptp.incrHiHeld.toNat * 2 ^ 32 + v.toNat) * 10 → (s.ptp.incrHiHeld.toNat * 2 ^ 32 + v.toNat) * 10 ≤ 21 * 2 ^ 32 → 
      ∃ t, exec (.ptpIncrementLo q v) s = .next t ∧ t.clk.incr = BitVec.ofNat 40 (s.ptp.incrHiHeld.toNat * 2 ^ 32 + v.toNat)) ∧
    (∀ (s : State) (q : Req) (x : Session) (v : Word), s.serves q x → s.ptp.servo = false → s.clk.tscValid = true → s.tooLarge (signed 32 v.toNat) = false → 
      ∃ t, exec (.ptpOffset q v) s = .next t ∧ t.clk.slewRem = s.clk.slewRem + Clock.fix (signed 32 v.toNat) ∧ t.ptp.resCode = 0) ∧
    (∀ (s : State) (m : PtpMsg), s.ptpMine m.transportOk m.domain = true → m.port = s.ptp.slavePort → m.source = s.ptp.gmId → s.ptp.gmId ≠ 0 → m.twoStep = true → 
      ∃ t, exec (.ptpSyncReceived m) s = .next t ∧ t.ptp = { s.ptp with twoStep := some (s.ingress m.port m.raw) }) ∧
    (∀ (s : State) (m : PtpMsg), s.ptpMine m.transportOk m.domain = true → m.port = s.ptp.slavePort → m.source = s.ptp.gmId → s.ptp.gmId ≠ 0 → m.twoStep = false → 
      ∃ t, exec (.ptpSyncReceived m) s = .next t ∧ t.ptp.masterOfs = satInt 32 (s.ingress m.port m.raw - m.t1 - s.ptp.pathDelay) ∧ (s.ptp.servo = true ∧ s.leads = true ∧ s.clk.tscValid = false ∧ s.ptp.syncs.length ≥ 16 ∧ s.clk.setReq = none → ∃ r, t.clk.setReq = some r ∧ r.value = (s.now : Int) - (s.ingress m.port m.raw - m.t1 - s.ptp.pathDelay) / 4)) ∧
    (∀ (s : State) (m : PtpMsg) (t2 : Int), s.ptpMine m.transportOk m.domain = true → m.source = s.ptp.gmId → s.ptp.twoStep = some t2 → 
      ∃ t, exec (.ptpFollowUp m) s = .next t ∧ t.ptp.twoStep = none ∧ t.ptp.masterOfs = satInt 32 (t2 - m.t1 - s.ptp.pathDelay)) ∧
    (∀ (s : State) (raw : Int), 
      ∃ t, exec (.ptpDelayReqDue raw) s = .next t ∧ (t.ptp = { s.ptp with delayTx := some (s.egress s.ptp.slavePort raw) } ∧ t.out = Out.mk .ptp (b2n s.ptp.portB) (if s.img.cfg.io.ptpProfile == .power then "PDELAY_REQ" else "DELAY_REQ") [s.egress s.ptp.slavePort raw] .plain :: s.out)) ∧
    (∀ (s : State) (m : PtpMsg) (t3 : Int), s.ptpMine m.transportOk m.domain = true → s.ptp.delayTx = some t3 → s.img.cfg.io.ptpProfile = .power → 
      ∃ t, exec (.ptpDelayResp m) s = .next t ∧ t.ptp = { s.ptp with delayTx := none, pathDelay := (((s.ingress m.port m.raw - t3) - (m.t2 - m.t1)) / 2).toNat }) ∧
    (∀ (s : State) (m : PtpMsg) (t1 t2 t3 : Int), s.ptpMine m.transportOk m.domain = true → s.ptp.delayTx = some t3 → s.img.cfg.io.ptpProfile ≠ .power → s.ptp.lastSync = some (t1, t2) → 
      ∃ t, exec (.ptpDelayResp m) s = .next t ∧ t.ptp = { s.ptp with delayTx := none, pathDelay := (((t2 - t1) + (m.t1 - t3)) / 2).toNat }) ∧
    (∀ (s : State) (m : PtpMsg), s.ptpMine m.transportOk m.domain = true → s.img.cfg.io.ptpProfile = .power → 
      ∃ t, exec (.ptpPdelayReq m) s = .next t ∧ t.out = Out.mk .ptp (b2n (m.port == .b)) "PDELAY_RESP_FOLLOW_UP" [s.egress m.port (s.now * 4)] .plain :: Out.mk .ptp (b2n (m.port == .b)) "PDELAY_RESP" [s.ingress m.port m.raw] .plain :: s.out) ∧
    (∀ (s : State) (m b : PtpAnn), s.ptpMine m.transportOk m.domain = true → (if m.port = HostPort.b then ({ s.ptp with annB := some m } : Ptp) else ({ s.ptp with annA := some m } : Ptp)).best = some b → b.gm ≠ s.ptp.gmId → b.cls ≤ s.img.cfg.io.ptpClassMax.toNat → 
      ∃ t, exec (.ptpAnnounce m) s = .next t ∧ t.ptp.gmId = b.gm ∧ t.ptp.oldGmId = s.ptp.gmId ∧ t.ptp.portB = (b.port == .b) ∧ t.ptp.holdover = true ∧ t.ptp.locked = false) ∧
    (∀ (s : State), s.room → 
      ∃ t, exec (.ptpMasterLost) s = .next t ∧ t.ptp.holdover = true ∧ t.ptp.locked = false ∧ State.recorded 0x4C33 0x090 [(s.ptp.gmId.toNat : Int)] s t ∧ State.counted 0x020100 s t)

/-- A JOURNALED_WRITE of one word from a served session to which no refusal of R329 applies (none of the checks made before its tag, no tag that was given before or is old, no 1,025th address, no code of the register's own) waits, with its address, value, tag, identity and message, under the next JSEQ, which advances. The journal write of the only waiting dispatch command, taken with no pair formed and with a tag neither repeated nor old, journals it under its number with its stamp and nothing waits any more. The journal write of the waiting write of ID_SCRATCH that was taken with no pair formed, and the twin's confirmation, in a good frame not yet taken, of one that was taken in a pair, its tag by then neither given nor old, keep it under its JSEQ with its stamp, ID_SCRATCH takes its value, and it no longer waits. The confirmation, in such a frame, of a history record or of a first-fault copy takes it from those that wait, and that of an archive's last record, or of a later one, sets ARCHIVED. JOURNAL_REAPPLY, while it is due and an image is current, applies the value of ID_SCRATCH again where that is the only one journaled, and is due no more; while it is not due, or no image is current, it changes nothing. That the number of a command and the JSEQ of a write are set aside when it is received is the model's choice (log 87). -/
def Obligations.AcceptedWorkComplete : Prop :=
    (∀ (s : State) (q : Req) (x : Session) (wtag : BitVec 64) (a : Nat) (v : Word), s.serves q x → s.journalEarly x a 1 = 0 → (s.lastTag x).map (·.1) ≠ some wtag → s.tagOld x wtag = false → s.journalFull a = false → (Reg.write a v x (s.enter q 2)).1 = 0 → 
      ∃ t, exec (.journaledWrite q wtag a [v]) s = .next t ∧ t.host.jwait = s.host.jwait ++ [{ session := q.session, msgId := q.msg, ident := x.ident, wtag := wtag, entry := { addr := a, value := v, jseq := s.jrn.nextJseq }, alone := !s.paired }] ∧ t.jrn = { s.jrn with nextJseq := s.jrn.nextJseq + 1 }) ∧
    (∀ (s : State) (w : DispWait), s.bank.wait = [w] → w.alone = true → s.dispRepeat w.ident w.body = none → s.dispOld w.ident w.body = false → 
      ∃ t, exec (.journalWriteDone (.dispatch w.seq)) s = .next t ∧ t.jrn.accSeq = w.seq ∧ t.jrn.nextSeq = s.jrn.nextSeq ∧ t.jrn.disp = s.jrn.disp ++ [{ seq := w.seq, ident := w.ident, body := w.body, accCycle := s.cycle, tsc := s.stampOf 0x080 }] ∧ t.bank.wait = []) ∧
    (∀ (s : State) (x : Session) (jseq : Nat) (w : JWait), s.jWaiting jseq = some w → w.alone = true → w.entry.addr = 0x18 → x = (s.session w.session).getD { id := w.session, port := if w.session = 8 then .console else .a, ident := w.ident } → s.jseqGiven x w.wtag = none → s.tagOld x w.wtag = false → 
      ∃ t, exec (.journalWriteDone (.write jseq)) s = .next t ∧ (t.jrn.nextJseq = s.jrn.nextJseq ∧ t.jrn.writes = (s.jrn.writes.filter fun e => e.addr != 0x18) ++ [{ w.entry with tsc := s.stampOf 0x080 }] ∧ t.ident.scratch = w.entry.value ∧ t.host.jwait = s.host.jwait.filter (fun v => v.entry.jseq != w.entry.jseq))) ∧
    (∀ (s : State) (x : Session) (f : TwinFrame) (jseq : Nat) (w : JWait), s.frameOk f = true → s.twin.taken f.seq = false → s.jWaiting jseq = some w → w.alone = false → w.entry.addr = 0x18 → x = (s.session w.session).getD { id := w.session, port := if w.session = 8 then .console else .a, ident := w.ident } → s.jseqGiven x w.wtag = none → s.tagOld x w.wtag = false → 
      ∃ t, exec (.workCopyConfirmed f (.journaled jseq)) s = .next t ∧ (t.jrn.nextJseq = s.jrn.nextJseq ∧ t.jrn.writes = (s.jrn.writes.filter fun e => e.addr != 0x18) ++ [{ w.entry with tsc := s.stampOf 0x080 }] ∧ t.ident.scratch = w.entry.value ∧ t.host.jwait = s.host.jwait.filter (fun v => v.entry.jseq != w.entry.jseq))) ∧
    (∀ (s : State) (f : TwinFrame) (rseq : Nat), s.frameOk f = true → s.twin.taken f.seq = false → 
      ∃ t, exec (.workCopyConfirmed f (.history rseq)) s = .next t ∧ (t.hist.twinWait = s.hist.twinWait.filter (fun r => r.rseq != rseq))) ∧
    (∀ (s : State) (f : TwinFrame) (seq : BitVec 32), s.frameOk f = true → s.twin.taken f.seq = false → 
      ∃ t, exec (.workCopyConfirmed f (.ffr seq)) s = .next t ∧ (t.ffr.mirroring = s.ffr.mirroring.filter (fun m => m != seq.toNat))) ∧
    (∀ (s : State) (f : TwinFrame) (rseq r : Nat), s.frameOk f = true → s.twin.taken f.seq = false → s.ffr.archPend.map (·.1) = some r → r ≤ rseq → 
      ∃ t, exec (.workCopyConfirmed f (.archive rseq)) s = .next t ∧ t.ffr.archPend = none ∧ t.ffr.nv.archived = true ∧ t.ffr.nv.archRseq = rseq) ∧
    (∀ (s : State) (e : JEntry), s.host.reapplyDue = true → s.img.cur.valid = true → s.jrn.writes = [e] → e.addr = 0x18 → 
      ∃ t, exec (.journalReapply) s = .next t ∧ t.host.reapplyDue = false ∧ t.ident.scratch = e.value ∧ t.jrn.writes = s.jrn.writes) ∧
    (∀ (s : State), s.host.reapplyDue = false ∨ s.img.cur.valid = false → 
      ∃ t, exec (.journalReapply) s = .next t ∧ t = s)

/-- A received frame goes to the queue of its first matching filter with its source and its stamp, or is counted where none matches or it is a remote frame; a message of the map that falls due is enqueued with its stamp, or refused and counted where the queue is full; a sent frame leaves on the bus; bus errors set the counters and the error state they give, bus-off counted and recorded; RECOVER, the automatic delay and the end of the recovery move the port through bus-off; ABORT_TX removes a buffered frame, or marks the one in transmission; a silent station is lost; the reference message is loaded into buffer 0 or skipped as late. -/
def Obligations.CanCommandsComplete : Prop :=
    (∀ (s : State) (p : Fin 4) (f : CanFrame) (y : CanFilter), (s.canCfg p).assigned = true → f.remote = false → (s.canCfg p).filters.find? (CanFilter.hits f) = some y → y.act = .q0 → s.can[p].q0.length < 32 → 
      ∃ t, exec (.canFrameReceived p f) s = .next t ∧ (let src := (((s.canCfg p).claims f.ide f.ident).map fun z => Src.station p z.index).getD (Src.can p); t.can[p].q0 = s.can[p].q0 ++ [{ f with stamp := s.stampAt src (min f.stamp s.now), source := src, isRef := false }])) ∧
    (∀ (s : State) (p : Fin 4) (f : CanFrame), s.room → (s.canCfg p).assigned = true → f.remote = false → (s.canCfg p).filters.find? (CanFilter.hits f) = none → (s.canCfg p).stations = [] → 
      ∃ t, exec (.canFrameReceived p f) s = .next t ∧ State.counted (Reg.can p 0x114) s t ∧ t.can[p].q0 = s.can[p].q0 ∧ t.can[p].q1 = s.can[p].q1) ∧
    (∀ (s : State) (p : Fin 4) (f : CanFrame), s.room → (s.canCfg p).assigned = true → f.remote = true → 
      ∃ t, exec (.canFrameReceived p f) s = .next t ∧ State.counted (Reg.can p 0x118) s t ∧ t.can[p].q0 = s.can[p].q0 ∧ t.can[p].q1 = s.can[p].q1) ∧
    (∀ (s : State) (p : Fin 4) (i : Nat) (data : List Byte) (m : CanMsg), (s.canCfg p).map[i]? = some m → (s.canCfg p).assigned = true → s.leads = true → s.can[p].txq.length < 32 → 
      ∃ t, exec (.canMapPeriod p i data) s = .next t ∧ t.can[p].txRun = false ∧ (∃ g : CanFrame, g.ide = m.ide ∧ g.ident = m.ident ∧ g.stamp = s.stampOf (Src.can p) ∧ g.data = canData ((s.canCfg p).modeOf m.ide m.ident m.fd m.len) (s.stampOf (Src.can p)) ((data ++ List.replicate m.len 0#8).take m.len) ∧ (g ∈ t.can[p].txq ∨ ∃ b : Fin 3, t.can[p].bufs[b].frame = some g))) ∧
    (∀ (s : State) (p : Fin 4) (i : Nat) (data : List Byte) (m : CanMsg), s.room → (s.canCfg p).map[i]? = some m → (s.canCfg p).assigned = true → s.leads = true → 32 ≤ s.can[p].txq.length → 
      ∃ t, exec (.canMapPeriod p i data) s = .next t ∧ t.can[p].txRun = true ∧ t.can[p].txq = s.can[p].txq ∧ t.can[p].resCode = 0x0D03 ∧ State.counted (Reg.can p 0x108) s t) ∧
    (∀ (s : State) (p : Fin 4) (b : Fin 3) (sof : Nat) (f : CanFrame), s.can[p].bufs[b].frame = some f → s.canMonitor p = false → s.can[p].err = .active → (s.canCfg p).idOrder = true → f.isRef = false → 
      ∃ t, exec (.canTxDone p b sof) s = .next t ∧ (t.can[p].tec = s.can[p].tec - 1 ∧ t.out = Out.mk .can p "FRAME" ([(b2n f.ide : Int), (f.ident.toNat : Int), (b2n f.fd : Int)] ++ f.data.map fun x => (x.toNat : Int)) .plain :: s.out)) ∧
    (∀ (s : State) (p : Fin 4) (tec recv : Nat), s.canMonitor p = false → (s.canCfg p).assigned = true → s.can[p].err = .active → tec ≤ 127 → recv ≤ 127 → 
      ∃ t, exec (.canBusError p tec recv none) s = .next t ∧ t.can[p].err = .active ∧ t.can[p].tec = tec ∧ t.can[p].recv = recv) ∧
    (∀ (s : State) (p : Fin 4) (tec recv : Nat), s.room → s.canMonitor p = false → (s.canCfg p).assigned = true → s.can[p].err = .passive → 255 < tec → 
      ∃ t, exec (.canBusError p tec recv none) s = .next t ∧ t.can[p].err = .busOff ∧ State.counted (Reg.can p 0x100) s t ∧ State.recorded 0x8D28 (Src.can p) [(tec : Int)] s t) ∧
    (∀ (s : State) (q : Req) (x : Session) (p : Fin 4), s.serves q x → s.leads = true → s.can[p].err = .busOff → 
      ∃ t, exec (.recover q p) s = .next t ∧ t.can[p].err = .recovering ∧ t.can[p].autoWait = false ∧ t.can[p].resCode = 0) ∧
    (∀ (s : State) (q : Req) (x : Session) (p : Fin 4) (b : BitVec 2) (i : Fin 3), s.serves q x → s.room → s.leads = true → s.abortable p b = some i → s.can[p].bufs[i].inTx = false → 
      ∃ t, exec (.abortTx q p b) s = .next t ∧ (State.counted (Reg.can p 0x11C) s t ∧ Out.mk .can p "ABORTED" [((s.can[p].bufs[i].frame.map fun f => (f.ident.toNat : Int)).getD 0)] .plain ∈ t.out)) ∧
    (∀ (s : State) (q : Req) (x : Session) (p : Fin 4) (b : BitVec 2) (i : Fin 3), s.serves q x → s.leads = true → s.abortable p b = some i → s.can[p].bufs[i].inTx = true → 
      ∃ t, exec (.abortTx q p b) s = .next t ∧ t.can[p].bufs[i].abort = true ∧ t.can[p].bufs[i].frame = s.can[p].bufs[i].frame ∧ t.can[p].resCode = 0) ∧
    (∀ (s : State) (p : Fin 4), s.can[p].autoWait = true → s.can[p].err = .busOff → s.busOffAuto p = true → 
      ∃ t, exec (.busoffAutoDelay p) s = .next t ∧ t.can[p].err = .recovering ∧ t.can[p].autoWait = false) ∧
    (∀ (s : State) (p : Fin 4), s.room → s.can[p].err = .recovering → 
      ∃ t, exec (.canBusRecovered p) s = .next t ∧ t.can[p].err = .active ∧ t.can[p].tec = 0 ∧ t.can[p].recv = 0 ∧ State.recorded 0x0D20 (Src.can p) [] s t) ∧
    (∀ (s : State) (p : Fin 4) (i : Fin 32), s.room → (((s.canCfg p).stations.any fun z => z.index == i.val) = true) → bit s.can[p].stations.toNat i = true → 
      ∃ t, exec (.canStationLost p i) s = .next t ∧ bit t.can[p].stations.toNat i = false ∧ Src.station p i ∈ t.scan.lost ∧ State.counted (Reg.can p 0x124) s t ∧ State.recorded 0x8D29 (Src.station p i) [] s t) ∧
    (∀ (s : State) (p : Fin 4) (id : Bool × BitVec 29), (s.canCfg p).refId = some id → (s.canCfg p).assigned = true → s.canMonitor p = false → s.can[p].bufs[(0 : Fin 3)].frame = none → 
      ∃ t, exec (.canReferenceDue p) s = .next t ∧ t.can[p].bufs[(0 : Fin 3)].frame = some (s.refFrame p id)) ∧
    (∀ (s : State) (p : Fin 4) (id : Bool × BitVec 29), s.room → (s.canCfg p).refId = some id → (s.canCfg p).assigned = true → s.canMonitor p = false → s.can[p].bufs[(0 : Fin 3)].frame.isSome = true → 
      ∃ t, exec (.canReferenceDue p) s = .next t ∧ State.counted (Reg.can p 0x120) s t ∧ t.can = s.can ∧ State.recorded 0x4D25 (Src.can p) [] s t)

/-- A poll that falls due on an idle bus starts; its result is kept, or its failure is counted with the reason; a low alert line starts the read of 0x0C; an answer of a known target is delivered and an unknown one is counted and recorded; the hold ends; an arbitration loss in a STOP aborts the transaction, counted and recorded, and any other is counted and the poll restarts; a stuck bus is counted and recorded, and cleared where policy and role allow; BUS_CLEAR clears the bus; the module answers a read of its own address with HK_BEACON while it drives the bus and NACKs a write. -/
def Obligations.HousekeepingComplete : Prop :=
    (∀ (s : State) (i : Fin 32), (s.hkCfg i).isSome = true → s.drivesHk = true → s.hk.stuck = false → s.hk.xact = .none → s.hk.due = [] → s.hk.alert = false → 
      ∃ t, exec (.hkPollDue i) s = .next t ∧ t.hk.xact = .poll i ∧ t.hk.due = []) ∧
    (∀ (s : State) (i : Fin 32) (d : List (BitVec 8)), s.hk.xact = .poll i → 
      ∃ t, exec (.hkPollDone i (.ok d)) s = .next t ∧ (t.tgt i).present = true ∧ (t.tgt i).failRun = 0 ∧ (t.tgt i).data = d.take ((s.hkCfg i).getD {}).len) ∧
    (∀ (s : State) (i : Fin 32), s.room → s.hk.xact = .poll i → 
      ∃ t, exec (.hkPollDone i .nack) s = .next t ∧ (t.tgt i).failRun = (s.tgt i).failRun + 1 ∧ (t.tgt i).lastFail = 1 ∧ State.counted 0x340108 s t) ∧
    (∀ (s : State) (i : Fin 32), s.room → s.hk.xact = .poll i → 
      ∃ t, exec (.hkPollDone i .pec) s = .next t ∧ (t.tgt i).failRun = (s.tgt i).failRun + 1 ∧ (t.tgt i).lastFail = 2 ∧ State.counted 0x34010C s t) ∧
    (∀ (s : State) (i : Fin 32), s.room → s.hk.xact = .poll i → 
      ∃ t, exec (.hkPollDone i .timeout) s = .next t ∧ (t.tgt i).failRun = (s.tgt i).failRun + 1 ∧ (t.tgt i).lastFail = 3 ∧ State.counted 0x340110 s t) ∧
    (∀ (s : State), s.hkOn = true → s.drivesHk = true → s.hk.stuck = false → s.hk.xact = .none → s.hk.alertHold = false → 
      ∃ t, exec (.hkAlert) s = .next t ∧ t.hk.alert = true ∧ t.hk.xact = .alert ∧ t.out = Out.mk .housekeeping 0 "READ_ALERT" [0x0C] .plain :: s.out) ∧
    (∀ (s : State) (addr : BitVec 7) (c : HkCfgT), s.hk.xact = .alert → (s.io_.hk.find? (fun c => c.addr == addr.toNat) = some c) → 
      ∃ t, exec (.hkAlertReadDone addr true false) s = .next t ∧ t.hk.alerts = s.hk.alerts ++ [(addr.toNat, s.now)] ∧ t.hk.alert = false ∧ t.hk.alertLast = addr ∧ t.hk.episode = 0) ∧
    (∀ (s : State) (addr : BitVec 7) (pec : Bool), s.room → s.hk.xact = .alert → (s.io_.hk.find? (fun c => c.addr == addr.toNat) = none) → 
      ∃ t, exec (.hkAlertReadDone addr pec false) s = .next t ∧ t.hk.alerts = s.hk.alerts ∧ State.counted 0x340118 s t ∧ State.recorded 0x4D27 0x0B0 [(addr.toNat : Int)] s t) ∧
    (∀ (s : State), s.hk.alertHold = true → 
      ∃ t, exec (.hkAlertHoldEnd) s = .next t ∧ t.hk.alertHold = false ∧ t.hk.alert = false ∧ t.hk.episode = 0) ∧
    (∀ (s : State), s.room → s.hk.xact ≠ .none → s.hk.due = [] → s.hk.alert = false ∨ s.hk.xact = .alert → 
      ∃ t, exec (.hkArbLost true) s = .next t ∧ t.hk.xact = .none ∧ State.counted 0x340104 s t ∧ State.recorded 0x4D26 0x0B0 [] s t) ∧
    (∀ (s : State) (i : Fin 32), s.room → s.drivesHk = true → s.hk.xact = .poll i → 
      ∃ t, exec (.hkArbLost false) s = .next t ∧ t.hk.xact = .poll i ∧ State.counted 0x340100 s t ∧ t.out = Out.mk .housekeeping 0 "POLL" (ints [((s.hkCfg i).getD {}).addr, ((s.hkCfg i).getD {}).cmd, ((s.hkCfg i).getD {}).len]) .plain :: s.out) ∧
    (∀ (s : State) (low : Bool), s.room → s.hkOn = true → 
      ∃ t, exec (.hkBusStuck low) s = .next t ∧ (t.hk.stuck = (if s.drivesHk && s.img.cfg.policy.hkAutoClear then low else true) ∧ State.counted 0x340114 s t ∧ State.recorded 0x8D2A 0x0B0 [] s t)) ∧
    (∀ (s : State) (q : Req) (x : Session) (low : Bool), s.serves q x → s.leads = true → 
      ∃ t, exec (.busClear q low) s = .next t ∧ t.hk.stuck = low ∧ t.hk.resCode = 0 ∧ Out.mk .housekeeping 0 "BUS_CLEAR" [] .plain ∈ t.out) ∧
    (∀ (s : State), s.drivesHk = true → s.hkOn = true → 
      ∃ t, exec (.hkTargetAccess false false) s = .next t ∧ t.out = Out.mk .housekeeping 0 "STATUS" [((s.beacon % 256 : Nat) : Int), ((s.beacon / 256 : Nat) : Int)] .plain :: s.out) ∧
    (∀ (s : State) (third : Bool), s.drivesHk = true → s.hkOn = true → 
      ∃ t, exec (.hkTargetAccess true third) s = .next t ∧ t.out = Out.mk .housekeeping 0 "NACK" [] .plain :: s.out)

/-- An accepted quadrature transition moves the count and an illegal one leaves it, uncertain, counted and recorded; SUSPECT clears; PRESET loads the preset and CLEAR_UNCERTAIN clears the flag; a valid pair gives the flow and the times of flight, one that is not valid is counted; HOLD ends the value; CAPTURE_REF waits for the next valid pair; a change of the discrete inputs is taken with its stamp, unless the module has quiesced, and a fault of a discrete output counted and recorded. -/
def Obligations.CountersAndFlowComplete : Prop :=
    (∀ (s : State) (n : Fin 8) (a b : Bool) (d : Int), s.pwr.quiesced = false → s.img.cfg.io.qin[n].assigned = true → s.io.qin[n].seen = true → s.img.cfg.io.qin[n].mode.step s.io.qin[n].a s.io.qin[n].b a b = some d → 
      ∃ t, exec (.qinTransition n a b) s = .next t ∧ t.io.qin[n].count = s.io.qin[n].count + BitVec.ofInt 32 d ∧ t.io.qin[n].a = a ∧ t.io.qin[n].b = b) ∧
    (∀ (s : State) (n : Fin 8) (a b : Bool), s.pwr.quiesced = false → s.room → s.img.cfg.io.qin[n].assigned = true → s.io.qin[n].seen = true → s.img.cfg.io.qin[n].mode.step s.io.qin[n].a s.io.qin[n].b a b = none → 
      ∃ t, exec (.qinTransition n a b) s = .next t ∧ t.io.qin[n].count = s.io.qin[n].count ∧ t.io.qin[n].uncertain = true ∧ State.counted (0x3C0020 + n.val * 0x100) s t ∧ State.recorded 0x4E23 0x0C8 [(n.val : Int)] s t) ∧
    (∀ (s : State) (n : Fin 8), s.room → s.io.qin[n].suspect = true → 
      ∃ t, exec (.qinSuspectCleared n) s = .next t ∧ t.io.qin[n].suspect = false ∧ State.recorded 0x0E22 0x0C8 [(n.val : Int)] s t) ∧
    (∀ (s : State) (q : Req) (x : Session) (n : Fin 8), s.serves q x → s.leads = true → 
      ∃ t, exec (.preset q n) s = .next t ∧ t.io.qin[n].count = s.io.qin[n].preset ∧ t.io.qin[n].uncertain = false ∧ t.io.qin[n].wrapped = false ∧ t.io.qin[n].resCode = 0) ∧
    (∀ (s : State) (q : Req) (x : Session) (n : Fin 8), s.serves q x → s.leads = true → 
      ∃ t, exec (.clearUncertain q n) s = .next t ∧ t.io.qin[n].uncertain = false ∧ t.io.qin[n].count = s.io.qin[n].count ∧ t.io.qin[n].resCode = 0) ∧
    (∀ (s : State) (n : Fin 8) (dn up : BurstResult) (d1 d2 a b : Nat), s.pwr.quiesced = false → s.img.cfg.io.usf[n].assigned = true → s.clk.cycleNo % 10 = n.val → s.leads = true → dn.tof s.img.cfg.io.usf[n] = some a → up.tof s.img.cfg.io.usf[n] = some b → 0 < a → 0 < b → 20 ≤ d1 → d1 ≤ 300 → 20 ≤ d2 → d2 ≤ 300 → 
      ∃ t, exec (.usfMeasurementPair n dn up d1 d2) s = .next t ∧ t.io.usf[n].valid = true ∧ t.io.usf[n].q = s.img.cfg.io.usf[n].flow a b ∧ t.io.usf[n].tdn = BitVec.ofNat 32 a ∧ t.io.usf[n].tup = BitVec.ofNat 32 b) ∧
    (∀ (s : State) (n : Fin 8) (dn up : BurstResult) (d1 d2 : Nat), s.pwr.quiesced = false → s.room → s.img.cfg.io.usf[n].assigned = true → s.clk.cycleNo % 10 = n.val → dn.tof s.img.cfg.io.usf[n] = none → up.tof s.img.cfg.io.usf[n] = none → 
      ∃ t, exec (.usfMeasurementPair n dn up d1 d2) s = .next t ∧ t.io.usf[n].lastFail = 3 ∧ State.counted (Reg.usf n 0x20) s t ∧ t.io.usf[n].q = s.io.usf[n].q) ∧
    (∀ (s : State) (n : Fin 8), s.room → s.io.usf[n].valid = true → 
      ∃ t, exec (.usfHoldExpiry n) s = .next t ∧ t.io.usf[n].valid = false ∧ State.counted (Reg.usf n 0x24) s t ∧ State.recorded 0x8E29 0x0D0 [(n.val : Int)] s t) ∧
    (∀ (s : State) (q : Req) (x : Session) (n : Fin 8), s.serves q x → s.leads = true → s.img.cfg.io.usf[n].assigned = true → s.str[n].state = .off ∨ s.str[n].state = .shed ∨ s.str[n].state = .service → 
      ∃ t, exec (.captureRef q n) s = .next t ∧ t.io.usf[n].capture = some s.clk.upNs ∧ t.io.usf[n].resCode = 0) ∧
    (∀ (s : State) (din : BitVec 16), s.pwr.quiesced = false → 
      ∃ t, exec (.discreteInputChange din) s = .next t ∧ t.io.din = din ∧ t.io.dinTsc = s.stampOf 0x0E0 ∧ t.io.dout = s.io.dout) ∧
    (∀ (s : State) (din : BitVec 16), s.pwr.quiesced = true → 
      ∃ t, exec (.discreteInputChange din) s = .next t ∧ t = s) ∧
    (∀ (s : State) (i : Fin 8) (rb : Bool), s.room → bit s.io.dout.toNat i ≠ rb → s.io.doHighZ = false → bit s.io.doFault.toNat i = false → 
      ∃ t, exec (.doFault i rb) s = .next t ∧ bit t.io.doFault.toNat i = true ∧ State.counted 0x400F10 s t ∧ State.recorded 0x8E2B 0x0E0 [(i.val : Int)] s t)

/-- On a member that leads, a served RUN in Stop with a program to run, STOP outside Stop, HOLD in Run by a service session and RESUME in Hold change the state at once between scans, recorded with the old and the new state, and at the end of the scan otherwise; STEP in Hold by a service session asks for one scan; the end of HOLD_MAX ends Hold in the same way. A scan that falls due between scans starts with its inputs latched and the receive queues emptied, whatever the program then does, and one that falls due while a scan runs is skipped as an overrun, counted and recorded; a scan that completes leaves the program's data and counts one; the watchdog ends the scan in Stop, counted and recorded. While the I/O is powered, at its sample every assigned current-loop input is filtered, classified and stamped (the filter is log 8) and every assigned output is read back, every other keeping its read-back; the confirmation of a pending change makes a valid input INVALID, with NaN, counted and recorded, and an INVALID one valid, recorded; a read-back that differs from its command is a fault of an output that is neither faulted nor at high impedance, and a fault of the loop supply marks it, both counted and recorded. -/
def Obligations.PlantLogicAndLoopsComplete : Prop :=
    (∀ (s : State) (q : Req) (x : Session), s.serves q x → s.room → s.leads = true → s.scan.eff = .stop → s.hasProgram = true → 
      ∃ t, exec (.scanRun q) s = .next t ∧ (s.scan.running = true → t.scan.pend = some .run ∧ t.scan.state = s.scan.state) ∧ (s.scan.running = false → t.scan.state = .run ∧ t.scan.pend = none ∧ State.recorded 0x0F10 0x0E0 [(s.scan.state.code : Int), 0] s t)) ∧
    (∀ (s : State) (q : Req) (x : Session), s.serves q x → s.room → s.leads = true → s.scan.eff ≠ .stop → 
      ∃ t, exec (.scanStop q) s = .next t ∧ (s.scan.running = true → t.scan.pend = some .stop ∧ t.scan.state = s.scan.state) ∧ (s.scan.running = false → t.scan.state = .stop ∧ t.scan.pend = none ∧ State.recorded 0x0F10 0x0E0 [(s.scan.state.code : Int), 1] s t)) ∧
    (∀ (s : State) (q : Req) (x : Session), s.serves q x → s.room → s.leads = true → s.roleOf x = .service → s.scan.eff = .run → 
      ∃ t, exec (.scanHold q) s = .next t ∧ (s.scan.running = true → t.scan.pend = some .hold ∧ t.scan.state = s.scan.state) ∧ (s.scan.running = false → t.scan.state = .hold ∧ t.scan.holdSince = some s.clk.upNs ∧ State.recorded 0x0F10 0x0E0 [(s.scan.state.code : Int), 2] s t)) ∧
    (∀ (s : State) (q : Req) (x : Session), s.serves q x → s.leads = true → s.roleOf x = .service → s.scan.eff = .hold → 
      ∃ t, exec (.scanStep q) s = .next t ∧ t.scan.stepPend = true ∧ t.scan.state = s.scan.state ∧ t.scan.resCode = 0) ∧
    (∀ (s : State) (q : Req) (x : Session), s.serves q x → s.room → s.leads = true → s.scan.eff = .hold → 
      ∃ t, exec (.scanResume q) s = .next t ∧ (s.scan.running = true → t.scan.pend = some .run ∧ t.scan.state = s.scan.state) ∧ (s.scan.running = false → t.scan.state = .run ∧ t.scan.holdSince = none ∧ State.recorded 0x0F10 0x0E0 [(s.scan.state.code : Int), 0] s t)) ∧
    (∀ (s : State), s.room → s.scan.eff = .hold → s.img.cfg.policy.holdMaxMin ≠ 0 → 
      ∃ t, exec (.holdMaxExpiry) s = .next t ∧ (s.scan.running = true → t.scan.pend = some .run ∧ t.scan.state = s.scan.state) ∧ (s.scan.running = false → t.scan.state = .run ∧ t.scan.holdSince = none ∧ State.recorded 0x0F10 0x0E0 [(s.scan.state.code : Int), 0] s t)) ∧
    (∀ (s : State) (acts : List PlantAct), s.scanDue = true → s.scan.running = false → 
      ∃ t, exec (.scanStart acts) s = .next t ∧ (t.scan.running = true ∧ t.scan.startUp = s.clk.upNs ∧ t.scan.stepPend = false ∧ t.scan.here = true ∧ t.scan.inputs.din = s.io.din ∧ t.scan.inFrames = ((List.finRange 4).map fun p => s.can[p].q0 ++ s.can[p].q1).flatten) ∧ (∀ p : Fin 4, t.can[p].q0 = [] ∧ t.can[p].q1 = [])) ∧
    (∀ (s : State) (acts : List PlantAct), s.room → s.scanDue = true → s.scan.running = true → 
      ∃ t, exec (.scanStart acts) s = .next t ∧ t.scan.running = true ∧ t.scan.startUp = s.scan.startUp ∧ State.counted 0x400100 s t ∧ State.recorded 0x4F12 0x0E0 [] s t) ∧
    (∀ (s : State) (acts : List PlantAct) (o : PlantOut), s.scan.running = true → 
      ∃ t, exec (.scanComplete acts o) s = .next t ∧ t.scan.running = false ∧ t.scan.data = o.data ∧ t.scan.count = s.scan.count + 1 ∧ t.scan.stepScan = false) ∧
    (∀ (s : State), s.room → s.scan.running = true → 
      ∃ t, exec (.scanWatchdog) s = .next t ∧ t.scan.running = false ∧ t.scan.state = .stop ∧ State.counted 0x400104 s t ∧ State.recorded 0x8F13 0x0E0 [] s t) ∧
    (∀ (s : State) (raw : Vector Nat 16) (rb : Vector Nat 8) (supply : Bool) (i : Fin 16), s.pwr.quiesced = false → s.img.cfg.io.ai[i].assigned = true → 
      ∃ t, exec (.analogueSample raw rb supply) s = .next t ∧ t.io.ai[i].filt = some (s.img.cfg.io.ai[i].filter s.io.ai[i].filt raw[i]) ∧ t.io.ai[i].cls = AnaIn.classOf (s.img.cfg.io.ai[i].filter s.io.ai[i].filt raw[i]) ∧ t.io.ai[i].sampleTsc = s.stampAt 0x0C0 (s.clk.cycleT0 + 100000) ∧ (∀ j : Fin 8, t.io.ao[j].readBack = if s.img.cfg.io.ao[j].assigned then rb[j] else s.io.ao[j].readBack)) ∧
    (∀ (s : State) (i : Fin 16), s.room → s.io.ai[i].pendSince.isSome = true → s.io.ai[i].invalid = false → 
      ∃ t, exec (.aiConfirm i) s = .next t ∧ t.io.ai[i].invalid = true ∧ t.io.ai[i].value = nanWord ∧ State.counted 0x380200 s t ∧ State.recorded 0x8E26 0x0C0 [(i.val : Int)] s t) ∧
    (∀ (s : State) (i : Fin 16), s.room → s.io.ai[i].pendSince.isSome = true → s.io.ai[i].invalid = true → 
      ∃ t, exec (.aiConfirm i) s = .next t ∧ t.io.ai[i].invalid = false ∧ t.io.ai[i].pendSince = none ∧ (0x500 + i.val) ∉ t.scan.lost ∧ State.recorded 0x0E20 0x0C0 [(i.val : Int)] s t) ∧
    (∀ (s : State) (i : Fin 8) (rb : BitVec 16), s.room → s.io.ao[i].differs rb.toNat = true → s.io.ao[i].fault = false → s.io.ao[i].highZ = false → 
      ∃ t, exec (.aoFault i rb) s = .next t ∧ t.io.ao[i].fault = true ∧ t.io.ao[i].readBack = rb.toNat ∧ State.counted 0x380204 s t ∧ State.recorded 0x8E27 0x0C0 [(i.val : Int)] s t) ∧
    (∀ (s : State), s.room → 
      ∃ t, exec (.loopSupplyFault) s = .next t ∧ t.io.supplyOk = false ∧ State.counted 0x380208 s t ∧ State.recorded 0x8E28 0x0C0 [] s t)

/-- A dip is timed and stops the charging; a dip of 1 ms is a power failure: recorded, counted, SF20 set where the supply monitor of a channel found it (a of channel A, b of channel B), and the power-fail writes begin; quiescence and the shelf state end every session, and quiescence every drive; the shelf state, the return of the supply, the wake and the latch's clearing do what R398 to R404 say; a hold-up test runs and gives its capacity, recorded where the store is weak; an exhausted backup cell zeroises a shelved module. -/
def Obligations.SupplyAndHoldupComplete : Prop :=
    (∀ (s : State), s.pwr.dip = false → 
      ∃ t, exec (.supplyDip) s = .next t ∧ t.pwr.dip = true ∧ t.pwr.dipUp = s.clk.upNs ∧ t.pwr.full = false ∧ t.trust.charging = false ∧ t.saf.supplyOkSince = none) ∧
    (∀ (s : State) (a b : Bool), s.pwr.dip = true → s.pwr.fail = false → 
      ∃ t, exec (.powerFail a b) s = .next t ∧ t.pwr.fail = true ∧ t.saf.sf20 = (s.saf.sf20 || a || b) ∧ t.est.learnBusy = true ∧ State.counted 0x010104 s t) ∧
    (∀ (s : State) (a b : Bool), s.ffr.queue.length + 64 ≤ 512 → s.pwr.dip = true → s.pwr.fail = false → (∀ n : Fin 8, s.sweep[n].running = none) → 
      ∃ t, exec (.powerFail a b) s = .next t ∧ State.recorded 0xC81A 0x0F0 [] s t) ∧
    (∀ (s : State), s.pwr.fail = true → s.pwr.quiesced = false → 
      ∃ t, exec (.quiescence) s = .next t ∧ t.pwr.quiesced = true ∧ t.host.sessions = [] ∧ t.twin.activeOut = false ∧ t.saf.fab.pcsOpen = true ∧ t.io.dout = 0 ∧ t.scan.running = false ∧ (∀ n : Fin 8, t.str[n].drives = 0)) ∧
    (∀ (s : State), 
      ∃ t, exec (.shelfStateEntry) s = .next t ∧ t.pwr.shelf = true ∧ t.pwr.quiesced = true ∧ t.pwr.shutLatch = false ∧ t.trust.charging = false ∧ t.host.sessions = []) ∧
    (∀ (s : State), s.room → s.pwr.dip = true → s.pwr.fail = false → 
      ∃ t, exec (.supplyReturn) s = .next t ∧ t.pwr.dip = false ∧ t.saf.supplyOkSince = some s.clk.upNs ∧ State.counted 0x010100 s t ∧ State.recorded 0x4131 0x0F0 [] s t) ∧
    (∀ (s : State), s.pwr.dip = true → s.pwr.fail = true → 
      ∃ t, exec (.supplyReturn) s = .next t ∧ t.pwr.dip = false ∧ t.pwr.fail = (s.pwr.quiesced || s.pwr.shutLatch) ∧ t.saf.supplyOkSince = some s.clk.upNs) ∧
    (∀ (s : State), s.room → 
      ∃ t, exec (.pwrInputHigh) s = .next t ∧ t.pwr.high = true ∧ State.recorded 0x4132 0x0F0 [] s t) ∧
    (∀ (s : State) (q : Req) (x : Session), s.serves q x → s.pwr.test = false → 
      ∃ t, exec (.holdupTest (some q)) s = .next t ∧ t.pwr.test = true ∧ t.pwr.full = false ∧ t.trust.charging = false ∧ t.pwr.resCode = 0) ∧
    (∀ (s : State), s.pwr.test = false → 
      ∃ t, exec (.holdupTest none) s = .next t ∧ t.pwr.test = true ∧ t.pwr.full = false ∧ t.trust.charging = false) ∧
    (∀ (s : State) (cap : BitVec 16), s.room → s.pwr.test = true → 
      ∃ t, exec (.holdupTestDone cap) s = .next t ∧ t.pwr.test = false ∧ t.pwr.cap = cap ∧ t.pwr.weak = decide (cap.toNat < 380) ∧ (cap.toNat < 380 → State.recorded 0x4133 0x0F0 [(cap.toNat : Int)] s t)) ∧
    (∀ (s : State), s.pwr.test = false → s.pwr.dip = false → 
      ∃ t, exec (.holdupCharged) s = .next t ∧ t.pwr.full = true ∧ t.trust.charging = true) ∧
    (∀ (s : State), s.pwr.shelf = true → 
      ∃ t, exec (.shelfWake) s = .next t ∧ t.pwr.shelf = false ∧ t.pwr.dip = false ∧ t.hw.wake = true) ∧
    (∀ (s : State), 
      ∃ t, exec (.shutdownLatchClear) s = .next t ∧ t.pwr.shutLatch = false ∧ t.pwr.fail = s.pwr.fail) ∧
    (∀ (s : State), s.pwr.shelf = true → 
      ∃ t, exec (.backupCellExhausted) s = .next t ∧ t.trust.nv.owner = .zeroised ∧ t.trust.nv.trk = false)

/-- Faults of a domain or a clock are counted and recorded; the sensors are validated and the coolant request follows; a confirmed crossing waits for the guard window; pending and actual thermal shutdown are recorded, the latter on the sensor of channel A, of B, or of both. -/
def Obligations.ClockAndThermalComplete : Prop :=
    (∀ (s : State) (d : Fin 128), s.room → 
      ∃ t, exec (.pwrDomainFault d) s = .next t ∧ State.counted 0x010108 s t ∧ State.recorded 0x8137 0x0F0 [(d.val : Int)] s t) ∧
    (∀ (s : State) (c : Fin 25), s.room → 
      ∃ t, exec (.clockFault c) s = .next t ∧ bit t.pwr.clkOk.toNat c = false ∧ State.counted 0x010208 s t ∧ State.recorded 0x8136 0x0F0 [(c.val : Int)] s t) ∧
    (∀ (s : State) (j : Vector (BitVec 16) 12) (bp : Vector (BitVec 16) 2) (safA safB : BitVec 16) (m : PwrMeas), 
      ∃ t, exec (.thermalSensorRead j bp safA safB m) s = .next t ∧ ((∀ k : Fin 12, t.thm.j[k] = if ((validSensors j)[k.val]?).getD false then j[k] else 0x8000) ∧ t.thm.bp = bp ∧ t.thm.valid = BitVec.ofNat 12 (maskOf (validSensors j)) ∧ t.thm.cool = s.img.cfg.policy.coolRequest bp ∧ t.pwr.inV = m.inV ∧ t.pwr.inI = m.inI ∧ t.thm.band = s.thm.band)) ∧
    (∀ (s : State) (b : Band) (v : Int), s.thm.riseSince.isSome = true → s.thm.goal.up = some (b, v) → s.thm.pend = none → 
      ∃ t, exec (.thmBand) s = .next t ∧ t.thm.pend = some b ∧ t.thm.riseSince = none ∧ t.thm.fallSince = none ∧ t.thm.band = s.thm.band) ∧
    (∀ (s : State), s.room → s.thm.shutPend = false → 
      ∃ t, exec (.shutdownPending) s = .next t ∧ t.thm.shutPend = true ∧ State.recorded 0x4135 0x0F0 [] s t) ∧
    (∀ (s : State) (a b : Bool), s.saf.sf21 = false → s.pwr.fail = false → 
      ∃ t, exec (.thermalShutdown a b) s = .next t ∧ t.saf.sf21 = true ∧ t.pwr.shutLatch = true ∧ t.pwr.fail = true ∧ t.est.learnBusy = true) ∧
    (∀ (s : State) (a b : Bool), s.ffr.queue.length + 64 ≤ 512 → s.saf.sf21 = false → s.pwr.fail = false → (∀ n : Fin 8, s.sweep[n].running = none) → 
      ∃ t, exec (.thermalShutdown a b) s = .next t ∧ State.recorded 0xC138 0x0F0 [] s t ∧ State.recorded 0xC81A 0x0F0 [] s t)

/-- POWER_ON_RESET of a module whose shutdown latch is clear runs the marked bank where it verifies, is complete and is not below the security version held, else the other where that does, and stays in BOOT_HALT where neither does or the self-check or a known-answer test fails; BOOT_COUNT goes up, the TSC takes the RTC with TSC_VALID clear, the role follows FENCE_IN and the configuration (a member whose image declares no pair is ALONE whatever FENCE_IN reads: log entry 98), and the waiting commands are due to lapse; a string that ENUM_AT_START names is enumerated once, and STANDBY_AT_START enters STANDBY once; the door, the console and the card change what R321 and R447 say, the door and the card outside the shelf state, in which only the island runs. -/
def Obligations.StartCommandsComplete : Prop :=
    (∀ (s : State) (r : ResetIn), s.pwr.shutLatch = false → r.selfOk = true → s.bankOk s.upd.nextBank r.markedOk = true → 
      ∃ t, exec (.powerOnReset r) s = .next t ∧ t.upd.runBank = s.upd.nextBank ∧ t.trust.bootHalt = false ∧ t.clk.tscValid = false ∧ t.clk.tscFix = r.rtc * 2 ^ 32 ∧ t.pending = s.pending ∧ (t.trust.nv.bootCount = (if s.trust.nv.bootCount = 0xFFFFFFFF then s.trust.nv.bootCount else s.trust.nv.bootCount + 1)) ∧ (t.twin.role = (if !t.img.cfg.paired then .alone else if r.fenceIn then .fenced else .unsynced) ∧ t.hw.rtc = r.rtc ∧ t.bank.lapseDue = true)) ∧
    (∀ (s : State) (r : ResetIn), s.pwr.shutLatch = false → r.selfOk = true → s.bankOk s.upd.nextBank r.markedOk = false → s.bankOk (!s.upd.nextBank) r.otherOk = true → 
      ∃ t, exec (.powerOnReset r) s = .next t ∧ t.upd.runBank = (!s.upd.nextBank) ∧ t.trust.bankFallback = true ∧ t.trust.bootHalt = false) ∧
    (∀ (s : State) (r : ResetIn), s.pwr.shutLatch = false → s.startBank r = none → 
      ∃ t, exec (.powerOnReset r) s = .next t ∧ t.trust.bootHalt = true ∧ t.saf.fab.armed = true ∧ t.saf.a.run = false ∧ t.saf.b.run = false) ∧
    (∀ (s : State) (n : Fin 8), s.clk.tscValid = true → n ∈ s.declared → bit s.img.cfg.policy.enumAtStart.toNat n = true → bit s.upd.enumDone.toNat n = false → s.ringLease n = true → s.enumCode n = 0 → 
      ∃ t, exec (.startEnumeration) s = .next t ∧ bit t.upd.enumDone.toNat n = true ∧ t.ring[n].mode = .silent ∧ t.ring[n].enumRun.map (·.phase) = some .silence) ∧
    (∀ (s : State), s.img.cfg.policy.standbyAtStart = true → s.upd.standbyDone = false → s.bank.state = .off → s.standbyConds.all id = true → 
      ∃ t, exec (.standbyAtStart) s = .next t ∧ t.upd.standbyDone = true ∧ t.bank.state = .standby) ∧
    (∀ (s : State), s.room → s.pwr.shelf = false → s.hw.doorOpen = false → 
      ∃ t, exec (.serviceDoorOpened) s = .next t ∧ t.hw.doorOpen = true ∧ State.recorded 0x0140 0x0F0 [] s t) ∧
    (∀ (s : State), s.room → s.pwr.shelf = false → s.hw.doorOpen = true → 
      ∃ t, exec (.serviceDoorClosed) s = .next t ∧ t.hw.doorOpen = false ∧ State.recorded 0x0141 0x0F0 [] s t) ∧
    (∀ (s : State), s.hw.console = false → s.pwr.quiesced = false → 
      ∃ t, exec (.consoleAttach) s = .next t ∧ t.hw.console = true ∧ t.host.sessions = s.host.sessions ++ [{ id := 8, port := .console, idleUp := s.clk.upNs }]) ∧
    (∀ (s : State), s.hw.console = false → s.pwr.quiesced = true → 
      ∃ t, exec (.consoleAttach) s = .next t ∧ t.hw.console = true ∧ t.host = s.host) ∧
    (∀ (s : State), 
      ∃ t, exec (.consoleDetach) s = .next t ∧ (t.hw.console = false ∧ ∀ y ∈ t.host.sessions, y.port ≠ .console)) ∧
    (∀ (s : State) (mounts : Bool), s.pwr.shelf = false → 
      ∃ t, exec (.sdCardInserted mounts) s = .next t ∧ t.upd.sdCard = true ∧ t.upd.sdMounts = mounts ∧ t.upd.sdPower = true) ∧
    (∀ (s : State), s.room → s.upd.sdLoad.isSome = true → 
      ∃ t, exec (.sdCardRemoved) s = .next t ∧ t.upd.sdCard = false ∧ t.upd.installing = none ∧ t.upd.sdLoad = none ∧ t.upd.resCode = 0x040D ∧ State.counted 0x440100 s t)

/-- With the conditions of Table 17.5 met, LOAD_SD takes a package that passes Table 17.4 or refuses it with the code of the first check that fails, and LOAD_SD_IMAGE verifies the image; a staged bank whose digest matches becomes the other bank's firmware, recorded, and is refused otherwise; ACTIVATE arms the bank for the second T0, whose evaluation marks it or refuses it with the failing bits; a partner's load or activation starts, a gate driver's reply gives its version or ends the activation, and its timeout fails the transfer, counted; ABORT stops what runs. -/
def Obligations.UpdateCommandsComplete : Prop :=
    (∀ (s : State) (q : Req) (x : Session) (files : List (List Byte)), s.serves q x → s.updConds = 0 → s.sdCode files = 0 → 
      ∃ t, exec (.loadSd q files) s = .next t ∧ (firstCode (s.pkgChecks ((files.head?).getD [])) = 0 → t.upd.resCode = 0 ∧ ((PkgHdr.parse ((files.head?).getD [])).kind = 1 → t.upd.state = .loading ∧ t.upd.installing = some (PkgHdr.parse ((files.head?).getD [])))) ∧ (firstCode (s.pkgChecks ((files.head?).getD [])) ≠ 0 → t.upd.resCode = BitVec.ofNat 16 (firstCode (s.pkgChecks ((files.head?).getD []))) ∧ t.upd.installing = s.upd.installing)) ∧
    (∀ (s : State) (q : Req) (x : Session) (files : List (List Byte)), s.serves q x → s.updConds = 0 → s.sdCode files = 0 → s.planOpen = false → 
      ∃ t, exec (.loadSdImage q files) s = .next t ∧ (firstCode ((s.updResult 0 0).beginImageLoad.imageChecks ((files.head?).getD [])) = 0 → t.img.stg = Slot.ofBytes ((files.head?).getD []) ∧ t.img.plan = .ready ∧ t.jrn.stepsDone = 0) ∧ (firstCode ((s.updResult 0 0).beginImageLoad.imageChecks ((files.head?).getD [])) ≠ 0 → t.img.stg = {} ∧ t.img.plan = .none ∧ t.img.resCode = BitVec.ofNat 16 (firstCode ((s.updResult 0 0).beginImageLoad.imageChecks ((files.head?).getD []))))) ∧
    (∀ (s : State) (h : PkgHdr), s.room → s.upd.installing = some h → 
      ∃ t, exec (.updStaged) s = .next t ∧ t.upd.state = .idle ∧ t.upd.installing = none ∧ (Config.sha384 s.upd.staging = h.target → t.otherBank = { valid := true, version := BitVec.ofNat 32 (h.version * 65536 + h.build), secVersion := h.sec, digest := h.target } ∧ State.recorded 0x0410 0x050 [(h.version : Int), (h.build : Int)] s t) ∧ (Config.sha384 s.upd.staging ≠ h.target → t.otherBank = s.otherBank ∧ t.upd.resCode = 0x0408 ∧ State.counted 0x440100 s t)) ∧
    (∀ (s : State) (q : Req) (x : Session), s.serves q x → s.activateCode x = 0 → 
      ∃ t, exec (.activate q) s = .next t ∧ t.upd.state = .armed ∧ t.upd.armedAt = some (s.cycle + 2) ∧ t.upd.resCode = 0) ∧
    (∀ (s : State) (c : Nat), s.upd.armedAt = some c → c ≤ s.cycle + 1 → s.updConds + s.updActive = 0 → 
      ∃ t, exec (.activateEvaluate) s = .next t ∧ t.upd.nextBank = (!s.upd.runBank) ∧ t.upd.marked = true ∧ t.upd.armed = true ∧ t.upd.armedAt = none) ∧
    (∀ (s : State) (c : Nat), s.room → s.upd.armedAt = some c → c ≤ s.cycle + 1 → s.updConds + s.updActive ≠ 0 → 
      ∃ t, exec (.activateEvaluate) s = .next t ∧ t.upd.state = .idle ∧ t.upd.armedAt = none ∧ t.upd.armed = s.upd.armed ∧ t.upd.nextBank = s.upd.nextBank ∧ t.upd.resCode = 0x0401 ∧ State.counted 0x440100 s t) ∧
    (∀ (s : State) (q : Req) (x : Session) (gd : Bool) (n : Fin 8) (pos : BitVec 5), s.serves q x → s.partCode gd n pos.toNat x = 0 → (gd = true ∨ (s.ring[n].queue.length < 64 ∧ ∀ k, nodeAt pos.toNat = some k → s.ring[n].nodes[k].isolated = false)) → 
      ∃ t, exec (.partLoad q gd n pos) s = .next t ∧ t.upd.state = .partXfer ∧ t.upd.xfer = some { gd := gd, str := n, pos := pos.toNat } ∧ t.upd.progress = 0 ∧ t.upd.resCode = 0) ∧
    (∀ (s : State) (q : Req) (x : Session) (gd : Bool) (n : Fin 8) (pos : BitVec 5), s.serves q x → s.partCode gd n pos.toNat x = 0 → (gd = true ∨ (s.ring[n].queue.length < 64 ∧ ∀ k, nodeAt pos.toNat = some k → s.ring[n].nodes[k].isolated = false)) → 
      ∃ t, exec (.partActivate q gd n pos) s = .next t ∧ t.upd.state = .partXfer ∧ t.upd.xfer = some { gd := gd, str := n, pos := pos.toNat, activate := true } ∧ t.upd.resCode = 0) ∧
    (∀ (s : State) (q : Req) (x : Session), s.serves q x → s.upd.state = .loading ∨ s.upd.state = .partXfer → s.updConds = 0 → 
      ∃ t, exec (.abort q) s = .next t ∧ t.upd.state = .idle ∧ t.upd.xfer = none ∧ t.upd.installing = none ∧ t.upd.resCode = 0) ∧
    (∀ (s : State) (n : Fin 8) (p : Fin 6) (f : ReplyFrame), f.crcOk = true → f.macOk = true → s.str[n].gd[p].session = true → f.opcode = 0x40 → f.status = .ok → 
      ∃ t, exec (.gdReplyReceived n p f) s = .next t ∧ t.str[n].gd[p].hw = (Config.partInfo f.payload).hw ∧ t.str[n].gd[p].fw = (Config.partInfo f.payload).version) ∧
    (∀ (s : State) (n : Fin 8) (p : Fin 6) (f : ReplyFrame) (y : PartXfer), f.crcOk = true → f.macOk = true → s.str[n].gd[p].session = true → f.opcode = 0x51 → f.status = .ok → s.upd.xfer = some y → y.gd = true → y.str = n → y.pos = p.val → y.activate = true → 
      ∃ t, exec (.gdReplyReceived n p f) s = .next t ∧ (t.upd.state = .idle ∧ t.upd.xfer = none ∧ t.str[n].gd[p].session = false ∧ t.upd.pend = s.upd.pend ++ [{ gd := true, str := n, pos := p.val, version := ((s.upd.stored true).map fun z => z.hdr.version).getD 0 }])) ∧
    (∀ (s : State) (n : Fin 8) (p : Fin 6) (y : PartXfer), s.room → s.upd.xfer = some y → y.gd = true → y.str = n → y.pos = p.val → 
      ∃ t, exec (.gdReplyTimeout n p) s = .next t ∧ t.upd.xfer = none ∧ t.upd.state = .idle ∧ t.upd.resCode = 0x040E ∧ State.counted 0x440108 s t)

/-- Each command of chapter 02 answers a next state in which only the named parts of the machine may differ: the image state, the journal where a step is decided or counted, at a commit the settings that follow the configuration, and what recording, counting and answering change. A host request leaves every other session as it was. -/
def Obligations.ImageFrames : Prop :=
    (∀ (s : State) (pin : Bool), 
      ∃ t, exec (.memberSelectChanged pin) s = .next t ∧ s.onlyIn [.stamps, .ident, .queue, .ctr] t) ∧
    (∀ (s : State) (q : Req), 
      ∃ t, exec (.commit q) s = .next t ∧ s.onlyIn (Part.withAnswers [.img, .jrn]) t ∧ (∀ i, i ≠ q.session → t.session i = s.session i)) ∧
    (∀ (s : State) (q : Req), 
      ∃ t, exec (.stepNext q) s = .next t ∧ s.onlyIn (Part.withAnswers [.img, .jrn]) t ∧ (∀ i, i ≠ q.session → t.session i = s.session i)) ∧
    (∀ (s : State) (q : Req), 
      ∃ t, exec (.stepAll q) s = .next t ∧ s.onlyIn (Part.withAnswers [.img, .jrn]) t ∧ (∀ i, i ≠ q.session → t.session i = s.session i)) ∧
    (∀ (s : State) (q : Req), 
      ∃ t, exec (.rollback q) s = .next t ∧ s.onlyIn (Part.withAnswers [.img, .jrn]) t ∧ (∀ i, i ≠ q.session → t.session i = s.session i)) ∧
    (∀ (s : State) (q : Req), 
      ∃ t, exec (.rollbackAll q) s = .next t ∧ s.onlyIn (Part.withAnswers [.img, .jrn]) t ∧ (∀ i, i ≠ q.session → t.session i = s.session i)) ∧
    (∀ (s : State) (q : Req), 
      ∃ t, exec (.discard q) s = .next t ∧ s.onlyIn (Part.withAnswers [.img, .jrn]) t ∧ (∀ i, i ≠ q.session → t.session i = s.session i)) ∧
    (∀ (s : State), 
      ∃ t, exec (.shadowReady) s = .next t ∧ s.onlyIn (Part.withNotes [.img, .jrn]) t) ∧
    (∀ (s : State), 
      ∃ t, exec (.stepEvaluate) s = .next t ∧ s.onlyIn (Part.withNotes [.clk, .img, .twin, .trust, .jrn, .out]) t) ∧
    (∀ (s : State) (bad : Option (Bool × List Byte)), 
      ∃ t, exec (.stepCommit bad) s = .next t ∧ s.onlyIn (Part.withAnswers [.img, .sweep, .str, .rc, .bank, .est, .saf, .twin, .trust, .hist, .host, .jrn, .ptp, .can, .hk, .io, .scan, .pwr]) t) ∧
    (∀ (s : State), 
      ∃ t, exec (.stepPrepare) s = .next t ∧ s.onlyIn [.clk, .img, .twin, .trust, .out] t) ∧
    (∀ (s : State) (f : TwinFrame) (p : Prepare), 
      ∃ t, exec (.prepareReceived f p) s = .next t ∧ s.onlyIn (Part.withNotes [.img, .twin, .trust, .out]) t) ∧
    (∀ (s : State) (f : TwinFrame) (token ready : Bool), 
      ∃ t, exec (.stepPeerAnswer f token ready) s = .next t ∧ s.onlyIn (Part.withNotes [.img, .twin, .trust]) t) ∧
    (∀ (s : State) (f : TwinFrame) (token commit : Bool), 
      ∃ t, exec (.decideReceived f token commit) s = .next t ∧ s.onlyIn (Part.withNotes [.img, .twin, .trust, .jrn]) t) ∧
    (∀ (s : State) (f : TwinFrame) (digest : BitVec 384), 
      ∃ t, exec (.peerMatchConfirm f digest) s = .next t ∧ s.onlyIn (Part.withNotes [.img, .twin]) t) ∧
    (∀ (s : State) (channelB : Bool) (sw1 sw2 : BitVec 4), 
      ∃ t, exec (.switchChange channelB sw1 sw2) s = .next t ∧ s.onlyIn [.stamps, .img, .saf, .queue, .ctr] t) ∧
    (∀ (s : State) (bad : Option (Bool × List Byte)), 
      ∃ t, exec (.profileCrcCheck bad) s = .next t ∧ s.onlyIn [.saf] t) ∧
    (∀ (s : State) (f : TwinFrame) (data : List Byte), 
      ∃ t, exec (.imageForwardReceived f data) s = .next t ∧ s.onlyIn (Part.withNotes [.img, .twin, .jrn, .out]) t)

/-- Each command of chapter 03 and each fixed instant of the bank cycle answers a next state in which only the named parts may differ; a command of Ring n leaves every other Ring, its sensing and its string as they were; a host request leaves every other session as it was. -/
def Obligations.RingFrames : Prop :=
    (∀ (s : State), 
      ∃ t, exec (.bankCycleStart) s = .next t ∧ s.onlyIn (Part.withAnswers [.clk, .img, .ring, .sense, .sweep, .str, .bank, .est, .saf, .twin, .hist, .ffr, .host, .jrn, .upd, .scan, .pwr]) t) ∧
    (∀ (s : State) (raw : Vector AlignedRaw 8), 
      ∃ t, exec (.commonSampleInstant raw) s = .next t ∧ s.onlyIn [.clk, .sweep, .str] t) ∧
    (∀ (s : State) (noSig : BitVec 16), 
      ∃ t, exec (.setClose noSig) s = .next t ∧ s.onlyIn (Part.withAnswers [.clk, .ring, .sense, .sweep, .str, .bank, .est, .saf, .twin, .hist, .upd, .free]) t) ∧
    (∀ (s : State), 
      ∃ t, exec (.guardWindow) s = .next t ∧ s.onlyIn (Part.withNotes [.clk, .ring, .est, .thm, .out]) t) ∧
    (∀ (s : State) (q : Req) (n : Fin 8), 
      ∃ t, exec (.ringEnumerate q n) s = .next t ∧ s.onlyIn (Part.withAnswers [.ring, .twin, .trust]) t ∧ (∀ m, m ≠ n → t.ring[m] = s.ring[m]) ∧ (∀ i, i ≠ q.session → t.session i = s.session i)) ∧
    (∀ (s : State) (q : Req) (n : Fin 8), 
      ∃ t, exec (.ringClose q n) s = .next t ∧ s.onlyIn (Part.withAnswers [.ring]) t ∧ (∀ m, m ≠ n → t.ring[m] = s.ring[m]) ∧ (∀ i, i ≠ q.session → t.session i = s.session i)) ∧
    (∀ (s : State) (n : Fin 8), 
      ∃ t, exec (.enumSilenceEnd n) s = .next t ∧ s.onlyIn [.ring, .free, .out] t ∧ (∀ m, m ≠ n → t.ring[m] = s.ring[m])) ∧
    (∀ (s : State) (n : Fin 8) (crcOk : Bool) (ident : BitVec 128), 
      ∃ t, exec (.identityReceived n crcOk ident) s = .next t ∧ s.onlyIn (Part.withNotes [.ring, .free, .out]) t ∧ (∀ m, m ≠ n → t.ring[m] = s.ring[m])) ∧
    (∀ (s : State) (n : Fin 8), 
      ∃ t, exec (.enumTimeout n) s = .next t ∧ s.onlyIn (Part.withNotes [.ring, .twin, .out]) t ∧ (∀ m, m ≠ n → t.ring[m] = s.ring[m])) ∧
    (∀ (s : State) (n : Fin 8), 
      ∃ t, exec (.assignAtEndB n) s = .next t ∧ s.onlyIn (Part.withNotes [.ring, .out]) t ∧ (∀ m, m ≠ n → t.ring[m] = s.ring[m])) ∧
    (∀ (s : State) (n : Fin 8) (transit : Nat), 
      ∃ t, exec (.transitAtEndB n transit) s = .next t ∧ s.onlyIn (Part.withNotes [.ring, .twin, .out]) t ∧ (∀ m, m ≠ n → t.ring[m] = s.ring[m])) ∧
    (∀ (s : State) (n : Fin 8) (f : SessFrame), 
      ∃ t, exec (.ringSessionFrame n f) s = .next t ∧ s.onlyIn (Part.withNotes [.ring, .out]) t ∧ (∀ m, m ≠ n → t.ring[m] = s.ring[m])) ∧
    (∀ (s : State) (n : Fin 8), 
      ∃ t, exec (.sessionDeadline n) s = .next t ∧ s.onlyIn (Part.withNotes [.ring]) t ∧ (∀ m, m ≠ n → t.ring[m] = s.ring[m])) ∧
    (∀ (s : State) (n : Fin 8) (crcOk macOk : Bool) (elapsed turn : Nat), 
      ∃ t, exec (.probeReplyReceived n crcOk macOk elapsed turn) s = .next t ∧ s.onlyIn (Part.withNotes [.img, .ring, .sense, .str, .twin, .upd, .out]) t ∧ (∀ m, m ≠ n → t.ring[m] = s.ring[m]) ∧ (∀ m, m ≠ n → t.sense[m] = s.sense[m]) ∧ (∀ m, m ≠ n → t.str[m] = s.str[m])) ∧
    (∀ (s : State) (n : Fin 8) (k : Fin 24) (f : SampleFrame), 
      ∃ t, exec (.sampleReceived n k f) s = .next t ∧ s.onlyIn (Part.withAnswers [.ring, .sense, .sweep, .bank, .est, .twin, .hist]) t ∧ (∀ m, m ≠ n → t.ring[m] = s.ring[m]) ∧ (∀ m, m ≠ n → t.sense[m] = s.sense[m]) ∧ (∀ m, m ≠ n → t.sweep[m] = s.sweep[m])) ∧
    (∀ (s : State) (n : Fin 8) (endB : Bool) (f : ReplyFrame), 
      ∃ t, exec (.replyReceived n endB f) s = .next t ∧ s.onlyIn (Part.withNotes [.clk, .ring, .sense, .str, .est, .upd, .out]) t ∧ (∀ m, m ≠ n → t.ring[m] = s.ring[m]) ∧ (∀ m, m ≠ n → t.sense[m] = s.sense[m]) ∧ (∀ m, m ≠ n → t.str[m] = s.str[m])) ∧
    (∀ (s : State) (n : Fin 8) (c : RingCmdReq), 
      ∃ t, exec (.ringCommandRequest n c) s = .next t ∧ s.onlyIn (Part.withNotes [.ring, .out]) t ∧ (∀ m, m ≠ n → t.ring[m] = s.ring[m])) ∧
    (∀ (s : State) (n : Fin 8), 
      ∃ t, exec (.commandWindowOpen n) s = .next t ∧ s.onlyIn (Part.withNotes [.clk, .ring, .out]) t ∧ (∀ m, m ≠ n → t.ring[m] = s.ring[m])) ∧
    (∀ (s : State) (n : Fin 8) (endB : Bool), 
      ∃ t, exec (.exchangeTimeout n endB) s = .next t ∧ s.onlyIn (Part.withNotes [.clk, .ring, .sense, .est, .upd, .out]) t ∧ (∀ m, m ≠ n → t.ring[m] = s.ring[m]) ∧ (∀ m, m ≠ n → t.sense[m] = s.sense[m])) ∧
    (∀ (s : State) (n : Fin 8) (endB : Bool), 
      ∃ t, exec (.ringLos n endB) s = .next t ∧ s.onlyIn (Part.withNotes [.ring]) t ∧ (∀ m, m ≠ n → t.ring[m] = s.ring[m])) ∧
    (∀ (s : State) (n : Fin 8) (endB : Bool), 
      ∃ t, exec (.losSilenceEnd n endB) s = .next t ∧ s.onlyIn (Part.withNotes [.ring, .out]) t ∧ (∀ m, m ≠ n → t.ring[m] = s.ring[m])) ∧
    (∀ (s : State) (n : Fin 8) (endB : Bool) (transit : Nat), 
      ∃ t, exec (.beaconReturn n endB transit) s = .next t ∧ s.onlyIn (Part.withNotes [.ring, .sense, .out]) t ∧ (∀ m, m ≠ n → t.ring[m] = s.ring[m]) ∧ (∀ m, m ≠ n → t.sense[m] = s.sense[m])) ∧
    (∀ (s : State) (n : Fin 8), 
      ∃ t, exec (.missedReturn n) s = .next t ∧ s.onlyIn (Part.withNotes [.ring, .out]) t ∧ (∀ m, m ≠ n → t.ring[m] = s.ring[m])) ∧
    (∀ (s : State) (n : Fin 8), 
      ∃ t, exec (.ringDelayDrift n) s = .next t ∧ s.onlyIn [.stamps, .ring, .queue, .ctr] t ∧ (∀ m, m ≠ n → t.ring[m] = s.ring[m])) ∧
    (∀ (s : State) (n : Fin 8) (current : BitVec 16), 
      ∃ t, exec (.faultLoopOpen n current) s = .next t ∧ s.onlyIn (Part.withAnswers [.ring, .sweep, .str, .bank, .est, .saf, .twin, .hist]) t ∧ (∀ m, m ≠ n → t.ring[m] = s.ring[m]) ∧ (∀ m, m ≠ n → t.sweep[m] = s.sweep[m]) ∧ (∀ m, m ≠ n → t.str[m] = s.str[m])) ∧
    (∀ (s : State) (n : Fin 8), 
      ∃ t, exec (.faultLoopAbnormal n) s = .next t ∧ s.onlyIn [.stamps, .ring, .queue, .ctr] t ∧ (∀ m, m ≠ n → t.ring[m] = s.ring[m])) ∧
    (∀ (s : State) (n : Fin 8) (current : BitVec 16), 
      ∃ t, exec (.faultLoopStateChange n current) s = .next t ∧ s.onlyIn (Part.withNotes [.ring, .saf]) t ∧ (∀ m, m ≠ n → t.ring[m] = s.ring[m])) ∧
    (∀ (s : State), 
      ∃ t, exec (.trackingUpdate) s = .next t ∧ s.onlyIn (Part.withNotes [.ring, .sense, .out]) t)

/-- Each command of chapters 04 and 05 and of ripple cancellation answers a next state in which only the named parts may differ; a command of string n leaves every other string's engine, sweep, repetitive controller, Ring and sensing as they were; a host request leaves every other session as it was. -/
def Obligations.SweepAndStringFrames : Prop :=
    (∀ (s : State) (n : Fin 8) (b : BoundaryIn), 
      ∃ t, exec (.controlCycleBoundary n b) s = .next t ∧ s.onlyIn (Part.withAnswers [.sweep, .str, .rc, .bank, .est, .saf, .twin, .hist, .free]) t ∧ (∀ m, m ≠ n → t.sweep[m] = s.sweep[m]) ∧ (∀ m, m ≠ n → t.str[m] = s.str[m]) ∧ (∀ m, m ≠ n → t.rc[m] = s.rc[m])) ∧
    (∀ (s : State) (n : Fin 8) (late : Bool), 
      ∃ t, exec (.dutyComputed n late) s = .next t ∧ s.onlyIn (Part.withNotes [.sweep, .str, .rc, .twin, .free, .out]) t ∧ (∀ m, m ≠ n → t.sweep[m] = s.sweep[m]) ∧ (∀ m, m ≠ n → t.str[m] = s.str[m]) ∧ (∀ m, m ≠ n → t.rc[m] = s.rc[m])) ∧
    (∀ (s : State) (q : Req) (n : Fin 8), 
      ∃ t, exec (.sweepStart q n) s = .next t ∧ s.onlyIn (Part.withAnswers [.sweep]) t ∧ (∀ m, m ≠ n → t.sweep[m] = s.sweep[m]) ∧ (∀ i, i ≠ q.session → t.session i = s.session i)) ∧
    (∀ (s : State) (q : Req) (n : Fin 8), 
      ∃ t, exec (.sweepAbort q n) s = .next t ∧ s.onlyIn (Part.withAnswers [.sweep, .bank, .est, .twin, .hist]) t ∧ (∀ m, m ≠ n → t.sweep[m] = s.sweep[m]) ∧ (∀ i, i ≠ q.session → t.session i = s.session i)) ∧
    (∀ (s : State) (q : Req) (n : Fin 8), 
      ∃ t, exec (.sweepCancelPending q n) s = .next t ∧ s.onlyIn (Part.withAnswers [.sweep]) t ∧ (∀ m, m ≠ n → t.sweep[m] = s.sweep[m]) ∧ (∀ i, i ≠ q.session → t.session i = s.session i)) ∧
    (∀ (s : State) (n : Fin 8), 
      ∃ t, exec (.sweepPointStart n) s = .next t ∧ s.onlyIn (Part.withAnswers [.ring, .sweep, .bank, .est, .twin, .hist]) t ∧ (∀ m, m ≠ n → t.ring[m] = s.ring[m]) ∧ (∀ m, m ≠ n → t.sweep[m] = s.sweep[m])) ∧
    (∀ (s : State) (n : Fin 8), 
      ∃ t, exec (.sweepAccumulateStart n) s = .next t ∧ s.onlyIn [.sweep] t ∧ (∀ m, m ≠ n → t.sweep[m] = s.sweep[m])) ∧
    (∀ (s : State) (n : Fin 8), 
      ∃ t, exec (.sweepPointLastSet n) s = .next t ∧ s.onlyIn (Part.withAnswers [.sense, .sweep, .bank, .est, .twin, .hist]) t ∧ (∀ m, m ≠ n → t.sense[m] = s.sense[m]) ∧ (∀ m, m ≠ n → t.sweep[m] = s.sweep[m])) ∧
    (∀ (s : State) (n : Fin 8), 
      ∃ t, exec (.sweepResultDeadline n) s = .next t ∧ s.onlyIn (Part.withAnswers [.sweep, .bank, .est, .twin, .hist]) t ∧ (∀ m, m ≠ n → t.sweep[m] = s.sweep[m])) ∧
    (∀ (s : State) (n : Fin 8), 
      ∃ t, exec (.tempPointDue n) s = .next t ∧ s.onlyIn (Part.withNotes [.sweep]) t ∧ (∀ m, m ≠ n → t.sweep[m] = s.sweep[m])) ∧
    (∀ (s : State) (q : Req) (mask : Byte), 
      ∃ t, exec (.calTemp q mask) s = .next t ∧ s.onlyIn (Part.withAnswers [.sweep, .est]) t ∧ (∀ i, i ≠ q.session → t.session i = s.session i)) ∧
    (∀ (s : State) (interval : Nat), 
      ∃ t, exec (.syncInEdge interval) s = .next t ∧ s.onlyIn (Part.withNotes [.str]) t) ∧
    (∀ (s : State) (n : Fin 8), 
      ∃ t, exec (.syncCoast n) s = .next t ∧ s.onlyIn (Part.withNotes [.str]) t ∧ (∀ m, m ≠ n → t.str[m] = s.str[m])) ∧
    (∀ (s : State) (q : Req) (n : Fin 8) (reg : Fin 7) (value : Word), 
      ∃ t, exec (.cwWrite q n reg value) s = .next t ∧ s.onlyIn (Part.withAnswers [.str]) t ∧ (∀ m, m ≠ n → t.str[m] = s.str[m]) ∧ (∀ i, i ≠ q.session → t.session i = s.session i)) ∧
    (∀ (s : State) (q : Req) (n : Fin 8) (value : Word), 
      ∃ t, exec (.holdIntWrite q n value) s = .next t ∧ s.onlyIn (Part.withAnswers [.str]) t ∧ (∀ m, m ≠ n → t.str[m] = s.str[m]) ∧ (∀ i, i ≠ q.session → t.session i = s.session i)) ∧
    (∀ (s : State) (n : Fin 8), 
      ∃ t, exec (.thermalBalanceUpdate n) s = .next t ∧ s.onlyIn [.stamps, .str, .queue, .ctr] t ∧ (∀ m, m ≠ n → t.str[m] = s.str[m])) ∧
    (∀ (s : State) (n : Fin 8) (p : Fin 6) (f : StatusFrame), 
      ∃ t, exec (.gdStatusReceived n p f) s = .next t ∧ s.onlyIn (Part.withNotes [.str]) t ∧ (∀ m, m ≠ n → t.str[m] = s.str[m])) ∧
    (∀ (s : State) (n : Fin 8) (p : Fin 6), 
      ∃ t, exec (.gdFibreFault n p) s = .next t ∧ s.onlyIn (Part.withAnswers [.sweep, .str, .bank, .est, .saf, .twin, .hist]) t ∧ (∀ m, m ≠ n → t.sweep[m] = s.sweep[m]) ∧ (∀ m, m ≠ n → t.str[m] = s.str[m])) ∧
    (∀ (s : State) (n : Fin 8) (aux : BitVec 3), 
      ∃ t, exec (.auxInputChange n aux) s = .next t ∧ s.onlyIn (Part.withAnswers [.sweep, .str, .bank, .est, .saf, .twin, .hist, .free]) t ∧ (∀ m, m ≠ n → t.sweep[m] = s.sweep[m]) ∧ (∀ m, m ≠ n → t.str[m] = s.str[m])) ∧
    (∀ (s : State) (n : Fin 8) (i : Fin 3), 
      ∃ t, exec (.contactorMismatch n i) s = .next t ∧ s.onlyIn (Part.withAnswers [.sweep, .str, .bank, .est, .saf, .twin, .hist]) t ∧ (∀ m, m ≠ n → t.sweep[m] = s.sweep[m]) ∧ (∀ m, m ≠ n → t.str[m] = s.str[m])) ∧
    (∀ (s : State) (n : Fin 8) (i : Fin 3), 
      ∃ t, exec (.coilPullinEnd n i) s = .next t ∧ s.onlyIn [.str, .out] t ∧ (∀ m, m ≠ n → t.str[m] = s.str[m])) ∧
    (∀ (s : State) (n : Fin 8), 
      ∃ t, exec (.prechargeTimeout n) s = .next t ∧ s.onlyIn (Part.withAnswers [.sweep, .str, .bank, .est, .saf, .twin, .hist]) t ∧ (∀ m, m ≠ n → t.sweep[m] = s.sweep[m]) ∧ (∀ m, m ≠ n → t.str[m] = s.str[m])) ∧
    (∀ (s : State) (n : Fin 8), 
      ∃ t, exec (.kNegReleaseDelay n) s = .next t ∧ s.onlyIn (Part.withAnswers [.sweep, .str, .bank, .est, .saf, .twin, .hist]) t ∧ (∀ m, m ≠ n → t.sweep[m] = s.sweep[m]) ∧ (∀ m, m ≠ n → t.str[m] = s.str[m])) ∧
    (∀ (s : State) (n : Fin 8), 
      ∃ t, exec (.tripOpenTimeout n) s = .next t ∧ s.onlyIn (Part.withAnswers [.sweep, .str, .bank, .est, .saf, .twin, .hist]) t ∧ (∀ m, m ≠ n → t.sweep[m] = s.sweep[m]) ∧ (∀ m, m ≠ n → t.str[m] = s.str[m])) ∧
    (∀ (s : State) (q : Req) (n : Fin 8), 
      ∃ t, exec (.stringEnable q n) s = .next t ∧ s.onlyIn (Part.withAnswers [.sweep, .str, .bank, .est, .twin, .trust, .hist, .free]) t ∧ (∀ m, m ≠ n → t.sweep[m] = s.sweep[m]) ∧ (∀ m, m ≠ n → t.str[m] = s.str[m]) ∧ (∀ i, i ≠ q.session → t.session i = s.session i)) ∧
    (∀ (s : State) (q : Req) (n : Fin 8), 
      ∃ t, exec (.stringDisable q n) s = .next t ∧ s.onlyIn (Part.withAnswers [.ring, .sweep, .str, .bank, .est, .twin, .hist]) t ∧ (∀ m, m ≠ n → t.ring[m] = s.ring[m]) ∧ (∀ m, m ≠ n → t.sweep[m] = s.sweep[m]) ∧ (∀ m, m ≠ n → t.str[m] = s.str[m]) ∧ (∀ i, i ≠ q.session → t.session i = s.session i)) ∧
    (∀ (s : State) (q : Req) (n : Fin 8), 
      ∃ t, exec (.stringStart q n) s = .next t ∧ s.onlyIn (Part.withAnswers [.sweep, .str, .bank, .est, .twin, .hist]) t ∧ (∀ m, m ≠ n → t.sweep[m] = s.sweep[m]) ∧ (∀ m, m ≠ n → t.str[m] = s.str[m]) ∧ (∀ i, i ≠ q.session → t.session i = s.session i)) ∧
    (∀ (s : State) (q : Req) (n : Fin 8), 
      ∃ t, exec (.stringHold q n) s = .next t ∧ s.onlyIn (Part.withAnswers [.sweep, .str, .bank, .est, .twin, .hist]) t ∧ (∀ m, m ≠ n → t.sweep[m] = s.sweep[m]) ∧ (∀ m, m ≠ n → t.str[m] = s.str[m]) ∧ (∀ i, i ≠ q.session → t.session i = s.session i)) ∧
    (∀ (s : State) (q : Req) (n : Fin 8), 
      ∃ t, exec (.stringResume q n) s = .next t ∧ s.onlyIn (Part.withAnswers [.sweep, .str, .bank, .est, .twin, .hist]) t ∧ (∀ m, m ≠ n → t.sweep[m] = s.sweep[m]) ∧ (∀ m, m ≠ n → t.str[m] = s.str[m]) ∧ (∀ i, i ≠ q.session → t.session i = s.session i)) ∧
    (∀ (s : State) (q : Req) (n : Fin 8), 
      ∃ t, exec (.stringStop q n) s = .next t ∧ s.onlyIn (Part.withAnswers [.sweep, .str, .bank, .est, .twin, .hist, .jrn]) t ∧ (∀ m, m ≠ n → t.sweep[m] = s.sweep[m]) ∧ (∀ m, m ≠ n → t.str[m] = s.str[m]) ∧ (∀ i, i ≠ q.session → t.session i = s.session i)) ∧
    (∀ (s : State) (q : Req) (n : Fin 8), 
      ∃ t, exec (.stringShed q n) s = .next t ∧ s.onlyIn (Part.withAnswers [.sweep, .str, .bank, .est, .twin, .hist]) t ∧ (∀ m, m ≠ n → t.sweep[m] = s.sweep[m]) ∧ (∀ m, m ≠ n → t.str[m] = s.str[m]) ∧ (∀ i, i ≠ q.session → t.session i = s.session i)) ∧
    (∀ (s : State) (q : Req) (n : Fin 8), 
      ∃ t, exec (.stringService q n) s = .next t ∧ s.onlyIn (Part.withAnswers [.sweep, .str, .bank, .est, .twin, .hist]) t ∧ (∀ m, m ≠ n → t.sweep[m] = s.sweep[m]) ∧ (∀ m, m ≠ n → t.str[m] = s.str[m]) ∧ (∀ i, i ≠ q.session → t.session i = s.session i)) ∧
    (∀ (s : State) (q : Req) (n : Fin 8), 
      ∃ t, exec (.stringClear q n) s = .next t ∧ s.onlyIn (Part.withAnswers [.sweep, .str, .bank, .est, .saf, .twin, .hist, .jrn]) t ∧ (∀ m, m ≠ n → t.sweep[m] = s.sweep[m]) ∧ (∀ m, m ≠ n → t.str[m] = s.str[m]) ∧ (∀ i, i ≠ q.session → t.session i = s.session i)) ∧
    (∀ (s : State) (n : Fin 8), 
      ∃ t, exec (.rcLearn n) s = .next t ∧ s.onlyIn (Part.withNotes [.rc]) t ∧ (∀ m, m ≠ n → t.rc[m] = s.rc[m])) ∧
    (∀ (s : State) (n : Fin 8), 
      ∃ t, exec (.rcPeriodLost n) s = .next t ∧ s.onlyIn (Part.withNotes [.rc]) t ∧ (∀ m, m ≠ n → t.rc[m] = s.rc[m])) ∧
    (∀ (s : State) (n : Fin 8), 
      ∃ t, exec (.rcFadeEnd n) s = .next t ∧ s.onlyIn [.rc] t ∧ (∀ m, m ≠ n → t.rc[m] = s.rc[m])) ∧
    (∀ (s : State) (n : Fin 8), 
      ∃ t, exec (.rippleHigh n) s = .next t ∧ s.onlyIn [.stamps, .rc, .queue, .ctr] t ∧ (∀ m, m ≠ n → t.rc[m] = s.rc[m])) ∧
    (∀ (s : State) (q : Req) (value : Word), 
      ∃ t, exec (.gridFreqWrite q value) s = .next t ∧ s.onlyIn (Part.withAnswers [.bank, .est]) t ∧ (∀ i, i ≠ q.session → t.session i = s.session i))

/-- Each command of chapters 06 and 07 answers a next state in which only the named parts may differ; a host request leaves every other session as it was. -/
def Obligations.BankAndEstimationFrames : Prop :=
    (∀ (s : State), 
      ∃ t, exec (.estimationStepDone) s = .next t ∧ s.onlyIn (Part.withAnswers [.est, .twin, .hist, .jrn, .free]) t) ∧
    (∀ (s : State), 
      ∃ t, exec (.dispatchSplit) s = .next t ∧ s.onlyIn (Part.withNotes [.clk, .str, .bank, .jrn, .free]) t) ∧
    (∀ (s : State), 
      ∃ t, exec (.setpointPublish) s = .next t ∧ s.onlyIn (Part.withNotes [.clk, .bank, .est, .twin, .free, .out]) t) ∧
    (∀ (s : State) (q : Req), 
      ∃ t, exec (.bankStandby q) s = .next t ∧ s.onlyIn (Part.withAnswers [.bank, .saf, .jrn]) t ∧ (∀ i, i ≠ q.session → t.session i = s.session i)) ∧
    (∀ (s : State) (q : Req) (failed : Option (Fin 8)), 
      ∃ t, exec (.bankPrecharge q failed) s = .next t ∧ s.onlyIn (Part.withAnswers [.bank, .saf, .jrn]) t ∧ (∀ i, i ≠ q.session → t.session i = s.session i)) ∧
    (∀ (s : State) (q : Req), 
      ∃ t, exec (.bankRun q) s = .next t ∧ s.onlyIn (Part.withAnswers [.sweep, .str, .bank, .est, .twin, .hist, .jrn]) t ∧ (∀ i, i ≠ q.session → t.session i = s.session i)) ∧
    (∀ (s : State) (q : Req), 
      ∃ t, exec (.bankHold q) s = .next t ∧ s.onlyIn (Part.withAnswers [.sweep, .str, .bank, .est, .twin, .hist, .jrn]) t ∧ (∀ i, i ≠ q.session → t.session i = s.session i)) ∧
    (∀ (s : State) (q : Req), 
      ∃ t, exec (.bankStop q) s = .next t ∧ s.onlyIn (Part.withAnswers [.img, .sweep, .str, .bank, .est, .saf, .twin, .hist, .jrn]) t ∧ (∀ i, i ≠ q.session → t.session i = s.session i)) ∧
    (∀ (s : State) (q : Req), 
      ∃ t, exec (.bankClear q) s = .next t ∧ s.onlyIn (Part.withAnswers [.img, .bank, .saf, .jrn]) t ∧ (∀ i, i ≠ q.session → t.session i = s.session i)) ∧
    (∀ (s : State) (q : Req), 
      ∃ t, exec (.bankService q) s = .next t ∧ s.onlyIn (Part.withAnswers [.bank, .jrn]) t ∧ (∀ i, i ≠ q.session → t.session i = s.session i)) ∧
    (∀ (s : State) (q : Req), 
      ∃ t, exec (.bankOff q) s = .next t ∧ s.onlyIn (Part.withAnswers [.img, .bank, .saf, .jrn]) t ∧ (∀ i, i ≠ q.session → t.session i = s.session i)) ∧
    (∀ (s : State) (q : Req) (body : DispBody), 
      ∃ t, exec (.dispatch q body) s = .next t ∧ s.onlyIn (Part.withAnswers [.bank, .twin, .jrn]) t ∧ (∀ i, i ≠ q.session → t.session i = s.session i)) ∧
    (∀ (s : State) (f : TwinFrame) (seq : Nat), 
      ∃ t, exec (.dispatchConfirm f seq) s = .next t ∧ s.onlyIn (Part.withAnswers [.bank, .twin, .jrn]) t) ∧
    (∀ (s : State) (seq : Nat), 
      ∃ t, exec (.dispatchPeerTimeout seq) s = .next t ∧ s.onlyIn (Part.withAnswers [.bank, .jrn]) t) ∧
    (∀ (s : State) (q : Req) (value : Word), 
      ∃ t, exec (.dispatchQuery q value) s = .next t ∧ s.onlyIn (Part.withAnswers [.bank]) t ∧ (∀ i, i ≠ q.session → t.session i = s.session i)) ∧
    (∀ (s : State) (q : Req) (mask : Byte), 
      ∃ t, exec (.reinit q mask) s = .next t ∧ s.onlyIn (Part.withAnswers [.est]) t ∧ (∀ i, i ≠ q.session → t.session i = s.session i)) ∧
    (∀ (s : State) (q : Req), 
      ∃ t, exec (.learnNow q) s = .next t ∧ s.onlyIn (Part.withAnswers [.est, .twin, .jrn]) t ∧ (∀ i, i ≠ q.session → t.session i = s.session i)) ∧
    (∀ (s : State), 
      ∃ t, exec (.learnedValuesWrite) s = .next t ∧ s.onlyIn [.est, .twin, .jrn, .out] t) ∧
    (∀ (s : State) (ok : Bool), 
      ∃ t, exec (.learnWriteDone ok) s = .next t ∧ s.onlyIn (Part.withNotes [.est, .twin, .jrn, .jctr, .out]) t) ∧
    (∀ (s : State), 
      ∃ t, exec (.balancingDecision) s = .next t ∧ s.onlyIn (Part.withAnswers [.ring, .est, .twin, .hist, .jrn]) t)

/-- Each command of chapter 08 answers a next state in which only the named parts may differ; one about string n leaves every other string as it was. -/
def Obligations.SafetyFrames : Prop :=
    (∀ (s : State) (channelB : Bool), 
      ∃ t, exec (.safetyEvaluation channelB) s = .next t ∧ s.onlyIn (Part.withAnswers [.clk, .sweep, .str, .bank, .est, .saf, .twin, .hist, .jrn]) t) ∧
    (∀ (s : State) (channelB : Bool) (n : Fin 8), 
      ∃ t, exec (.tripRequest channelB n) s = .next t ∧ s.onlyIn (Part.withAnswers [.sweep, .str, .bank, .est, .saf, .twin, .hist]) t ∧ (∀ m, m ≠ n → t.sweep[m] = s.sweep[m]) ∧ (∀ m, m ≠ n → t.str[m] = s.str[m])) ∧
    (∀ (s : State), 
      ∃ t, exec (.safetyCrossCompare) s = .next t ∧ s.onlyIn [.clk, .saf, .out] t) ∧
    (∀ (s : State) (channelB : Bool) (ok : Bool), 
      ∃ t, exec (.compareMessage channelB ok) s = .next t ∧ s.onlyIn (Part.withNotes [.saf]) t) ∧
    (∀ (s : State) (channelB : Bool), 
      ∃ t, exec (.compareDeadline channelB) s = .next t ∧ s.onlyIn (Part.withAnswers [.clk, .sweep, .str, .bank, .est, .saf, .twin, .trust, .hist, .jrn, .ptp, .hk, .io]) t) ∧
    (∀ (s : State) (channelB : Bool), 
      ∃ t, exec (.channelHeartbeatSilent channelB) s = .next t ∧ s.onlyIn (Part.withAnswers [.sweep, .str, .bank, .est, .saf, .twin, .trust, .hist, .jrn, .ptp, .hk, .io]) t) ∧
    (∀ (s : State) (n : Fin 8) (chB : Bool), 
      ∃ t, exec (.overCurrent n chB) s = .next t ∧ s.onlyIn (Part.withAnswers [.sweep, .str, .bank, .est, .saf, .twin, .hist]) t ∧ (∀ m, m ≠ n → t.sweep[m] = s.sweep[m]) ∧ (∀ m, m ≠ n → t.str[m] = s.str[m])) ∧
    (∀ (s : State) (inputB : Bool), 
      ∃ t, exec (.estop inputB) s = .next t ∧ s.onlyIn (Part.withAnswers [.sweep, .str, .bank, .est, .saf, .twin, .hist, .jrn]) t) ∧
    (∀ (s : State), 
      ∃ t, exec (.extTrip) s = .next t ∧ s.onlyIn (Part.withAnswers [.sweep, .str, .bank, .est, .saf, .twin, .hist, .jrn]) t) ∧
    (∀ (s : State) (channelB : Bool) (thr : List Nat), 
      ∃ t, exec (.fabricCfgMismatch channelB thr) s = .next t ∧ s.onlyIn (Part.withNotes [.saf, .out]) t) ∧
    (∀ (s : State), 
      ∃ t, exec (.estopDiscrepancy) s = .next t ∧ s.onlyIn (Part.withNotes [.saf]) t) ∧
    (∀ (s : State), 
      ∃ t, exec (.estopResetArmed) s = .next t ∧ s.onlyIn [.saf] t) ∧
    (∀ (s : State), 
      ∃ t, exec (.estopCoilTimer) s = .next t ∧ s.onlyIn (Part.withAnswers [.sweep, .str, .bank, .est, .saf, .twin, .hist]) t) ∧
    (∀ (s : State) (channelB : Bool) (failed : List FabricIn), 
      ∃ t, exec (.inputSelftest channelB failed) s = .next t ∧ s.onlyIn [.stamps, .saf, .queue, .ctr] t) ∧
    (∀ (s : State) (q : Req) (failed : Option (Fin 8)), 
      ∃ t, exec (.outputTest q failed) s = .next t ∧ s.onlyIn (Part.withAnswers [.saf]) t ∧ (∀ i, i ≠ q.session → t.session i = s.session i)) ∧
    (∀ (s : State), 
      ∃ t, exec (.testDue) s = .next t ∧ s.onlyIn [.stamps, .saf, .queue, .ctr] t) ∧
    (∀ (s : State) (inputB : Bool), 
      ∃ t, exec (.estopInputClosed inputB) s = .next t ∧ s.onlyIn [.saf] t) ∧
    (∀ (s : State) (i : TripSel), 
      ∃ t, exec (.tripInputReleased i) s = .next t ∧ s.onlyIn (Part.withNotes [.str, .saf]) t)

/-- Each command of chapter 09 answers a next state in which only the named parts may differ; a host request leaves every other session as it was. -/
def Obligations.TwinFrames : Prop :=
    (∀ (s : State), 
      ∃ t, exec (.fenceInActive) s = .next t ∧ s.onlyIn (Part.withNotes [.ring, .str, .twin, .trust, .ptp, .hk, .io, .out]) t) ∧
    (∀ (s : State), 
      ∃ t, exec (.heartbeatSend) s = .next t ∧ s.onlyIn [.twin, .out] t) ∧
    (∀ (s : State) (f : TwinFrame) (h : Heartbeat), 
      ∃ t, exec (.heartbeatReceived f h) s = .next t ∧ s.onlyIn (Part.withAnswers [.img, .sweep, .str, .rc, .bank, .est, .saf, .twin, .trust, .hist, .jrn, .ptp, .can, .hk, .io, .scan, .pwr]) t) ∧
    (∀ (s : State), 
      ∃ t, exec (.heartbeatTimeout) s = .next t ∧ s.onlyIn (Part.withNotes [.twin, .trust, .ptp, .hk, .out]) t) ∧
    (∀ (s : State) (lane1 : Bool), 
      ∃ t, exec (.twinLaneDown lane1) s = .next t ∧ s.onlyIn (Part.withNotes [.twin]) t) ∧
    (∀ (s : State), 
      ∃ t, exec (.leaseTick) s = .next t ∧ s.onlyIn [.twin, .out] t) ∧
    (∀ (s : State) (l : LeaseId), 
      ∃ t, exec (.leaseExpiry l) s = .next t ∧ s.onlyIn (Part.withNotes [.ring, .str, .twin, .hist, .io, .out]) t) ∧
    (∀ (s : State) (l : LeaseId), 
      ∃ t, exec (.leaseClaim l) s = .next t ∧ s.onlyIn (Part.withAnswers [.ring, .sense, .sweep, .str, .rc, .bank, .est, .saf, .twin, .trust, .hist, .jrn, .ptp, .can, .hk, .io]) t) ∧
    (∀ (s : State) (v : Line3), 
      ∃ t, exec (.activeInChange v) s = .next t ∧ s.onlyIn (Part.withAnswers [.ring, .sense, .sweep, .str, .rc, .bank, .est, .saf, .twin, .trust, .hist, .jrn, .ptp, .can, .hk, .io]) t) ∧
    (∀ (s : State), 
      ∃ t, exec (.fenceWaitEnd) s = .next t ∧ s.onlyIn (Part.withNotes [.twin, .out]) t) ∧
    (∀ (s : State), 
      ∃ t, exec (.fenceConfirmed) s = .next t ∧ s.onlyIn [.stamps, .twin, .queue, .ctr] t) ∧
    (∀ (s : State), 
      ∃ t, exec (.fenceUnconfirmed) s = .next t ∧ s.onlyIn [.stamps, .twin, .trust, .queue, .ptp, .hk, .ctr] t) ∧
    (∀ (s : State) (contend : Bool), 
      ∃ t, exec (.pairFormation contend) s = .next t ∧ s.onlyIn (Part.withNotes [.ring, .sense, .str, .twin, .trust, .hist, .jrn, .ptp, .can, .hk, .io, .out]) t) ∧
    (∀ (s : State) (f : TwinFrame) (n : Fin 8) (c : CtlRecord), 
      ∃ t, exec (.controlRecordReceived f n c) s = .next t ∧ s.onlyIn (Part.withNotes [.ring, .rc, .twin, .hist]) t ∧ (∀ m, m ≠ n → t.ring[m] = s.ring[m]) ∧ (∀ m, m ≠ n → t.rc[m] = s.rc[m])) ∧
    (∀ (s : State) (f : TwinFrame) (e : EstRecord), 
      ∃ t, exec (.estimationRecordReceived f e) s = .next t ∧ s.onlyIn (Part.withAnswers [.img, .bank, .est, .saf, .twin, .trust, .hist, .host, .jrn, .io, .free]) t) ∧
    (∀ (s : State), 
      ∃ t, exec (.standbyDesync) s = .next t ∧ s.onlyIn [.stamps, .twin, .trust, .queue, .ptp, .hk, .ctr] t) ∧
    (∀ (s : State) (q : Req), 
      ∃ t, exec (.switchover q) s = .next t ∧ s.onlyIn (Part.withAnswers [.twin]) t ∧ (∀ i, i ≠ q.session → t.session i = s.session i)) ∧
    (∀ (s : State), 
      ∃ t, exec (.switchoverRelease) s = .next t ∧ s.onlyIn (Part.withNotes [.clk, .ring, .str, .twin, .trust, .hist, .ptp, .hk, .io, .out]) t) ∧
    (∀ (s : State) (f : TwinFrame) (leases : List LeaseId), 
      ∃ t, exec (.releaseReceived f leases) s = .next t ∧ s.onlyIn (Part.withAnswers [.ring, .sense, .sweep, .str, .rc, .bank, .est, .saf, .twin, .trust, .hist, .jrn, .ptp, .can, .hk, .io]) t) ∧
    (∀ (s : State) (q : Req), 
      ∃ t, exec (.unfence q) s = .next t ∧ s.onlyIn (Part.withAnswers [.twin]) t ∧ (∀ i, i ≠ q.session → t.session i = s.session i)) ∧
    (∀ (s : State) (q : Req), 
      ∃ t, exec (.resync q) s = .next t ∧ s.onlyIn (Part.withAnswers [.clk, .str, .twin, .trust, .free]) t ∧ (∀ i, i ≠ q.session → t.session i = s.session i)) ∧
    (∀ (s : State) (peerTsc : Nat), 
      ∃ t, exec (.axolotlResyncStart peerTsc) s = .next t ∧ s.onlyIn [.clk, .str, .twin, .trust, .free, .out] t) ∧
    (∀ (s : State) (c : ResyncCopy), 
      ∃ t, exec (.axolotlDone c) s = .next t ∧ s.onlyIn (Part.withNotes [.ring, .str, .rc, .est, .twin, .trust, .hist, .jrn, .ptp, .hk, .io, .scan, .out]) t) ∧
    (∀ (s : State) (stp : ResyncStep), 
      ∃ t, exec (.resyncFail stp) s = .next t ∧ s.onlyIn (Part.withNotes [.twin]) t) ∧
    (∀ (s : State) (f : TwinFrame) (arrived : BitVec 32) (renew : List (LeaseId × BitVec 32)), 
      ∃ t, exec (.timeFrameReceived f arrived renew) s = .next t ∧ s.onlyIn (Part.withNotes [.clk, .ring, .twin, .hist, .out]) t) ∧
    (∀ (s : State), 
      ∃ t, exec (.twinTimeUnlock) s = .next t ∧ s.onlyIn (Part.withNotes [.twin]) t) ∧
    (∀ (s : State), 
      ∃ t, exec (.twinPtpDiff) s = .next t ∧ s.onlyIn (Part.withNotes [.twin]) t) ∧
    (∀ (s : State) (h : PairHello), 
      ∃ t, exec (.pairHello h) s = .next t ∧ s.onlyIn (Part.withNotes [.twin, .free, .out]) t) ∧
    (∀ (s : State), 
      ∃ t, exec (.pairRekey) s = .next t ∧ s.onlyIn [.twin, .free, .out] t) ∧
    (∀ (s : State) (lane1 : Bool), 
      ∃ t, exec (.twinLaneUp lane1) s = .next t ∧ s.onlyIn [.twin, .free, .out] t) ∧
    (∀ (s : State), 
      ∃ t, exec (.fenceInReleased) s = .next t ∧ s.onlyIn [.stamps, .twin, .trust, .queue, .ptp, .hk, .ctr, .out] t) ∧
    (∀ (s : State) (f : TwinFrame) (w : TwinWork), 
      ∃ t, exec (.acceptedWorkReceived f w) s = .next t ∧ s.onlyIn (Part.withAnswers [.img, .ring, .sense, .str, .est, .twin, .hist, .jrn, .upd]) t) ∧
    (∀ (s : State), 
      ∃ t, exec (.outputHoldExpiry) s = .next t ∧ s.onlyIn [.str, .saf, .twin, .io, .out] t)

/-- Each command of chapters 10 and 12 but those of time answers a next state in which only the named parts may differ; a host request leaves every other session as it was. -/
def Obligations.TrustAndHostFrames : Prop :=
    (∀ (s : State) (q : Req) (addr count : Nat), 
      ∃ t, exec (.readLoLatch q addr count) s = .next t ∧ s.onlyIn (Part.withAnswers [.free]) t ∧ (∀ i, i ≠ q.session → t.session i = s.session i)) ∧
    (∀ (s : State) (q : Req) (addr : Nat) (words : List Word), 
      ∃ t, exec (.registerWrite q addr words) s = .next t ∧ s.onlyIn (Part.withAnswers [.clk, .ident, .img, .ring, .sweep, .str, .rc, .bank, .est, .saf, .twin, .trust, .hist, .ffr, .host, .jrn, .ptp, .can, .hk, .upd, .io, .scan, .pwr, .free]) t ∧ (∀ i, i ≠ q.session → t.session i = s.session i)) ∧
    (∀ (s : State) (q : Req) (addr : Nat) (value : Word), 
      ∃ t, exec (.counterClear q addr value) s = .next t ∧ s.onlyIn (Part.withAnswers [.clk, .ident, .img, .ring, .sweep, .str, .rc, .bank, .est, .saf, .twin, .trust, .hist, .ffr, .host, .jrn, .ptp, .can, .hk, .upd, .io, .scan, .pwr, .free]) t ∧ (∀ i, i ≠ q.session → t.session i = s.session i)) ∧
    (∀ (s : State) (w : AckWork), 
      ∃ t, exec (.journalWriteDone w) s = .next t ∧ s.onlyIn (Part.withAnswers [.clk, .ident, .img, .ring, .sweep, .str, .rc, .bank, .est, .saf, .twin, .trust, .hist, .ffr, .host, .jrn, .ptp, .can, .hk, .upd, .io, .scan, .pwr, .free]) t) ∧
    (∀ (s : State) (q : Req), 
      ∃ t, exec (.applyToken q) s = .next t ∧ s.onlyIn (Part.withAnswers [.trust]) t ∧ (∀ i, i ≠ q.session → t.session i = s.session i)) ∧
    (∀ (s : State), 
      ∃ t, exec (.tokenEffect) s = .next t ∧ s.onlyIn (Part.withAnswers [.twin, .trust, .hist, .host, .free]) t) ∧
    (∀ (s : State) (q : Req), 
      ∃ t, exec (.secCommit q) s = .next t ∧ s.onlyIn (Part.withAnswers [.trust]) t ∧ (∀ i, i ≠ q.session → t.session i = s.session i)) ∧
    (∀ (s : State) (q : Req) (mask : Byte), 
      ∃ t, exec (.gdSession q mask) s = .next t ∧ s.onlyIn (Part.withAnswers [.str, .trust, .free]) t ∧ (∀ i, i ≠ q.session → t.session i = s.session i)) ∧
    (∀ (s : State) (q : Req) (mask : Byte), 
      ∃ t, exec (.bindRing q mask) s = .next t ∧ s.onlyIn (Part.withAnswers [.trust]) t ∧ (∀ i, i ≠ q.session → t.session i = s.session i)) ∧
    (∀ (s : State) (n : Fin 8) (p : Fin 6) (f : SessFrame), 
      ∃ t, exec (.gdSessionFrame n p f) s = .next t ∧ s.onlyIn (Part.withNotes [.str, .out]) t ∧ (∀ m, m ≠ n → t.str[m] = s.str[m])) ∧
    (∀ (s : State) (q : Req) (nonce : Nat), 
      ∃ t, exec (.attest q nonce) s = .next t ∧ s.onlyIn Part.answers t ∧ (∀ i, i ≠ q.session → t.session i = s.session i)) ∧
    (∀ (s : State) (q : Req) (kind addr count nonce : Nat), 
      ∃ t, exec (.report q kind addr count nonce) s = .next t ∧ s.onlyIn (Part.withAnswers [.trust, .free]) t ∧ (∀ i, i ≠ q.session → t.session i = s.session i)) ∧
    (∀ (s : State) (source rtc : Nat), 
      ∃ t, exec (.tamperDetected source rtc) s = .next t ∧ s.onlyIn (Part.withAnswers [.ring, .str, .twin, .trust, .host]) t) ∧
    (∀ (s : State) (mv : BitVec 16), 
      ∃ t, exec (.backupLow mv) s = .next t ∧ s.onlyIn [.stamps, .trust, .queue, .ctr] t) ∧
    (∀ (s : State) (mv : BitVec 16) (charger : Bool), 
      ∃ t, exec (.backupFail mv charger) s = .next t ∧ s.onlyIn [.stamps, .trust, .queue, .ctr] t) ∧
    (∀ (s : State) (c : TlsConn), 
      ∃ t, exec (.tlsConnect c) s = .next t ∧ s.onlyIn (Part.withAnswers [.host]) t) ∧
    (∀ (s : State) (session : Nat), 
      ∃ t, exec (.tlsKeyUpdate session) s = .next t ∧ s.onlyIn [.sessions, .out] t) ∧
    (∀ (s : State) (p : HostPort) (why : LinkDown), 
      ∃ t, exec (.hostLinkDown p why) s = .next t ∧ s.onlyIn (Part.withAnswers [.host]) t) ∧
    (∀ (s : State) (p : HostPort), 
      ∃ t, exec (.hostFrameDiscard p) s = .next t ∧ s.onlyIn Part.notes t) ∧
    (∀ (s : State) (q : Req) (wtag : BitVec 64) (addr : Nat) (words : List Word), 
      ∃ t, exec (.journaledWrite q wtag addr words) s = .next t ∧ s.onlyIn (Part.withAnswers [.clk, .ident, .img, .ring, .sweep, .str, .rc, .bank, .est, .saf, .twin, .trust, .hist, .ffr, .host, .jrn, .ptp, .can, .hk, .upd, .io, .scan, .pwr, .free]) t ∧ (∀ i, i ≠ q.session → t.session i = s.session i)) ∧
    (∀ (s : State), 
      ∃ t, exec (.journalReapply) s = .next t ∧ s.onlyIn (Part.withAnswers [.clk, .ident, .img, .ring, .sweep, .str, .rc, .bank, .est, .saf, .twin, .trust, .hist, .ffr, .host, .jrn, .ptp, .can, .hk, .upd, .io, .scan, .pwr, .free]) t) ∧
    (∀ (s : State) (q : Req) (target : Nat) (restart : Bool) (total : Nat) (digest : BitVec 384), 
      ∃ t, exec (.blockBegin q target restart total digest) s = .next t ∧ s.onlyIn (Part.withAnswers [.img, .host, .jrn, .upd]) t ∧ (∀ i, i ≠ q.session → t.session i = s.session i)) ∧
    (∀ (s : State) (q : Req) (target offset : Nat) (data : List Byte), 
      ∃ t, exec (.blockData q target offset data) s = .next t ∧ s.onlyIn (Part.withAnswers [.host]) t ∧ (∀ i, i ≠ q.session → t.session i = s.session i)) ∧
    (∀ (s : State) (q : Req) (target : Nat), 
      ∃ t, exec (.blockEnd q target) s = .next t ∧ s.onlyIn (Part.withAnswers [.img, .twin, .trust, .host, .jrn, .upd]) t ∧ (∀ i, i ≠ q.session → t.session i = s.session i)) ∧
    (∀ (s : State) (q : Req) (minClass : Byte), 
      ∃ t, exec (.subscribe q minClass) s = .next t ∧ s.onlyIn Part.answers t ∧ (∀ i, i ≠ q.session → t.session i = s.session i)) ∧
    (∀ (s : State) (q : Req), 
      ∃ t, exec (.keepalive q) s = .next t ∧ s.onlyIn Part.answers t ∧ (∀ i, i ≠ q.session → t.session i = s.session i)) ∧
    (∀ (s : State) (session : Nat), 
      ∃ t, exec (.sessionIdleTimeout session) s = .next t ∧ s.onlyIn [.host, .sessions, .out] t) ∧
    (∀ (s : State) (target : Nat), 
      ∃ t, exec (.transferExpiry target) s = .next t ∧ s.onlyIn [.img, .host] t) ∧
    (∀ (s : State) (q : Req) (index : Nat), 
      ∃ t, exec (.forgetIdentity q index) s = .next t ∧ s.onlyIn (Part.withAnswers [.host, .jrn]) t ∧ (∀ i, i ≠ q.session → t.session i = s.session i)) ∧
    (∀ (s : State) (p : HostPort), 
      ∃ t, exec (.hostLinkUp p) s = .next t ∧ s.onlyIn [.host] t) ∧
    (∀ (s : State) (session : Nat), 
      ∃ t, exec (.tlsSessionClosed session) s = .next t ∧ s.onlyIn [.host, .sessions, .out] t) ∧
    (∀ (s : State) (f : TwinFrame) (w : WorkCopy), 
      ∃ t, exec (.workCopyConfirmed f w) s = .next t ∧ s.onlyIn (Part.withAnswers [.clk, .ident, .img, .ring, .sweep, .str, .rc, .bank, .est, .saf, .twin, .trust, .hist, .ffr, .host, .jrn, .ptp, .can, .hk, .upd, .io, .scan, .pwr, .free]) t) ∧
    (∀ (s : State) (q : Req) (type len : Nat), 
      ∃ t, exec (.undefinedMessage q type len) s = .next t ∧ s.onlyIn (Part.withAnswers [.host]) t ∧ (∀ i, i ≠ q.session → t.session i = s.session i))

/-- Each command of chapter 11 and each time command of chapter 12 answers a next state in which only the named parts may differ; a host request leaves every other session as it was. -/
def Obligations.RecordFrames : Prop :=
    (∀ (s : State) (kind : BitVec 16) (source : Nat) (body : List Byte), 
      ∃ t, exec (.historyAdmission kind source body) s = .next t ∧ s.onlyIn (Part.withAnswers [.twin, .hist]) t) ∧
    (∀ (s : State) (rseq : Nat), 
      ∃ t, exec (.shelfWriteDone rseq) s = .next t ∧ s.onlyIn (Part.withAnswers [.twin, .hist]) t) ∧
    (∀ (s : State) (copyB : Bool) (cmd : Nat), 
      ∃ t, exec (.shelfCommandFail copyB cmd) s = .next t ∧ s.onlyIn (Part.withNotes [.hist, .out]) t) ∧
    (∀ (s : State), 
      ∃ t, exec (.checkpoint) s = .next t ∧ s.onlyIn (Part.withAnswers [.twin, .hist]) t) ∧
    (∀ (s : State) (q : Req) (force : Bool) (ns : ShelfNs), 
      ∃ t, exec (.attachA q force ns) s = .next t ∧ s.onlyIn (Part.withAnswers [.hist]) t ∧ (∀ i, i ≠ q.session → t.session i = s.session i)) ∧
    (∀ (s : State) (q : Req) (force : Bool) (ns : ShelfNs), 
      ∃ t, exec (.attachB q force ns) s = .next t ∧ s.onlyIn (Part.withAnswers [.hist]) t ∧ (∀ i, i ≠ q.session → t.session i = s.session i)) ∧
    (∀ (s : State) (copyB : Bool), 
      ∃ t, exec (.histAttached copyB) s = .next t ∧ s.onlyIn [.stamps, .hist, .queue, .ctr] t) ∧
    (∀ (s : State) (q : Req), 
      ∃ t, exec (.newStore q) s = .next t ∧ s.onlyIn (Part.withAnswers [.twin, .hist, .free]) t ∧ (∀ i, i ≠ q.session → t.session i = s.session i)) ∧
    (∀ (s : State) (q : Req), 
      ∃ t, exec (.seal q) s = .next t ∧ s.onlyIn (Part.withAnswers [.twin, .hist]) t ∧ (∀ i, i ≠ q.session → t.session i = s.session i)) ∧
    (∀ (s : State) (q : Req) (profile : BitVec 4), 
      ∃ t, exec (.selectProfile q profile) s = .next t ∧ s.onlyIn (Part.withAnswers [.hist]) t ∧ (∀ i, i ≠ q.session → t.session i = s.session i)) ∧
    (∀ (s : State), 
      ∃ t, exec (.profileChangeApply) s = .next t ∧ s.onlyIn (Part.withAnswers [.twin, .hist]) t) ∧
    (∀ (s : State) (code : BitVec 16) (source : Nat) (body : List Int), 
      ∃ t, exec (.ffrEventDelivery code source body) s = .next t ∧ s.onlyIn [.stamps, .queue, .ctr] t) ∧
    (∀ (s : State), 
      ∃ t, exec (.ffrWriterTake) s = .next t ∧ s.onlyIn (Part.withNotes [.ffr]) t) ∧
    (∀ (s : State) (full : List Nat), 
      ∃ t, exec (.ffrCommitDone full) s = .next t ∧ s.onlyIn (Part.withAnswers [.twin, .hist, .ffr]) t) ∧
    (∀ (s : State), 
      ∃ t, exec (.ffrSecondEnd) s = .next t ∧ s.onlyIn [.ffr] t) ∧
    (∀ (s : State) (q : Req), 
      ∃ t, exec (.archive q) s = .next t ∧ s.onlyIn (Part.withAnswers [.twin, .hist, .ffr]) t ∧ (∀ i, i ≠ q.session → t.session i = s.session i)) ∧
    (∀ (s : State) (q : Req), 
      ∃ t, exec (.ffrClear q) s = .next t ∧ s.onlyIn (Part.withAnswers [.ffr]) t ∧ (∀ i, i ≠ q.session → t.session i = s.session i)) ∧
    (∀ (s : State) (f : TwinFrame) (r : FfrRec), 
      ∃ t, exec (.ffrMirrorReceived f r) s = .next t ∧ s.onlyIn (Part.withAnswers [.twin, .hist, .ffr]) t) ∧
    (∀ (s : State) (seq : BitVec 32), 
      ∃ t, exec (.ffrMirrorTimeout seq) s = .next t ∧ s.onlyIn (Part.withNotes [.ffr]) t) ∧
    (∀ (s : State) (q : Req) (tai : Nat), 
      ∃ t, exec (.timeSet q tai) s = .next t ∧ s.onlyIn (Part.withAnswers [.clk]) t ∧ (∀ i, i ≠ q.session → t.session i = s.session i)) ∧
    (∀ (s : State) (q : Req) (text : List Byte), 
      ∃ t, exec (.note q text) s = .next t ∧ s.onlyIn (Part.withAnswers [.twin, .hist]) t ∧ (∀ i, i ≠ q.session → t.session i = s.session i)) ∧
    (∀ (s : State) (m : PtpMsg), 
      ∃ t, exec (.ptpSyncReceived m) s = .next t ∧ s.onlyIn (Part.withNotes [.clk, .host, .ptp]) t) ∧
    (∀ (s : State) (m : PtpMsg), 
      ∃ t, exec (.ptpFollowUp m) s = .next t ∧ s.onlyIn (Part.withNotes [.clk, .host, .ptp]) t) ∧
    (∀ (s : State) (raw : Int), 
      ∃ t, exec (.ptpDelayReqDue raw) s = .next t ∧ s.onlyIn [.ptp, .out] t) ∧
    (∀ (s : State) (m : PtpMsg), 
      ∃ t, exec (.ptpDelayResp m) s = .next t ∧ s.onlyIn (Part.withNotes [.ptp]) t) ∧
    (∀ (s : State) (m : PtpMsg), 
      ∃ t, exec (.ptpPdelayReq m) s = .next t ∧ s.onlyIn (Part.withNotes [.out]) t) ∧
    (∀ (s : State) (m : PtpAnn), 
      ∃ t, exec (.ptpAnnounce m) s = .next t ∧ s.onlyIn (Part.withNotes [.host, .ptp]) t) ∧
    (∀ (s : State), 
      ∃ t, exec (.ptpMasterLost) s = .next t ∧ s.onlyIn (Part.withNotes [.clk, .host, .ptp]) t) ∧
    (∀ (s : State) (q : Req), 
      ∃ t, exec (.acceptMaster q) s = .next t ∧ s.onlyIn (Part.withAnswers [.clk, .ptp]) t ∧ (∀ i, i ≠ q.session → t.session i = s.session i)) ∧
    (∀ (s : State) (q : Req) (value : Word), 
      ∃ t, exec (.ptpIncrementHi q value) s = .next t ∧ s.onlyIn (Part.withAnswers [.ptp]) t ∧ (∀ i, i ≠ q.session → t.session i = s.session i)) ∧
    (∀ (s : State) (q : Req) (value : Word), 
      ∃ t, exec (.ptpIncrementLo q value) s = .next t ∧ s.onlyIn (Part.withAnswers [.clk, .ptp]) t ∧ (∀ i, i ≠ q.session → t.session i = s.session i)) ∧
    (∀ (s : State) (q : Req) (value : Word), 
      ∃ t, exec (.ptpOffset q value) s = .next t ∧ s.onlyIn (Part.withAnswers [.clk, .ptp]) t ∧ (∀ i, i ≠ q.session → t.session i = s.session i)) ∧
    (∀ (s : State), 
      ∃ t, exec (.tscSet) s = .next t ∧ s.onlyIn (Part.withAnswers [.clk, .ring, .sense, .host]) t) ∧
    (∀ (s : State) (copyB : Bool) (r : ShelfDone), 
      ∃ t, exec (.shelfReadDone copyB r) s = .next t ∧ s.onlyIn (Part.withAnswers [.twin, .hist]) t)

/-- Each command of chapters 13, 14 and 15 answers a next state in which only the named parts may differ; one of a CAN port, a counter or a flow channel leaves the other ports or channels as they were; a host request leaves every other session as it was. -/
def Obligations.FieldFrames : Prop :=
    (∀ (s : State) (acts : List PlantAct), 
      ∃ t, exec (.scanStart acts) s = .next t ∧ s.onlyIn (Part.withNotes [.can, .hk, .io, .scan, .free, .out]) t) ∧
    (∀ (s : State) (acts : List PlantAct) (o : PlantOut), 
      ∃ t, exec (.scanComplete acts o) s = .next t ∧ s.onlyIn (Part.withNotes [.jrn, .can, .io, .scan, .free, .out]) t) ∧
    (∀ (s : State), 
      ∃ t, exec (.scanWatchdog) s = .next t ∧ s.onlyIn (Part.withNotes [.io, .scan]) t) ∧
    (∀ (s : State) (p : Fin 4) (f : CanFrame), 
      ∃ t, exec (.canFrameReceived p f) s = .next t ∧ s.onlyIn (Part.withNotes [.can, .scan, .free]) t ∧ (∀ m, m ≠ p → t.can[m] = s.can[m])) ∧
    (∀ (s : State) (p : Fin 4) (i : Nat) (data : List Byte), 
      ∃ t, exec (.canMapPeriod p i data) s = .next t ∧ s.onlyIn (Part.withNotes [.can]) t ∧ (∀ m, m ≠ p → t.can[m] = s.can[m])) ∧
    (∀ (s : State) (p : Fin 4) (b : Fin 3) (sof : Nat), 
      ∃ t, exec (.canTxDone p b sof) s = .next t ∧ s.onlyIn [.can, .free, .out] t ∧ (∀ m, m ≠ p → t.can[m] = s.can[m])) ∧
    (∀ (s : State) (p : Fin 4) (tec recv : Nat) (failed : Option (Fin 3)), 
      ∃ t, exec (.canBusError p tec recv failed) s = .next t ∧ s.onlyIn (Part.withNotes [.can, .out]) t ∧ (∀ m, m ≠ p → t.can[m] = s.can[m])) ∧
    (∀ (s : State) (q : Req) (p : Fin 4), 
      ∃ t, exec (.recover q p) s = .next t ∧ s.onlyIn (Part.withAnswers [.can]) t ∧ (∀ m, m ≠ p → t.can[m] = s.can[m]) ∧ (∀ i, i ≠ q.session → t.session i = s.session i)) ∧
    (∀ (s : State) (q : Req) (p : Fin 4) (b : BitVec 2), 
      ∃ t, exec (.abortTx q p b) s = .next t ∧ s.onlyIn (Part.withAnswers [.can]) t ∧ (∀ m, m ≠ p → t.can[m] = s.can[m]) ∧ (∀ i, i ≠ q.session → t.session i = s.session i)) ∧
    (∀ (s : State) (p : Fin 4), 
      ∃ t, exec (.busoffAutoDelay p) s = .next t ∧ s.onlyIn [.can] t ∧ (∀ m, m ≠ p → t.can[m] = s.can[m])) ∧
    (∀ (s : State) (p : Fin 4), 
      ∃ t, exec (.canBusRecovered p) s = .next t ∧ s.onlyIn [.stamps, .queue, .can, .ctr] t ∧ (∀ m, m ≠ p → t.can[m] = s.can[m])) ∧
    (∀ (s : State) (p : Fin 4) (i : Fin 32), 
      ∃ t, exec (.canStationLost p i) s = .next t ∧ s.onlyIn (Part.withNotes [.can, .scan]) t ∧ (∀ m, m ≠ p → t.can[m] = s.can[m])) ∧
    (∀ (s : State) (p : Fin 4), 
      ∃ t, exec (.canReferenceDue p) s = .next t ∧ s.onlyIn (Part.withNotes [.can]) t ∧ (∀ m, m ≠ p → t.can[m] = s.can[m])) ∧
    (∀ (s : State) (tg : Fin 32), 
      ∃ t, exec (.hkPollDue tg) s = .next t ∧ s.onlyIn (Part.withNotes [.hk, .scan, .out]) t) ∧
    (∀ (s : State) (tg : Fin 32) (r : HkResult), 
      ∃ t, exec (.hkPollDone tg r) s = .next t ∧ s.onlyIn (Part.withNotes [.hk, .scan, .free, .out]) t) ∧
    (∀ (s : State), 
      ∃ t, exec (.hkAlert) s = .next t ∧ s.onlyIn [.hk, .out] t) ∧
    (∀ (s : State) (addr : BitVec 7) (pecOk still : Bool), 
      ∃ t, exec (.hkAlertReadDone addr pecOk still) s = .next t ∧ s.onlyIn (Part.withNotes [.hk, .out]) t) ∧
    (∀ (s : State), 
      ∃ t, exec (.hkAlertHoldEnd) s = .next t ∧ s.onlyIn [.hk] t) ∧
    (∀ (s : State) (inStop : Bool), 
      ∃ t, exec (.hkArbLost inStop) s = .next t ∧ s.onlyIn (Part.withNotes [.hk, .out]) t) ∧
    (∀ (s : State) (sdaLow : Bool), 
      ∃ t, exec (.hkBusStuck sdaLow) s = .next t ∧ s.onlyIn (Part.withNotes [.hk, .out]) t) ∧
    (∀ (s : State) (q : Req) (sdaLow : Bool), 
      ∃ t, exec (.busClear q sdaLow) s = .next t ∧ s.onlyIn (Part.withAnswers [.hk]) t ∧ (∀ i, i ≠ q.session → t.session i = s.session i)) ∧
    (∀ (s : State) (writeBit thirdByte : Bool), 
      ∃ t, exec (.hkTargetAccess writeBit thirdByte) s = .next t ∧ s.onlyIn [.out] t) ∧
    (∀ (s : State) (raw : Vector Nat 16) (rb : Vector Nat 8) (supply : Bool), 
      ∃ t, exec (.analogueSample raw rb supply) s = .next t ∧ s.onlyIn (Part.withNotes [.clk, .io, .scan]) t) ∧
    (∀ (s : State) (i : Fin 16), 
      ∃ t, exec (.aiConfirm i) s = .next t ∧ s.onlyIn (Part.withNotes [.io, .scan]) t) ∧
    (∀ (s : State) (i : Fin 8) (readBack : BitVec 16), 
      ∃ t, exec (.aoFault i readBack) s = .next t ∧ s.onlyIn (Part.withNotes [.io]) t) ∧
    (∀ (s : State), 
      ∃ t, exec (.loopSupplyFault) s = .next t ∧ s.onlyIn (Part.withNotes [.io]) t) ∧
    (∀ (s : State) (n : Fin 8) (a b : Bool), 
      ∃ t, exec (.qinTransition n a b) s = .next t ∧ s.onlyIn (Part.withNotes [.io]) t ∧ (∀ m, m ≠ n → t.io.qin[m] = s.io.qin[m])) ∧
    (∀ (s : State) (n : Fin 8), 
      ∃ t, exec (.qinSuspectCleared n) s = .next t ∧ s.onlyIn [.stamps, .queue, .ctr, .io] t ∧ (∀ m, m ≠ n → t.io.qin[m] = s.io.qin[m])) ∧
    (∀ (s : State) (q : Req) (n : Fin 8), 
      ∃ t, exec (.preset q n) s = .next t ∧ s.onlyIn (Part.withAnswers [.io]) t ∧ (∀ m, m ≠ n → t.io.qin[m] = s.io.qin[m]) ∧ (∀ i, i ≠ q.session → t.session i = s.session i)) ∧
    (∀ (s : State) (q : Req) (n : Fin 8), 
      ∃ t, exec (.clearUncertain q n) s = .next t ∧ s.onlyIn (Part.withAnswers [.io]) t ∧ (∀ m, m ≠ n → t.io.qin[m] = s.io.qin[m]) ∧ (∀ i, i ≠ q.session → t.session i = s.session i)) ∧
    (∀ (s : State) (n : Fin 8) (dn up : BurstResult) (drive1 drive2 : Nat), 
      ∃ t, exec (.usfMeasurementPair n dn up drive1 drive2) s = .next t ∧ s.onlyIn (Part.withNotes [.clk, .io, .free, .out]) t ∧ (∀ m, m ≠ n → t.io.usf[m] = s.io.usf[m])) ∧
    (∀ (s : State) (n : Fin 8), 
      ∃ t, exec (.usfHoldExpiry n) s = .next t ∧ s.onlyIn (Part.withNotes [.io]) t ∧ (∀ m, m ≠ n → t.io.usf[m] = s.io.usf[m])) ∧
    (∀ (s : State) (q : Req) (n : Fin 8), 
      ∃ t, exec (.captureRef q n) s = .next t ∧ s.onlyIn (Part.withAnswers [.io]) t ∧ (∀ m, m ≠ n → t.io.usf[m] = s.io.usf[m]) ∧ (∀ i, i ≠ q.session → t.session i = s.session i)) ∧
    (∀ (s : State) (din : BitVec 16), 
      ∃ t, exec (.discreteInputChange din) s = .next t ∧ s.onlyIn [.stamps, .io] t) ∧
    (∀ (s : State) (i : Fin 8) (readBack : Bool), 
      ∃ t, exec (.doFault i readBack) s = .next t ∧ s.onlyIn (Part.withNotes [.io]) t) ∧
    (∀ (s : State) (q : Req), 
      ∃ t, exec (.scanRun q) s = .next t ∧ s.onlyIn (Part.withAnswers [.io, .scan]) t ∧ (∀ i, i ≠ q.session → t.session i = s.session i)) ∧
    (∀ (s : State) (q : Req), 
      ∃ t, exec (.scanStop q) s = .next t ∧ s.onlyIn (Part.withAnswers [.io, .scan]) t ∧ (∀ i, i ≠ q.session → t.session i = s.session i)) ∧
    (∀ (s : State) (q : Req), 
      ∃ t, exec (.scanHold q) s = .next t ∧ s.onlyIn (Part.withAnswers [.io, .scan]) t ∧ (∀ i, i ≠ q.session → t.session i = s.session i)) ∧
    (∀ (s : State) (q : Req), 
      ∃ t, exec (.scanStep q) s = .next t ∧ s.onlyIn (Part.withAnswers [.scan]) t ∧ (∀ i, i ≠ q.session → t.session i = s.session i)) ∧
    (∀ (s : State) (q : Req), 
      ∃ t, exec (.scanResume q) s = .next t ∧ s.onlyIn (Part.withAnswers [.io, .scan]) t ∧ (∀ i, i ≠ q.session → t.session i = s.session i)) ∧
    (∀ (s : State), 
      ∃ t, exec (.holdMaxExpiry) s = .next t ∧ s.onlyIn [.stamps, .queue, .ctr, .io, .scan] t)

/-- Each command of chapters 16 and 17 except POWER_ON_RESET answers a next state in which only the named parts may differ; a host request leaves every other session as it was. -/
def Obligations.SupplyAndUpdateFrames : Prop :=
    (∀ (s : State), 
      ∃ t, exec (.supplyDip) s = .next t ∧ s.onlyIn [.saf, .trust, .pwr] t) ∧
    (∀ (s : State) (a b : Bool), 
      ∃ t, exec (.powerFail a b) s = .next t ∧ s.onlyIn (Part.withAnswers [.sweep, .str, .bank, .est, .saf, .twin, .trust, .hist, .jrn, .ptp, .hk, .io, .pwr]) t) ∧
    (∀ (s : State), 
      ∃ t, exec (.quiescence) s = .next t ∧ s.onlyIn [.str, .saf, .twin, .host, .sessions, .io, .scan, .pwr, .out] t) ∧
    (∀ (s : State), 
      ∃ t, exec (.shelfStateEntry) s = .next t ∧ s.onlyIn [.host, .sessions, .trust, .pwr, .out] t) ∧
    (∀ (s : State), 
      ∃ t, exec (.supplyReturn) s = .next t ∧ s.onlyIn (Part.withNotes [.saf, .pwr]) t) ∧
    (∀ (s : State), 
      ∃ t, exec (.pwrInputHigh) s = .next t ∧ s.onlyIn [.stamps, .queue, .ctr, .pwr] t) ∧
    (∀ (s : State) (q : Req), 
      ∃ t, exec (.holdupTest (some q)) s = .next t ∧ s.onlyIn (Part.withAnswers [.trust, .pwr]) t ∧ (∀ i, i ≠ q.session → t.session i = s.session i)) ∧
    (∀ (s : State), 
      ∃ t, exec (.holdupTest none) s = .next t ∧ s.onlyIn (Part.withAnswers [.trust, .pwr]) t) ∧
    (∀ (s : State) (cap : BitVec 16), 
      ∃ t, exec (.holdupTestDone cap) s = .next t ∧ s.onlyIn [.stamps, .queue, .ctr, .pwr] t) ∧
    (∀ (s : State) (d : Fin 128), 
      ∃ t, exec (.pwrDomainFault d) s = .next t ∧ s.onlyIn Part.notes t) ∧
    (∀ (s : State) (c : Fin 25), 
      ∃ t, exec (.clockFault c) s = .next t ∧ s.onlyIn (Part.withNotes [.pwr]) t) ∧
    (∀ (s : State) (j : Vector (BitVec 16) 12) (bp : Vector (BitVec 16) 2) (safA safB : BitVec 16) (m : PwrMeas), 
      ∃ t, exec (.thermalSensorRead j bp safA safB m) s = .next t ∧ s.onlyIn (Part.withNotes [.jrn, .pwr, .thm]) t) ∧
    (∀ (s : State), 
      ∃ t, exec (.thmBand) s = .next t ∧ s.onlyIn [.thm] t) ∧
    (∀ (s : State), 
      ∃ t, exec (.shutdownPending) s = .next t ∧ s.onlyIn [.stamps, .queue, .ctr, .thm] t) ∧
    (∀ (s : State) (a b : Bool), 
      ∃ t, exec (.thermalShutdown a b) s = .next t ∧ s.onlyIn (Part.withAnswers [.sweep, .str, .bank, .est, .saf, .twin, .trust, .hist, .jrn, .ptp, .hk, .io, .pwr]) t) ∧
    (∀ (s : State), 
      ∃ t, exec (.shelfWake) s = .next t ∧ s.onlyIn [.pwr, .hw, .out] t) ∧
    (∀ (s : State) (q : Req) (files : List (List Byte)), 
      ∃ t, exec (.loadSd q files) s = .next t ∧ s.onlyIn (Part.withAnswers [.upd]) t ∧ (∀ i, i ≠ q.session → t.session i = s.session i)) ∧
    (∀ (s : State) (q : Req) (files : List (List Byte)), 
      ∃ t, exec (.loadSdImage q files) s = .next t ∧ s.onlyIn (Part.withAnswers [.img, .twin, .jrn, .upd]) t ∧ (∀ i, i ≠ q.session → t.session i = s.session i)) ∧
    (∀ (s : State) (q : Req), 
      ∃ t, exec (.activate q) s = .next t ∧ s.onlyIn (Part.withAnswers [.upd]) t ∧ (∀ i, i ≠ q.session → t.session i = s.session i)) ∧
    (∀ (s : State), 
      ∃ t, exec (.activateEvaluate) s = .next t ∧ s.onlyIn (Part.withNotes [.clk, .upd]) t) ∧
    (∀ (s : State) (q : Req) (gd : Bool) (n : Fin 8) (pos : BitVec 5), 
      ∃ t, exec (.partLoad q gd n pos) s = .next t ∧ s.onlyIn (Part.withAnswers [.ring, .upd]) t ∧ (∀ i, i ≠ q.session → t.session i = s.session i)) ∧
    (∀ (s : State) (q : Req) (gd : Bool) (n : Fin 8) (pos : BitVec 5), 
      ∃ t, exec (.partActivate q gd n pos) s = .next t ∧ s.onlyIn (Part.withAnswers [.ring, .upd]) t ∧ (∀ i, i ≠ q.session → t.session i = s.session i)) ∧
    (∀ (s : State) (q : Req), 
      ∃ t, exec (.abort q) s = .next t ∧ s.onlyIn (Part.withAnswers [.upd]) t ∧ (∀ i, i ≠ q.session → t.session i = s.session i)) ∧
    (∀ (s : State), 
      ∃ t, exec (.updStaged) s = .next t ∧ s.onlyIn (Part.withNotes [.upd]) t) ∧
    (∀ (s : State), 
      ∃ t, exec (.startEnumeration) s = .next t ∧ s.onlyIn [.ring, .twin, .trust, .upd, .out] t) ∧
    (∀ (s : State), 
      ∃ t, exec (.standbyAtStart) s = .next t ∧ s.onlyIn (Part.withNotes [.bank, .saf, .jrn, .upd, .out]) t) ∧
    (∀ (s : State), 
      ∃ t, exec (.serviceDoorOpened) s = .next t ∧ s.onlyIn [.stamps, .queue, .ctr, .hw] t) ∧
    (∀ (s : State), 
      ∃ t, exec (.serviceDoorClosed) s = .next t ∧ s.onlyIn [.stamps, .queue, .ctr, .hw] t) ∧
    (∀ (s : State), 
      ∃ t, exec (.consoleAttach) s = .next t ∧ s.onlyIn [.host, .sessions, .hw] t) ∧
    (∀ (s : State), 
      ∃ t, exec (.consoleDetach) s = .next t ∧ s.onlyIn [.host, .sessions, .hw, .out] t) ∧
    (∀ (s : State), 
      ∃ t, exec (.sdCardRemoved) s = .next t ∧ s.onlyIn (Part.withNotes [.upd]) t) ∧
    (∀ (s : State) (n : Fin 8) (p : Fin 6) (f : ReplyFrame), 
      ∃ t, exec (.gdReplyReceived n p f) s = .next t ∧ s.onlyIn (Part.withNotes [.ring, .str, .upd, .out]) t ∧ (∀ m, m ≠ n → t.ring[m] = s.ring[m]) ∧ (∀ m, m ≠ n → t.str[m] = s.str[m])) ∧
    (∀ (s : State) (n : Fin 8) (p : Fin 6), 
      ∃ t, exec (.gdReplyTimeout n p) s = .next t ∧ s.onlyIn (Part.withNotes [.upd]) t) ∧
    (∀ (s : State), 
      ∃ t, exec (.shutdownLatchClear) s = .next t ∧ s.onlyIn [.pwr] t) ∧
    (∀ (s : State), 
      ∃ t, exec (.backupCellExhausted) s = .next t ∧ s.onlyIn [.ring, .str, .twin, .trust, .host, .sessions, .out] t) ∧
    (∀ (s : State), 
      ∃ t, exec (.holdupCharged) s = .next t ∧ s.onlyIn [.trust, .pwr] t) ∧
    (∀ (s : State) (mounts : Bool), 
      ∃ t, exec (.sdCardInserted mounts) s = .next t ∧ s.onlyIn [.upd] t)
end

