-- ==== Sys2Proof/Laws/State.lean ====
section
/-! SUPPORT. What each named update of State leaves and writes, field by field. -/

namespace Sys2Proof.Machine

@[simp] theorem State.modClk_clk (s : State) (f : Clock → Clock) : (s.modClk f).clk = f s.clk := rfl
@[simp] theorem State.modClk_ident (s : State) (f : Clock → Clock) : (s.modClk f).ident = s.ident := rfl
@[simp] theorem State.modClk_img (s : State) (f : Clock → Clock) : (s.modClk f).img = s.img := rfl
@[simp] theorem State.modClk_ring (s : State) (f : Clock → Clock) : (s.modClk f).ring = s.ring := rfl
@[simp] theorem State.modClk_sense (s : State) (f : Clock → Clock) : (s.modClk f).sense = s.sense := rfl
@[simp] theorem State.modClk_sweep (s : State) (f : Clock → Clock) : (s.modClk f).sweep = s.sweep := rfl
@[simp] theorem State.modClk_str (s : State) (f : Clock → Clock) : (s.modClk f).str = s.str := rfl
@[simp] theorem State.modClk_rc (s : State) (f : Clock → Clock) : (s.modClk f).rc = s.rc := rfl
@[simp] theorem State.modClk_bank (s : State) (f : Clock → Clock) : (s.modClk f).bank = s.bank := rfl
@[simp] theorem State.modClk_est (s : State) (f : Clock → Clock) : (s.modClk f).est = s.est := rfl
@[simp] theorem State.modClk_saf (s : State) (f : Clock → Clock) : (s.modClk f).saf = s.saf := rfl
@[simp] theorem State.modClk_twin (s : State) (f : Clock → Clock) : (s.modClk f).twin = s.twin := rfl
@[simp] theorem State.modClk_trust (s : State) (f : Clock → Clock) : (s.modClk f).trust = s.trust := rfl
@[simp] theorem State.modClk_hist (s : State) (f : Clock → Clock) : (s.modClk f).hist = s.hist := rfl
@[simp] theorem State.modClk_ffr (s : State) (f : Clock → Clock) : (s.modClk f).ffr = s.ffr := rfl
@[simp] theorem State.modClk_host (s : State) (f : Clock → Clock) : (s.modClk f).host = s.host := rfl
@[simp] theorem State.modClk_jrn (s : State) (f : Clock → Clock) : (s.modClk f).jrn = s.jrn := rfl
@[simp] theorem State.modClk_ptp (s : State) (f : Clock → Clock) : (s.modClk f).ptp = s.ptp := rfl
@[simp] theorem State.modClk_can (s : State) (f : Clock → Clock) : (s.modClk f).can = s.can := rfl
@[simp] theorem State.modClk_hk (s : State) (f : Clock → Clock) : (s.modClk f).hk = s.hk := rfl
@[simp] theorem State.modClk_ctr (s : State) (f : Clock → Clock) : (s.modClk f).ctr = s.ctr := rfl
@[simp] theorem State.modClk_ctrSat (s : State) (f : Clock → Clock) : (s.modClk f).ctrSat = s.ctrSat := rfl
@[simp] theorem State.modClk_jctr (s : State) (f : Clock → Clock) : (s.modClk f).jctr = s.jctr := rfl
@[simp] theorem State.modClk_upd (s : State) (f : Clock → Clock) : (s.modClk f).upd = s.upd := rfl
@[simp] theorem State.modClk_io (s : State) (f : Clock → Clock) : (s.modClk f).io = s.io := rfl
@[simp] theorem State.modClk_scan (s : State) (f : Clock → Clock) : (s.modClk f).scan = s.scan := rfl
@[simp] theorem State.modClk_pwr (s : State) (f : Clock → Clock) : (s.modClk f).pwr = s.pwr := rfl
@[simp] theorem State.modClk_thm (s : State) (f : Clock → Clock) : (s.modClk f).thm = s.thm := rfl
@[simp] theorem State.modClk_hw (s : State) (f : Clock → Clock) : (s.modClk f).hw = s.hw := rfl
@[simp] theorem State.modClk_free (s : State) (f : Clock → Clock) : (s.modClk f).free = s.free := rfl
@[simp] theorem State.modClk_out (s : State) (f : Clock → Clock) : (s.modClk f).out = s.out := rfl
@[simp] theorem State.modClk_pending (s : State) (f : Clock → Clock) : (s.modClk f).pending = s.pending := rfl

@[simp] theorem State.modIdent_clk (s : State) (f : Ident → Ident) : (s.modIdent f).clk = s.clk := rfl
@[simp] theorem State.modIdent_ident (s : State) (f : Ident → Ident) : (s.modIdent f).ident = f s.ident := rfl
@[simp] theorem State.modIdent_img (s : State) (f : Ident → Ident) : (s.modIdent f).img = s.img := rfl
@[simp] theorem State.modIdent_ring (s : State) (f : Ident → Ident) : (s.modIdent f).ring = s.ring := rfl
@[simp] theorem State.modIdent_sense (s : State) (f : Ident → Ident) : (s.modIdent f).sense = s.sense := rfl
@[simp] theorem State.modIdent_sweep (s : State) (f : Ident → Ident) : (s.modIdent f).sweep = s.sweep := rfl
@[simp] theorem State.modIdent_str (s : State) (f : Ident → Ident) : (s.modIdent f).str = s.str := rfl
@[simp] theorem State.modIdent_rc (s : State) (f : Ident → Ident) : (s.modIdent f).rc = s.rc := rfl
@[simp] theorem State.modIdent_bank (s : State) (f : Ident → Ident) : (s.modIdent f).bank = s.bank := rfl
@[simp] theorem State.modIdent_est (s : State) (f : Ident → Ident) : (s.modIdent f).est = s.est := rfl
@[simp] theorem State.modIdent_saf (s : State) (f : Ident → Ident) : (s.modIdent f).saf = s.saf := rfl
@[simp] theorem State.modIdent_twin (s : State) (f : Ident → Ident) : (s.modIdent f).twin = s.twin := rfl
@[simp] theorem State.modIdent_trust (s : State) (f : Ident → Ident) : (s.modIdent f).trust = s.trust := rfl
@[simp] theorem State.modIdent_hist (s : State) (f : Ident → Ident) : (s.modIdent f).hist = s.hist := rfl
@[simp] theorem State.modIdent_ffr (s : State) (f : Ident → Ident) : (s.modIdent f).ffr = s.ffr := rfl
@[simp] theorem State.modIdent_host (s : State) (f : Ident → Ident) : (s.modIdent f).host = s.host := rfl
@[simp] theorem State.modIdent_jrn (s : State) (f : Ident → Ident) : (s.modIdent f).jrn = s.jrn := rfl
@[simp] theorem State.modIdent_ptp (s : State) (f : Ident → Ident) : (s.modIdent f).ptp = s.ptp := rfl
@[simp] theorem State.modIdent_can (s : State) (f : Ident → Ident) : (s.modIdent f).can = s.can := rfl
@[simp] theorem State.modIdent_hk (s : State) (f : Ident → Ident) : (s.modIdent f).hk = s.hk := rfl
@[simp] theorem State.modIdent_ctr (s : State) (f : Ident → Ident) : (s.modIdent f).ctr = s.ctr := rfl
@[simp] theorem State.modIdent_ctrSat (s : State) (f : Ident → Ident) : (s.modIdent f).ctrSat = s.ctrSat := rfl
@[simp] theorem State.modIdent_jctr (s : State) (f : Ident → Ident) : (s.modIdent f).jctr = s.jctr := rfl
@[simp] theorem State.modIdent_upd (s : State) (f : Ident → Ident) : (s.modIdent f).upd = s.upd := rfl
@[simp] theorem State.modIdent_io (s : State) (f : Ident → Ident) : (s.modIdent f).io = s.io := rfl
@[simp] theorem State.modIdent_scan (s : State) (f : Ident → Ident) : (s.modIdent f).scan = s.scan := rfl
@[simp] theorem State.modIdent_pwr (s : State) (f : Ident → Ident) : (s.modIdent f).pwr = s.pwr := rfl
@[simp] theorem State.modIdent_thm (s : State) (f : Ident → Ident) : (s.modIdent f).thm = s.thm := rfl
@[simp] theorem State.modIdent_hw (s : State) (f : Ident → Ident) : (s.modIdent f).hw = s.hw := rfl
@[simp] theorem State.modIdent_free (s : State) (f : Ident → Ident) : (s.modIdent f).free = s.free := rfl
@[simp] theorem State.modIdent_out (s : State) (f : Ident → Ident) : (s.modIdent f).out = s.out := rfl
@[simp] theorem State.modIdent_pending (s : State) (f : Ident → Ident) : (s.modIdent f).pending = s.pending := rfl

@[simp] theorem State.modImg_clk (s : State) (f : Img → Img) : (s.modImg f).clk = s.clk := rfl
@[simp] theorem State.modImg_ident (s : State) (f : Img → Img) : (s.modImg f).ident = s.ident := rfl
@[simp] theorem State.modImg_img (s : State) (f : Img → Img) : (s.modImg f).img = f s.img := rfl
@[simp] theorem State.modImg_ring (s : State) (f : Img → Img) : (s.modImg f).ring = s.ring := rfl
@[simp] theorem State.modImg_sense (s : State) (f : Img → Img) : (s.modImg f).sense = s.sense := rfl
@[simp] theorem State.modImg_sweep (s : State) (f : Img → Img) : (s.modImg f).sweep = s.sweep := rfl
@[simp] theorem State.modImg_str (s : State) (f : Img → Img) : (s.modImg f).str = s.str := rfl
@[simp] theorem State.modImg_rc (s : State) (f : Img → Img) : (s.modImg f).rc = s.rc := rfl
@[simp] theorem State.modImg_bank (s : State) (f : Img → Img) : (s.modImg f).bank = s.bank := rfl
@[simp] theorem State.modImg_est (s : State) (f : Img → Img) : (s.modImg f).est = s.est := rfl
@[simp] theorem State.modImg_saf (s : State) (f : Img → Img) : (s.modImg f).saf = s.saf := rfl
@[simp] theorem State.modImg_twin (s : State) (f : Img → Img) : (s.modImg f).twin = s.twin := rfl
@[simp] theorem State.modImg_trust (s : State) (f : Img → Img) : (s.modImg f).trust = s.trust := rfl
@[simp] theorem State.modImg_hist (s : State) (f : Img → Img) : (s.modImg f).hist = s.hist := rfl
@[simp] theorem State.modImg_ffr (s : State) (f : Img → Img) : (s.modImg f).ffr = s.ffr := rfl
@[simp] theorem State.modImg_host (s : State) (f : Img → Img) : (s.modImg f).host = s.host := rfl
@[simp] theorem State.modImg_jrn (s : State) (f : Img → Img) : (s.modImg f).jrn = s.jrn := rfl
@[simp] theorem State.modImg_ptp (s : State) (f : Img → Img) : (s.modImg f).ptp = s.ptp := rfl
@[simp] theorem State.modImg_can (s : State) (f : Img → Img) : (s.modImg f).can = s.can := rfl
@[simp] theorem State.modImg_hk (s : State) (f : Img → Img) : (s.modImg f).hk = s.hk := rfl
@[simp] theorem State.modImg_ctr (s : State) (f : Img → Img) : (s.modImg f).ctr = s.ctr := rfl
@[simp] theorem State.modImg_ctrSat (s : State) (f : Img → Img) : (s.modImg f).ctrSat = s.ctrSat := rfl
@[simp] theorem State.modImg_jctr (s : State) (f : Img → Img) : (s.modImg f).jctr = s.jctr := rfl
@[simp] theorem State.modImg_upd (s : State) (f : Img → Img) : (s.modImg f).upd = s.upd := rfl
@[simp] theorem State.modImg_io (s : State) (f : Img → Img) : (s.modImg f).io = s.io := rfl
@[simp] theorem State.modImg_scan (s : State) (f : Img → Img) : (s.modImg f).scan = s.scan := rfl
@[simp] theorem State.modImg_pwr (s : State) (f : Img → Img) : (s.modImg f).pwr = s.pwr := rfl
@[simp] theorem State.modImg_thm (s : State) (f : Img → Img) : (s.modImg f).thm = s.thm := rfl
@[simp] theorem State.modImg_hw (s : State) (f : Img → Img) : (s.modImg f).hw = s.hw := rfl
@[simp] theorem State.modImg_free (s : State) (f : Img → Img) : (s.modImg f).free = s.free := rfl
@[simp] theorem State.modImg_out (s : State) (f : Img → Img) : (s.modImg f).out = s.out := rfl
@[simp] theorem State.modImg_pending (s : State) (f : Img → Img) : (s.modImg f).pending = s.pending := rfl

@[simp] theorem State.modRing_clk (s : State) (i : Fin 8) (f : RingPort → RingPort) : (s.modRing i f).clk = s.clk := rfl
@[simp] theorem State.modRing_ident (s : State) (i : Fin 8) (f : RingPort → RingPort) : (s.modRing i f).ident = s.ident := rfl
@[simp] theorem State.modRing_img (s : State) (i : Fin 8) (f : RingPort → RingPort) : (s.modRing i f).img = s.img := rfl
@[simp] theorem State.modRing_ring (s : State) (i : Fin 8) (f : RingPort → RingPort) : (s.modRing i f).ring = Vec.upd s.ring i f := rfl
@[simp] theorem State.modRing_sense (s : State) (i : Fin 8) (f : RingPort → RingPort) : (s.modRing i f).sense = s.sense := rfl
@[simp] theorem State.modRing_sweep (s : State) (i : Fin 8) (f : RingPort → RingPort) : (s.modRing i f).sweep = s.sweep := rfl
@[simp] theorem State.modRing_str (s : State) (i : Fin 8) (f : RingPort → RingPort) : (s.modRing i f).str = s.str := rfl
@[simp] theorem State.modRing_rc (s : State) (i : Fin 8) (f : RingPort → RingPort) : (s.modRing i f).rc = s.rc := rfl
@[simp] theorem State.modRing_bank (s : State) (i : Fin 8) (f : RingPort → RingPort) : (s.modRing i f).bank = s.bank := rfl
@[simp] theorem State.modRing_est (s : State) (i : Fin 8) (f : RingPort → RingPort) : (s.modRing i f).est = s.est := rfl
@[simp] theorem State.modRing_saf (s : State) (i : Fin 8) (f : RingPort → RingPort) : (s.modRing i f).saf = s.saf := rfl
@[simp] theorem State.modRing_twin (s : State) (i : Fin 8) (f : RingPort → RingPort) : (s.modRing i f).twin = s.twin := rfl
@[simp] theorem State.modRing_trust (s : State) (i : Fin 8) (f : RingPort → RingPort) : (s.modRing i f).trust = s.trust := rfl
@[simp] theorem State.modRing_hist (s : State) (i : Fin 8) (f : RingPort → RingPort) : (s.modRing i f).hist = s.hist := rfl
@[simp] theorem State.modRing_ffr (s : State) (i : Fin 8) (f : RingPort → RingPort) : (s.modRing i f).ffr = s.ffr := rfl
@[simp] theorem State.modRing_host (s : State) (i : Fin 8) (f : RingPort → RingPort) : (s.modRing i f).host = s.host := rfl
@[simp] theorem State.modRing_jrn (s : State) (i : Fin 8) (f : RingPort → RingPort) : (s.modRing i f).jrn = s.jrn := rfl
@[simp] theorem State.modRing_ptp (s : State) (i : Fin 8) (f : RingPort → RingPort) : (s.modRing i f).ptp = s.ptp := rfl
@[simp] theorem State.modRing_can (s : State) (i : Fin 8) (f : RingPort → RingPort) : (s.modRing i f).can = s.can := rfl
@[simp] theorem State.modRing_hk (s : State) (i : Fin 8) (f : RingPort → RingPort) : (s.modRing i f).hk = s.hk := rfl
@[simp] theorem State.modRing_ctr (s : State) (i : Fin 8) (f : RingPort → RingPort) : (s.modRing i f).ctr = s.ctr := rfl
@[simp] theorem State.modRing_ctrSat (s : State) (i : Fin 8) (f : RingPort → RingPort) : (s.modRing i f).ctrSat = s.ctrSat := rfl
@[simp] theorem State.modRing_jctr (s : State) (i : Fin 8) (f : RingPort → RingPort) : (s.modRing i f).jctr = s.jctr := rfl
@[simp] theorem State.modRing_upd (s : State) (i : Fin 8) (f : RingPort → RingPort) : (s.modRing i f).upd = s.upd := rfl
@[simp] theorem State.modRing_io (s : State) (i : Fin 8) (f : RingPort → RingPort) : (s.modRing i f).io = s.io := rfl
@[simp] theorem State.modRing_scan (s : State) (i : Fin 8) (f : RingPort → RingPort) : (s.modRing i f).scan = s.scan := rfl
@[simp] theorem State.modRing_pwr (s : State) (i : Fin 8) (f : RingPort → RingPort) : (s.modRing i f).pwr = s.pwr := rfl
@[simp] theorem State.modRing_thm (s : State) (i : Fin 8) (f : RingPort → RingPort) : (s.modRing i f).thm = s.thm := rfl
@[simp] theorem State.modRing_hw (s : State) (i : Fin 8) (f : RingPort → RingPort) : (s.modRing i f).hw = s.hw := rfl
@[simp] theorem State.modRing_free (s : State) (i : Fin 8) (f : RingPort → RingPort) : (s.modRing i f).free = s.free := rfl
@[simp] theorem State.modRing_out (s : State) (i : Fin 8) (f : RingPort → RingPort) : (s.modRing i f).out = s.out := rfl
@[simp] theorem State.modRing_pending (s : State) (i : Fin 8) (f : RingPort → RingPort) : (s.modRing i f).pending = s.pending := rfl

@[simp] theorem State.mapAllRing_clk (s : State) (f : Fin 8 → RingPort → RingPort) : (s.mapAllRing f).clk = s.clk := rfl
@[simp] theorem State.mapAllRing_ident (s : State) (f : Fin 8 → RingPort → RingPort) : (s.mapAllRing f).ident = s.ident := rfl
@[simp] theorem State.mapAllRing_img (s : State) (f : Fin 8 → RingPort → RingPort) : (s.mapAllRing f).img = s.img := rfl
@[simp] theorem State.mapAllRing_ring (s : State) (f : Fin 8 → RingPort → RingPort) : (s.mapAllRing f).ring = Vec.updAll s.ring f := rfl
@[simp] theorem State.mapAllRing_sense (s : State) (f : Fin 8 → RingPort → RingPort) : (s.mapAllRing f).sense = s.sense := rfl
@[simp] theorem State.mapAllRing_sweep (s : State) (f : Fin 8 → RingPort → RingPort) : (s.mapAllRing f).sweep = s.sweep := rfl
@[simp] theorem State.mapAllRing_str (s : State) (f : Fin 8 → RingPort → RingPort) : (s.mapAllRing f).str = s.str := rfl
@[simp] theorem State.mapAllRing_rc (s : State) (f : Fin 8 → RingPort → RingPort) : (s.mapAllRing f).rc = s.rc := rfl
@[simp] theorem State.mapAllRing_bank (s : State) (f : Fin 8 → RingPort → RingPort) : (s.mapAllRing f).bank = s.bank := rfl
@[simp] theorem State.mapAllRing_est (s : State) (f : Fin 8 → RingPort → RingPort) : (s.mapAllRing f).est = s.est := rfl
@[simp] theorem State.mapAllRing_saf (s : State) (f : Fin 8 → RingPort → RingPort) : (s.mapAllRing f).saf = s.saf := rfl
@[simp] theorem State.mapAllRing_twin (s : State) (f : Fin 8 → RingPort → RingPort) : (s.mapAllRing f).twin = s.twin := rfl
@[simp] theorem State.mapAllRing_trust (s : State) (f : Fin 8 → RingPort → RingPort) : (s.mapAllRing f).trust = s.trust := rfl
@[simp] theorem State.mapAllRing_hist (s : State) (f : Fin 8 → RingPort → RingPort) : (s.mapAllRing f).hist = s.hist := rfl
@[simp] theorem State.mapAllRing_ffr (s : State) (f : Fin 8 → RingPort → RingPort) : (s.mapAllRing f).ffr = s.ffr := rfl
@[simp] theorem State.mapAllRing_host (s : State) (f : Fin 8 → RingPort → RingPort) : (s.mapAllRing f).host = s.host := rfl
@[simp] theorem State.mapAllRing_jrn (s : State) (f : Fin 8 → RingPort → RingPort) : (s.mapAllRing f).jrn = s.jrn := rfl
@[simp] theorem State.mapAllRing_ptp (s : State) (f : Fin 8 → RingPort → RingPort) : (s.mapAllRing f).ptp = s.ptp := rfl
@[simp] theorem State.mapAllRing_can (s : State) (f : Fin 8 → RingPort → RingPort) : (s.mapAllRing f).can = s.can := rfl
@[simp] theorem State.mapAllRing_hk (s : State) (f : Fin 8 → RingPort → RingPort) : (s.mapAllRing f).hk = s.hk := rfl
@[simp] theorem State.mapAllRing_ctr (s : State) (f : Fin 8 → RingPort → RingPort) : (s.mapAllRing f).ctr = s.ctr := rfl
@[simp] theorem State.mapAllRing_ctrSat (s : State) (f : Fin 8 → RingPort → RingPort) : (s.mapAllRing f).ctrSat = s.ctrSat := rfl
@[simp] theorem State.mapAllRing_jctr (s : State) (f : Fin 8 → RingPort → RingPort) : (s.mapAllRing f).jctr = s.jctr := rfl
@[simp] theorem State.mapAllRing_upd (s : State) (f : Fin 8 → RingPort → RingPort) : (s.mapAllRing f).upd = s.upd := rfl
@[simp] theorem State.mapAllRing_io (s : State) (f : Fin 8 → RingPort → RingPort) : (s.mapAllRing f).io = s.io := rfl
@[simp] theorem State.mapAllRing_scan (s : State) (f : Fin 8 → RingPort → RingPort) : (s.mapAllRing f).scan = s.scan := rfl
@[simp] theorem State.mapAllRing_pwr (s : State) (f : Fin 8 → RingPort → RingPort) : (s.mapAllRing f).pwr = s.pwr := rfl
@[simp] theorem State.mapAllRing_thm (s : State) (f : Fin 8 → RingPort → RingPort) : (s.mapAllRing f).thm = s.thm := rfl
@[simp] theorem State.mapAllRing_hw (s : State) (f : Fin 8 → RingPort → RingPort) : (s.mapAllRing f).hw = s.hw := rfl
@[simp] theorem State.mapAllRing_free (s : State) (f : Fin 8 → RingPort → RingPort) : (s.mapAllRing f).free = s.free := rfl
@[simp] theorem State.mapAllRing_out (s : State) (f : Fin 8 → RingPort → RingPort) : (s.mapAllRing f).out = s.out := rfl
@[simp] theorem State.mapAllRing_pending (s : State) (f : Fin 8 → RingPort → RingPort) : (s.mapAllRing f).pending = s.pending := rfl

@[simp] theorem State.modSense_clk (s : State) (i : Fin 8) (f : RingSense → RingSense) : (s.modSense i f).clk = s.clk := rfl
@[simp] theorem State.modSense_ident (s : State) (i : Fin 8) (f : RingSense → RingSense) : (s.modSense i f).ident = s.ident := rfl
@[simp] theorem State.modSense_img (s : State) (i : Fin 8) (f : RingSense → RingSense) : (s.modSense i f).img = s.img := rfl
@[simp] theorem State.modSense_ring (s : State) (i : Fin 8) (f : RingSense → RingSense) : (s.modSense i f).ring = s.ring := rfl
@[simp] theorem State.modSense_sense (s : State) (i : Fin 8) (f : RingSense → RingSense) : (s.modSense i f).sense = Vec.upd s.sense i f := rfl
@[simp] theorem State.modSense_sweep (s : State) (i : Fin 8) (f : RingSense → RingSense) : (s.modSense i f).sweep = s.sweep := rfl
@[simp] theorem State.modSense_str (s : State) (i : Fin 8) (f : RingSense → RingSense) : (s.modSense i f).str = s.str := rfl
@[simp] theorem State.modSense_rc (s : State) (i : Fin 8) (f : RingSense → RingSense) : (s.modSense i f).rc = s.rc := rfl
@[simp] theorem State.modSense_bank (s : State) (i : Fin 8) (f : RingSense → RingSense) : (s.modSense i f).bank = s.bank := rfl
@[simp] theorem State.modSense_est (s : State) (i : Fin 8) (f : RingSense → RingSense) : (s.modSense i f).est = s.est := rfl
@[simp] theorem State.modSense_saf (s : State) (i : Fin 8) (f : RingSense → RingSense) : (s.modSense i f).saf = s.saf := rfl
@[simp] theorem State.modSense_twin (s : State) (i : Fin 8) (f : RingSense → RingSense) : (s.modSense i f).twin = s.twin := rfl
@[simp] theorem State.modSense_trust (s : State) (i : Fin 8) (f : RingSense → RingSense) : (s.modSense i f).trust = s.trust := rfl
@[simp] theorem State.modSense_hist (s : State) (i : Fin 8) (f : RingSense → RingSense) : (s.modSense i f).hist = s.hist := rfl
@[simp] theorem State.modSense_ffr (s : State) (i : Fin 8) (f : RingSense → RingSense) : (s.modSense i f).ffr = s.ffr := rfl
@[simp] theorem State.modSense_host (s : State) (i : Fin 8) (f : RingSense → RingSense) : (s.modSense i f).host = s.host := rfl
@[simp] theorem State.modSense_jrn (s : State) (i : Fin 8) (f : RingSense → RingSense) : (s.modSense i f).jrn = s.jrn := rfl
@[simp] theorem State.modSense_ptp (s : State) (i : Fin 8) (f : RingSense → RingSense) : (s.modSense i f).ptp = s.ptp := rfl
@[simp] theorem State.modSense_can (s : State) (i : Fin 8) (f : RingSense → RingSense) : (s.modSense i f).can = s.can := rfl
@[simp] theorem State.modSense_hk (s : State) (i : Fin 8) (f : RingSense → RingSense) : (s.modSense i f).hk = s.hk := rfl
@[simp] theorem State.modSense_ctr (s : State) (i : Fin 8) (f : RingSense → RingSense) : (s.modSense i f).ctr = s.ctr := rfl
@[simp] theorem State.modSense_ctrSat (s : State) (i : Fin 8) (f : RingSense → RingSense) : (s.modSense i f).ctrSat = s.ctrSat := rfl
@[simp] theorem State.modSense_jctr (s : State) (i : Fin 8) (f : RingSense → RingSense) : (s.modSense i f).jctr = s.jctr := rfl
@[simp] theorem State.modSense_upd (s : State) (i : Fin 8) (f : RingSense → RingSense) : (s.modSense i f).upd = s.upd := rfl
@[simp] theorem State.modSense_io (s : State) (i : Fin 8) (f : RingSense → RingSense) : (s.modSense i f).io = s.io := rfl
@[simp] theorem State.modSense_scan (s : State) (i : Fin 8) (f : RingSense → RingSense) : (s.modSense i f).scan = s.scan := rfl
@[simp] theorem State.modSense_pwr (s : State) (i : Fin 8) (f : RingSense → RingSense) : (s.modSense i f).pwr = s.pwr := rfl
@[simp] theorem State.modSense_thm (s : State) (i : Fin 8) (f : RingSense → RingSense) : (s.modSense i f).thm = s.thm := rfl
@[simp] theorem State.modSense_hw (s : State) (i : Fin 8) (f : RingSense → RingSense) : (s.modSense i f).hw = s.hw := rfl
@[simp] theorem State.modSense_free (s : State) (i : Fin 8) (f : RingSense → RingSense) : (s.modSense i f).free = s.free := rfl
@[simp] theorem State.modSense_out (s : State) (i : Fin 8) (f : RingSense → RingSense) : (s.modSense i f).out = s.out := rfl
@[simp] theorem State.modSense_pending (s : State) (i : Fin 8) (f : RingSense → RingSense) : (s.modSense i f).pending = s.pending := rfl

@[simp] theorem State.mapAllSense_clk (s : State) (f : Fin 8 → RingSense → RingSense) : (s.mapAllSense f).clk = s.clk := rfl
@[simp] theorem State.mapAllSense_ident (s : State) (f : Fin 8 → RingSense → RingSense) : (s.mapAllSense f).ident = s.ident := rfl
@[simp] theorem State.mapAllSense_img (s : State) (f : Fin 8 → RingSense → RingSense) : (s.mapAllSense f).img = s.img := rfl
@[simp] theorem State.mapAllSense_ring (s : State) (f : Fin 8 → RingSense → RingSense) : (s.mapAllSense f).ring = s.ring := rfl
@[simp] theorem State.mapAllSense_sense (s : State) (f : Fin 8 → RingSense → RingSense) : (s.mapAllSense f).sense = Vec.updAll s.sense f := rfl
@[simp] theorem State.mapAllSense_sweep (s : State) (f : Fin 8 → RingSense → RingSense) : (s.mapAllSense f).sweep = s.sweep := rfl
@[simp] theorem State.mapAllSense_str (s : State) (f : Fin 8 → RingSense → RingSense) : (s.mapAllSense f).str = s.str := rfl
@[simp] theorem State.mapAllSense_rc (s : State) (f : Fin 8 → RingSense → RingSense) : (s.mapAllSense f).rc = s.rc := rfl
@[simp] theorem State.mapAllSense_bank (s : State) (f : Fin 8 → RingSense → RingSense) : (s.mapAllSense f).bank = s.bank := rfl
@[simp] theorem State.mapAllSense_est (s : State) (f : Fin 8 → RingSense → RingSense) : (s.mapAllSense f).est = s.est := rfl
@[simp] theorem State.mapAllSense_saf (s : State) (f : Fin 8 → RingSense → RingSense) : (s.mapAllSense f).saf = s.saf := rfl
@[simp] theorem State.mapAllSense_twin (s : State) (f : Fin 8 → RingSense → RingSense) : (s.mapAllSense f).twin = s.twin := rfl
@[simp] theorem State.mapAllSense_trust (s : State) (f : Fin 8 → RingSense → RingSense) : (s.mapAllSense f).trust = s.trust := rfl
@[simp] theorem State.mapAllSense_hist (s : State) (f : Fin 8 → RingSense → RingSense) : (s.mapAllSense f).hist = s.hist := rfl
@[simp] theorem State.mapAllSense_ffr (s : State) (f : Fin 8 → RingSense → RingSense) : (s.mapAllSense f).ffr = s.ffr := rfl
@[simp] theorem State.mapAllSense_host (s : State) (f : Fin 8 → RingSense → RingSense) : (s.mapAllSense f).host = s.host := rfl
@[simp] theorem State.mapAllSense_jrn (s : State) (f : Fin 8 → RingSense → RingSense) : (s.mapAllSense f).jrn = s.jrn := rfl
@[simp] theorem State.mapAllSense_ptp (s : State) (f : Fin 8 → RingSense → RingSense) : (s.mapAllSense f).ptp = s.ptp := rfl
@[simp] theorem State.mapAllSense_can (s : State) (f : Fin 8 → RingSense → RingSense) : (s.mapAllSense f).can = s.can := rfl
@[simp] theorem State.mapAllSense_hk (s : State) (f : Fin 8 → RingSense → RingSense) : (s.mapAllSense f).hk = s.hk := rfl
@[simp] theorem State.mapAllSense_ctr (s : State) (f : Fin 8 → RingSense → RingSense) : (s.mapAllSense f).ctr = s.ctr := rfl
@[simp] theorem State.mapAllSense_ctrSat (s : State) (f : Fin 8 → RingSense → RingSense) : (s.mapAllSense f).ctrSat = s.ctrSat := rfl
@[simp] theorem State.mapAllSense_jctr (s : State) (f : Fin 8 → RingSense → RingSense) : (s.mapAllSense f).jctr = s.jctr := rfl
@[simp] theorem State.mapAllSense_upd (s : State) (f : Fin 8 → RingSense → RingSense) : (s.mapAllSense f).upd = s.upd := rfl
@[simp] theorem State.mapAllSense_io (s : State) (f : Fin 8 → RingSense → RingSense) : (s.mapAllSense f).io = s.io := rfl
@[simp] theorem State.mapAllSense_scan (s : State) (f : Fin 8 → RingSense → RingSense) : (s.mapAllSense f).scan = s.scan := rfl
@[simp] theorem State.mapAllSense_pwr (s : State) (f : Fin 8 → RingSense → RingSense) : (s.mapAllSense f).pwr = s.pwr := rfl
@[simp] theorem State.mapAllSense_thm (s : State) (f : Fin 8 → RingSense → RingSense) : (s.mapAllSense f).thm = s.thm := rfl
@[simp] theorem State.mapAllSense_hw (s : State) (f : Fin 8 → RingSense → RingSense) : (s.mapAllSense f).hw = s.hw := rfl
@[simp] theorem State.mapAllSense_free (s : State) (f : Fin 8 → RingSense → RingSense) : (s.mapAllSense f).free = s.free := rfl
@[simp] theorem State.mapAllSense_out (s : State) (f : Fin 8 → RingSense → RingSense) : (s.mapAllSense f).out = s.out := rfl
@[simp] theorem State.mapAllSense_pending (s : State) (f : Fin 8 → RingSense → RingSense) : (s.mapAllSense f).pending = s.pending := rfl

@[simp] theorem State.modSweep_clk (s : State) (i : Fin 8) (f : Sweep → Sweep) : (s.modSweep i f).clk = s.clk := rfl
@[simp] theorem State.modSweep_ident (s : State) (i : Fin 8) (f : Sweep → Sweep) : (s.modSweep i f).ident = s.ident := rfl
@[simp] theorem State.modSweep_img (s : State) (i : Fin 8) (f : Sweep → Sweep) : (s.modSweep i f).img = s.img := rfl
@[simp] theorem State.modSweep_ring (s : State) (i : Fin 8) (f : Sweep → Sweep) : (s.modSweep i f).ring = s.ring := rfl
@[simp] theorem State.modSweep_sense (s : State) (i : Fin 8) (f : Sweep → Sweep) : (s.modSweep i f).sense = s.sense := rfl
@[simp] theorem State.modSweep_sweep (s : State) (i : Fin 8) (f : Sweep → Sweep) : (s.modSweep i f).sweep = Vec.upd s.sweep i f := rfl
@[simp] theorem State.modSweep_str (s : State) (i : Fin 8) (f : Sweep → Sweep) : (s.modSweep i f).str = s.str := rfl
@[simp] theorem State.modSweep_rc (s : State) (i : Fin 8) (f : Sweep → Sweep) : (s.modSweep i f).rc = s.rc := rfl
@[simp] theorem State.modSweep_bank (s : State) (i : Fin 8) (f : Sweep → Sweep) : (s.modSweep i f).bank = s.bank := rfl
@[simp] theorem State.modSweep_est (s : State) (i : Fin 8) (f : Sweep → Sweep) : (s.modSweep i f).est = s.est := rfl
@[simp] theorem State.modSweep_saf (s : State) (i : Fin 8) (f : Sweep → Sweep) : (s.modSweep i f).saf = s.saf := rfl
@[simp] theorem State.modSweep_twin (s : State) (i : Fin 8) (f : Sweep → Sweep) : (s.modSweep i f).twin = s.twin := rfl
@[simp] theorem State.modSweep_trust (s : State) (i : Fin 8) (f : Sweep → Sweep) : (s.modSweep i f).trust = s.trust := rfl
@[simp] theorem State.modSweep_hist (s : State) (i : Fin 8) (f : Sweep → Sweep) : (s.modSweep i f).hist = s.hist := rfl
@[simp] theorem State.modSweep_ffr (s : State) (i : Fin 8) (f : Sweep → Sweep) : (s.modSweep i f).ffr = s.ffr := rfl
@[simp] theorem State.modSweep_host (s : State) (i : Fin 8) (f : Sweep → Sweep) : (s.modSweep i f).host = s.host := rfl
@[simp] theorem State.modSweep_jrn (s : State) (i : Fin 8) (f : Sweep → Sweep) : (s.modSweep i f).jrn = s.jrn := rfl
@[simp] theorem State.modSweep_ptp (s : State) (i : Fin 8) (f : Sweep → Sweep) : (s.modSweep i f).ptp = s.ptp := rfl
@[simp] theorem State.modSweep_can (s : State) (i : Fin 8) (f : Sweep → Sweep) : (s.modSweep i f).can = s.can := rfl
@[simp] theorem State.modSweep_hk (s : State) (i : Fin 8) (f : Sweep → Sweep) : (s.modSweep i f).hk = s.hk := rfl
@[simp] theorem State.modSweep_ctr (s : State) (i : Fin 8) (f : Sweep → Sweep) : (s.modSweep i f).ctr = s.ctr := rfl
@[simp] theorem State.modSweep_ctrSat (s : State) (i : Fin 8) (f : Sweep → Sweep) : (s.modSweep i f).ctrSat = s.ctrSat := rfl
@[simp] theorem State.modSweep_jctr (s : State) (i : Fin 8) (f : Sweep → Sweep) : (s.modSweep i f).jctr = s.jctr := rfl
@[simp] theorem State.modSweep_upd (s : State) (i : Fin 8) (f : Sweep → Sweep) : (s.modSweep i f).upd = s.upd := rfl
@[simp] theorem State.modSweep_io (s : State) (i : Fin 8) (f : Sweep → Sweep) : (s.modSweep i f).io = s.io := rfl
@[simp] theorem State.modSweep_scan (s : State) (i : Fin 8) (f : Sweep → Sweep) : (s.modSweep i f).scan = s.scan := rfl
@[simp] theorem State.modSweep_pwr (s : State) (i : Fin 8) (f : Sweep → Sweep) : (s.modSweep i f).pwr = s.pwr := rfl
@[simp] theorem State.modSweep_thm (s : State) (i : Fin 8) (f : Sweep → Sweep) : (s.modSweep i f).thm = s.thm := rfl
@[simp] theorem State.modSweep_hw (s : State) (i : Fin 8) (f : Sweep → Sweep) : (s.modSweep i f).hw = s.hw := rfl
@[simp] theorem State.modSweep_free (s : State) (i : Fin 8) (f : Sweep → Sweep) : (s.modSweep i f).free = s.free := rfl
@[simp] theorem State.modSweep_out (s : State) (i : Fin 8) (f : Sweep → Sweep) : (s.modSweep i f).out = s.out := rfl
@[simp] theorem State.modSweep_pending (s : State) (i : Fin 8) (f : Sweep → Sweep) : (s.modSweep i f).pending = s.pending := rfl

@[simp] theorem State.mapAllSweep_clk (s : State) (f : Fin 8 → Sweep → Sweep) : (s.mapAllSweep f).clk = s.clk := rfl
@[simp] theorem State.mapAllSweep_ident (s : State) (f : Fin 8 → Sweep → Sweep) : (s.mapAllSweep f).ident = s.ident := rfl
@[simp] theorem State.mapAllSweep_img (s : State) (f : Fin 8 → Sweep → Sweep) : (s.mapAllSweep f).img = s.img := rfl
@[simp] theorem State.mapAllSweep_ring (s : State) (f : Fin 8 → Sweep → Sweep) : (s.mapAllSweep f).ring = s.ring := rfl
@[simp] theorem State.mapAllSweep_sense (s : State) (f : Fin 8 → Sweep → Sweep) : (s.mapAllSweep f).sense = s.sense := rfl
@[simp] theorem State.mapAllSweep_sweep (s : State) (f : Fin 8 → Sweep → Sweep) : (s.mapAllSweep f).sweep = Vec.updAll s.sweep f := rfl
@[simp] theorem State.mapAllSweep_str (s : State) (f : Fin 8 → Sweep → Sweep) : (s.mapAllSweep f).str = s.str := rfl
@[simp] theorem State.mapAllSweep_rc (s : State) (f : Fin 8 → Sweep → Sweep) : (s.mapAllSweep f).rc = s.rc := rfl
@[simp] theorem State.mapAllSweep_bank (s : State) (f : Fin 8 → Sweep → Sweep) : (s.mapAllSweep f).bank = s.bank := rfl
@[simp] theorem State.mapAllSweep_est (s : State) (f : Fin 8 → Sweep → Sweep) : (s.mapAllSweep f).est = s.est := rfl
@[simp] theorem State.mapAllSweep_saf (s : State) (f : Fin 8 → Sweep → Sweep) : (s.mapAllSweep f).saf = s.saf := rfl
@[simp] theorem State.mapAllSweep_twin (s : State) (f : Fin 8 → Sweep → Sweep) : (s.mapAllSweep f).twin = s.twin := rfl
@[simp] theorem State.mapAllSweep_trust (s : State) (f : Fin 8 → Sweep → Sweep) : (s.mapAllSweep f).trust = s.trust := rfl
@[simp] theorem State.mapAllSweep_hist (s : State) (f : Fin 8 → Sweep → Sweep) : (s.mapAllSweep f).hist = s.hist := rfl
@[simp] theorem State.mapAllSweep_ffr (s : State) (f : Fin 8 → Sweep → Sweep) : (s.mapAllSweep f).ffr = s.ffr := rfl
@[simp] theorem State.mapAllSweep_host (s : State) (f : Fin 8 → Sweep → Sweep) : (s.mapAllSweep f).host = s.host := rfl
@[simp] theorem State.mapAllSweep_jrn (s : State) (f : Fin 8 → Sweep → Sweep) : (s.mapAllSweep f).jrn = s.jrn := rfl
@[simp] theorem State.mapAllSweep_ptp (s : State) (f : Fin 8 → Sweep → Sweep) : (s.mapAllSweep f).ptp = s.ptp := rfl
@[simp] theorem State.mapAllSweep_can (s : State) (f : Fin 8 → Sweep → Sweep) : (s.mapAllSweep f).can = s.can := rfl
@[simp] theorem State.mapAllSweep_hk (s : State) (f : Fin 8 → Sweep → Sweep) : (s.mapAllSweep f).hk = s.hk := rfl
@[simp] theorem State.mapAllSweep_ctr (s : State) (f : Fin 8 → Sweep → Sweep) : (s.mapAllSweep f).ctr = s.ctr := rfl
@[simp] theorem State.mapAllSweep_ctrSat (s : State) (f : Fin 8 → Sweep → Sweep) : (s.mapAllSweep f).ctrSat = s.ctrSat := rfl
@[simp] theorem State.mapAllSweep_jctr (s : State) (f : Fin 8 → Sweep → Sweep) : (s.mapAllSweep f).jctr = s.jctr := rfl
@[simp] theorem State.mapAllSweep_upd (s : State) (f : Fin 8 → Sweep → Sweep) : (s.mapAllSweep f).upd = s.upd := rfl
@[simp] theorem State.mapAllSweep_io (s : State) (f : Fin 8 → Sweep → Sweep) : (s.mapAllSweep f).io = s.io := rfl
@[simp] theorem State.mapAllSweep_scan (s : State) (f : Fin 8 → Sweep → Sweep) : (s.mapAllSweep f).scan = s.scan := rfl
@[simp] theorem State.mapAllSweep_pwr (s : State) (f : Fin 8 → Sweep → Sweep) : (s.mapAllSweep f).pwr = s.pwr := rfl
@[simp] theorem State.mapAllSweep_thm (s : State) (f : Fin 8 → Sweep → Sweep) : (s.mapAllSweep f).thm = s.thm := rfl
@[simp] theorem State.mapAllSweep_hw (s : State) (f : Fin 8 → Sweep → Sweep) : (s.mapAllSweep f).hw = s.hw := rfl
@[simp] theorem State.mapAllSweep_free (s : State) (f : Fin 8 → Sweep → Sweep) : (s.mapAllSweep f).free = s.free := rfl
@[simp] theorem State.mapAllSweep_out (s : State) (f : Fin 8 → Sweep → Sweep) : (s.mapAllSweep f).out = s.out := rfl
@[simp] theorem State.mapAllSweep_pending (s : State) (f : Fin 8 → Sweep → Sweep) : (s.mapAllSweep f).pending = s.pending := rfl

@[simp] theorem State.modStr_clk (s : State) (i : Fin 8) (f : StrEng → StrEng) : (s.modStr i f).clk = s.clk := rfl
@[simp] theorem State.modStr_ident (s : State) (i : Fin 8) (f : StrEng → StrEng) : (s.modStr i f).ident = s.ident := rfl
@[simp] theorem State.modStr_img (s : State) (i : Fin 8) (f : StrEng → StrEng) : (s.modStr i f).img = s.img := rfl
@[simp] theorem State.modStr_ring (s : State) (i : Fin 8) (f : StrEng → StrEng) : (s.modStr i f).ring = s.ring := rfl
@[simp] theorem State.modStr_sense (s : State) (i : Fin 8) (f : StrEng → StrEng) : (s.modStr i f).sense = s.sense := rfl
@[simp] theorem State.modStr_sweep (s : State) (i : Fin 8) (f : StrEng → StrEng) : (s.modStr i f).sweep = s.sweep := rfl
@[simp] theorem State.modStr_str (s : State) (i : Fin 8) (f : StrEng → StrEng) : (s.modStr i f).str = Vec.upd s.str i f := rfl
@[simp] theorem State.modStr_rc (s : State) (i : Fin 8) (f : StrEng → StrEng) : (s.modStr i f).rc = s.rc := rfl
@[simp] theorem State.modStr_bank (s : State) (i : Fin 8) (f : StrEng → StrEng) : (s.modStr i f).bank = s.bank := rfl
@[simp] theorem State.modStr_est (s : State) (i : Fin 8) (f : StrEng → StrEng) : (s.modStr i f).est = s.est := rfl
@[simp] theorem State.modStr_saf (s : State) (i : Fin 8) (f : StrEng → StrEng) : (s.modStr i f).saf = s.saf := rfl
@[simp] theorem State.modStr_twin (s : State) (i : Fin 8) (f : StrEng → StrEng) : (s.modStr i f).twin = s.twin := rfl
@[simp] theorem State.modStr_trust (s : State) (i : Fin 8) (f : StrEng → StrEng) : (s.modStr i f).trust = s.trust := rfl
@[simp] theorem State.modStr_hist (s : State) (i : Fin 8) (f : StrEng → StrEng) : (s.modStr i f).hist = s.hist := rfl
@[simp] theorem State.modStr_ffr (s : State) (i : Fin 8) (f : StrEng → StrEng) : (s.modStr i f).ffr = s.ffr := rfl
@[simp] theorem State.modStr_host (s : State) (i : Fin 8) (f : StrEng → StrEng) : (s.modStr i f).host = s.host := rfl
@[simp] theorem State.modStr_jrn (s : State) (i : Fin 8) (f : StrEng → StrEng) : (s.modStr i f).jrn = s.jrn := rfl
@[simp] theorem State.modStr_ptp (s : State) (i : Fin 8) (f : StrEng → StrEng) : (s.modStr i f).ptp = s.ptp := rfl
@[simp] theorem State.modStr_can (s : State) (i : Fin 8) (f : StrEng → StrEng) : (s.modStr i f).can = s.can := rfl
@[simp] theorem State.modStr_hk (s : State) (i : Fin 8) (f : StrEng → StrEng) : (s.modStr i f).hk = s.hk := rfl
@[simp] theorem State.modStr_ctr (s : State) (i : Fin 8) (f : StrEng → StrEng) : (s.modStr i f).ctr = s.ctr := rfl
@[simp] theorem State.modStr_ctrSat (s : State) (i : Fin 8) (f : StrEng → StrEng) : (s.modStr i f).ctrSat = s.ctrSat := rfl
@[simp] theorem State.modStr_jctr (s : State) (i : Fin 8) (f : StrEng → StrEng) : (s.modStr i f).jctr = s.jctr := rfl
@[simp] theorem State.modStr_upd (s : State) (i : Fin 8) (f : StrEng → StrEng) : (s.modStr i f).upd = s.upd := rfl
@[simp] theorem State.modStr_io (s : State) (i : Fin 8) (f : StrEng → StrEng) : (s.modStr i f).io = s.io := rfl
@[simp] theorem State.modStr_scan (s : State) (i : Fin 8) (f : StrEng → StrEng) : (s.modStr i f).scan = s.scan := rfl
@[simp] theorem State.modStr_pwr (s : State) (i : Fin 8) (f : StrEng → StrEng) : (s.modStr i f).pwr = s.pwr := rfl
@[simp] theorem State.modStr_thm (s : State) (i : Fin 8) (f : StrEng → StrEng) : (s.modStr i f).thm = s.thm := rfl
@[simp] theorem State.modStr_hw (s : State) (i : Fin 8) (f : StrEng → StrEng) : (s.modStr i f).hw = s.hw := rfl
@[simp] theorem State.modStr_free (s : State) (i : Fin 8) (f : StrEng → StrEng) : (s.modStr i f).free = s.free := rfl
@[simp] theorem State.modStr_out (s : State) (i : Fin 8) (f : StrEng → StrEng) : (s.modStr i f).out = s.out := rfl
@[simp] theorem State.modStr_pending (s : State) (i : Fin 8) (f : StrEng → StrEng) : (s.modStr i f).pending = s.pending := rfl

@[simp] theorem State.mapAllStr_clk (s : State) (f : Fin 8 → StrEng → StrEng) : (s.mapAllStr f).clk = s.clk := rfl
@[simp] theorem State.mapAllStr_ident (s : State) (f : Fin 8 → StrEng → StrEng) : (s.mapAllStr f).ident = s.ident := rfl
@[simp] theorem State.mapAllStr_img (s : State) (f : Fin 8 → StrEng → StrEng) : (s.mapAllStr f).img = s.img := rfl
@[simp] theorem State.mapAllStr_ring (s : State) (f : Fin 8 → StrEng → StrEng) : (s.mapAllStr f).ring = s.ring := rfl
@[simp] theorem State.mapAllStr_sense (s : State) (f : Fin 8 → StrEng → StrEng) : (s.mapAllStr f).sense = s.sense := rfl
@[simp] theorem State.mapAllStr_sweep (s : State) (f : Fin 8 → StrEng → StrEng) : (s.mapAllStr f).sweep = s.sweep := rfl
@[simp] theorem State.mapAllStr_str (s : State) (f : Fin 8 → StrEng → StrEng) : (s.mapAllStr f).str = Vec.updAll s.str f := rfl
@[simp] theorem State.mapAllStr_rc (s : State) (f : Fin 8 → StrEng → StrEng) : (s.mapAllStr f).rc = s.rc := rfl
@[simp] theorem State.mapAllStr_bank (s : State) (f : Fin 8 → StrEng → StrEng) : (s.mapAllStr f).bank = s.bank := rfl
@[simp] theorem State.mapAllStr_est (s : State) (f : Fin 8 → StrEng → StrEng) : (s.mapAllStr f).est = s.est := rfl
@[simp] theorem State.mapAllStr_saf (s : State) (f : Fin 8 → StrEng → StrEng) : (s.mapAllStr f).saf = s.saf := rfl
@[simp] theorem State.mapAllStr_twin (s : State) (f : Fin 8 → StrEng → StrEng) : (s.mapAllStr f).twin = s.twin := rfl
@[simp] theorem State.mapAllStr_trust (s : State) (f : Fin 8 → StrEng → StrEng) : (s.mapAllStr f).trust = s.trust := rfl
@[simp] theorem State.mapAllStr_hist (s : State) (f : Fin 8 → StrEng → StrEng) : (s.mapAllStr f).hist = s.hist := rfl
@[simp] theorem State.mapAllStr_ffr (s : State) (f : Fin 8 → StrEng → StrEng) : (s.mapAllStr f).ffr = s.ffr := rfl
@[simp] theorem State.mapAllStr_host (s : State) (f : Fin 8 → StrEng → StrEng) : (s.mapAllStr f).host = s.host := rfl
@[simp] theorem State.mapAllStr_jrn (s : State) (f : Fin 8 → StrEng → StrEng) : (s.mapAllStr f).jrn = s.jrn := rfl
@[simp] theorem State.mapAllStr_ptp (s : State) (f : Fin 8 → StrEng → StrEng) : (s.mapAllStr f).ptp = s.ptp := rfl
@[simp] theorem State.mapAllStr_can (s : State) (f : Fin 8 → StrEng → StrEng) : (s.mapAllStr f).can = s.can := rfl
@[simp] theorem State.mapAllStr_hk (s : State) (f : Fin 8 → StrEng → StrEng) : (s.mapAllStr f).hk = s.hk := rfl
@[simp] theorem State.mapAllStr_ctr (s : State) (f : Fin 8 → StrEng → StrEng) : (s.mapAllStr f).ctr = s.ctr := rfl
@[simp] theorem State.mapAllStr_ctrSat (s : State) (f : Fin 8 → StrEng → StrEng) : (s.mapAllStr f).ctrSat = s.ctrSat := rfl
@[simp] theorem State.mapAllStr_jctr (s : State) (f : Fin 8 → StrEng → StrEng) : (s.mapAllStr f).jctr = s.jctr := rfl
@[simp] theorem State.mapAllStr_upd (s : State) (f : Fin 8 → StrEng → StrEng) : (s.mapAllStr f).upd = s.upd := rfl
@[simp] theorem State.mapAllStr_io (s : State) (f : Fin 8 → StrEng → StrEng) : (s.mapAllStr f).io = s.io := rfl
@[simp] theorem State.mapAllStr_scan (s : State) (f : Fin 8 → StrEng → StrEng) : (s.mapAllStr f).scan = s.scan := rfl
@[simp] theorem State.mapAllStr_pwr (s : State) (f : Fin 8 → StrEng → StrEng) : (s.mapAllStr f).pwr = s.pwr := rfl
@[simp] theorem State.mapAllStr_thm (s : State) (f : Fin 8 → StrEng → StrEng) : (s.mapAllStr f).thm = s.thm := rfl
@[simp] theorem State.mapAllStr_hw (s : State) (f : Fin 8 → StrEng → StrEng) : (s.mapAllStr f).hw = s.hw := rfl
@[simp] theorem State.mapAllStr_free (s : State) (f : Fin 8 → StrEng → StrEng) : (s.mapAllStr f).free = s.free := rfl
@[simp] theorem State.mapAllStr_out (s : State) (f : Fin 8 → StrEng → StrEng) : (s.mapAllStr f).out = s.out := rfl
@[simp] theorem State.mapAllStr_pending (s : State) (f : Fin 8 → StrEng → StrEng) : (s.mapAllStr f).pending = s.pending := rfl

@[simp] theorem State.modRc_clk (s : State) (i : Fin 8) (f : RcCtl → RcCtl) : (s.modRc i f).clk = s.clk := rfl
@[simp] theorem State.modRc_ident (s : State) (i : Fin 8) (f : RcCtl → RcCtl) : (s.modRc i f).ident = s.ident := rfl
@[simp] theorem State.modRc_img (s : State) (i : Fin 8) (f : RcCtl → RcCtl) : (s.modRc i f).img = s.img := rfl
@[simp] theorem State.modRc_ring (s : State) (i : Fin 8) (f : RcCtl → RcCtl) : (s.modRc i f).ring = s.ring := rfl
@[simp] theorem State.modRc_sense (s : State) (i : Fin 8) (f : RcCtl → RcCtl) : (s.modRc i f).sense = s.sense := rfl
@[simp] theorem State.modRc_sweep (s : State) (i : Fin 8) (f : RcCtl → RcCtl) : (s.modRc i f).sweep = s.sweep := rfl
@[simp] theorem State.modRc_str (s : State) (i : Fin 8) (f : RcCtl → RcCtl) : (s.modRc i f).str = s.str := rfl
@[simp] theorem State.modRc_rc (s : State) (i : Fin 8) (f : RcCtl → RcCtl) : (s.modRc i f).rc = Vec.upd s.rc i f := rfl
@[simp] theorem State.modRc_bank (s : State) (i : Fin 8) (f : RcCtl → RcCtl) : (s.modRc i f).bank = s.bank := rfl
@[simp] theorem State.modRc_est (s : State) (i : Fin 8) (f : RcCtl → RcCtl) : (s.modRc i f).est = s.est := rfl
@[simp] theorem State.modRc_saf (s : State) (i : Fin 8) (f : RcCtl → RcCtl) : (s.modRc i f).saf = s.saf := rfl
@[simp] theorem State.modRc_twin (s : State) (i : Fin 8) (f : RcCtl → RcCtl) : (s.modRc i f).twin = s.twin := rfl
@[simp] theorem State.modRc_trust (s : State) (i : Fin 8) (f : RcCtl → RcCtl) : (s.modRc i f).trust = s.trust := rfl
@[simp] theorem State.modRc_hist (s : State) (i : Fin 8) (f : RcCtl → RcCtl) : (s.modRc i f).hist = s.hist := rfl
@[simp] theorem State.modRc_ffr (s : State) (i : Fin 8) (f : RcCtl → RcCtl) : (s.modRc i f).ffr = s.ffr := rfl
@[simp] theorem State.modRc_host (s : State) (i : Fin 8) (f : RcCtl → RcCtl) : (s.modRc i f).host = s.host := rfl
@[simp] theorem State.modRc_jrn (s : State) (i : Fin 8) (f : RcCtl → RcCtl) : (s.modRc i f).jrn = s.jrn := rfl
@[simp] theorem State.modRc_ptp (s : State) (i : Fin 8) (f : RcCtl → RcCtl) : (s.modRc i f).ptp = s.ptp := rfl
@[simp] theorem State.modRc_can (s : State) (i : Fin 8) (f : RcCtl → RcCtl) : (s.modRc i f).can = s.can := rfl
@[simp] theorem State.modRc_hk (s : State) (i : Fin 8) (f : RcCtl → RcCtl) : (s.modRc i f).hk = s.hk := rfl
@[simp] theorem State.modRc_ctr (s : State) (i : Fin 8) (f : RcCtl → RcCtl) : (s.modRc i f).ctr = s.ctr := rfl
@[simp] theorem State.modRc_ctrSat (s : State) (i : Fin 8) (f : RcCtl → RcCtl) : (s.modRc i f).ctrSat = s.ctrSat := rfl
@[simp] theorem State.modRc_jctr (s : State) (i : Fin 8) (f : RcCtl → RcCtl) : (s.modRc i f).jctr = s.jctr := rfl
@[simp] theorem State.modRc_upd (s : State) (i : Fin 8) (f : RcCtl → RcCtl) : (s.modRc i f).upd = s.upd := rfl
@[simp] theorem State.modRc_io (s : State) (i : Fin 8) (f : RcCtl → RcCtl) : (s.modRc i f).io = s.io := rfl
@[simp] theorem State.modRc_scan (s : State) (i : Fin 8) (f : RcCtl → RcCtl) : (s.modRc i f).scan = s.scan := rfl
@[simp] theorem State.modRc_pwr (s : State) (i : Fin 8) (f : RcCtl → RcCtl) : (s.modRc i f).pwr = s.pwr := rfl
@[simp] theorem State.modRc_thm (s : State) (i : Fin 8) (f : RcCtl → RcCtl) : (s.modRc i f).thm = s.thm := rfl
@[simp] theorem State.modRc_hw (s : State) (i : Fin 8) (f : RcCtl → RcCtl) : (s.modRc i f).hw = s.hw := rfl
@[simp] theorem State.modRc_free (s : State) (i : Fin 8) (f : RcCtl → RcCtl) : (s.modRc i f).free = s.free := rfl
@[simp] theorem State.modRc_out (s : State) (i : Fin 8) (f : RcCtl → RcCtl) : (s.modRc i f).out = s.out := rfl
@[simp] theorem State.modRc_pending (s : State) (i : Fin 8) (f : RcCtl → RcCtl) : (s.modRc i f).pending = s.pending := rfl

@[simp] theorem State.mapAllRc_clk (s : State) (f : Fin 8 → RcCtl → RcCtl) : (s.mapAllRc f).clk = s.clk := rfl
@[simp] theorem State.mapAllRc_ident (s : State) (f : Fin 8 → RcCtl → RcCtl) : (s.mapAllRc f).ident = s.ident := rfl
@[simp] theorem State.mapAllRc_img (s : State) (f : Fin 8 → RcCtl → RcCtl) : (s.mapAllRc f).img = s.img := rfl
@[simp] theorem State.mapAllRc_ring (s : State) (f : Fin 8 → RcCtl → RcCtl) : (s.mapAllRc f).ring = s.ring := rfl
@[simp] theorem State.mapAllRc_sense (s : State) (f : Fin 8 → RcCtl → RcCtl) : (s.mapAllRc f).sense = s.sense := rfl
@[simp] theorem State.mapAllRc_sweep (s : State) (f : Fin 8 → RcCtl → RcCtl) : (s.mapAllRc f).sweep = s.sweep := rfl
@[simp] theorem State.mapAllRc_str (s : State) (f : Fin 8 → RcCtl → RcCtl) : (s.mapAllRc f).str = s.str := rfl
@[simp] theorem State.mapAllRc_rc (s : State) (f : Fin 8 → RcCtl → RcCtl) : (s.mapAllRc f).rc = Vec.updAll s.rc f := rfl
@[simp] theorem State.mapAllRc_bank (s : State) (f : Fin 8 → RcCtl → RcCtl) : (s.mapAllRc f).bank = s.bank := rfl
@[simp] theorem State.mapAllRc_est (s : State) (f : Fin 8 → RcCtl → RcCtl) : (s.mapAllRc f).est = s.est := rfl
@[simp] theorem State.mapAllRc_saf (s : State) (f : Fin 8 → RcCtl → RcCtl) : (s.mapAllRc f).saf = s.saf := rfl
@[simp] theorem State.mapAllRc_twin (s : State) (f : Fin 8 → RcCtl → RcCtl) : (s.mapAllRc f).twin = s.twin := rfl
@[simp] theorem State.mapAllRc_trust (s : State) (f : Fin 8 → RcCtl → RcCtl) : (s.mapAllRc f).trust = s.trust := rfl
@[simp] theorem State.mapAllRc_hist (s : State) (f : Fin 8 → RcCtl → RcCtl) : (s.mapAllRc f).hist = s.hist := rfl
@[simp] theorem State.mapAllRc_ffr (s : State) (f : Fin 8 → RcCtl → RcCtl) : (s.mapAllRc f).ffr = s.ffr := rfl
@[simp] theorem State.mapAllRc_host (s : State) (f : Fin 8 → RcCtl → RcCtl) : (s.mapAllRc f).host = s.host := rfl
@[simp] theorem State.mapAllRc_jrn (s : State) (f : Fin 8 → RcCtl → RcCtl) : (s.mapAllRc f).jrn = s.jrn := rfl
@[simp] theorem State.mapAllRc_ptp (s : State) (f : Fin 8 → RcCtl → RcCtl) : (s.mapAllRc f).ptp = s.ptp := rfl
@[simp] theorem State.mapAllRc_can (s : State) (f : Fin 8 → RcCtl → RcCtl) : (s.mapAllRc f).can = s.can := rfl
@[simp] theorem State.mapAllRc_hk (s : State) (f : Fin 8 → RcCtl → RcCtl) : (s.mapAllRc f).hk = s.hk := rfl
@[simp] theorem State.mapAllRc_ctr (s : State) (f : Fin 8 → RcCtl → RcCtl) : (s.mapAllRc f).ctr = s.ctr := rfl
@[simp] theorem State.mapAllRc_ctrSat (s : State) (f : Fin 8 → RcCtl → RcCtl) : (s.mapAllRc f).ctrSat = s.ctrSat := rfl
@[simp] theorem State.mapAllRc_jctr (s : State) (f : Fin 8 → RcCtl → RcCtl) : (s.mapAllRc f).jctr = s.jctr := rfl
@[simp] theorem State.mapAllRc_upd (s : State) (f : Fin 8 → RcCtl → RcCtl) : (s.mapAllRc f).upd = s.upd := rfl
@[simp] theorem State.mapAllRc_io (s : State) (f : Fin 8 → RcCtl → RcCtl) : (s.mapAllRc f).io = s.io := rfl
@[simp] theorem State.mapAllRc_scan (s : State) (f : Fin 8 → RcCtl → RcCtl) : (s.mapAllRc f).scan = s.scan := rfl
@[simp] theorem State.mapAllRc_pwr (s : State) (f : Fin 8 → RcCtl → RcCtl) : (s.mapAllRc f).pwr = s.pwr := rfl
@[simp] theorem State.mapAllRc_thm (s : State) (f : Fin 8 → RcCtl → RcCtl) : (s.mapAllRc f).thm = s.thm := rfl
@[simp] theorem State.mapAllRc_hw (s : State) (f : Fin 8 → RcCtl → RcCtl) : (s.mapAllRc f).hw = s.hw := rfl
@[simp] theorem State.mapAllRc_free (s : State) (f : Fin 8 → RcCtl → RcCtl) : (s.mapAllRc f).free = s.free := rfl
@[simp] theorem State.mapAllRc_out (s : State) (f : Fin 8 → RcCtl → RcCtl) : (s.mapAllRc f).out = s.out := rfl
@[simp] theorem State.mapAllRc_pending (s : State) (f : Fin 8 → RcCtl → RcCtl) : (s.mapAllRc f).pending = s.pending := rfl

@[simp] theorem State.modBank_clk (s : State) (f : Bank → Bank) : (s.modBank f).clk = s.clk := rfl
@[simp] theorem State.modBank_ident (s : State) (f : Bank → Bank) : (s.modBank f).ident = s.ident := rfl
@[simp] theorem State.modBank_img (s : State) (f : Bank → Bank) : (s.modBank f).img = s.img := rfl
@[simp] theorem State.modBank_ring (s : State) (f : Bank → Bank) : (s.modBank f).ring = s.ring := rfl
@[simp] theorem State.modBank_sense (s : State) (f : Bank → Bank) : (s.modBank f).sense = s.sense := rfl
@[simp] theorem State.modBank_sweep (s : State) (f : Bank → Bank) : (s.modBank f).sweep = s.sweep := rfl
@[simp] theorem State.modBank_str (s : State) (f : Bank → Bank) : (s.modBank f).str = s.str := rfl
@[simp] theorem State.modBank_rc (s : State) (f : Bank → Bank) : (s.modBank f).rc = s.rc := rfl
@[simp] theorem State.modBank_bank (s : State) (f : Bank → Bank) : (s.modBank f).bank = f s.bank := rfl
@[simp] theorem State.modBank_est (s : State) (f : Bank → Bank) : (s.modBank f).est = s.est := rfl
@[simp] theorem State.modBank_saf (s : State) (f : Bank → Bank) : (s.modBank f).saf = s.saf := rfl
@[simp] theorem State.modBank_twin (s : State) (f : Bank → Bank) : (s.modBank f).twin = s.twin := rfl
@[simp] theorem State.modBank_trust (s : State) (f : Bank → Bank) : (s.modBank f).trust = s.trust := rfl
@[simp] theorem State.modBank_hist (s : State) (f : Bank → Bank) : (s.modBank f).hist = s.hist := rfl
@[simp] theorem State.modBank_ffr (s : State) (f : Bank → Bank) : (s.modBank f).ffr = s.ffr := rfl
@[simp] theorem State.modBank_host (s : State) (f : Bank → Bank) : (s.modBank f).host = s.host := rfl
@[simp] theorem State.modBank_jrn (s : State) (f : Bank → Bank) : (s.modBank f).jrn = s.jrn := rfl
@[simp] theorem State.modBank_ptp (s : State) (f : Bank → Bank) : (s.modBank f).ptp = s.ptp := rfl
@[simp] theorem State.modBank_can (s : State) (f : Bank → Bank) : (s.modBank f).can = s.can := rfl
@[simp] theorem State.modBank_hk (s : State) (f : Bank → Bank) : (s.modBank f).hk = s.hk := rfl
@[simp] theorem State.modBank_ctr (s : State) (f : Bank → Bank) : (s.modBank f).ctr = s.ctr := rfl
@[simp] theorem State.modBank_ctrSat (s : State) (f : Bank → Bank) : (s.modBank f).ctrSat = s.ctrSat := rfl
@[simp] theorem State.modBank_jctr (s : State) (f : Bank → Bank) : (s.modBank f).jctr = s.jctr := rfl
@[simp] theorem State.modBank_upd (s : State) (f : Bank → Bank) : (s.modBank f).upd = s.upd := rfl
@[simp] theorem State.modBank_io (s : State) (f : Bank → Bank) : (s.modBank f).io = s.io := rfl
@[simp] theorem State.modBank_scan (s : State) (f : Bank → Bank) : (s.modBank f).scan = s.scan := rfl
@[simp] theorem State.modBank_pwr (s : State) (f : Bank → Bank) : (s.modBank f).pwr = s.pwr := rfl
@[simp] theorem State.modBank_thm (s : State) (f : Bank → Bank) : (s.modBank f).thm = s.thm := rfl
@[simp] theorem State.modBank_hw (s : State) (f : Bank → Bank) : (s.modBank f).hw = s.hw := rfl
@[simp] theorem State.modBank_free (s : State) (f : Bank → Bank) : (s.modBank f).free = s.free := rfl
@[simp] theorem State.modBank_out (s : State) (f : Bank → Bank) : (s.modBank f).out = s.out := rfl
@[simp] theorem State.modBank_pending (s : State) (f : Bank → Bank) : (s.modBank f).pending = s.pending := rfl

@[simp] theorem State.modEst_clk (s : State) (f : Est → Est) : (s.modEst f).clk = s.clk := rfl
@[simp] theorem State.modEst_ident (s : State) (f : Est → Est) : (s.modEst f).ident = s.ident := rfl
@[simp] theorem State.modEst_img (s : State) (f : Est → Est) : (s.modEst f).img = s.img := rfl
@[simp] theorem State.modEst_ring (s : State) (f : Est → Est) : (s.modEst f).ring = s.ring := rfl
@[simp] theorem State.modEst_sense (s : State) (f : Est → Est) : (s.modEst f).sense = s.sense := rfl
@[simp] theorem State.modEst_sweep (s : State) (f : Est → Est) : (s.modEst f).sweep = s.sweep := rfl
@[simp] theorem State.modEst_str (s : State) (f : Est → Est) : (s.modEst f).str = s.str := rfl
@[simp] theorem State.modEst_rc (s : State) (f : Est → Est) : (s.modEst f).rc = s.rc := rfl
@[simp] theorem State.modEst_bank (s : State) (f : Est → Est) : (s.modEst f).bank = s.bank := rfl
@[simp] theorem State.modEst_est (s : State) (f : Est → Est) : (s.modEst f).est = f s.est := rfl
@[simp] theorem State.modEst_saf (s : State) (f : Est → Est) : (s.modEst f).saf = s.saf := rfl
@[simp] theorem State.modEst_twin (s : State) (f : Est → Est) : (s.modEst f).twin = s.twin := rfl
@[simp] theorem State.modEst_trust (s : State) (f : Est → Est) : (s.modEst f).trust = s.trust := rfl
@[simp] theorem State.modEst_hist (s : State) (f : Est → Est) : (s.modEst f).hist = s.hist := rfl
@[simp] theorem State.modEst_ffr (s : State) (f : Est → Est) : (s.modEst f).ffr = s.ffr := rfl
@[simp] theorem State.modEst_host (s : State) (f : Est → Est) : (s.modEst f).host = s.host := rfl
@[simp] theorem State.modEst_jrn (s : State) (f : Est → Est) : (s.modEst f).jrn = s.jrn := rfl
@[simp] theorem State.modEst_ptp (s : State) (f : Est → Est) : (s.modEst f).ptp = s.ptp := rfl
@[simp] theorem State.modEst_can (s : State) (f : Est → Est) : (s.modEst f).can = s.can := rfl
@[simp] theorem State.modEst_hk (s : State) (f : Est → Est) : (s.modEst f).hk = s.hk := rfl
@[simp] theorem State.modEst_ctr (s : State) (f : Est → Est) : (s.modEst f).ctr = s.ctr := rfl
@[simp] theorem State.modEst_ctrSat (s : State) (f : Est → Est) : (s.modEst f).ctrSat = s.ctrSat := rfl
@[simp] theorem State.modEst_jctr (s : State) (f : Est → Est) : (s.modEst f).jctr = s.jctr := rfl
@[simp] theorem State.modEst_upd (s : State) (f : Est → Est) : (s.modEst f).upd = s.upd := rfl
@[simp] theorem State.modEst_io (s : State) (f : Est → Est) : (s.modEst f).io = s.io := rfl
@[simp] theorem State.modEst_scan (s : State) (f : Est → Est) : (s.modEst f).scan = s.scan := rfl
@[simp] theorem State.modEst_pwr (s : State) (f : Est → Est) : (s.modEst f).pwr = s.pwr := rfl
@[simp] theorem State.modEst_thm (s : State) (f : Est → Est) : (s.modEst f).thm = s.thm := rfl
@[simp] theorem State.modEst_hw (s : State) (f : Est → Est) : (s.modEst f).hw = s.hw := rfl
@[simp] theorem State.modEst_free (s : State) (f : Est → Est) : (s.modEst f).free = s.free := rfl
@[simp] theorem State.modEst_out (s : State) (f : Est → Est) : (s.modEst f).out = s.out := rfl
@[simp] theorem State.modEst_pending (s : State) (f : Est → Est) : (s.modEst f).pending = s.pending := rfl

@[simp] theorem State.modSaf_clk (s : State) (f : Safety → Safety) : (s.modSaf f).clk = s.clk := rfl
@[simp] theorem State.modSaf_ident (s : State) (f : Safety → Safety) : (s.modSaf f).ident = s.ident := rfl
@[simp] theorem State.modSaf_img (s : State) (f : Safety → Safety) : (s.modSaf f).img = s.img := rfl
@[simp] theorem State.modSaf_ring (s : State) (f : Safety → Safety) : (s.modSaf f).ring = s.ring := rfl
@[simp] theorem State.modSaf_sense (s : State) (f : Safety → Safety) : (s.modSaf f).sense = s.sense := rfl
@[simp] theorem State.modSaf_sweep (s : State) (f : Safety → Safety) : (s.modSaf f).sweep = s.sweep := rfl
@[simp] theorem State.modSaf_str (s : State) (f : Safety → Safety) : (s.modSaf f).str = s.str := rfl
@[simp] theorem State.modSaf_rc (s : State) (f : Safety → Safety) : (s.modSaf f).rc = s.rc := rfl
@[simp] theorem State.modSaf_bank (s : State) (f : Safety → Safety) : (s.modSaf f).bank = s.bank := rfl
@[simp] theorem State.modSaf_est (s : State) (f : Safety → Safety) : (s.modSaf f).est = s.est := rfl
@[simp] theorem State.modSaf_saf (s : State) (f : Safety → Safety) : (s.modSaf f).saf = f s.saf := rfl
@[simp] theorem State.modSaf_twin (s : State) (f : Safety → Safety) : (s.modSaf f).twin = s.twin := rfl
@[simp] theorem State.modSaf_trust (s : State) (f : Safety → Safety) : (s.modSaf f).trust = s.trust := rfl
@[simp] theorem State.modSaf_hist (s : State) (f : Safety → Safety) : (s.modSaf f).hist = s.hist := rfl
@[simp] theorem State.modSaf_ffr (s : State) (f : Safety → Safety) : (s.modSaf f).ffr = s.ffr := rfl
@[simp] theorem State.modSaf_host (s : State) (f : Safety → Safety) : (s.modSaf f).host = s.host := rfl
@[simp] theorem State.modSaf_jrn (s : State) (f : Safety → Safety) : (s.modSaf f).jrn = s.jrn := rfl
@[simp] theorem State.modSaf_ptp (s : State) (f : Safety → Safety) : (s.modSaf f).ptp = s.ptp := rfl
@[simp] theorem State.modSaf_can (s : State) (f : Safety → Safety) : (s.modSaf f).can = s.can := rfl
@[simp] theorem State.modSaf_hk (s : State) (f : Safety → Safety) : (s.modSaf f).hk = s.hk := rfl
@[simp] theorem State.modSaf_ctr (s : State) (f : Safety → Safety) : (s.modSaf f).ctr = s.ctr := rfl
@[simp] theorem State.modSaf_ctrSat (s : State) (f : Safety → Safety) : (s.modSaf f).ctrSat = s.ctrSat := rfl
@[simp] theorem State.modSaf_jctr (s : State) (f : Safety → Safety) : (s.modSaf f).jctr = s.jctr := rfl
@[simp] theorem State.modSaf_upd (s : State) (f : Safety → Safety) : (s.modSaf f).upd = s.upd := rfl
@[simp] theorem State.modSaf_io (s : State) (f : Safety → Safety) : (s.modSaf f).io = s.io := rfl
@[simp] theorem State.modSaf_scan (s : State) (f : Safety → Safety) : (s.modSaf f).scan = s.scan := rfl
@[simp] theorem State.modSaf_pwr (s : State) (f : Safety → Safety) : (s.modSaf f).pwr = s.pwr := rfl
@[simp] theorem State.modSaf_thm (s : State) (f : Safety → Safety) : (s.modSaf f).thm = s.thm := rfl
@[simp] theorem State.modSaf_hw (s : State) (f : Safety → Safety) : (s.modSaf f).hw = s.hw := rfl
@[simp] theorem State.modSaf_free (s : State) (f : Safety → Safety) : (s.modSaf f).free = s.free := rfl
@[simp] theorem State.modSaf_out (s : State) (f : Safety → Safety) : (s.modSaf f).out = s.out := rfl
@[simp] theorem State.modSaf_pending (s : State) (f : Safety → Safety) : (s.modSaf f).pending = s.pending := rfl

@[simp] theorem State.modTwin_clk (s : State) (f : Twin → Twin) : (s.modTwin f).clk = s.clk := rfl
@[simp] theorem State.modTwin_ident (s : State) (f : Twin → Twin) : (s.modTwin f).ident = s.ident := rfl
@[simp] theorem State.modTwin_img (s : State) (f : Twin → Twin) : (s.modTwin f).img = s.img := rfl
@[simp] theorem State.modTwin_ring (s : State) (f : Twin → Twin) : (s.modTwin f).ring = s.ring := rfl
@[simp] theorem State.modTwin_sense (s : State) (f : Twin → Twin) : (s.modTwin f).sense = s.sense := rfl
@[simp] theorem State.modTwin_sweep (s : State) (f : Twin → Twin) : (s.modTwin f).sweep = s.sweep := rfl
@[simp] theorem State.modTwin_str (s : State) (f : Twin → Twin) : (s.modTwin f).str = s.str := rfl
@[simp] theorem State.modTwin_rc (s : State) (f : Twin → Twin) : (s.modTwin f).rc = s.rc := rfl
@[simp] theorem State.modTwin_bank (s : State) (f : Twin → Twin) : (s.modTwin f).bank = s.bank := rfl
@[simp] theorem State.modTwin_est (s : State) (f : Twin → Twin) : (s.modTwin f).est = s.est := rfl
@[simp] theorem State.modTwin_saf (s : State) (f : Twin → Twin) : (s.modTwin f).saf = s.saf := rfl
@[simp] theorem State.modTwin_twin (s : State) (f : Twin → Twin) : (s.modTwin f).twin = f s.twin := rfl
@[simp] theorem State.modTwin_trust (s : State) (f : Twin → Twin) : (s.modTwin f).trust = s.trust := rfl
@[simp] theorem State.modTwin_hist (s : State) (f : Twin → Twin) : (s.modTwin f).hist = s.hist := rfl
@[simp] theorem State.modTwin_ffr (s : State) (f : Twin → Twin) : (s.modTwin f).ffr = s.ffr := rfl
@[simp] theorem State.modTwin_host (s : State) (f : Twin → Twin) : (s.modTwin f).host = s.host := rfl
@[simp] theorem State.modTwin_jrn (s : State) (f : Twin → Twin) : (s.modTwin f).jrn = s.jrn := rfl
@[simp] theorem State.modTwin_ptp (s : State) (f : Twin → Twin) : (s.modTwin f).ptp = s.ptp := rfl
@[simp] theorem State.modTwin_can (s : State) (f : Twin → Twin) : (s.modTwin f).can = s.can := rfl
@[simp] theorem State.modTwin_hk (s : State) (f : Twin → Twin) : (s.modTwin f).hk = s.hk := rfl
@[simp] theorem State.modTwin_ctr (s : State) (f : Twin → Twin) : (s.modTwin f).ctr = s.ctr := rfl
@[simp] theorem State.modTwin_ctrSat (s : State) (f : Twin → Twin) : (s.modTwin f).ctrSat = s.ctrSat := rfl
@[simp] theorem State.modTwin_jctr (s : State) (f : Twin → Twin) : (s.modTwin f).jctr = s.jctr := rfl
@[simp] theorem State.modTwin_upd (s : State) (f : Twin → Twin) : (s.modTwin f).upd = s.upd := rfl
@[simp] theorem State.modTwin_io (s : State) (f : Twin → Twin) : (s.modTwin f).io = s.io := rfl
@[simp] theorem State.modTwin_scan (s : State) (f : Twin → Twin) : (s.modTwin f).scan = s.scan := rfl
@[simp] theorem State.modTwin_pwr (s : State) (f : Twin → Twin) : (s.modTwin f).pwr = s.pwr := rfl
@[simp] theorem State.modTwin_thm (s : State) (f : Twin → Twin) : (s.modTwin f).thm = s.thm := rfl
@[simp] theorem State.modTwin_hw (s : State) (f : Twin → Twin) : (s.modTwin f).hw = s.hw := rfl
@[simp] theorem State.modTwin_free (s : State) (f : Twin → Twin) : (s.modTwin f).free = s.free := rfl
@[simp] theorem State.modTwin_out (s : State) (f : Twin → Twin) : (s.modTwin f).out = s.out := rfl
@[simp] theorem State.modTwin_pending (s : State) (f : Twin → Twin) : (s.modTwin f).pending = s.pending := rfl

@[simp] theorem State.modTrust_clk (s : State) (f : Trust → Trust) : (s.modTrust f).clk = s.clk := rfl
@[simp] theorem State.modTrust_ident (s : State) (f : Trust → Trust) : (s.modTrust f).ident = s.ident := rfl
@[simp] theorem State.modTrust_img (s : State) (f : Trust → Trust) : (s.modTrust f).img = s.img := rfl
@[simp] theorem State.modTrust_ring (s : State) (f : Trust → Trust) : (s.modTrust f).ring = s.ring := rfl
@[simp] theorem State.modTrust_sense (s : State) (f : Trust → Trust) : (s.modTrust f).sense = s.sense := rfl
@[simp] theorem State.modTrust_sweep (s : State) (f : Trust → Trust) : (s.modTrust f).sweep = s.sweep := rfl
@[simp] theorem State.modTrust_str (s : State) (f : Trust → Trust) : (s.modTrust f).str = s.str := rfl
@[simp] theorem State.modTrust_rc (s : State) (f : Trust → Trust) : (s.modTrust f).rc = s.rc := rfl
@[simp] theorem State.modTrust_bank (s : State) (f : Trust → Trust) : (s.modTrust f).bank = s.bank := rfl
@[simp] theorem State.modTrust_est (s : State) (f : Trust → Trust) : (s.modTrust f).est = s.est := rfl
@[simp] theorem State.modTrust_saf (s : State) (f : Trust → Trust) : (s.modTrust f).saf = s.saf := rfl
@[simp] theorem State.modTrust_twin (s : State) (f : Trust → Trust) : (s.modTrust f).twin = s.twin := rfl
@[simp] theorem State.modTrust_trust (s : State) (f : Trust → Trust) : (s.modTrust f).trust = f s.trust := rfl
@[simp] theorem State.modTrust_hist (s : State) (f : Trust → Trust) : (s.modTrust f).hist = s.hist := rfl
@[simp] theorem State.modTrust_ffr (s : State) (f : Trust → Trust) : (s.modTrust f).ffr = s.ffr := rfl
@[simp] theorem State.modTrust_host (s : State) (f : Trust → Trust) : (s.modTrust f).host = s.host := rfl
@[simp] theorem State.modTrust_jrn (s : State) (f : Trust → Trust) : (s.modTrust f).jrn = s.jrn := rfl
@[simp] theorem State.modTrust_ptp (s : State) (f : Trust → Trust) : (s.modTrust f).ptp = s.ptp := rfl
@[simp] theorem State.modTrust_can (s : State) (f : Trust → Trust) : (s.modTrust f).can = s.can := rfl
@[simp] theorem State.modTrust_hk (s : State) (f : Trust → Trust) : (s.modTrust f).hk = s.hk := rfl
@[simp] theorem State.modTrust_ctr (s : State) (f : Trust → Trust) : (s.modTrust f).ctr = s.ctr := rfl
@[simp] theorem State.modTrust_ctrSat (s : State) (f : Trust → Trust) : (s.modTrust f).ctrSat = s.ctrSat := rfl
@[simp] theorem State.modTrust_jctr (s : State) (f : Trust → Trust) : (s.modTrust f).jctr = s.jctr := rfl
@[simp] theorem State.modTrust_upd (s : State) (f : Trust → Trust) : (s.modTrust f).upd = s.upd := rfl
@[simp] theorem State.modTrust_io (s : State) (f : Trust → Trust) : (s.modTrust f).io = s.io := rfl
@[simp] theorem State.modTrust_scan (s : State) (f : Trust → Trust) : (s.modTrust f).scan = s.scan := rfl
@[simp] theorem State.modTrust_pwr (s : State) (f : Trust → Trust) : (s.modTrust f).pwr = s.pwr := rfl
@[simp] theorem State.modTrust_thm (s : State) (f : Trust → Trust) : (s.modTrust f).thm = s.thm := rfl
@[simp] theorem State.modTrust_hw (s : State) (f : Trust → Trust) : (s.modTrust f).hw = s.hw := rfl
@[simp] theorem State.modTrust_free (s : State) (f : Trust → Trust) : (s.modTrust f).free = s.free := rfl
@[simp] theorem State.modTrust_out (s : State) (f : Trust → Trust) : (s.modTrust f).out = s.out := rfl
@[simp] theorem State.modTrust_pending (s : State) (f : Trust → Trust) : (s.modTrust f).pending = s.pending := rfl

@[simp] theorem State.modHist_clk (s : State) (f : Hist → Hist) : (s.modHist f).clk = s.clk := rfl
@[simp] theorem State.modHist_ident (s : State) (f : Hist → Hist) : (s.modHist f).ident = s.ident := rfl
@[simp] theorem State.modHist_img (s : State) (f : Hist → Hist) : (s.modHist f).img = s.img := rfl
@[simp] theorem State.modHist_ring (s : State) (f : Hist → Hist) : (s.modHist f).ring = s.ring := rfl
@[simp] theorem State.modHist_sense (s : State) (f : Hist → Hist) : (s.modHist f).sense = s.sense := rfl
@[simp] theorem State.modHist_sweep (s : State) (f : Hist → Hist) : (s.modHist f).sweep = s.sweep := rfl
@[simp] theorem State.modHist_str (s : State) (f : Hist → Hist) : (s.modHist f).str = s.str := rfl
@[simp] theorem State.modHist_rc (s : State) (f : Hist → Hist) : (s.modHist f).rc = s.rc := rfl
@[simp] theorem State.modHist_bank (s : State) (f : Hist → Hist) : (s.modHist f).bank = s.bank := rfl
@[simp] theorem State.modHist_est (s : State) (f : Hist → Hist) : (s.modHist f).est = s.est := rfl
@[simp] theorem State.modHist_saf (s : State) (f : Hist → Hist) : (s.modHist f).saf = s.saf := rfl
@[simp] theorem State.modHist_twin (s : State) (f : Hist → Hist) : (s.modHist f).twin = s.twin := rfl
@[simp] theorem State.modHist_trust (s : State) (f : Hist → Hist) : (s.modHist f).trust = s.trust := rfl
@[simp] theorem State.modHist_hist (s : State) (f : Hist → Hist) : (s.modHist f).hist = f s.hist := rfl
@[simp] theorem State.modHist_ffr (s : State) (f : Hist → Hist) : (s.modHist f).ffr = s.ffr := rfl
@[simp] theorem State.modHist_host (s : State) (f : Hist → Hist) : (s.modHist f).host = s.host := rfl
@[simp] theorem State.modHist_jrn (s : State) (f : Hist → Hist) : (s.modHist f).jrn = s.jrn := rfl
@[simp] theorem State.modHist_ptp (s : State) (f : Hist → Hist) : (s.modHist f).ptp = s.ptp := rfl
@[simp] theorem State.modHist_can (s : State) (f : Hist → Hist) : (s.modHist f).can = s.can := rfl
@[simp] theorem State.modHist_hk (s : State) (f : Hist → Hist) : (s.modHist f).hk = s.hk := rfl
@[simp] theorem State.modHist_ctr (s : State) (f : Hist → Hist) : (s.modHist f).ctr = s.ctr := rfl
@[simp] theorem State.modHist_ctrSat (s : State) (f : Hist → Hist) : (s.modHist f).ctrSat = s.ctrSat := rfl
@[simp] theorem State.modHist_jctr (s : State) (f : Hist → Hist) : (s.modHist f).jctr = s.jctr := rfl
@[simp] theorem State.modHist_upd (s : State) (f : Hist → Hist) : (s.modHist f).upd = s.upd := rfl
@[simp] theorem State.modHist_io (s : State) (f : Hist → Hist) : (s.modHist f).io = s.io := rfl
@[simp] theorem State.modHist_scan (s : State) (f : Hist → Hist) : (s.modHist f).scan = s.scan := rfl
@[simp] theorem State.modHist_pwr (s : State) (f : Hist → Hist) : (s.modHist f).pwr = s.pwr := rfl
@[simp] theorem State.modHist_thm (s : State) (f : Hist → Hist) : (s.modHist f).thm = s.thm := rfl
@[simp] theorem State.modHist_hw (s : State) (f : Hist → Hist) : (s.modHist f).hw = s.hw := rfl
@[simp] theorem State.modHist_free (s : State) (f : Hist → Hist) : (s.modHist f).free = s.free := rfl
@[simp] theorem State.modHist_out (s : State) (f : Hist → Hist) : (s.modHist f).out = s.out := rfl
@[simp] theorem State.modHist_pending (s : State) (f : Hist → Hist) : (s.modHist f).pending = s.pending := rfl

@[simp] theorem State.modFfr_clk (s : State) (f : Ffr → Ffr) : (s.modFfr f).clk = s.clk := rfl
@[simp] theorem State.modFfr_ident (s : State) (f : Ffr → Ffr) : (s.modFfr f).ident = s.ident := rfl
@[simp] theorem State.modFfr_img (s : State) (f : Ffr → Ffr) : (s.modFfr f).img = s.img := rfl
@[simp] theorem State.modFfr_ring (s : State) (f : Ffr → Ffr) : (s.modFfr f).ring = s.ring := rfl
@[simp] theorem State.modFfr_sense (s : State) (f : Ffr → Ffr) : (s.modFfr f).sense = s.sense := rfl
@[simp] theorem State.modFfr_sweep (s : State) (f : Ffr → Ffr) : (s.modFfr f).sweep = s.sweep := rfl
@[simp] theorem State.modFfr_str (s : State) (f : Ffr → Ffr) : (s.modFfr f).str = s.str := rfl
@[simp] theorem State.modFfr_rc (s : State) (f : Ffr → Ffr) : (s.modFfr f).rc = s.rc := rfl
@[simp] theorem State.modFfr_bank (s : State) (f : Ffr → Ffr) : (s.modFfr f).bank = s.bank := rfl
@[simp] theorem State.modFfr_est (s : State) (f : Ffr → Ffr) : (s.modFfr f).est = s.est := rfl
@[simp] theorem State.modFfr_saf (s : State) (f : Ffr → Ffr) : (s.modFfr f).saf = s.saf := rfl
@[simp] theorem State.modFfr_twin (s : State) (f : Ffr → Ffr) : (s.modFfr f).twin = s.twin := rfl
@[simp] theorem State.modFfr_trust (s : State) (f : Ffr → Ffr) : (s.modFfr f).trust = s.trust := rfl
@[simp] theorem State.modFfr_hist (s : State) (f : Ffr → Ffr) : (s.modFfr f).hist = s.hist := rfl
@[simp] theorem State.modFfr_ffr (s : State) (f : Ffr → Ffr) : (s.modFfr f).ffr = f s.ffr := rfl
@[simp] theorem State.modFfr_host (s : State) (f : Ffr → Ffr) : (s.modFfr f).host = s.host := rfl
@[simp] theorem State.modFfr_jrn (s : State) (f : Ffr → Ffr) : (s.modFfr f).jrn = s.jrn := rfl
@[simp] theorem State.modFfr_ptp (s : State) (f : Ffr → Ffr) : (s.modFfr f).ptp = s.ptp := rfl
@[simp] theorem State.modFfr_can (s : State) (f : Ffr → Ffr) : (s.modFfr f).can = s.can := rfl
@[simp] theorem State.modFfr_hk (s : State) (f : Ffr → Ffr) : (s.modFfr f).hk = s.hk := rfl
@[simp] theorem State.modFfr_ctr (s : State) (f : Ffr → Ffr) : (s.modFfr f).ctr = s.ctr := rfl
@[simp] theorem State.modFfr_ctrSat (s : State) (f : Ffr → Ffr) : (s.modFfr f).ctrSat = s.ctrSat := rfl
@[simp] theorem State.modFfr_jctr (s : State) (f : Ffr → Ffr) : (s.modFfr f).jctr = s.jctr := rfl
@[simp] theorem State.modFfr_upd (s : State) (f : Ffr → Ffr) : (s.modFfr f).upd = s.upd := rfl
@[simp] theorem State.modFfr_io (s : State) (f : Ffr → Ffr) : (s.modFfr f).io = s.io := rfl
@[simp] theorem State.modFfr_scan (s : State) (f : Ffr → Ffr) : (s.modFfr f).scan = s.scan := rfl
@[simp] theorem State.modFfr_pwr (s : State) (f : Ffr → Ffr) : (s.modFfr f).pwr = s.pwr := rfl
@[simp] theorem State.modFfr_thm (s : State) (f : Ffr → Ffr) : (s.modFfr f).thm = s.thm := rfl
@[simp] theorem State.modFfr_hw (s : State) (f : Ffr → Ffr) : (s.modFfr f).hw = s.hw := rfl
@[simp] theorem State.modFfr_free (s : State) (f : Ffr → Ffr) : (s.modFfr f).free = s.free := rfl
@[simp] theorem State.modFfr_out (s : State) (f : Ffr → Ffr) : (s.modFfr f).out = s.out := rfl
@[simp] theorem State.modFfr_pending (s : State) (f : Ffr → Ffr) : (s.modFfr f).pending = s.pending := rfl

@[simp] theorem State.modHost_clk (s : State) (f : HostIf → HostIf) : (s.modHost f).clk = s.clk := rfl
@[simp] theorem State.modHost_ident (s : State) (f : HostIf → HostIf) : (s.modHost f).ident = s.ident := rfl
@[simp] theorem State.modHost_img (s : State) (f : HostIf → HostIf) : (s.modHost f).img = s.img := rfl
@[simp] theorem State.modHost_ring (s : State) (f : HostIf → HostIf) : (s.modHost f).ring = s.ring := rfl
@[simp] theorem State.modHost_sense (s : State) (f : HostIf → HostIf) : (s.modHost f).sense = s.sense := rfl
@[simp] theorem State.modHost_sweep (s : State) (f : HostIf → HostIf) : (s.modHost f).sweep = s.sweep := rfl
@[simp] theorem State.modHost_str (s : State) (f : HostIf → HostIf) : (s.modHost f).str = s.str := rfl
@[simp] theorem State.modHost_rc (s : State) (f : HostIf → HostIf) : (s.modHost f).rc = s.rc := rfl
@[simp] theorem State.modHost_bank (s : State) (f : HostIf → HostIf) : (s.modHost f).bank = s.bank := rfl
@[simp] theorem State.modHost_est (s : State) (f : HostIf → HostIf) : (s.modHost f).est = s.est := rfl
@[simp] theorem State.modHost_saf (s : State) (f : HostIf → HostIf) : (s.modHost f).saf = s.saf := rfl
@[simp] theorem State.modHost_twin (s : State) (f : HostIf → HostIf) : (s.modHost f).twin = s.twin := rfl
@[simp] theorem State.modHost_trust (s : State) (f : HostIf → HostIf) : (s.modHost f).trust = s.trust := rfl
@[simp] theorem State.modHost_hist (s : State) (f : HostIf → HostIf) : (s.modHost f).hist = s.hist := rfl
@[simp] theorem State.modHost_ffr (s : State) (f : HostIf → HostIf) : (s.modHost f).ffr = s.ffr := rfl
@[simp] theorem State.modHost_host (s : State) (f : HostIf → HostIf) : (s.modHost f).host = f s.host := rfl
@[simp] theorem State.modHost_jrn (s : State) (f : HostIf → HostIf) : (s.modHost f).jrn = s.jrn := rfl
@[simp] theorem State.modHost_ptp (s : State) (f : HostIf → HostIf) : (s.modHost f).ptp = s.ptp := rfl
@[simp] theorem State.modHost_can (s : State) (f : HostIf → HostIf) : (s.modHost f).can = s.can := rfl
@[simp] theorem State.modHost_hk (s : State) (f : HostIf → HostIf) : (s.modHost f).hk = s.hk := rfl
@[simp] theorem State.modHost_ctr (s : State) (f : HostIf → HostIf) : (s.modHost f).ctr = s.ctr := rfl
@[simp] theorem State.modHost_ctrSat (s : State) (f : HostIf → HostIf) : (s.modHost f).ctrSat = s.ctrSat := rfl
@[simp] theorem State.modHost_jctr (s : State) (f : HostIf → HostIf) : (s.modHost f).jctr = s.jctr := rfl
@[simp] theorem State.modHost_upd (s : State) (f : HostIf → HostIf) : (s.modHost f).upd = s.upd := rfl
@[simp] theorem State.modHost_io (s : State) (f : HostIf → HostIf) : (s.modHost f).io = s.io := rfl
@[simp] theorem State.modHost_scan (s : State) (f : HostIf → HostIf) : (s.modHost f).scan = s.scan := rfl
@[simp] theorem State.modHost_pwr (s : State) (f : HostIf → HostIf) : (s.modHost f).pwr = s.pwr := rfl
@[simp] theorem State.modHost_thm (s : State) (f : HostIf → HostIf) : (s.modHost f).thm = s.thm := rfl
@[simp] theorem State.modHost_hw (s : State) (f : HostIf → HostIf) : (s.modHost f).hw = s.hw := rfl
@[simp] theorem State.modHost_free (s : State) (f : HostIf → HostIf) : (s.modHost f).free = s.free := rfl
@[simp] theorem State.modHost_out (s : State) (f : HostIf → HostIf) : (s.modHost f).out = s.out := rfl
@[simp] theorem State.modHost_pending (s : State) (f : HostIf → HostIf) : (s.modHost f).pending = s.pending := rfl

@[simp] theorem State.modJrn_clk (s : State) (f : Journal → Journal) : (s.modJrn f).clk = s.clk := rfl
@[simp] theorem State.modJrn_ident (s : State) (f : Journal → Journal) : (s.modJrn f).ident = s.ident := rfl
@[simp] theorem State.modJrn_img (s : State) (f : Journal → Journal) : (s.modJrn f).img = s.img := rfl
@[simp] theorem State.modJrn_ring (s : State) (f : Journal → Journal) : (s.modJrn f).ring = s.ring := rfl
@[simp] theorem State.modJrn_sense (s : State) (f : Journal → Journal) : (s.modJrn f).sense = s.sense := rfl
@[simp] theorem State.modJrn_sweep (s : State) (f : Journal → Journal) : (s.modJrn f).sweep = s.sweep := rfl
@[simp] theorem State.modJrn_str (s : State) (f : Journal → Journal) : (s.modJrn f).str = s.str := rfl
@[simp] theorem State.modJrn_rc (s : State) (f : Journal → Journal) : (s.modJrn f).rc = s.rc := rfl
@[simp] theorem State.modJrn_bank (s : State) (f : Journal → Journal) : (s.modJrn f).bank = s.bank := rfl
@[simp] theorem State.modJrn_est (s : State) (f : Journal → Journal) : (s.modJrn f).est = s.est := rfl
@[simp] theorem State.modJrn_saf (s : State) (f : Journal → Journal) : (s.modJrn f).saf = s.saf := rfl
@[simp] theorem State.modJrn_twin (s : State) (f : Journal → Journal) : (s.modJrn f).twin = s.twin := rfl
@[simp] theorem State.modJrn_trust (s : State) (f : Journal → Journal) : (s.modJrn f).trust = s.trust := rfl
@[simp] theorem State.modJrn_hist (s : State) (f : Journal → Journal) : (s.modJrn f).hist = s.hist := rfl
@[simp] theorem State.modJrn_ffr (s : State) (f : Journal → Journal) : (s.modJrn f).ffr = s.ffr := rfl
@[simp] theorem State.modJrn_host (s : State) (f : Journal → Journal) : (s.modJrn f).host = s.host := rfl
@[simp] theorem State.modJrn_jrn (s : State) (f : Journal → Journal) : (s.modJrn f).jrn = f s.jrn := rfl
@[simp] theorem State.modJrn_ptp (s : State) (f : Journal → Journal) : (s.modJrn f).ptp = s.ptp := rfl
@[simp] theorem State.modJrn_can (s : State) (f : Journal → Journal) : (s.modJrn f).can = s.can := rfl
@[simp] theorem State.modJrn_hk (s : State) (f : Journal → Journal) : (s.modJrn f).hk = s.hk := rfl
@[simp] theorem State.modJrn_ctr (s : State) (f : Journal → Journal) : (s.modJrn f).ctr = s.ctr := rfl
@[simp] theorem State.modJrn_ctrSat (s : State) (f : Journal → Journal) : (s.modJrn f).ctrSat = s.ctrSat := rfl
@[simp] theorem State.modJrn_jctr (s : State) (f : Journal → Journal) : (s.modJrn f).jctr = s.jctr := rfl
@[simp] theorem State.modJrn_upd (s : State) (f : Journal → Journal) : (s.modJrn f).upd = s.upd := rfl
@[simp] theorem State.modJrn_io (s : State) (f : Journal → Journal) : (s.modJrn f).io = s.io := rfl
@[simp] theorem State.modJrn_scan (s : State) (f : Journal → Journal) : (s.modJrn f).scan = s.scan := rfl
@[simp] theorem State.modJrn_pwr (s : State) (f : Journal → Journal) : (s.modJrn f).pwr = s.pwr := rfl
@[simp] theorem State.modJrn_thm (s : State) (f : Journal → Journal) : (s.modJrn f).thm = s.thm := rfl
@[simp] theorem State.modJrn_hw (s : State) (f : Journal → Journal) : (s.modJrn f).hw = s.hw := rfl
@[simp] theorem State.modJrn_free (s : State) (f : Journal → Journal) : (s.modJrn f).free = s.free := rfl
@[simp] theorem State.modJrn_out (s : State) (f : Journal → Journal) : (s.modJrn f).out = s.out := rfl
@[simp] theorem State.modJrn_pending (s : State) (f : Journal → Journal) : (s.modJrn f).pending = s.pending := rfl

@[simp] theorem State.modPtp_clk (s : State) (f : Ptp → Ptp) : (s.modPtp f).clk = s.clk := rfl
@[simp] theorem State.modPtp_ident (s : State) (f : Ptp → Ptp) : (s.modPtp f).ident = s.ident := rfl
@[simp] theorem State.modPtp_img (s : State) (f : Ptp → Ptp) : (s.modPtp f).img = s.img := rfl
@[simp] theorem State.modPtp_ring (s : State) (f : Ptp → Ptp) : (s.modPtp f).ring = s.ring := rfl
@[simp] theorem State.modPtp_sense (s : State) (f : Ptp → Ptp) : (s.modPtp f).sense = s.sense := rfl
@[simp] theorem State.modPtp_sweep (s : State) (f : Ptp → Ptp) : (s.modPtp f).sweep = s.sweep := rfl
@[simp] theorem State.modPtp_str (s : State) (f : Ptp → Ptp) : (s.modPtp f).str = s.str := rfl
@[simp] theorem State.modPtp_rc (s : State) (f : Ptp → Ptp) : (s.modPtp f).rc = s.rc := rfl
@[simp] theorem State.modPtp_bank (s : State) (f : Ptp → Ptp) : (s.modPtp f).bank = s.bank := rfl
@[simp] theorem State.modPtp_est (s : State) (f : Ptp → Ptp) : (s.modPtp f).est = s.est := rfl
@[simp] theorem State.modPtp_saf (s : State) (f : Ptp → Ptp) : (s.modPtp f).saf = s.saf := rfl
@[simp] theorem State.modPtp_twin (s : State) (f : Ptp → Ptp) : (s.modPtp f).twin = s.twin := rfl
@[simp] theorem State.modPtp_trust (s : State) (f : Ptp → Ptp) : (s.modPtp f).trust = s.trust := rfl
@[simp] theorem State.modPtp_hist (s : State) (f : Ptp → Ptp) : (s.modPtp f).hist = s.hist := rfl
@[simp] theorem State.modPtp_ffr (s : State) (f : Ptp → Ptp) : (s.modPtp f).ffr = s.ffr := rfl
@[simp] theorem State.modPtp_host (s : State) (f : Ptp → Ptp) : (s.modPtp f).host = s.host := rfl
@[simp] theorem State.modPtp_jrn (s : State) (f : Ptp → Ptp) : (s.modPtp f).jrn = s.jrn := rfl
@[simp] theorem State.modPtp_ptp (s : State) (f : Ptp → Ptp) : (s.modPtp f).ptp = f s.ptp := rfl
@[simp] theorem State.modPtp_can (s : State) (f : Ptp → Ptp) : (s.modPtp f).can = s.can := rfl
@[simp] theorem State.modPtp_hk (s : State) (f : Ptp → Ptp) : (s.modPtp f).hk = s.hk := rfl
@[simp] theorem State.modPtp_ctr (s : State) (f : Ptp → Ptp) : (s.modPtp f).ctr = s.ctr := rfl
@[simp] theorem State.modPtp_ctrSat (s : State) (f : Ptp → Ptp) : (s.modPtp f).ctrSat = s.ctrSat := rfl
@[simp] theorem State.modPtp_jctr (s : State) (f : Ptp → Ptp) : (s.modPtp f).jctr = s.jctr := rfl
@[simp] theorem State.modPtp_upd (s : State) (f : Ptp → Ptp) : (s.modPtp f).upd = s.upd := rfl
@[simp] theorem State.modPtp_io (s : State) (f : Ptp → Ptp) : (s.modPtp f).io = s.io := rfl
@[simp] theorem State.modPtp_scan (s : State) (f : Ptp → Ptp) : (s.modPtp f).scan = s.scan := rfl
@[simp] theorem State.modPtp_pwr (s : State) (f : Ptp → Ptp) : (s.modPtp f).pwr = s.pwr := rfl
@[simp] theorem State.modPtp_thm (s : State) (f : Ptp → Ptp) : (s.modPtp f).thm = s.thm := rfl
@[simp] theorem State.modPtp_hw (s : State) (f : Ptp → Ptp) : (s.modPtp f).hw = s.hw := rfl
@[simp] theorem State.modPtp_free (s : State) (f : Ptp → Ptp) : (s.modPtp f).free = s.free := rfl
@[simp] theorem State.modPtp_out (s : State) (f : Ptp → Ptp) : (s.modPtp f).out = s.out := rfl
@[simp] theorem State.modPtp_pending (s : State) (f : Ptp → Ptp) : (s.modPtp f).pending = s.pending := rfl

@[simp] theorem State.modCan_clk (s : State) (i : Fin 4) (f : CanPort → CanPort) : (s.modCan i f).clk = s.clk := rfl
@[simp] theorem State.modCan_ident (s : State) (i : Fin 4) (f : CanPort → CanPort) : (s.modCan i f).ident = s.ident := rfl
@[simp] theorem State.modCan_img (s : State) (i : Fin 4) (f : CanPort → CanPort) : (s.modCan i f).img = s.img := rfl
@[simp] theorem State.modCan_ring (s : State) (i : Fin 4) (f : CanPort → CanPort) : (s.modCan i f).ring = s.ring := rfl
@[simp] theorem State.modCan_sense (s : State) (i : Fin 4) (f : CanPort → CanPort) : (s.modCan i f).sense = s.sense := rfl
@[simp] theorem State.modCan_sweep (s : State) (i : Fin 4) (f : CanPort → CanPort) : (s.modCan i f).sweep = s.sweep := rfl
@[simp] theorem State.modCan_str (s : State) (i : Fin 4) (f : CanPort → CanPort) : (s.modCan i f).str = s.str := rfl
@[simp] theorem State.modCan_rc (s : State) (i : Fin 4) (f : CanPort → CanPort) : (s.modCan i f).rc = s.rc := rfl
@[simp] theorem State.modCan_bank (s : State) (i : Fin 4) (f : CanPort → CanPort) : (s.modCan i f).bank = s.bank := rfl
@[simp] theorem State.modCan_est (s : State) (i : Fin 4) (f : CanPort → CanPort) : (s.modCan i f).est = s.est := rfl
@[simp] theorem State.modCan_saf (s : State) (i : Fin 4) (f : CanPort → CanPort) : (s.modCan i f).saf = s.saf := rfl
@[simp] theorem State.modCan_twin (s : State) (i : Fin 4) (f : CanPort → CanPort) : (s.modCan i f).twin = s.twin := rfl
@[simp] theorem State.modCan_trust (s : State) (i : Fin 4) (f : CanPort → CanPort) : (s.modCan i f).trust = s.trust := rfl
@[simp] theorem State.modCan_hist (s : State) (i : Fin 4) (f : CanPort → CanPort) : (s.modCan i f).hist = s.hist := rfl
@[simp] theorem State.modCan_ffr (s : State) (i : Fin 4) (f : CanPort → CanPort) : (s.modCan i f).ffr = s.ffr := rfl
@[simp] theorem State.modCan_host (s : State) (i : Fin 4) (f : CanPort → CanPort) : (s.modCan i f).host = s.host := rfl
@[simp] theorem State.modCan_jrn (s : State) (i : Fin 4) (f : CanPort → CanPort) : (s.modCan i f).jrn = s.jrn := rfl
@[simp] theorem State.modCan_ptp (s : State) (i : Fin 4) (f : CanPort → CanPort) : (s.modCan i f).ptp = s.ptp := rfl
@[simp] theorem State.modCan_can (s : State) (i : Fin 4) (f : CanPort → CanPort) : (s.modCan i f).can = Vec.upd s.can i f := rfl
@[simp] theorem State.modCan_hk (s : State) (i : Fin 4) (f : CanPort → CanPort) : (s.modCan i f).hk = s.hk := rfl
@[simp] theorem State.modCan_ctr (s : State) (i : Fin 4) (f : CanPort → CanPort) : (s.modCan i f).ctr = s.ctr := rfl
@[simp] theorem State.modCan_ctrSat (s : State) (i : Fin 4) (f : CanPort → CanPort) : (s.modCan i f).ctrSat = s.ctrSat := rfl
@[simp] theorem State.modCan_jctr (s : State) (i : Fin 4) (f : CanPort → CanPort) : (s.modCan i f).jctr = s.jctr := rfl
@[simp] theorem State.modCan_upd (s : State) (i : Fin 4) (f : CanPort → CanPort) : (s.modCan i f).upd = s.upd := rfl
@[simp] theorem State.modCan_io (s : State) (i : Fin 4) (f : CanPort → CanPort) : (s.modCan i f).io = s.io := rfl
@[simp] theorem State.modCan_scan (s : State) (i : Fin 4) (f : CanPort → CanPort) : (s.modCan i f).scan = s.scan := rfl
@[simp] theorem State.modCan_pwr (s : State) (i : Fin 4) (f : CanPort → CanPort) : (s.modCan i f).pwr = s.pwr := rfl
@[simp] theorem State.modCan_thm (s : State) (i : Fin 4) (f : CanPort → CanPort) : (s.modCan i f).thm = s.thm := rfl
@[simp] theorem State.modCan_hw (s : State) (i : Fin 4) (f : CanPort → CanPort) : (s.modCan i f).hw = s.hw := rfl
@[simp] theorem State.modCan_free (s : State) (i : Fin 4) (f : CanPort → CanPort) : (s.modCan i f).free = s.free := rfl
@[simp] theorem State.modCan_out (s : State) (i : Fin 4) (f : CanPort → CanPort) : (s.modCan i f).out = s.out := rfl
@[simp] theorem State.modCan_pending (s : State) (i : Fin 4) (f : CanPort → CanPort) : (s.modCan i f).pending = s.pending := rfl

@[simp] theorem State.mapAllCan_clk (s : State) (f : Fin 4 → CanPort → CanPort) : (s.mapAllCan f).clk = s.clk := rfl
@[simp] theorem State.mapAllCan_ident (s : State) (f : Fin 4 → CanPort → CanPort) : (s.mapAllCan f).ident = s.ident := rfl
@[simp] theorem State.mapAllCan_img (s : State) (f : Fin 4 → CanPort → CanPort) : (s.mapAllCan f).img = s.img := rfl
@[simp] theorem State.mapAllCan_ring (s : State) (f : Fin 4 → CanPort → CanPort) : (s.mapAllCan f).ring = s.ring := rfl
@[simp] theorem State.mapAllCan_sense (s : State) (f : Fin 4 → CanPort → CanPort) : (s.mapAllCan f).sense = s.sense := rfl
@[simp] theorem State.mapAllCan_sweep (s : State) (f : Fin 4 → CanPort → CanPort) : (s.mapAllCan f).sweep = s.sweep := rfl
@[simp] theorem State.mapAllCan_str (s : State) (f : Fin 4 → CanPort → CanPort) : (s.mapAllCan f).str = s.str := rfl
@[simp] theorem State.mapAllCan_rc (s : State) (f : Fin 4 → CanPort → CanPort) : (s.mapAllCan f).rc = s.rc := rfl
@[simp] theorem State.mapAllCan_bank (s : State) (f : Fin 4 → CanPort → CanPort) : (s.mapAllCan f).bank = s.bank := rfl
@[simp] theorem State.mapAllCan_est (s : State) (f : Fin 4 → CanPort → CanPort) : (s.mapAllCan f).est = s.est := rfl
@[simp] theorem State.mapAllCan_saf (s : State) (f : Fin 4 → CanPort → CanPort) : (s.mapAllCan f).saf = s.saf := rfl
@[simp] theorem State.mapAllCan_twin (s : State) (f : Fin 4 → CanPort → CanPort) : (s.mapAllCan f).twin = s.twin := rfl
@[simp] theorem State.mapAllCan_trust (s : State) (f : Fin 4 → CanPort → CanPort) : (s.mapAllCan f).trust = s.trust := rfl
@[simp] theorem State.mapAllCan_hist (s : State) (f : Fin 4 → CanPort → CanPort) : (s.mapAllCan f).hist = s.hist := rfl
@[simp] theorem State.mapAllCan_ffr (s : State) (f : Fin 4 → CanPort → CanPort) : (s.mapAllCan f).ffr = s.ffr := rfl
@[simp] theorem State.mapAllCan_host (s : State) (f : Fin 4 → CanPort → CanPort) : (s.mapAllCan f).host = s.host := rfl
@[simp] theorem State.mapAllCan_jrn (s : State) (f : Fin 4 → CanPort → CanPort) : (s.mapAllCan f).jrn = s.jrn := rfl
@[simp] theorem State.mapAllCan_ptp (s : State) (f : Fin 4 → CanPort → CanPort) : (s.mapAllCan f).ptp = s.ptp := rfl
@[simp] theorem State.mapAllCan_can (s : State) (f : Fin 4 → CanPort → CanPort) : (s.mapAllCan f).can = Vec.updAll s.can f := rfl
@[simp] theorem State.mapAllCan_hk (s : State) (f : Fin 4 → CanPort → CanPort) : (s.mapAllCan f).hk = s.hk := rfl
@[simp] theorem State.mapAllCan_ctr (s : State) (f : Fin 4 → CanPort → CanPort) : (s.mapAllCan f).ctr = s.ctr := rfl
@[simp] theorem State.mapAllCan_ctrSat (s : State) (f : Fin 4 → CanPort → CanPort) : (s.mapAllCan f).ctrSat = s.ctrSat := rfl
@[simp] theorem State.mapAllCan_jctr (s : State) (f : Fin 4 → CanPort → CanPort) : (s.mapAllCan f).jctr = s.jctr := rfl
@[simp] theorem State.mapAllCan_upd (s : State) (f : Fin 4 → CanPort → CanPort) : (s.mapAllCan f).upd = s.upd := rfl
@[simp] theorem State.mapAllCan_io (s : State) (f : Fin 4 → CanPort → CanPort) : (s.mapAllCan f).io = s.io := rfl
@[simp] theorem State.mapAllCan_scan (s : State) (f : Fin 4 → CanPort → CanPort) : (s.mapAllCan f).scan = s.scan := rfl
@[simp] theorem State.mapAllCan_pwr (s : State) (f : Fin 4 → CanPort → CanPort) : (s.mapAllCan f).pwr = s.pwr := rfl
@[simp] theorem State.mapAllCan_thm (s : State) (f : Fin 4 → CanPort → CanPort) : (s.mapAllCan f).thm = s.thm := rfl
@[simp] theorem State.mapAllCan_hw (s : State) (f : Fin 4 → CanPort → CanPort) : (s.mapAllCan f).hw = s.hw := rfl
@[simp] theorem State.mapAllCan_free (s : State) (f : Fin 4 → CanPort → CanPort) : (s.mapAllCan f).free = s.free := rfl
@[simp] theorem State.mapAllCan_out (s : State) (f : Fin 4 → CanPort → CanPort) : (s.mapAllCan f).out = s.out := rfl
@[simp] theorem State.mapAllCan_pending (s : State) (f : Fin 4 → CanPort → CanPort) : (s.mapAllCan f).pending = s.pending := rfl

@[simp] theorem State.modHk_clk (s : State) (f : Hk → Hk) : (s.modHk f).clk = s.clk := rfl
@[simp] theorem State.modHk_ident (s : State) (f : Hk → Hk) : (s.modHk f).ident = s.ident := rfl
@[simp] theorem State.modHk_img (s : State) (f : Hk → Hk) : (s.modHk f).img = s.img := rfl
@[simp] theorem State.modHk_ring (s : State) (f : Hk → Hk) : (s.modHk f).ring = s.ring := rfl
@[simp] theorem State.modHk_sense (s : State) (f : Hk → Hk) : (s.modHk f).sense = s.sense := rfl
@[simp] theorem State.modHk_sweep (s : State) (f : Hk → Hk) : (s.modHk f).sweep = s.sweep := rfl
@[simp] theorem State.modHk_str (s : State) (f : Hk → Hk) : (s.modHk f).str = s.str := rfl
@[simp] theorem State.modHk_rc (s : State) (f : Hk → Hk) : (s.modHk f).rc = s.rc := rfl
@[simp] theorem State.modHk_bank (s : State) (f : Hk → Hk) : (s.modHk f).bank = s.bank := rfl
@[simp] theorem State.modHk_est (s : State) (f : Hk → Hk) : (s.modHk f).est = s.est := rfl
@[simp] theorem State.modHk_saf (s : State) (f : Hk → Hk) : (s.modHk f).saf = s.saf := rfl
@[simp] theorem State.modHk_twin (s : State) (f : Hk → Hk) : (s.modHk f).twin = s.twin := rfl
@[simp] theorem State.modHk_trust (s : State) (f : Hk → Hk) : (s.modHk f).trust = s.trust := rfl
@[simp] theorem State.modHk_hist (s : State) (f : Hk → Hk) : (s.modHk f).hist = s.hist := rfl
@[simp] theorem State.modHk_ffr (s : State) (f : Hk → Hk) : (s.modHk f).ffr = s.ffr := rfl
@[simp] theorem State.modHk_host (s : State) (f : Hk → Hk) : (s.modHk f).host = s.host := rfl
@[simp] theorem State.modHk_jrn (s : State) (f : Hk → Hk) : (s.modHk f).jrn = s.jrn := rfl
@[simp] theorem State.modHk_ptp (s : State) (f : Hk → Hk) : (s.modHk f).ptp = s.ptp := rfl
@[simp] theorem State.modHk_can (s : State) (f : Hk → Hk) : (s.modHk f).can = s.can := rfl
@[simp] theorem State.modHk_hk (s : State) (f : Hk → Hk) : (s.modHk f).hk = f s.hk := rfl
@[simp] theorem State.modHk_ctr (s : State) (f : Hk → Hk) : (s.modHk f).ctr = s.ctr := rfl
@[simp] theorem State.modHk_ctrSat (s : State) (f : Hk → Hk) : (s.modHk f).ctrSat = s.ctrSat := rfl
@[simp] theorem State.modHk_jctr (s : State) (f : Hk → Hk) : (s.modHk f).jctr = s.jctr := rfl
@[simp] theorem State.modHk_upd (s : State) (f : Hk → Hk) : (s.modHk f).upd = s.upd := rfl
@[simp] theorem State.modHk_io (s : State) (f : Hk → Hk) : (s.modHk f).io = s.io := rfl
@[simp] theorem State.modHk_scan (s : State) (f : Hk → Hk) : (s.modHk f).scan = s.scan := rfl
@[simp] theorem State.modHk_pwr (s : State) (f : Hk → Hk) : (s.modHk f).pwr = s.pwr := rfl
@[simp] theorem State.modHk_thm (s : State) (f : Hk → Hk) : (s.modHk f).thm = s.thm := rfl
@[simp] theorem State.modHk_hw (s : State) (f : Hk → Hk) : (s.modHk f).hw = s.hw := rfl
@[simp] theorem State.modHk_free (s : State) (f : Hk → Hk) : (s.modHk f).free = s.free := rfl
@[simp] theorem State.modHk_out (s : State) (f : Hk → Hk) : (s.modHk f).out = s.out := rfl
@[simp] theorem State.modHk_pending (s : State) (f : Hk → Hk) : (s.modHk f).pending = s.pending := rfl

@[simp] theorem State.setCtr_clk (s : State) (v : List (Nat × Nat)) : (s.setCtr v).clk = s.clk := rfl
@[simp] theorem State.setCtr_ident (s : State) (v : List (Nat × Nat)) : (s.setCtr v).ident = s.ident := rfl
@[simp] theorem State.setCtr_img (s : State) (v : List (Nat × Nat)) : (s.setCtr v).img = s.img := rfl
@[simp] theorem State.setCtr_ring (s : State) (v : List (Nat × Nat)) : (s.setCtr v).ring = s.ring := rfl
@[simp] theorem State.setCtr_sense (s : State) (v : List (Nat × Nat)) : (s.setCtr v).sense = s.sense := rfl
@[simp] theorem State.setCtr_sweep (s : State) (v : List (Nat × Nat)) : (s.setCtr v).sweep = s.sweep := rfl
@[simp] theorem State.setCtr_str (s : State) (v : List (Nat × Nat)) : (s.setCtr v).str = s.str := rfl
@[simp] theorem State.setCtr_rc (s : State) (v : List (Nat × Nat)) : (s.setCtr v).rc = s.rc := rfl
@[simp] theorem State.setCtr_bank (s : State) (v : List (Nat × Nat)) : (s.setCtr v).bank = s.bank := rfl
@[simp] theorem State.setCtr_est (s : State) (v : List (Nat × Nat)) : (s.setCtr v).est = s.est := rfl
@[simp] theorem State.setCtr_saf (s : State) (v : List (Nat × Nat)) : (s.setCtr v).saf = s.saf := rfl
@[simp] theorem State.setCtr_twin (s : State) (v : List (Nat × Nat)) : (s.setCtr v).twin = s.twin := rfl
@[simp] theorem State.setCtr_trust (s : State) (v : List (Nat × Nat)) : (s.setCtr v).trust = s.trust := rfl
@[simp] theorem State.setCtr_hist (s : State) (v : List (Nat × Nat)) : (s.setCtr v).hist = s.hist := rfl
@[simp] theorem State.setCtr_ffr (s : State) (v : List (Nat × Nat)) : (s.setCtr v).ffr = s.ffr := rfl
@[simp] theorem State.setCtr_host (s : State) (v : List (Nat × Nat)) : (s.setCtr v).host = s.host := rfl
@[simp] theorem State.setCtr_jrn (s : State) (v : List (Nat × Nat)) : (s.setCtr v).jrn = s.jrn := rfl
@[simp] theorem State.setCtr_ptp (s : State) (v : List (Nat × Nat)) : (s.setCtr v).ptp = s.ptp := rfl
@[simp] theorem State.setCtr_can (s : State) (v : List (Nat × Nat)) : (s.setCtr v).can = s.can := rfl
@[simp] theorem State.setCtr_hk (s : State) (v : List (Nat × Nat)) : (s.setCtr v).hk = s.hk := rfl
@[simp] theorem State.setCtr_ctr (s : State) (v : List (Nat × Nat)) : (s.setCtr v).ctr = v := rfl
@[simp] theorem State.setCtr_ctrSat (s : State) (v : List (Nat × Nat)) : (s.setCtr v).ctrSat = s.ctrSat := rfl
@[simp] theorem State.setCtr_jctr (s : State) (v : List (Nat × Nat)) : (s.setCtr v).jctr = s.jctr := rfl
@[simp] theorem State.setCtr_upd (s : State) (v : List (Nat × Nat)) : (s.setCtr v).upd = s.upd := rfl
@[simp] theorem State.setCtr_io (s : State) (v : List (Nat × Nat)) : (s.setCtr v).io = s.io := rfl
@[simp] theorem State.setCtr_scan (s : State) (v : List (Nat × Nat)) : (s.setCtr v).scan = s.scan := rfl
@[simp] theorem State.setCtr_pwr (s : State) (v : List (Nat × Nat)) : (s.setCtr v).pwr = s.pwr := rfl
@[simp] theorem State.setCtr_thm (s : State) (v : List (Nat × Nat)) : (s.setCtr v).thm = s.thm := rfl
@[simp] theorem State.setCtr_hw (s : State) (v : List (Nat × Nat)) : (s.setCtr v).hw = s.hw := rfl
@[simp] theorem State.setCtr_free (s : State) (v : List (Nat × Nat)) : (s.setCtr v).free = s.free := rfl
@[simp] theorem State.setCtr_out (s : State) (v : List (Nat × Nat)) : (s.setCtr v).out = s.out := rfl
@[simp] theorem State.setCtr_pending (s : State) (v : List (Nat × Nat)) : (s.setCtr v).pending = s.pending := rfl

@[simp] theorem State.setCtrSat_clk (s : State) (v : List Nat) : (s.setCtrSat v).clk = s.clk := rfl
@[simp] theorem State.setCtrSat_ident (s : State) (v : List Nat) : (s.setCtrSat v).ident = s.ident := rfl
@[simp] theorem State.setCtrSat_img (s : State) (v : List Nat) : (s.setCtrSat v).img = s.img := rfl
@[simp] theorem State.setCtrSat_ring (s : State) (v : List Nat) : (s.setCtrSat v).ring = s.ring := rfl
@[simp] theorem State.setCtrSat_sense (s : State) (v : List Nat) : (s.setCtrSat v).sense = s.sense := rfl
@[simp] theorem State.setCtrSat_sweep (s : State) (v : List Nat) : (s.setCtrSat v).sweep = s.sweep := rfl
@[simp] theorem State.setCtrSat_str (s : State) (v : List Nat) : (s.setCtrSat v).str = s.str := rfl
@[simp] theorem State.setCtrSat_rc (s : State) (v : List Nat) : (s.setCtrSat v).rc = s.rc := rfl
@[simp] theorem State.setCtrSat_bank (s : State) (v : List Nat) : (s.setCtrSat v).bank = s.bank := rfl
@[simp] theorem State.setCtrSat_est (s : State) (v : List Nat) : (s.setCtrSat v).est = s.est := rfl
@[simp] theorem State.setCtrSat_saf (s : State) (v : List Nat) : (s.setCtrSat v).saf = s.saf := rfl
@[simp] theorem State.setCtrSat_twin (s : State) (v : List Nat) : (s.setCtrSat v).twin = s.twin := rfl
@[simp] theorem State.setCtrSat_trust (s : State) (v : List Nat) : (s.setCtrSat v).trust = s.trust := rfl
@[simp] theorem State.setCtrSat_hist (s : State) (v : List Nat) : (s.setCtrSat v).hist = s.hist := rfl
@[simp] theorem State.setCtrSat_ffr (s : State) (v : List Nat) : (s.setCtrSat v).ffr = s.ffr := rfl
@[simp] theorem State.setCtrSat_host (s : State) (v : List Nat) : (s.setCtrSat v).host = s.host := rfl
@[simp] theorem State.setCtrSat_jrn (s : State) (v : List Nat) : (s.setCtrSat v).jrn = s.jrn := rfl
@[simp] theorem State.setCtrSat_ptp (s : State) (v : List Nat) : (s.setCtrSat v).ptp = s.ptp := rfl
@[simp] theorem State.setCtrSat_can (s : State) (v : List Nat) : (s.setCtrSat v).can = s.can := rfl
@[simp] theorem State.setCtrSat_hk (s : State) (v : List Nat) : (s.setCtrSat v).hk = s.hk := rfl
@[simp] theorem State.setCtrSat_ctr (s : State) (v : List Nat) : (s.setCtrSat v).ctr = s.ctr := rfl
@[simp] theorem State.setCtrSat_ctrSat (s : State) (v : List Nat) : (s.setCtrSat v).ctrSat = v := rfl
@[simp] theorem State.setCtrSat_jctr (s : State) (v : List Nat) : (s.setCtrSat v).jctr = s.jctr := rfl
@[simp] theorem State.setCtrSat_upd (s : State) (v : List Nat) : (s.setCtrSat v).upd = s.upd := rfl
@[simp] theorem State.setCtrSat_io (s : State) (v : List Nat) : (s.setCtrSat v).io = s.io := rfl
@[simp] theorem State.setCtrSat_scan (s : State) (v : List Nat) : (s.setCtrSat v).scan = s.scan := rfl
@[simp] theorem State.setCtrSat_pwr (s : State) (v : List Nat) : (s.setCtrSat v).pwr = s.pwr := rfl
@[simp] theorem State.setCtrSat_thm (s : State) (v : List Nat) : (s.setCtrSat v).thm = s.thm := rfl
@[simp] theorem State.setCtrSat_hw (s : State) (v : List Nat) : (s.setCtrSat v).hw = s.hw := rfl
@[simp] theorem State.setCtrSat_free (s : State) (v : List Nat) : (s.setCtrSat v).free = s.free := rfl
@[simp] theorem State.setCtrSat_out (s : State) (v : List Nat) : (s.setCtrSat v).out = s.out := rfl
@[simp] theorem State.setCtrSat_pending (s : State) (v : List Nat) : (s.setCtrSat v).pending = s.pending := rfl

@[simp] theorem State.setJctr_clk (s : State) (v : List (Nat × Nat)) : (s.setJctr v).clk = s.clk := rfl
@[simp] theorem State.setJctr_ident (s : State) (v : List (Nat × Nat)) : (s.setJctr v).ident = s.ident := rfl
@[simp] theorem State.setJctr_img (s : State) (v : List (Nat × Nat)) : (s.setJctr v).img = s.img := rfl
@[simp] theorem State.setJctr_ring (s : State) (v : List (Nat × Nat)) : (s.setJctr v).ring = s.ring := rfl
@[simp] theorem State.setJctr_sense (s : State) (v : List (Nat × Nat)) : (s.setJctr v).sense = s.sense := rfl
@[simp] theorem State.setJctr_sweep (s : State) (v : List (Nat × Nat)) : (s.setJctr v).sweep = s.sweep := rfl
@[simp] theorem State.setJctr_str (s : State) (v : List (Nat × Nat)) : (s.setJctr v).str = s.str := rfl
@[simp] theorem State.setJctr_rc (s : State) (v : List (Nat × Nat)) : (s.setJctr v).rc = s.rc := rfl
@[simp] theorem State.setJctr_bank (s : State) (v : List (Nat × Nat)) : (s.setJctr v).bank = s.bank := rfl
@[simp] theorem State.setJctr_est (s : State) (v : List (Nat × Nat)) : (s.setJctr v).est = s.est := rfl
@[simp] theorem State.setJctr_saf (s : State) (v : List (Nat × Nat)) : (s.setJctr v).saf = s.saf := rfl
@[simp] theorem State.setJctr_twin (s : State) (v : List (Nat × Nat)) : (s.setJctr v).twin = s.twin := rfl
@[simp] theorem State.setJctr_trust (s : State) (v : List (Nat × Nat)) : (s.setJctr v).trust = s.trust := rfl
@[simp] theorem State.setJctr_hist (s : State) (v : List (Nat × Nat)) : (s.setJctr v).hist = s.hist := rfl
@[simp] theorem State.setJctr_ffr (s : State) (v : List (Nat × Nat)) : (s.setJctr v).ffr = s.ffr := rfl
@[simp] theorem State.setJctr_host (s : State) (v : List (Nat × Nat)) : (s.setJctr v).host = s.host := rfl
@[simp] theorem State.setJctr_jrn (s : State) (v : List (Nat × Nat)) : (s.setJctr v).jrn = s.jrn := rfl
@[simp] theorem State.setJctr_ptp (s : State) (v : List (Nat × Nat)) : (s.setJctr v).ptp = s.ptp := rfl
@[simp] theorem State.setJctr_can (s : State) (v : List (Nat × Nat)) : (s.setJctr v).can = s.can := rfl
@[simp] theorem State.setJctr_hk (s : State) (v : List (Nat × Nat)) : (s.setJctr v).hk = s.hk := rfl
@[simp] theorem State.setJctr_ctr (s : State) (v : List (Nat × Nat)) : (s.setJctr v).ctr = s.ctr := rfl
@[simp] theorem State.setJctr_ctrSat (s : State) (v : List (Nat × Nat)) : (s.setJctr v).ctrSat = s.ctrSat := rfl
@[simp] theorem State.setJctr_jctr (s : State) (v : List (Nat × Nat)) : (s.setJctr v).jctr = v := rfl
@[simp] theorem State.setJctr_upd (s : State) (v : List (Nat × Nat)) : (s.setJctr v).upd = s.upd := rfl
@[simp] theorem State.setJctr_io (s : State) (v : List (Nat × Nat)) : (s.setJctr v).io = s.io := rfl
@[simp] theorem State.setJctr_scan (s : State) (v : List (Nat × Nat)) : (s.setJctr v).scan = s.scan := rfl
@[simp] theorem State.setJctr_pwr (s : State) (v : List (Nat × Nat)) : (s.setJctr v).pwr = s.pwr := rfl
@[simp] theorem State.setJctr_thm (s : State) (v : List (Nat × Nat)) : (s.setJctr v).thm = s.thm := rfl
@[simp] theorem State.setJctr_hw (s : State) (v : List (Nat × Nat)) : (s.setJctr v).hw = s.hw := rfl
@[simp] theorem State.setJctr_free (s : State) (v : List (Nat × Nat)) : (s.setJctr v).free = s.free := rfl
@[simp] theorem State.setJctr_out (s : State) (v : List (Nat × Nat)) : (s.setJctr v).out = s.out := rfl
@[simp] theorem State.setJctr_pending (s : State) (v : List (Nat × Nat)) : (s.setJctr v).pending = s.pending := rfl

@[simp] theorem State.modUpd_clk (s : State) (f : Upd → Upd) : (s.modUpd f).clk = s.clk := rfl
@[simp] theorem State.modUpd_ident (s : State) (f : Upd → Upd) : (s.modUpd f).ident = s.ident := rfl
@[simp] theorem State.modUpd_img (s : State) (f : Upd → Upd) : (s.modUpd f).img = s.img := rfl
@[simp] theorem State.modUpd_ring (s : State) (f : Upd → Upd) : (s.modUpd f).ring = s.ring := rfl
@[simp] theorem State.modUpd_sense (s : State) (f : Upd → Upd) : (s.modUpd f).sense = s.sense := rfl
@[simp] theorem State.modUpd_sweep (s : State) (f : Upd → Upd) : (s.modUpd f).sweep = s.sweep := rfl
@[simp] theorem State.modUpd_str (s : State) (f : Upd → Upd) : (s.modUpd f).str = s.str := rfl
@[simp] theorem State.modUpd_rc (s : State) (f : Upd → Upd) : (s.modUpd f).rc = s.rc := rfl
@[simp] theorem State.modUpd_bank (s : State) (f : Upd → Upd) : (s.modUpd f).bank = s.bank := rfl
@[simp] theorem State.modUpd_est (s : State) (f : Upd → Upd) : (s.modUpd f).est = s.est := rfl
@[simp] theorem State.modUpd_saf (s : State) (f : Upd → Upd) : (s.modUpd f).saf = s.saf := rfl
@[simp] theorem State.modUpd_twin (s : State) (f : Upd → Upd) : (s.modUpd f).twin = s.twin := rfl
@[simp] theorem State.modUpd_trust (s : State) (f : Upd → Upd) : (s.modUpd f).trust = s.trust := rfl
@[simp] theorem State.modUpd_hist (s : State) (f : Upd → Upd) : (s.modUpd f).hist = s.hist := rfl
@[simp] theorem State.modUpd_ffr (s : State) (f : Upd → Upd) : (s.modUpd f).ffr = s.ffr := rfl
@[simp] theorem State.modUpd_host (s : State) (f : Upd → Upd) : (s.modUpd f).host = s.host := rfl
@[simp] theorem State.modUpd_jrn (s : State) (f : Upd → Upd) : (s.modUpd f).jrn = s.jrn := rfl
@[simp] theorem State.modUpd_ptp (s : State) (f : Upd → Upd) : (s.modUpd f).ptp = s.ptp := rfl
@[simp] theorem State.modUpd_can (s : State) (f : Upd → Upd) : (s.modUpd f).can = s.can := rfl
@[simp] theorem State.modUpd_hk (s : State) (f : Upd → Upd) : (s.modUpd f).hk = s.hk := rfl
@[simp] theorem State.modUpd_ctr (s : State) (f : Upd → Upd) : (s.modUpd f).ctr = s.ctr := rfl
@[simp] theorem State.modUpd_ctrSat (s : State) (f : Upd → Upd) : (s.modUpd f).ctrSat = s.ctrSat := rfl
@[simp] theorem State.modUpd_jctr (s : State) (f : Upd → Upd) : (s.modUpd f).jctr = s.jctr := rfl
@[simp] theorem State.modUpd_upd (s : State) (f : Upd → Upd) : (s.modUpd f).upd = f s.upd := rfl
@[simp] theorem State.modUpd_io (s : State) (f : Upd → Upd) : (s.modUpd f).io = s.io := rfl
@[simp] theorem State.modUpd_scan (s : State) (f : Upd → Upd) : (s.modUpd f).scan = s.scan := rfl
@[simp] theorem State.modUpd_pwr (s : State) (f : Upd → Upd) : (s.modUpd f).pwr = s.pwr := rfl
@[simp] theorem State.modUpd_thm (s : State) (f : Upd → Upd) : (s.modUpd f).thm = s.thm := rfl
@[simp] theorem State.modUpd_hw (s : State) (f : Upd → Upd) : (s.modUpd f).hw = s.hw := rfl
@[simp] theorem State.modUpd_free (s : State) (f : Upd → Upd) : (s.modUpd f).free = s.free := rfl
@[simp] theorem State.modUpd_out (s : State) (f : Upd → Upd) : (s.modUpd f).out = s.out := rfl
@[simp] theorem State.modUpd_pending (s : State) (f : Upd → Upd) : (s.modUpd f).pending = s.pending := rfl

@[simp] theorem State.modIo_clk (s : State) (f : Io → Io) : (s.modIo f).clk = s.clk := rfl
@[simp] theorem State.modIo_ident (s : State) (f : Io → Io) : (s.modIo f).ident = s.ident := rfl
@[simp] theorem State.modIo_img (s : State) (f : Io → Io) : (s.modIo f).img = s.img := rfl
@[simp] theorem State.modIo_ring (s : State) (f : Io → Io) : (s.modIo f).ring = s.ring := rfl
@[simp] theorem State.modIo_sense (s : State) (f : Io → Io) : (s.modIo f).sense = s.sense := rfl
@[simp] theorem State.modIo_sweep (s : State) (f : Io → Io) : (s.modIo f).sweep = s.sweep := rfl
@[simp] theorem State.modIo_str (s : State) (f : Io → Io) : (s.modIo f).str = s.str := rfl
@[simp] theorem State.modIo_rc (s : State) (f : Io → Io) : (s.modIo f).rc = s.rc := rfl
@[simp] theorem State.modIo_bank (s : State) (f : Io → Io) : (s.modIo f).bank = s.bank := rfl
@[simp] theorem State.modIo_est (s : State) (f : Io → Io) : (s.modIo f).est = s.est := rfl
@[simp] theorem State.modIo_saf (s : State) (f : Io → Io) : (s.modIo f).saf = s.saf := rfl
@[simp] theorem State.modIo_twin (s : State) (f : Io → Io) : (s.modIo f).twin = s.twin := rfl
@[simp] theorem State.modIo_trust (s : State) (f : Io → Io) : (s.modIo f).trust = s.trust := rfl
@[simp] theorem State.modIo_hist (s : State) (f : Io → Io) : (s.modIo f).hist = s.hist := rfl
@[simp] theorem State.modIo_ffr (s : State) (f : Io → Io) : (s.modIo f).ffr = s.ffr := rfl
@[simp] theorem State.modIo_host (s : State) (f : Io → Io) : (s.modIo f).host = s.host := rfl
@[simp] theorem State.modIo_jrn (s : State) (f : Io → Io) : (s.modIo f).jrn = s.jrn := rfl
@[simp] theorem State.modIo_ptp (s : State) (f : Io → Io) : (s.modIo f).ptp = s.ptp := rfl
@[simp] theorem State.modIo_can (s : State) (f : Io → Io) : (s.modIo f).can = s.can := rfl
@[simp] theorem State.modIo_hk (s : State) (f : Io → Io) : (s.modIo f).hk = s.hk := rfl
@[simp] theorem State.modIo_ctr (s : State) (f : Io → Io) : (s.modIo f).ctr = s.ctr := rfl
@[simp] theorem State.modIo_ctrSat (s : State) (f : Io → Io) : (s.modIo f).ctrSat = s.ctrSat := rfl
@[simp] theorem State.modIo_jctr (s : State) (f : Io → Io) : (s.modIo f).jctr = s.jctr := rfl
@[simp] theorem State.modIo_upd (s : State) (f : Io → Io) : (s.modIo f).upd = s.upd := rfl
@[simp] theorem State.modIo_io (s : State) (f : Io → Io) : (s.modIo f).io = f s.io := rfl
@[simp] theorem State.modIo_scan (s : State) (f : Io → Io) : (s.modIo f).scan = s.scan := rfl
@[simp] theorem State.modIo_pwr (s : State) (f : Io → Io) : (s.modIo f).pwr = s.pwr := rfl
@[simp] theorem State.modIo_thm (s : State) (f : Io → Io) : (s.modIo f).thm = s.thm := rfl
@[simp] theorem State.modIo_hw (s : State) (f : Io → Io) : (s.modIo f).hw = s.hw := rfl
@[simp] theorem State.modIo_free (s : State) (f : Io → Io) : (s.modIo f).free = s.free := rfl
@[simp] theorem State.modIo_out (s : State) (f : Io → Io) : (s.modIo f).out = s.out := rfl
@[simp] theorem State.modIo_pending (s : State) (f : Io → Io) : (s.modIo f).pending = s.pending := rfl

@[simp] theorem State.modScan_clk (s : State) (f : Scan → Scan) : (s.modScan f).clk = s.clk := rfl
@[simp] theorem State.modScan_ident (s : State) (f : Scan → Scan) : (s.modScan f).ident = s.ident := rfl
@[simp] theorem State.modScan_img (s : State) (f : Scan → Scan) : (s.modScan f).img = s.img := rfl
@[simp] theorem State.modScan_ring (s : State) (f : Scan → Scan) : (s.modScan f).ring = s.ring := rfl
@[simp] theorem State.modScan_sense (s : State) (f : Scan → Scan) : (s.modScan f).sense = s.sense := rfl
@[simp] theorem State.modScan_sweep (s : State) (f : Scan → Scan) : (s.modScan f).sweep = s.sweep := rfl
@[simp] theorem State.modScan_str (s : State) (f : Scan → Scan) : (s.modScan f).str = s.str := rfl
@[simp] theorem State.modScan_rc (s : State) (f : Scan → Scan) : (s.modScan f).rc = s.rc := rfl
@[simp] theorem State.modScan_bank (s : State) (f : Scan → Scan) : (s.modScan f).bank = s.bank := rfl
@[simp] theorem State.modScan_est (s : State) (f : Scan → Scan) : (s.modScan f).est = s.est := rfl
@[simp] theorem State.modScan_saf (s : State) (f : Scan → Scan) : (s.modScan f).saf = s.saf := rfl
@[simp] theorem State.modScan_twin (s : State) (f : Scan → Scan) : (s.modScan f).twin = s.twin := rfl
@[simp] theorem State.modScan_trust (s : State) (f : Scan → Scan) : (s.modScan f).trust = s.trust := rfl
@[simp] theorem State.modScan_hist (s : State) (f : Scan → Scan) : (s.modScan f).hist = s.hist := rfl
@[simp] theorem State.modScan_ffr (s : State) (f : Scan → Scan) : (s.modScan f).ffr = s.ffr := rfl
@[simp] theorem State.modScan_host (s : State) (f : Scan → Scan) : (s.modScan f).host = s.host := rfl
@[simp] theorem State.modScan_jrn (s : State) (f : Scan → Scan) : (s.modScan f).jrn = s.jrn := rfl
@[simp] theorem State.modScan_ptp (s : State) (f : Scan → Scan) : (s.modScan f).ptp = s.ptp := rfl
@[simp] theorem State.modScan_can (s : State) (f : Scan → Scan) : (s.modScan f).can = s.can := rfl
@[simp] theorem State.modScan_hk (s : State) (f : Scan → Scan) : (s.modScan f).hk = s.hk := rfl
@[simp] theorem State.modScan_ctr (s : State) (f : Scan → Scan) : (s.modScan f).ctr = s.ctr := rfl
@[simp] theorem State.modScan_ctrSat (s : State) (f : Scan → Scan) : (s.modScan f).ctrSat = s.ctrSat := rfl
@[simp] theorem State.modScan_jctr (s : State) (f : Scan → Scan) : (s.modScan f).jctr = s.jctr := rfl
@[simp] theorem State.modScan_upd (s : State) (f : Scan → Scan) : (s.modScan f).upd = s.upd := rfl
@[simp] theorem State.modScan_io (s : State) (f : Scan → Scan) : (s.modScan f).io = s.io := rfl
@[simp] theorem State.modScan_scan (s : State) (f : Scan → Scan) : (s.modScan f).scan = f s.scan := rfl
@[simp] theorem State.modScan_pwr (s : State) (f : Scan → Scan) : (s.modScan f).pwr = s.pwr := rfl
@[simp] theorem State.modScan_thm (s : State) (f : Scan → Scan) : (s.modScan f).thm = s.thm := rfl
@[simp] theorem State.modScan_hw (s : State) (f : Scan → Scan) : (s.modScan f).hw = s.hw := rfl
@[simp] theorem State.modScan_free (s : State) (f : Scan → Scan) : (s.modScan f).free = s.free := rfl
@[simp] theorem State.modScan_out (s : State) (f : Scan → Scan) : (s.modScan f).out = s.out := rfl
@[simp] theorem State.modScan_pending (s : State) (f : Scan → Scan) : (s.modScan f).pending = s.pending := rfl

@[simp] theorem State.modPwr_clk (s : State) (f : Pwr → Pwr) : (s.modPwr f).clk = s.clk := rfl
@[simp] theorem State.modPwr_ident (s : State) (f : Pwr → Pwr) : (s.modPwr f).ident = s.ident := rfl
@[simp] theorem State.modPwr_img (s : State) (f : Pwr → Pwr) : (s.modPwr f).img = s.img := rfl
@[simp] theorem State.modPwr_ring (s : State) (f : Pwr → Pwr) : (s.modPwr f).ring = s.ring := rfl
@[simp] theorem State.modPwr_sense (s : State) (f : Pwr → Pwr) : (s.modPwr f).sense = s.sense := rfl
@[simp] theorem State.modPwr_sweep (s : State) (f : Pwr → Pwr) : (s.modPwr f).sweep = s.sweep := rfl
@[simp] theorem State.modPwr_str (s : State) (f : Pwr → Pwr) : (s.modPwr f).str = s.str := rfl
@[simp] theorem State.modPwr_rc (s : State) (f : Pwr → Pwr) : (s.modPwr f).rc = s.rc := rfl
@[simp] theorem State.modPwr_bank (s : State) (f : Pwr → Pwr) : (s.modPwr f).bank = s.bank := rfl
@[simp] theorem State.modPwr_est (s : State) (f : Pwr → Pwr) : (s.modPwr f).est = s.est := rfl
@[simp] theorem State.modPwr_saf (s : State) (f : Pwr → Pwr) : (s.modPwr f).saf = s.saf := rfl
@[simp] theorem State.modPwr_twin (s : State) (f : Pwr → Pwr) : (s.modPwr f).twin = s.twin := rfl
@[simp] theorem State.modPwr_trust (s : State) (f : Pwr → Pwr) : (s.modPwr f).trust = s.trust := rfl
@[simp] theorem State.modPwr_hist (s : State) (f : Pwr → Pwr) : (s.modPwr f).hist = s.hist := rfl
@[simp] theorem State.modPwr_ffr (s : State) (f : Pwr → Pwr) : (s.modPwr f).ffr = s.ffr := rfl
@[simp] theorem State.modPwr_host (s : State) (f : Pwr → Pwr) : (s.modPwr f).host = s.host := rfl
@[simp] theorem State.modPwr_jrn (s : State) (f : Pwr → Pwr) : (s.modPwr f).jrn = s.jrn := rfl
@[simp] theorem State.modPwr_ptp (s : State) (f : Pwr → Pwr) : (s.modPwr f).ptp = s.ptp := rfl
@[simp] theorem State.modPwr_can (s : State) (f : Pwr → Pwr) : (s.modPwr f).can = s.can := rfl
@[simp] theorem State.modPwr_hk (s : State) (f : Pwr → Pwr) : (s.modPwr f).hk = s.hk := rfl
@[simp] theorem State.modPwr_ctr (s : State) (f : Pwr → Pwr) : (s.modPwr f).ctr = s.ctr := rfl
@[simp] theorem State.modPwr_ctrSat (s : State) (f : Pwr → Pwr) : (s.modPwr f).ctrSat = s.ctrSat := rfl
@[simp] theorem State.modPwr_jctr (s : State) (f : Pwr → Pwr) : (s.modPwr f).jctr = s.jctr := rfl
@[simp] theorem State.modPwr_upd (s : State) (f : Pwr → Pwr) : (s.modPwr f).upd = s.upd := rfl
@[simp] theorem State.modPwr_io (s : State) (f : Pwr → Pwr) : (s.modPwr f).io = s.io := rfl
@[simp] theorem State.modPwr_scan (s : State) (f : Pwr → Pwr) : (s.modPwr f).scan = s.scan := rfl
@[simp] theorem State.modPwr_pwr (s : State) (f : Pwr → Pwr) : (s.modPwr f).pwr = f s.pwr := rfl
@[simp] theorem State.modPwr_thm (s : State) (f : Pwr → Pwr) : (s.modPwr f).thm = s.thm := rfl
@[simp] theorem State.modPwr_hw (s : State) (f : Pwr → Pwr) : (s.modPwr f).hw = s.hw := rfl
@[simp] theorem State.modPwr_free (s : State) (f : Pwr → Pwr) : (s.modPwr f).free = s.free := rfl
@[simp] theorem State.modPwr_out (s : State) (f : Pwr → Pwr) : (s.modPwr f).out = s.out := rfl
@[simp] theorem State.modPwr_pending (s : State) (f : Pwr → Pwr) : (s.modPwr f).pending = s.pending := rfl

@[simp] theorem State.modThm_clk (s : State) (f : Thm → Thm) : (s.modThm f).clk = s.clk := rfl
@[simp] theorem State.modThm_ident (s : State) (f : Thm → Thm) : (s.modThm f).ident = s.ident := rfl
@[simp] theorem State.modThm_img (s : State) (f : Thm → Thm) : (s.modThm f).img = s.img := rfl
@[simp] theorem State.modThm_ring (s : State) (f : Thm → Thm) : (s.modThm f).ring = s.ring := rfl
@[simp] theorem State.modThm_sense (s : State) (f : Thm → Thm) : (s.modThm f).sense = s.sense := rfl
@[simp] theorem State.modThm_sweep (s : State) (f : Thm → Thm) : (s.modThm f).sweep = s.sweep := rfl
@[simp] theorem State.modThm_str (s : State) (f : Thm → Thm) : (s.modThm f).str = s.str := rfl
@[simp] theorem State.modThm_rc (s : State) (f : Thm → Thm) : (s.modThm f).rc = s.rc := rfl
@[simp] theorem State.modThm_bank (s : State) (f : Thm → Thm) : (s.modThm f).bank = s.bank := rfl
@[simp] theorem State.modThm_est (s : State) (f : Thm → Thm) : (s.modThm f).est = s.est := rfl
@[simp] theorem State.modThm_saf (s : State) (f : Thm → Thm) : (s.modThm f).saf = s.saf := rfl
@[simp] theorem State.modThm_twin (s : State) (f : Thm → Thm) : (s.modThm f).twin = s.twin := rfl
@[simp] theorem State.modThm_trust (s : State) (f : Thm → Thm) : (s.modThm f).trust = s.trust := rfl
@[simp] theorem State.modThm_hist (s : State) (f : Thm → Thm) : (s.modThm f).hist = s.hist := rfl
@[simp] theorem State.modThm_ffr (s : State) (f : Thm → Thm) : (s.modThm f).ffr = s.ffr := rfl
@[simp] theorem State.modThm_host (s : State) (f : Thm → Thm) : (s.modThm f).host = s.host := rfl
@[simp] theorem State.modThm_jrn (s : State) (f : Thm → Thm) : (s.modThm f).jrn = s.jrn := rfl
@[simp] theorem State.modThm_ptp (s : State) (f : Thm → Thm) : (s.modThm f).ptp = s.ptp := rfl
@[simp] theorem State.modThm_can (s : State) (f : Thm → Thm) : (s.modThm f).can = s.can := rfl
@[simp] theorem State.modThm_hk (s : State) (f : Thm → Thm) : (s.modThm f).hk = s.hk := rfl
@[simp] theorem State.modThm_ctr (s : State) (f : Thm → Thm) : (s.modThm f).ctr = s.ctr := rfl
@[simp] theorem State.modThm_ctrSat (s : State) (f : Thm → Thm) : (s.modThm f).ctrSat = s.ctrSat := rfl
@[simp] theorem State.modThm_jctr (s : State) (f : Thm → Thm) : (s.modThm f).jctr = s.jctr := rfl
@[simp] theorem State.modThm_upd (s : State) (f : Thm → Thm) : (s.modThm f).upd = s.upd := rfl
@[simp] theorem State.modThm_io (s : State) (f : Thm → Thm) : (s.modThm f).io = s.io := rfl
@[simp] theorem State.modThm_scan (s : State) (f : Thm → Thm) : (s.modThm f).scan = s.scan := rfl
@[simp] theorem State.modThm_pwr (s : State) (f : Thm → Thm) : (s.modThm f).pwr = s.pwr := rfl
@[simp] theorem State.modThm_thm (s : State) (f : Thm → Thm) : (s.modThm f).thm = f s.thm := rfl
@[simp] theorem State.modThm_hw (s : State) (f : Thm → Thm) : (s.modThm f).hw = s.hw := rfl
@[simp] theorem State.modThm_free (s : State) (f : Thm → Thm) : (s.modThm f).free = s.free := rfl
@[simp] theorem State.modThm_out (s : State) (f : Thm → Thm) : (s.modThm f).out = s.out := rfl
@[simp] theorem State.modThm_pending (s : State) (f : Thm → Thm) : (s.modThm f).pending = s.pending := rfl

@[simp] theorem State.modHw_clk (s : State) (f : Hw → Hw) : (s.modHw f).clk = s.clk := rfl
@[simp] theorem State.modHw_ident (s : State) (f : Hw → Hw) : (s.modHw f).ident = s.ident := rfl
@[simp] theorem State.modHw_img (s : State) (f : Hw → Hw) : (s.modHw f).img = s.img := rfl
@[simp] theorem State.modHw_ring (s : State) (f : Hw → Hw) : (s.modHw f).ring = s.ring := rfl
@[simp] theorem State.modHw_sense (s : State) (f : Hw → Hw) : (s.modHw f).sense = s.sense := rfl
@[simp] theorem State.modHw_sweep (s : State) (f : Hw → Hw) : (s.modHw f).sweep = s.sweep := rfl
@[simp] theorem State.modHw_str (s : State) (f : Hw → Hw) : (s.modHw f).str = s.str := rfl
@[simp] theorem State.modHw_rc (s : State) (f : Hw → Hw) : (s.modHw f).rc = s.rc := rfl
@[simp] theorem State.modHw_bank (s : State) (f : Hw → Hw) : (s.modHw f).bank = s.bank := rfl
@[simp] theorem State.modHw_est (s : State) (f : Hw → Hw) : (s.modHw f).est = s.est := rfl
@[simp] theorem State.modHw_saf (s : State) (f : Hw → Hw) : (s.modHw f).saf = s.saf := rfl
@[simp] theorem State.modHw_twin (s : State) (f : Hw → Hw) : (s.modHw f).twin = s.twin := rfl
@[simp] theorem State.modHw_trust (s : State) (f : Hw → Hw) : (s.modHw f).trust = s.trust := rfl
@[simp] theorem State.modHw_hist (s : State) (f : Hw → Hw) : (s.modHw f).hist = s.hist := rfl
@[simp] theorem State.modHw_ffr (s : State) (f : Hw → Hw) : (s.modHw f).ffr = s.ffr := rfl
@[simp] theorem State.modHw_host (s : State) (f : Hw → Hw) : (s.modHw f).host = s.host := rfl
@[simp] theorem State.modHw_jrn (s : State) (f : Hw → Hw) : (s.modHw f).jrn = s.jrn := rfl
@[simp] theorem State.modHw_ptp (s : State) (f : Hw → Hw) : (s.modHw f).ptp = s.ptp := rfl
@[simp] theorem State.modHw_can (s : State) (f : Hw → Hw) : (s.modHw f).can = s.can := rfl
@[simp] theorem State.modHw_hk (s : State) (f : Hw → Hw) : (s.modHw f).hk = s.hk := rfl
@[simp] theorem State.modHw_ctr (s : State) (f : Hw → Hw) : (s.modHw f).ctr = s.ctr := rfl
@[simp] theorem State.modHw_ctrSat (s : State) (f : Hw → Hw) : (s.modHw f).ctrSat = s.ctrSat := rfl
@[simp] theorem State.modHw_jctr (s : State) (f : Hw → Hw) : (s.modHw f).jctr = s.jctr := rfl
@[simp] theorem State.modHw_upd (s : State) (f : Hw → Hw) : (s.modHw f).upd = s.upd := rfl
@[simp] theorem State.modHw_io (s : State) (f : Hw → Hw) : (s.modHw f).io = s.io := rfl
@[simp] theorem State.modHw_scan (s : State) (f : Hw → Hw) : (s.modHw f).scan = s.scan := rfl
@[simp] theorem State.modHw_pwr (s : State) (f : Hw → Hw) : (s.modHw f).pwr = s.pwr := rfl
@[simp] theorem State.modHw_thm (s : State) (f : Hw → Hw) : (s.modHw f).thm = s.thm := rfl
@[simp] theorem State.modHw_hw (s : State) (f : Hw → Hw) : (s.modHw f).hw = f s.hw := rfl
@[simp] theorem State.modHw_free (s : State) (f : Hw → Hw) : (s.modHw f).free = s.free := rfl
@[simp] theorem State.modHw_out (s : State) (f : Hw → Hw) : (s.modHw f).out = s.out := rfl
@[simp] theorem State.modHw_pending (s : State) (f : Hw → Hw) : (s.modHw f).pending = s.pending := rfl

@[simp] theorem State.setFree_clk (s : State) (v : Nat) : (s.setFree v).clk = s.clk := rfl
@[simp] theorem State.setFree_ident (s : State) (v : Nat) : (s.setFree v).ident = s.ident := rfl
@[simp] theorem State.setFree_img (s : State) (v : Nat) : (s.setFree v).img = s.img := rfl
@[simp] theorem State.setFree_ring (s : State) (v : Nat) : (s.setFree v).ring = s.ring := rfl
@[simp] theorem State.setFree_sense (s : State) (v : Nat) : (s.setFree v).sense = s.sense := rfl
@[simp] theorem State.setFree_sweep (s : State) (v : Nat) : (s.setFree v).sweep = s.sweep := rfl
@[simp] theorem State.setFree_str (s : State) (v : Nat) : (s.setFree v).str = s.str := rfl
@[simp] theorem State.setFree_rc (s : State) (v : Nat) : (s.setFree v).rc = s.rc := rfl
@[simp] theorem State.setFree_bank (s : State) (v : Nat) : (s.setFree v).bank = s.bank := rfl
@[simp] theorem State.setFree_est (s : State) (v : Nat) : (s.setFree v).est = s.est := rfl
@[simp] theorem State.setFree_saf (s : State) (v : Nat) : (s.setFree v).saf = s.saf := rfl
@[simp] theorem State.setFree_twin (s : State) (v : Nat) : (s.setFree v).twin = s.twin := rfl
@[simp] theorem State.setFree_trust (s : State) (v : Nat) : (s.setFree v).trust = s.trust := rfl
@[simp] theorem State.setFree_hist (s : State) (v : Nat) : (s.setFree v).hist = s.hist := rfl
@[simp] theorem State.setFree_ffr (s : State) (v : Nat) : (s.setFree v).ffr = s.ffr := rfl
@[simp] theorem State.setFree_host (s : State) (v : Nat) : (s.setFree v).host = s.host := rfl
@[simp] theorem State.setFree_jrn (s : State) (v : Nat) : (s.setFree v).jrn = s.jrn := rfl
@[simp] theorem State.setFree_ptp (s : State) (v : Nat) : (s.setFree v).ptp = s.ptp := rfl
@[simp] theorem State.setFree_can (s : State) (v : Nat) : (s.setFree v).can = s.can := rfl
@[simp] theorem State.setFree_hk (s : State) (v : Nat) : (s.setFree v).hk = s.hk := rfl
@[simp] theorem State.setFree_ctr (s : State) (v : Nat) : (s.setFree v).ctr = s.ctr := rfl
@[simp] theorem State.setFree_ctrSat (s : State) (v : Nat) : (s.setFree v).ctrSat = s.ctrSat := rfl
@[simp] theorem State.setFree_jctr (s : State) (v : Nat) : (s.setFree v).jctr = s.jctr := rfl
@[simp] theorem State.setFree_upd (s : State) (v : Nat) : (s.setFree v).upd = s.upd := rfl
@[simp] theorem State.setFree_io (s : State) (v : Nat) : (s.setFree v).io = s.io := rfl
@[simp] theorem State.setFree_scan (s : State) (v : Nat) : (s.setFree v).scan = s.scan := rfl
@[simp] theorem State.setFree_pwr (s : State) (v : Nat) : (s.setFree v).pwr = s.pwr := rfl
@[simp] theorem State.setFree_thm (s : State) (v : Nat) : (s.setFree v).thm = s.thm := rfl
@[simp] theorem State.setFree_hw (s : State) (v : Nat) : (s.setFree v).hw = s.hw := rfl
@[simp] theorem State.setFree_free (s : State) (v : Nat) : (s.setFree v).free = v := rfl
@[simp] theorem State.setFree_out (s : State) (v : Nat) : (s.setFree v).out = s.out := rfl
@[simp] theorem State.setFree_pending (s : State) (v : Nat) : (s.setFree v).pending = s.pending := rfl

@[simp] theorem State.setOut_clk (s : State) (v : List Out) : (s.setOut v).clk = s.clk := rfl
@[simp] theorem State.setOut_ident (s : State) (v : List Out) : (s.setOut v).ident = s.ident := rfl
@[simp] theorem State.setOut_img (s : State) (v : List Out) : (s.setOut v).img = s.img := rfl
@[simp] theorem State.setOut_ring (s : State) (v : List Out) : (s.setOut v).ring = s.ring := rfl
@[simp] theorem State.setOut_sense (s : State) (v : List Out) : (s.setOut v).sense = s.sense := rfl
@[simp] theorem State.setOut_sweep (s : State) (v : List Out) : (s.setOut v).sweep = s.sweep := rfl
@[simp] theorem State.setOut_str (s : State) (v : List Out) : (s.setOut v).str = s.str := rfl
@[simp] theorem State.setOut_rc (s : State) (v : List Out) : (s.setOut v).rc = s.rc := rfl
@[simp] theorem State.setOut_bank (s : State) (v : List Out) : (s.setOut v).bank = s.bank := rfl
@[simp] theorem State.setOut_est (s : State) (v : List Out) : (s.setOut v).est = s.est := rfl
@[simp] theorem State.setOut_saf (s : State) (v : List Out) : (s.setOut v).saf = s.saf := rfl
@[simp] theorem State.setOut_twin (s : State) (v : List Out) : (s.setOut v).twin = s.twin := rfl
@[simp] theorem State.setOut_trust (s : State) (v : List Out) : (s.setOut v).trust = s.trust := rfl
@[simp] theorem State.setOut_hist (s : State) (v : List Out) : (s.setOut v).hist = s.hist := rfl
@[simp] theorem State.setOut_ffr (s : State) (v : List Out) : (s.setOut v).ffr = s.ffr := rfl
@[simp] theorem State.setOut_host (s : State) (v : List Out) : (s.setOut v).host = s.host := rfl
@[simp] theorem State.setOut_jrn (s : State) (v : List Out) : (s.setOut v).jrn = s.jrn := rfl
@[simp] theorem State.setOut_ptp (s : State) (v : List Out) : (s.setOut v).ptp = s.ptp := rfl
@[simp] theorem State.setOut_can (s : State) (v : List Out) : (s.setOut v).can = s.can := rfl
@[simp] theorem State.setOut_hk (s : State) (v : List Out) : (s.setOut v).hk = s.hk := rfl
@[simp] theorem State.setOut_ctr (s : State) (v : List Out) : (s.setOut v).ctr = s.ctr := rfl
@[simp] theorem State.setOut_ctrSat (s : State) (v : List Out) : (s.setOut v).ctrSat = s.ctrSat := rfl
@[simp] theorem State.setOut_jctr (s : State) (v : List Out) : (s.setOut v).jctr = s.jctr := rfl
@[simp] theorem State.setOut_upd (s : State) (v : List Out) : (s.setOut v).upd = s.upd := rfl
@[simp] theorem State.setOut_io (s : State) (v : List Out) : (s.setOut v).io = s.io := rfl
@[simp] theorem State.setOut_scan (s : State) (v : List Out) : (s.setOut v).scan = s.scan := rfl
@[simp] theorem State.setOut_pwr (s : State) (v : List Out) : (s.setOut v).pwr = s.pwr := rfl
@[simp] theorem State.setOut_thm (s : State) (v : List Out) : (s.setOut v).thm = s.thm := rfl
@[simp] theorem State.setOut_hw (s : State) (v : List Out) : (s.setOut v).hw = s.hw := rfl
@[simp] theorem State.setOut_free (s : State) (v : List Out) : (s.setOut v).free = s.free := rfl
@[simp] theorem State.setOut_out (s : State) (v : List Out) : (s.setOut v).out = v := rfl
@[simp] theorem State.setOut_pending (s : State) (v : List Out) : (s.setOut v).pending = s.pending := rfl

@[simp] theorem State.setPending_clk (s : State) (v : List Instr) : (s.setPending v).clk = s.clk := rfl
@[simp] theorem State.setPending_ident (s : State) (v : List Instr) : (s.setPending v).ident = s.ident := rfl
@[simp] theorem State.setPending_img (s : State) (v : List Instr) : (s.setPending v).img = s.img := rfl
@[simp] theorem State.setPending_ring (s : State) (v : List Instr) : (s.setPending v).ring = s.ring := rfl
@[simp] theorem State.setPending_sense (s : State) (v : List Instr) : (s.setPending v).sense = s.sense := rfl
@[simp] theorem State.setPending_sweep (s : State) (v : List Instr) : (s.setPending v).sweep = s.sweep := rfl
@[simp] theorem State.setPending_str (s : State) (v : List Instr) : (s.setPending v).str = s.str := rfl
@[simp] theorem State.setPending_rc (s : State) (v : List Instr) : (s.setPending v).rc = s.rc := rfl
@[simp] theorem State.setPending_bank (s : State) (v : List Instr) : (s.setPending v).bank = s.bank := rfl
@[simp] theorem State.setPending_est (s : State) (v : List Instr) : (s.setPending v).est = s.est := rfl
@[simp] theorem State.setPending_saf (s : State) (v : List Instr) : (s.setPending v).saf = s.saf := rfl
@[simp] theorem State.setPending_twin (s : State) (v : List Instr) : (s.setPending v).twin = s.twin := rfl
@[simp] theorem State.setPending_trust (s : State) (v : List Instr) : (s.setPending v).trust = s.trust := rfl
@[simp] theorem State.setPending_hist (s : State) (v : List Instr) : (s.setPending v).hist = s.hist := rfl
@[simp] theorem State.setPending_ffr (s : State) (v : List Instr) : (s.setPending v).ffr = s.ffr := rfl
@[simp] theorem State.setPending_host (s : State) (v : List Instr) : (s.setPending v).host = s.host := rfl
@[simp] theorem State.setPending_jrn (s : State) (v : List Instr) : (s.setPending v).jrn = s.jrn := rfl
@[simp] theorem State.setPending_ptp (s : State) (v : List Instr) : (s.setPending v).ptp = s.ptp := rfl
@[simp] theorem State.setPending_can (s : State) (v : List Instr) : (s.setPending v).can = s.can := rfl
@[simp] theorem State.setPending_hk (s : State) (v : List Instr) : (s.setPending v).hk = s.hk := rfl
@[simp] theorem State.setPending_ctr (s : State) (v : List Instr) : (s.setPending v).ctr = s.ctr := rfl
@[simp] theorem State.setPending_ctrSat (s : State) (v : List Instr) : (s.setPending v).ctrSat = s.ctrSat := rfl
@[simp] theorem State.setPending_jctr (s : State) (v : List Instr) : (s.setPending v).jctr = s.jctr := rfl
@[simp] theorem State.setPending_upd (s : State) (v : List Instr) : (s.setPending v).upd = s.upd := rfl
@[simp] theorem State.setPending_io (s : State) (v : List Instr) : (s.setPending v).io = s.io := rfl
@[simp] theorem State.setPending_scan (s : State) (v : List Instr) : (s.setPending v).scan = s.scan := rfl
@[simp] theorem State.setPending_pwr (s : State) (v : List Instr) : (s.setPending v).pwr = s.pwr := rfl
@[simp] theorem State.setPending_thm (s : State) (v : List Instr) : (s.setPending v).thm = s.thm := rfl
@[simp] theorem State.setPending_hw (s : State) (v : List Instr) : (s.setPending v).hw = s.hw := rfl
@[simp] theorem State.setPending_free (s : State) (v : List Instr) : (s.setPending v).free = s.free := rfl
@[simp] theorem State.setPending_out (s : State) (v : List Instr) : (s.setPending v).out = s.out := rfl
@[simp] theorem State.setPending_pending (s : State) (v : List Instr) : (s.setPending v).pending = v := rfl

end Sys2Proof.Machine
end

