-- ==== Sys2Proof/Laws/Frame.lean ====
section
/-! SUPPORT. What each shared operation leaves alone, field by field. -/

namespace Sys2Proof.Machine

/-- A view of the state that every round of `forEach` keeps is kept by all of them. -/
theorem State.forEach_keeps {α β : Type} (v : State → β) (l : List α) (f : α → State → State) (s : State)
    (h : ∀ a s, v (f a s) = v s) : v (State.forEach l f s) = v s := by
  unfold State.forEach
  induction l generalizing s with
  | nil => rfl
  | cons a t ih => simp [ih, h]

@[simp] theorem State.tick_clk (s : State) : (s.tick).clk = s.clk := rfl
@[simp] theorem State.tick_ident (s : State) : (s.tick).ident = s.ident := rfl
@[simp] theorem State.tick_img (s : State) : (s.tick).img = s.img := rfl
@[simp] theorem State.tick_ring (s : State) : (s.tick).ring = s.ring := rfl
@[simp] theorem State.tick_sense (s : State) : (s.tick).sense = s.sense := rfl
@[simp] theorem State.tick_sweep (s : State) : (s.tick).sweep = s.sweep := rfl
@[simp] theorem State.tick_str (s : State) : (s.tick).str = s.str := rfl
@[simp] theorem State.tick_rc (s : State) : (s.tick).rc = s.rc := rfl
@[simp] theorem State.tick_bank (s : State) : (s.tick).bank = s.bank := rfl
@[simp] theorem State.tick_est (s : State) : (s.tick).est = s.est := rfl
@[simp] theorem State.tick_saf (s : State) : (s.tick).saf = s.saf := rfl
@[simp] theorem State.tick_twin (s : State) : (s.tick).twin = s.twin := rfl
@[simp] theorem State.tick_trust (s : State) : (s.tick).trust = s.trust := rfl
@[simp] theorem State.tick_hist (s : State) : (s.tick).hist = s.hist := rfl
@[simp] theorem State.tick_ffr (s : State) : (s.tick).ffr = s.ffr := rfl
@[simp] theorem State.tick_host (s : State) : (s.tick).host = s.host := rfl
@[simp] theorem State.tick_jrn (s : State) : (s.tick).jrn = s.jrn := rfl
@[simp] theorem State.tick_ptp (s : State) : (s.tick).ptp = s.ptp := rfl
@[simp] theorem State.tick_can (s : State) : (s.tick).can = s.can := rfl
@[simp] theorem State.tick_hk (s : State) : (s.tick).hk = s.hk := rfl
@[simp] theorem State.tick_ctr (s : State) : (s.tick).ctr = s.ctr := rfl
@[simp] theorem State.tick_ctrSat (s : State) : (s.tick).ctrSat = s.ctrSat := rfl
@[simp] theorem State.tick_jctr (s : State) : (s.tick).jctr = s.jctr := rfl
@[simp] theorem State.tick_upd (s : State) : (s.tick).upd = s.upd := rfl
@[simp] theorem State.tick_io (s : State) : (s.tick).io = s.io := rfl
@[simp] theorem State.tick_scan (s : State) : (s.tick).scan = s.scan := rfl
@[simp] theorem State.tick_pwr (s : State) : (s.tick).pwr = s.pwr := rfl
@[simp] theorem State.tick_thm (s : State) : (s.tick).thm = s.thm := rfl
@[simp] theorem State.tick_hw (s : State) : (s.tick).hw = s.hw := rfl
@[simp] theorem State.tick_out (s : State) : (s.tick).out = s.out := rfl
@[simp] theorem State.tick_pending (s : State) : (s.tick).pending = s.pending := rfl

@[simp] theorem State.atCycle_ident (n : Nat) (s : State) : (s.atCycle n).ident = s.ident := by unfold State.atCycle; split <;> rfl
@[simp] theorem State.atCycle_img (n : Nat) (s : State) : (s.atCycle n).img = s.img := by unfold State.atCycle; split <;> rfl
@[simp] theorem State.atCycle_ring (n : Nat) (s : State) : (s.atCycle n).ring = s.ring := by unfold State.atCycle; split <;> rfl
@[simp] theorem State.atCycle_sense (n : Nat) (s : State) : (s.atCycle n).sense = s.sense := by unfold State.atCycle; split <;> rfl
@[simp] theorem State.atCycle_sweep (n : Nat) (s : State) : (s.atCycle n).sweep = s.sweep := by unfold State.atCycle; split <;> rfl
@[simp] theorem State.atCycle_str (n : Nat) (s : State) : (s.atCycle n).str = s.str := by unfold State.atCycle; split <;> rfl
@[simp] theorem State.atCycle_rc (n : Nat) (s : State) : (s.atCycle n).rc = s.rc := by unfold State.atCycle; split <;> rfl
@[simp] theorem State.atCycle_bank (n : Nat) (s : State) : (s.atCycle n).bank = s.bank := by unfold State.atCycle; split <;> rfl
@[simp] theorem State.atCycle_est (n : Nat) (s : State) : (s.atCycle n).est = s.est := by unfold State.atCycle; split <;> rfl
@[simp] theorem State.atCycle_saf (n : Nat) (s : State) : (s.atCycle n).saf = s.saf := by unfold State.atCycle; split <;> rfl
@[simp] theorem State.atCycle_twin (n : Nat) (s : State) : (s.atCycle n).twin = s.twin := by unfold State.atCycle; split <;> rfl
@[simp] theorem State.atCycle_trust (n : Nat) (s : State) : (s.atCycle n).trust = s.trust := by unfold State.atCycle; split <;> rfl
@[simp] theorem State.atCycle_hist (n : Nat) (s : State) : (s.atCycle n).hist = s.hist := by unfold State.atCycle; split <;> rfl
@[simp] theorem State.atCycle_ffr (n : Nat) (s : State) : (s.atCycle n).ffr = s.ffr := by unfold State.atCycle; split <;> rfl
@[simp] theorem State.atCycle_host (n : Nat) (s : State) : (s.atCycle n).host = s.host := by unfold State.atCycle; split <;> rfl
@[simp] theorem State.atCycle_jrn (n : Nat) (s : State) : (s.atCycle n).jrn = s.jrn := by unfold State.atCycle; split <;> rfl
@[simp] theorem State.atCycle_ptp (n : Nat) (s : State) : (s.atCycle n).ptp = s.ptp := by unfold State.atCycle; split <;> rfl
@[simp] theorem State.atCycle_can (n : Nat) (s : State) : (s.atCycle n).can = s.can := by unfold State.atCycle; split <;> rfl
@[simp] theorem State.atCycle_hk (n : Nat) (s : State) : (s.atCycle n).hk = s.hk := by unfold State.atCycle; split <;> rfl
@[simp] theorem State.atCycle_ctr (n : Nat) (s : State) : (s.atCycle n).ctr = s.ctr := by unfold State.atCycle; split <;> rfl
@[simp] theorem State.atCycle_ctrSat (n : Nat) (s : State) : (s.atCycle n).ctrSat = s.ctrSat := by unfold State.atCycle; split <;> rfl
@[simp] theorem State.atCycle_jctr (n : Nat) (s : State) : (s.atCycle n).jctr = s.jctr := by unfold State.atCycle; split <;> rfl
@[simp] theorem State.atCycle_upd (n : Nat) (s : State) : (s.atCycle n).upd = s.upd := by unfold State.atCycle; split <;> rfl
@[simp] theorem State.atCycle_io (n : Nat) (s : State) : (s.atCycle n).io = s.io := by unfold State.atCycle; split <;> rfl
@[simp] theorem State.atCycle_scan (n : Nat) (s : State) : (s.atCycle n).scan = s.scan := by unfold State.atCycle; split <;> rfl
@[simp] theorem State.atCycle_pwr (n : Nat) (s : State) : (s.atCycle n).pwr = s.pwr := by unfold State.atCycle; split <;> rfl
@[simp] theorem State.atCycle_thm (n : Nat) (s : State) : (s.atCycle n).thm = s.thm := by unfold State.atCycle; split <;> rfl
@[simp] theorem State.atCycle_hw (n : Nat) (s : State) : (s.atCycle n).hw = s.hw := by unfold State.atCycle; split <;> rfl
@[simp] theorem State.atCycle_free (n : Nat) (s : State) : (s.atCycle n).free = s.free := by unfold State.atCycle; split <;> rfl
@[simp] theorem State.atCycle_out (n : Nat) (s : State) : (s.atCycle n).out = s.out := by unfold State.atCycle; split <;> rfl
@[simp] theorem State.atCycle_pending (n : Nat) (s : State) : (s.atCycle n).pending = s.pending := by unfold State.atCycle; split <;> rfl

@[simp] theorem State.send_clk (c : OutChan) (n : Nat) (w : String) (a : List Int) (s : State) : (s.send c n w a).clk = s.clk := rfl
@[simp] theorem State.send_ident (c : OutChan) (n : Nat) (w : String) (a : List Int) (s : State) : (s.send c n w a).ident = s.ident := rfl
@[simp] theorem State.send_img (c : OutChan) (n : Nat) (w : String) (a : List Int) (s : State) : (s.send c n w a).img = s.img := rfl
@[simp] theorem State.send_ring (c : OutChan) (n : Nat) (w : String) (a : List Int) (s : State) : (s.send c n w a).ring = s.ring := rfl
@[simp] theorem State.send_sense (c : OutChan) (n : Nat) (w : String) (a : List Int) (s : State) : (s.send c n w a).sense = s.sense := rfl
@[simp] theorem State.send_sweep (c : OutChan) (n : Nat) (w : String) (a : List Int) (s : State) : (s.send c n w a).sweep = s.sweep := rfl
@[simp] theorem State.send_str (c : OutChan) (n : Nat) (w : String) (a : List Int) (s : State) : (s.send c n w a).str = s.str := rfl
@[simp] theorem State.send_rc (c : OutChan) (n : Nat) (w : String) (a : List Int) (s : State) : (s.send c n w a).rc = s.rc := rfl
@[simp] theorem State.send_bank (c : OutChan) (n : Nat) (w : String) (a : List Int) (s : State) : (s.send c n w a).bank = s.bank := rfl
@[simp] theorem State.send_est (c : OutChan) (n : Nat) (w : String) (a : List Int) (s : State) : (s.send c n w a).est = s.est := rfl
@[simp] theorem State.send_saf (c : OutChan) (n : Nat) (w : String) (a : List Int) (s : State) : (s.send c n w a).saf = s.saf := rfl
@[simp] theorem State.send_twin (c : OutChan) (n : Nat) (w : String) (a : List Int) (s : State) : (s.send c n w a).twin = s.twin := rfl
@[simp] theorem State.send_trust (c : OutChan) (n : Nat) (w : String) (a : List Int) (s : State) : (s.send c n w a).trust = s.trust := rfl
@[simp] theorem State.send_hist (c : OutChan) (n : Nat) (w : String) (a : List Int) (s : State) : (s.send c n w a).hist = s.hist := rfl
@[simp] theorem State.send_ffr (c : OutChan) (n : Nat) (w : String) (a : List Int) (s : State) : (s.send c n w a).ffr = s.ffr := rfl
@[simp] theorem State.send_host (c : OutChan) (n : Nat) (w : String) (a : List Int) (s : State) : (s.send c n w a).host = s.host := rfl
@[simp] theorem State.send_jrn (c : OutChan) (n : Nat) (w : String) (a : List Int) (s : State) : (s.send c n w a).jrn = s.jrn := rfl
@[simp] theorem State.send_ptp (c : OutChan) (n : Nat) (w : String) (a : List Int) (s : State) : (s.send c n w a).ptp = s.ptp := rfl
@[simp] theorem State.send_can (c : OutChan) (n : Nat) (w : String) (a : List Int) (s : State) : (s.send c n w a).can = s.can := rfl
@[simp] theorem State.send_hk (c : OutChan) (n : Nat) (w : String) (a : List Int) (s : State) : (s.send c n w a).hk = s.hk := rfl
@[simp] theorem State.send_ctr (c : OutChan) (n : Nat) (w : String) (a : List Int) (s : State) : (s.send c n w a).ctr = s.ctr := rfl
@[simp] theorem State.send_ctrSat (c : OutChan) (n : Nat) (w : String) (a : List Int) (s : State) : (s.send c n w a).ctrSat = s.ctrSat := rfl
@[simp] theorem State.send_jctr (c : OutChan) (n : Nat) (w : String) (a : List Int) (s : State) : (s.send c n w a).jctr = s.jctr := rfl
@[simp] theorem State.send_upd (c : OutChan) (n : Nat) (w : String) (a : List Int) (s : State) : (s.send c n w a).upd = s.upd := rfl
@[simp] theorem State.send_io (c : OutChan) (n : Nat) (w : String) (a : List Int) (s : State) : (s.send c n w a).io = s.io := rfl
@[simp] theorem State.send_scan (c : OutChan) (n : Nat) (w : String) (a : List Int) (s : State) : (s.send c n w a).scan = s.scan := rfl
@[simp] theorem State.send_pwr (c : OutChan) (n : Nat) (w : String) (a : List Int) (s : State) : (s.send c n w a).pwr = s.pwr := rfl
@[simp] theorem State.send_thm (c : OutChan) (n : Nat) (w : String) (a : List Int) (s : State) : (s.send c n w a).thm = s.thm := rfl
@[simp] theorem State.send_hw (c : OutChan) (n : Nat) (w : String) (a : List Int) (s : State) : (s.send c n w a).hw = s.hw := rfl
@[simp] theorem State.send_free (c : OutChan) (n : Nat) (w : String) (a : List Int) (s : State) : (s.send c n w a).free = s.free := rfl
@[simp] theorem State.send_pending (c : OutChan) (n : Nat) (w : String) (a : List Int) (s : State) : (s.send c n w a).pending = s.pending := rfl

@[simp] theorem State.stamped_ident (n : Nat) (s : State) : (s.stamped n).ident = s.ident := rfl
@[simp] theorem State.stamped_img (n : Nat) (s : State) : (s.stamped n).img = s.img := rfl
@[simp] theorem State.stamped_ring (n : Nat) (s : State) : (s.stamped n).ring = s.ring := rfl
@[simp] theorem State.stamped_sense (n : Nat) (s : State) : (s.stamped n).sense = s.sense := rfl
@[simp] theorem State.stamped_sweep (n : Nat) (s : State) : (s.stamped n).sweep = s.sweep := rfl
@[simp] theorem State.stamped_str (n : Nat) (s : State) : (s.stamped n).str = s.str := rfl
@[simp] theorem State.stamped_rc (n : Nat) (s : State) : (s.stamped n).rc = s.rc := rfl
@[simp] theorem State.stamped_bank (n : Nat) (s : State) : (s.stamped n).bank = s.bank := rfl
@[simp] theorem State.stamped_est (n : Nat) (s : State) : (s.stamped n).est = s.est := rfl
@[simp] theorem State.stamped_saf (n : Nat) (s : State) : (s.stamped n).saf = s.saf := rfl
@[simp] theorem State.stamped_twin (n : Nat) (s : State) : (s.stamped n).twin = s.twin := rfl
@[simp] theorem State.stamped_trust (n : Nat) (s : State) : (s.stamped n).trust = s.trust := rfl
@[simp] theorem State.stamped_hist (n : Nat) (s : State) : (s.stamped n).hist = s.hist := rfl
@[simp] theorem State.stamped_ffr (n : Nat) (s : State) : (s.stamped n).ffr = s.ffr := rfl
@[simp] theorem State.stamped_host (n : Nat) (s : State) : (s.stamped n).host = s.host := rfl
@[simp] theorem State.stamped_jrn (n : Nat) (s : State) : (s.stamped n).jrn = s.jrn := rfl
@[simp] theorem State.stamped_ptp (n : Nat) (s : State) : (s.stamped n).ptp = s.ptp := rfl
@[simp] theorem State.stamped_can (n : Nat) (s : State) : (s.stamped n).can = s.can := rfl
@[simp] theorem State.stamped_hk (n : Nat) (s : State) : (s.stamped n).hk = s.hk := rfl
@[simp] theorem State.stamped_ctr (n : Nat) (s : State) : (s.stamped n).ctr = s.ctr := rfl
@[simp] theorem State.stamped_ctrSat (n : Nat) (s : State) : (s.stamped n).ctrSat = s.ctrSat := rfl
@[simp] theorem State.stamped_jctr (n : Nat) (s : State) : (s.stamped n).jctr = s.jctr := rfl
@[simp] theorem State.stamped_upd (n : Nat) (s : State) : (s.stamped n).upd = s.upd := rfl
@[simp] theorem State.stamped_io (n : Nat) (s : State) : (s.stamped n).io = s.io := rfl
@[simp] theorem State.stamped_scan (n : Nat) (s : State) : (s.stamped n).scan = s.scan := rfl
@[simp] theorem State.stamped_pwr (n : Nat) (s : State) : (s.stamped n).pwr = s.pwr := rfl
@[simp] theorem State.stamped_thm (n : Nat) (s : State) : (s.stamped n).thm = s.thm := rfl
@[simp] theorem State.stamped_hw (n : Nat) (s : State) : (s.stamped n).hw = s.hw := rfl
@[simp] theorem State.stamped_free (n : Nat) (s : State) : (s.stamped n).free = s.free := rfl
@[simp] theorem State.stamped_out (n : Nat) (s : State) : (s.stamped n).out = s.out := rfl
@[simp] theorem State.stamped_pending (n : Nat) (s : State) : (s.stamped n).pending = s.pending := rfl

@[simp] theorem State.countOnly_clk (a : Nat) (s : State) : (s.countOnly a).clk = s.clk := by simp [State.countOnly]
@[simp] theorem State.countOnly_ident (a : Nat) (s : State) : (s.countOnly a).ident = s.ident := by simp [State.countOnly]
@[simp] theorem State.countOnly_img (a : Nat) (s : State) : (s.countOnly a).img = s.img := by simp [State.countOnly]
@[simp] theorem State.countOnly_ring (a : Nat) (s : State) : (s.countOnly a).ring = s.ring := by simp [State.countOnly]
@[simp] theorem State.countOnly_sense (a : Nat) (s : State) : (s.countOnly a).sense = s.sense := by simp [State.countOnly]
@[simp] theorem State.countOnly_sweep (a : Nat) (s : State) : (s.countOnly a).sweep = s.sweep := by simp [State.countOnly]
@[simp] theorem State.countOnly_str (a : Nat) (s : State) : (s.countOnly a).str = s.str := by simp [State.countOnly]
@[simp] theorem State.countOnly_rc (a : Nat) (s : State) : (s.countOnly a).rc = s.rc := by simp [State.countOnly]
@[simp] theorem State.countOnly_bank (a : Nat) (s : State) : (s.countOnly a).bank = s.bank := by simp [State.countOnly]
@[simp] theorem State.countOnly_est (a : Nat) (s : State) : (s.countOnly a).est = s.est := by simp [State.countOnly]
@[simp] theorem State.countOnly_saf (a : Nat) (s : State) : (s.countOnly a).saf = s.saf := by simp [State.countOnly]
@[simp] theorem State.countOnly_twin (a : Nat) (s : State) : (s.countOnly a).twin = s.twin := by simp [State.countOnly]
@[simp] theorem State.countOnly_trust (a : Nat) (s : State) : (s.countOnly a).trust = s.trust := by simp [State.countOnly]
@[simp] theorem State.countOnly_hist (a : Nat) (s : State) : (s.countOnly a).hist = s.hist := by simp [State.countOnly]
@[simp] theorem State.countOnly_ffr (a : Nat) (s : State) : (s.countOnly a).ffr = s.ffr := by simp [State.countOnly]
@[simp] theorem State.countOnly_host (a : Nat) (s : State) : (s.countOnly a).host = s.host := by simp [State.countOnly]
@[simp] theorem State.countOnly_jrn (a : Nat) (s : State) : (s.countOnly a).jrn = s.jrn := by simp [State.countOnly]
@[simp] theorem State.countOnly_ptp (a : Nat) (s : State) : (s.countOnly a).ptp = s.ptp := by simp [State.countOnly]
@[simp] theorem State.countOnly_can (a : Nat) (s : State) : (s.countOnly a).can = s.can := by simp [State.countOnly]
@[simp] theorem State.countOnly_hk (a : Nat) (s : State) : (s.countOnly a).hk = s.hk := by simp [State.countOnly]
@[simp] theorem State.countOnly_ctrSat (a : Nat) (s : State) : (s.countOnly a).ctrSat = s.ctrSat := by simp [State.countOnly]
@[simp] theorem State.countOnly_jctr (a : Nat) (s : State) : (s.countOnly a).jctr = s.jctr := by simp [State.countOnly]
@[simp] theorem State.countOnly_upd (a : Nat) (s : State) : (s.countOnly a).upd = s.upd := by simp [State.countOnly]
@[simp] theorem State.countOnly_io (a : Nat) (s : State) : (s.countOnly a).io = s.io := by simp [State.countOnly]
@[simp] theorem State.countOnly_scan (a : Nat) (s : State) : (s.countOnly a).scan = s.scan := by simp [State.countOnly]
@[simp] theorem State.countOnly_pwr (a : Nat) (s : State) : (s.countOnly a).pwr = s.pwr := by simp [State.countOnly]
@[simp] theorem State.countOnly_thm (a : Nat) (s : State) : (s.countOnly a).thm = s.thm := by simp [State.countOnly]
@[simp] theorem State.countOnly_hw (a : Nat) (s : State) : (s.countOnly a).hw = s.hw := by simp [State.countOnly]
@[simp] theorem State.countOnly_free (a : Nat) (s : State) : (s.countOnly a).free = s.free := by simp [State.countOnly]
@[simp] theorem State.countOnly_out (a : Nat) (s : State) : (s.countOnly a).out = s.out := by simp [State.countOnly]
@[simp] theorem State.countOnly_pending (a : Nat) (s : State) : (s.countOnly a).pending = s.pending := by simp [State.countOnly]

@[simp] theorem State.dropEvent_clk (e : Event) (s : State) : (s.dropEvent e).clk = s.clk := rfl
@[simp] theorem State.dropEvent_ident (e : Event) (s : State) : (s.dropEvent e).ident = s.ident := rfl
@[simp] theorem State.dropEvent_img (e : Event) (s : State) : (s.dropEvent e).img = s.img := rfl
@[simp] theorem State.dropEvent_ring (e : Event) (s : State) : (s.dropEvent e).ring = s.ring := rfl
@[simp] theorem State.dropEvent_sense (e : Event) (s : State) : (s.dropEvent e).sense = s.sense := rfl
@[simp] theorem State.dropEvent_sweep (e : Event) (s : State) : (s.dropEvent e).sweep = s.sweep := rfl
@[simp] theorem State.dropEvent_str (e : Event) (s : State) : (s.dropEvent e).str = s.str := rfl
@[simp] theorem State.dropEvent_rc (e : Event) (s : State) : (s.dropEvent e).rc = s.rc := rfl
@[simp] theorem State.dropEvent_bank (e : Event) (s : State) : (s.dropEvent e).bank = s.bank := rfl
@[simp] theorem State.dropEvent_est (e : Event) (s : State) : (s.dropEvent e).est = s.est := rfl
@[simp] theorem State.dropEvent_saf (e : Event) (s : State) : (s.dropEvent e).saf = s.saf := rfl
@[simp] theorem State.dropEvent_twin (e : Event) (s : State) : (s.dropEvent e).twin = s.twin := rfl
@[simp] theorem State.dropEvent_trust (e : Event) (s : State) : (s.dropEvent e).trust = s.trust := rfl
@[simp] theorem State.dropEvent_hist (e : Event) (s : State) : (s.dropEvent e).hist = s.hist := rfl
@[simp] theorem State.dropEvent_host (e : Event) (s : State) : (s.dropEvent e).host = s.host := rfl
@[simp] theorem State.dropEvent_jrn (e : Event) (s : State) : (s.dropEvent e).jrn = s.jrn := rfl
@[simp] theorem State.dropEvent_ptp (e : Event) (s : State) : (s.dropEvent e).ptp = s.ptp := rfl
@[simp] theorem State.dropEvent_can (e : Event) (s : State) : (s.dropEvent e).can = s.can := rfl
@[simp] theorem State.dropEvent_hk (e : Event) (s : State) : (s.dropEvent e).hk = s.hk := rfl
@[simp] theorem State.dropEvent_ctr (e : Event) (s : State) : (s.dropEvent e).ctr = s.ctr := rfl
@[simp] theorem State.dropEvent_ctrSat (e : Event) (s : State) : (s.dropEvent e).ctrSat = s.ctrSat := rfl
@[simp] theorem State.dropEvent_jctr (e : Event) (s : State) : (s.dropEvent e).jctr = s.jctr := rfl
@[simp] theorem State.dropEvent_upd (e : Event) (s : State) : (s.dropEvent e).upd = s.upd := rfl
@[simp] theorem State.dropEvent_io (e : Event) (s : State) : (s.dropEvent e).io = s.io := rfl
@[simp] theorem State.dropEvent_scan (e : Event) (s : State) : (s.dropEvent e).scan = s.scan := rfl
@[simp] theorem State.dropEvent_pwr (e : Event) (s : State) : (s.dropEvent e).pwr = s.pwr := rfl
@[simp] theorem State.dropEvent_thm (e : Event) (s : State) : (s.dropEvent e).thm = s.thm := rfl
@[simp] theorem State.dropEvent_hw (e : Event) (s : State) : (s.dropEvent e).hw = s.hw := rfl
@[simp] theorem State.dropEvent_free (e : Event) (s : State) : (s.dropEvent e).free = s.free := rfl
@[simp] theorem State.dropEvent_out (e : Event) (s : State) : (s.dropEvent e).out = s.out := rfl
@[simp] theorem State.dropEvent_pending (e : Event) (s : State) : (s.dropEvent e).pending = s.pending := rfl

@[simp] theorem State.deliver_clk (e : Event) (s : State) : (s.deliver e).clk = s.clk := by unfold State.deliver; split <;> rfl
@[simp] theorem State.deliver_ident (e : Event) (s : State) : (s.deliver e).ident = s.ident := by unfold State.deliver; split <;> rfl
@[simp] theorem State.deliver_img (e : Event) (s : State) : (s.deliver e).img = s.img := by unfold State.deliver; split <;> rfl
@[simp] theorem State.deliver_ring (e : Event) (s : State) : (s.deliver e).ring = s.ring := by unfold State.deliver; split <;> rfl
@[simp] theorem State.deliver_sense (e : Event) (s : State) : (s.deliver e).sense = s.sense := by unfold State.deliver; split <;> rfl
@[simp] theorem State.deliver_sweep (e : Event) (s : State) : (s.deliver e).sweep = s.sweep := by unfold State.deliver; split <;> rfl
@[simp] theorem State.deliver_str (e : Event) (s : State) : (s.deliver e).str = s.str := by unfold State.deliver; split <;> rfl
@[simp] theorem State.deliver_rc (e : Event) (s : State) : (s.deliver e).rc = s.rc := by unfold State.deliver; split <;> rfl
@[simp] theorem State.deliver_bank (e : Event) (s : State) : (s.deliver e).bank = s.bank := by unfold State.deliver; split <;> rfl
@[simp] theorem State.deliver_est (e : Event) (s : State) : (s.deliver e).est = s.est := by unfold State.deliver; split <;> rfl
@[simp] theorem State.deliver_saf (e : Event) (s : State) : (s.deliver e).saf = s.saf := by unfold State.deliver; split <;> rfl
@[simp] theorem State.deliver_twin (e : Event) (s : State) : (s.deliver e).twin = s.twin := by unfold State.deliver; split <;> rfl
@[simp] theorem State.deliver_trust (e : Event) (s : State) : (s.deliver e).trust = s.trust := by unfold State.deliver; split <;> rfl
@[simp] theorem State.deliver_hist (e : Event) (s : State) : (s.deliver e).hist = s.hist := by unfold State.deliver; split <;> rfl
@[simp] theorem State.deliver_host (e : Event) (s : State) : (s.deliver e).host = s.host := by unfold State.deliver; split <;> rfl
@[simp] theorem State.deliver_jrn (e : Event) (s : State) : (s.deliver e).jrn = s.jrn := by unfold State.deliver; split <;> rfl
@[simp] theorem State.deliver_ptp (e : Event) (s : State) : (s.deliver e).ptp = s.ptp := by unfold State.deliver; split <;> rfl
@[simp] theorem State.deliver_can (e : Event) (s : State) : (s.deliver e).can = s.can := by unfold State.deliver; split <;> rfl
@[simp] theorem State.deliver_hk (e : Event) (s : State) : (s.deliver e).hk = s.hk := by unfold State.deliver; split <;> rfl
@[simp] theorem State.deliver_ctrSat (e : Event) (s : State) : (s.deliver e).ctrSat = s.ctrSat := by unfold State.deliver; split <;> rfl
@[simp] theorem State.deliver_jctr (e : Event) (s : State) : (s.deliver e).jctr = s.jctr := by unfold State.deliver; split <;> rfl
@[simp] theorem State.deliver_upd (e : Event) (s : State) : (s.deliver e).upd = s.upd := by unfold State.deliver; split <;> rfl
@[simp] theorem State.deliver_io (e : Event) (s : State) : (s.deliver e).io = s.io := by unfold State.deliver; split <;> rfl
@[simp] theorem State.deliver_scan (e : Event) (s : State) : (s.deliver e).scan = s.scan := by unfold State.deliver; split <;> rfl
@[simp] theorem State.deliver_pwr (e : Event) (s : State) : (s.deliver e).pwr = s.pwr := by unfold State.deliver; split <;> rfl
@[simp] theorem State.deliver_thm (e : Event) (s : State) : (s.deliver e).thm = s.thm := by unfold State.deliver; split <;> rfl
@[simp] theorem State.deliver_hw (e : Event) (s : State) : (s.deliver e).hw = s.hw := by unfold State.deliver; split <;> rfl
@[simp] theorem State.deliver_free (e : Event) (s : State) : (s.deliver e).free = s.free := by unfold State.deliver; split <;> rfl
@[simp] theorem State.deliver_out (e : Event) (s : State) : (s.deliver e).out = s.out := by unfold State.deliver; split <;> rfl
@[simp] theorem State.deliver_pending (e : Event) (s : State) : (s.deliver e).pending = s.pending := by unfold State.deliver; split <;> rfl

@[simp] theorem State.emit_ident (c n : Nat) (b : List Int) (s : State) : (s.emit c n b).ident = s.ident := by simp [State.emit]
@[simp] theorem State.emit_img (c n : Nat) (b : List Int) (s : State) : (s.emit c n b).img = s.img := by simp [State.emit]
@[simp] theorem State.emit_ring (c n : Nat) (b : List Int) (s : State) : (s.emit c n b).ring = s.ring := by simp [State.emit]
@[simp] theorem State.emit_sense (c n : Nat) (b : List Int) (s : State) : (s.emit c n b).sense = s.sense := by simp [State.emit]
@[simp] theorem State.emit_sweep (c n : Nat) (b : List Int) (s : State) : (s.emit c n b).sweep = s.sweep := by simp [State.emit]
@[simp] theorem State.emit_str (c n : Nat) (b : List Int) (s : State) : (s.emit c n b).str = s.str := by simp [State.emit]
@[simp] theorem State.emit_rc (c n : Nat) (b : List Int) (s : State) : (s.emit c n b).rc = s.rc := by simp [State.emit]
@[simp] theorem State.emit_bank (c n : Nat) (b : List Int) (s : State) : (s.emit c n b).bank = s.bank := by simp [State.emit]
@[simp] theorem State.emit_est (c n : Nat) (b : List Int) (s : State) : (s.emit c n b).est = s.est := by simp [State.emit]
@[simp] theorem State.emit_saf (c n : Nat) (b : List Int) (s : State) : (s.emit c n b).saf = s.saf := by simp [State.emit]
@[simp] theorem State.emit_twin (c n : Nat) (b : List Int) (s : State) : (s.emit c n b).twin = s.twin := by simp [State.emit]
@[simp] theorem State.emit_trust (c n : Nat) (b : List Int) (s : State) : (s.emit c n b).trust = s.trust := by simp [State.emit]
@[simp] theorem State.emit_hist (c n : Nat) (b : List Int) (s : State) : (s.emit c n b).hist = s.hist := by simp [State.emit]
@[simp] theorem State.emit_host (c n : Nat) (b : List Int) (s : State) : (s.emit c n b).host = s.host := by simp [State.emit]
@[simp] theorem State.emit_jrn (c n : Nat) (b : List Int) (s : State) : (s.emit c n b).jrn = s.jrn := by simp [State.emit]
@[simp] theorem State.emit_ptp (c n : Nat) (b : List Int) (s : State) : (s.emit c n b).ptp = s.ptp := by simp [State.emit]
@[simp] theorem State.emit_can (c n : Nat) (b : List Int) (s : State) : (s.emit c n b).can = s.can := by simp [State.emit]
@[simp] theorem State.emit_hk (c n : Nat) (b : List Int) (s : State) : (s.emit c n b).hk = s.hk := by simp [State.emit]
@[simp] theorem State.emit_ctrSat (c n : Nat) (b : List Int) (s : State) : (s.emit c n b).ctrSat = s.ctrSat := by simp [State.emit]
@[simp] theorem State.emit_jctr (c n : Nat) (b : List Int) (s : State) : (s.emit c n b).jctr = s.jctr := by simp [State.emit]
@[simp] theorem State.emit_upd (c n : Nat) (b : List Int) (s : State) : (s.emit c n b).upd = s.upd := by simp [State.emit]
@[simp] theorem State.emit_io (c n : Nat) (b : List Int) (s : State) : (s.emit c n b).io = s.io := by simp [State.emit]
@[simp] theorem State.emit_scan (c n : Nat) (b : List Int) (s : State) : (s.emit c n b).scan = s.scan := by simp [State.emit]
@[simp] theorem State.emit_pwr (c n : Nat) (b : List Int) (s : State) : (s.emit c n b).pwr = s.pwr := by simp [State.emit]
@[simp] theorem State.emit_thm (c n : Nat) (b : List Int) (s : State) : (s.emit c n b).thm = s.thm := by simp [State.emit]
@[simp] theorem State.emit_hw (c n : Nat) (b : List Int) (s : State) : (s.emit c n b).hw = s.hw := by simp [State.emit]
@[simp] theorem State.emit_free (c n : Nat) (b : List Int) (s : State) : (s.emit c n b).free = s.free := by simp [State.emit]
@[simp] theorem State.emit_out (c n : Nat) (b : List Int) (s : State) : (s.emit c n b).out = s.out := by simp [State.emit]
@[simp] theorem State.emit_pending (c n : Nat) (b : List Int) (s : State) : (s.emit c n b).pending = s.pending := by simp [State.emit]

@[simp] theorem State.noteSaturated_ident (a : Nat) (s : State) : (s.noteSaturated a).ident = s.ident := by unfold State.noteSaturated; split <;> simp
@[simp] theorem State.noteSaturated_img (a : Nat) (s : State) : (s.noteSaturated a).img = s.img := by unfold State.noteSaturated; split <;> simp
@[simp] theorem State.noteSaturated_ring (a : Nat) (s : State) : (s.noteSaturated a).ring = s.ring := by unfold State.noteSaturated; split <;> simp
@[simp] theorem State.noteSaturated_sense (a : Nat) (s : State) : (s.noteSaturated a).sense = s.sense := by unfold State.noteSaturated; split <;> simp
@[simp] theorem State.noteSaturated_sweep (a : Nat) (s : State) : (s.noteSaturated a).sweep = s.sweep := by unfold State.noteSaturated; split <;> simp
@[simp] theorem State.noteSaturated_str (a : Nat) (s : State) : (s.noteSaturated a).str = s.str := by unfold State.noteSaturated; split <;> simp
@[simp] theorem State.noteSaturated_rc (a : Nat) (s : State) : (s.noteSaturated a).rc = s.rc := by unfold State.noteSaturated; split <;> simp
@[simp] theorem State.noteSaturated_bank (a : Nat) (s : State) : (s.noteSaturated a).bank = s.bank := by unfold State.noteSaturated; split <;> simp
@[simp] theorem State.noteSaturated_est (a : Nat) (s : State) : (s.noteSaturated a).est = s.est := by unfold State.noteSaturated; split <;> simp
@[simp] theorem State.noteSaturated_saf (a : Nat) (s : State) : (s.noteSaturated a).saf = s.saf := by unfold State.noteSaturated; split <;> simp
@[simp] theorem State.noteSaturated_twin (a : Nat) (s : State) : (s.noteSaturated a).twin = s.twin := by unfold State.noteSaturated; split <;> simp
@[simp] theorem State.noteSaturated_trust (a : Nat) (s : State) : (s.noteSaturated a).trust = s.trust := by unfold State.noteSaturated; split <;> simp
@[simp] theorem State.noteSaturated_hist (a : Nat) (s : State) : (s.noteSaturated a).hist = s.hist := by unfold State.noteSaturated; split <;> simp
@[simp] theorem State.noteSaturated_host (a : Nat) (s : State) : (s.noteSaturated a).host = s.host := by unfold State.noteSaturated; split <;> simp
@[simp] theorem State.noteSaturated_jrn (a : Nat) (s : State) : (s.noteSaturated a).jrn = s.jrn := by unfold State.noteSaturated; split <;> simp
@[simp] theorem State.noteSaturated_ptp (a : Nat) (s : State) : (s.noteSaturated a).ptp = s.ptp := by unfold State.noteSaturated; split <;> simp
@[simp] theorem State.noteSaturated_can (a : Nat) (s : State) : (s.noteSaturated a).can = s.can := by unfold State.noteSaturated; split <;> simp
@[simp] theorem State.noteSaturated_hk (a : Nat) (s : State) : (s.noteSaturated a).hk = s.hk := by unfold State.noteSaturated; split <;> simp
@[simp] theorem State.noteSaturated_jctr (a : Nat) (s : State) : (s.noteSaturated a).jctr = s.jctr := by unfold State.noteSaturated; split <;> simp
@[simp] theorem State.noteSaturated_upd (a : Nat) (s : State) : (s.noteSaturated a).upd = s.upd := by unfold State.noteSaturated; split <;> simp
@[simp] theorem State.noteSaturated_io (a : Nat) (s : State) : (s.noteSaturated a).io = s.io := by unfold State.noteSaturated; split <;> simp
@[simp] theorem State.noteSaturated_scan (a : Nat) (s : State) : (s.noteSaturated a).scan = s.scan := by unfold State.noteSaturated; split <;> simp
@[simp] theorem State.noteSaturated_pwr (a : Nat) (s : State) : (s.noteSaturated a).pwr = s.pwr := by unfold State.noteSaturated; split <;> simp
@[simp] theorem State.noteSaturated_thm (a : Nat) (s : State) : (s.noteSaturated a).thm = s.thm := by unfold State.noteSaturated; split <;> simp
@[simp] theorem State.noteSaturated_hw (a : Nat) (s : State) : (s.noteSaturated a).hw = s.hw := by unfold State.noteSaturated; split <;> simp
@[simp] theorem State.noteSaturated_free (a : Nat) (s : State) : (s.noteSaturated a).free = s.free := by unfold State.noteSaturated; split <;> simp
@[simp] theorem State.noteSaturated_out (a : Nat) (s : State) : (s.noteSaturated a).out = s.out := by unfold State.noteSaturated; split <;> simp
@[simp] theorem State.noteSaturated_pending (a : Nat) (s : State) : (s.noteSaturated a).pending = s.pending := by unfold State.noteSaturated; split <;> simp

@[simp] theorem State.bump_ident (a : Nat) (s : State) : (s.bump a).ident = s.ident := by simp [State.bump]
@[simp] theorem State.bump_img (a : Nat) (s : State) : (s.bump a).img = s.img := by simp [State.bump]
@[simp] theorem State.bump_ring (a : Nat) (s : State) : (s.bump a).ring = s.ring := by simp [State.bump]
@[simp] theorem State.bump_sense (a : Nat) (s : State) : (s.bump a).sense = s.sense := by simp [State.bump]
@[simp] theorem State.bump_sweep (a : Nat) (s : State) : (s.bump a).sweep = s.sweep := by simp [State.bump]
@[simp] theorem State.bump_str (a : Nat) (s : State) : (s.bump a).str = s.str := by simp [State.bump]
@[simp] theorem State.bump_rc (a : Nat) (s : State) : (s.bump a).rc = s.rc := by simp [State.bump]
@[simp] theorem State.bump_bank (a : Nat) (s : State) : (s.bump a).bank = s.bank := by simp [State.bump]
@[simp] theorem State.bump_est (a : Nat) (s : State) : (s.bump a).est = s.est := by simp [State.bump]
@[simp] theorem State.bump_saf (a : Nat) (s : State) : (s.bump a).saf = s.saf := by simp [State.bump]
@[simp] theorem State.bump_twin (a : Nat) (s : State) : (s.bump a).twin = s.twin := by simp [State.bump]
@[simp] theorem State.bump_trust (a : Nat) (s : State) : (s.bump a).trust = s.trust := by simp [State.bump]
@[simp] theorem State.bump_hist (a : Nat) (s : State) : (s.bump a).hist = s.hist := by simp [State.bump]
@[simp] theorem State.bump_host (a : Nat) (s : State) : (s.bump a).host = s.host := by simp [State.bump]
@[simp] theorem State.bump_jrn (a : Nat) (s : State) : (s.bump a).jrn = s.jrn := by simp [State.bump]
@[simp] theorem State.bump_ptp (a : Nat) (s : State) : (s.bump a).ptp = s.ptp := by simp [State.bump]
@[simp] theorem State.bump_can (a : Nat) (s : State) : (s.bump a).can = s.can := by simp [State.bump]
@[simp] theorem State.bump_hk (a : Nat) (s : State) : (s.bump a).hk = s.hk := by simp [State.bump]
@[simp] theorem State.bump_jctr (a : Nat) (s : State) : (s.bump a).jctr = s.jctr := by simp [State.bump]
@[simp] theorem State.bump_upd (a : Nat) (s : State) : (s.bump a).upd = s.upd := by simp [State.bump]
@[simp] theorem State.bump_io (a : Nat) (s : State) : (s.bump a).io = s.io := by simp [State.bump]
@[simp] theorem State.bump_scan (a : Nat) (s : State) : (s.bump a).scan = s.scan := by simp [State.bump]
@[simp] theorem State.bump_pwr (a : Nat) (s : State) : (s.bump a).pwr = s.pwr := by simp [State.bump]
@[simp] theorem State.bump_thm (a : Nat) (s : State) : (s.bump a).thm = s.thm := by simp [State.bump]
@[simp] theorem State.bump_hw (a : Nat) (s : State) : (s.bump a).hw = s.hw := by simp [State.bump]
@[simp] theorem State.bump_free (a : Nat) (s : State) : (s.bump a).free = s.free := by simp [State.bump]
@[simp] theorem State.bump_out (a : Nat) (s : State) : (s.bump a).out = s.out := by simp [State.bump]
@[simp] theorem State.bump_pending (a : Nat) (s : State) : (s.bump a).pending = s.pending := by simp [State.bump]

@[simp] theorem State.bumpBy_ident (a n : Nat) (s : State) : (s.bumpBy a n).ident = s.ident := by simp [State.bumpBy]
@[simp] theorem State.bumpBy_img (a n : Nat) (s : State) : (s.bumpBy a n).img = s.img := by simp [State.bumpBy]
@[simp] theorem State.bumpBy_ring (a n : Nat) (s : State) : (s.bumpBy a n).ring = s.ring := by simp [State.bumpBy]
@[simp] theorem State.bumpBy_sense (a n : Nat) (s : State) : (s.bumpBy a n).sense = s.sense := by simp [State.bumpBy]
@[simp] theorem State.bumpBy_sweep (a n : Nat) (s : State) : (s.bumpBy a n).sweep = s.sweep := by simp [State.bumpBy]
@[simp] theorem State.bumpBy_str (a n : Nat) (s : State) : (s.bumpBy a n).str = s.str := by simp [State.bumpBy]
@[simp] theorem State.bumpBy_rc (a n : Nat) (s : State) : (s.bumpBy a n).rc = s.rc := by simp [State.bumpBy]
@[simp] theorem State.bumpBy_bank (a n : Nat) (s : State) : (s.bumpBy a n).bank = s.bank := by simp [State.bumpBy]
@[simp] theorem State.bumpBy_est (a n : Nat) (s : State) : (s.bumpBy a n).est = s.est := by simp [State.bumpBy]
@[simp] theorem State.bumpBy_saf (a n : Nat) (s : State) : (s.bumpBy a n).saf = s.saf := by simp [State.bumpBy]
@[simp] theorem State.bumpBy_twin (a n : Nat) (s : State) : (s.bumpBy a n).twin = s.twin := by simp [State.bumpBy]
@[simp] theorem State.bumpBy_trust (a n : Nat) (s : State) : (s.bumpBy a n).trust = s.trust := by simp [State.bumpBy]
@[simp] theorem State.bumpBy_hist (a n : Nat) (s : State) : (s.bumpBy a n).hist = s.hist := by simp [State.bumpBy]
@[simp] theorem State.bumpBy_host (a n : Nat) (s : State) : (s.bumpBy a n).host = s.host := by simp [State.bumpBy]
@[simp] theorem State.bumpBy_jrn (a n : Nat) (s : State) : (s.bumpBy a n).jrn = s.jrn := by simp [State.bumpBy]
@[simp] theorem State.bumpBy_ptp (a n : Nat) (s : State) : (s.bumpBy a n).ptp = s.ptp := by simp [State.bumpBy]
@[simp] theorem State.bumpBy_can (a n : Nat) (s : State) : (s.bumpBy a n).can = s.can := by simp [State.bumpBy]
@[simp] theorem State.bumpBy_hk (a n : Nat) (s : State) : (s.bumpBy a n).hk = s.hk := by simp [State.bumpBy]
@[simp] theorem State.bumpBy_jctr (a n : Nat) (s : State) : (s.bumpBy a n).jctr = s.jctr := by simp [State.bumpBy]
@[simp] theorem State.bumpBy_upd (a n : Nat) (s : State) : (s.bumpBy a n).upd = s.upd := by simp [State.bumpBy]
@[simp] theorem State.bumpBy_io (a n : Nat) (s : State) : (s.bumpBy a n).io = s.io := by simp [State.bumpBy]
@[simp] theorem State.bumpBy_scan (a n : Nat) (s : State) : (s.bumpBy a n).scan = s.scan := by simp [State.bumpBy]
@[simp] theorem State.bumpBy_pwr (a n : Nat) (s : State) : (s.bumpBy a n).pwr = s.pwr := by simp [State.bumpBy]
@[simp] theorem State.bumpBy_thm (a n : Nat) (s : State) : (s.bumpBy a n).thm = s.thm := by simp [State.bumpBy]
@[simp] theorem State.bumpBy_hw (a n : Nat) (s : State) : (s.bumpBy a n).hw = s.hw := by simp [State.bumpBy]
@[simp] theorem State.bumpBy_free (a n : Nat) (s : State) : (s.bumpBy a n).free = s.free := by simp [State.bumpBy]
@[simp] theorem State.bumpBy_out (a n : Nat) (s : State) : (s.bumpBy a n).out = s.out := by simp [State.bumpBy]
@[simp] theorem State.bumpBy_pending (a n : Nat) (s : State) : (s.bumpBy a n).pending = s.pending := by simp [State.bumpBy]

@[simp] theorem State.modSession_clk (n : Nat) (f : Session → Session) (s : State) : (s.modSession n f).clk = s.clk := rfl
@[simp] theorem State.modSession_ident (n : Nat) (f : Session → Session) (s : State) : (s.modSession n f).ident = s.ident := rfl
@[simp] theorem State.modSession_img (n : Nat) (f : Session → Session) (s : State) : (s.modSession n f).img = s.img := rfl
@[simp] theorem State.modSession_ring (n : Nat) (f : Session → Session) (s : State) : (s.modSession n f).ring = s.ring := rfl
@[simp] theorem State.modSession_sense (n : Nat) (f : Session → Session) (s : State) : (s.modSession n f).sense = s.sense := rfl
@[simp] theorem State.modSession_sweep (n : Nat) (f : Session → Session) (s : State) : (s.modSession n f).sweep = s.sweep := rfl
@[simp] theorem State.modSession_str (n : Nat) (f : Session → Session) (s : State) : (s.modSession n f).str = s.str := rfl
@[simp] theorem State.modSession_rc (n : Nat) (f : Session → Session) (s : State) : (s.modSession n f).rc = s.rc := rfl
@[simp] theorem State.modSession_bank (n : Nat) (f : Session → Session) (s : State) : (s.modSession n f).bank = s.bank := rfl
@[simp] theorem State.modSession_est (n : Nat) (f : Session → Session) (s : State) : (s.modSession n f).est = s.est := rfl
@[simp] theorem State.modSession_saf (n : Nat) (f : Session → Session) (s : State) : (s.modSession n f).saf = s.saf := rfl
@[simp] theorem State.modSession_twin (n : Nat) (f : Session → Session) (s : State) : (s.modSession n f).twin = s.twin := rfl
@[simp] theorem State.modSession_trust (n : Nat) (f : Session → Session) (s : State) : (s.modSession n f).trust = s.trust := rfl
@[simp] theorem State.modSession_hist (n : Nat) (f : Session → Session) (s : State) : (s.modSession n f).hist = s.hist := rfl
@[simp] theorem State.modSession_ffr (n : Nat) (f : Session → Session) (s : State) : (s.modSession n f).ffr = s.ffr := rfl
@[simp] theorem State.modSession_jrn (n : Nat) (f : Session → Session) (s : State) : (s.modSession n f).jrn = s.jrn := rfl
@[simp] theorem State.modSession_ptp (n : Nat) (f : Session → Session) (s : State) : (s.modSession n f).ptp = s.ptp := rfl
@[simp] theorem State.modSession_can (n : Nat) (f : Session → Session) (s : State) : (s.modSession n f).can = s.can := rfl
@[simp] theorem State.modSession_hk (n : Nat) (f : Session → Session) (s : State) : (s.modSession n f).hk = s.hk := rfl
@[simp] theorem State.modSession_ctr (n : Nat) (f : Session → Session) (s : State) : (s.modSession n f).ctr = s.ctr := rfl
@[simp] theorem State.modSession_ctrSat (n : Nat) (f : Session → Session) (s : State) : (s.modSession n f).ctrSat = s.ctrSat := rfl
@[simp] theorem State.modSession_jctr (n : Nat) (f : Session → Session) (s : State) : (s.modSession n f).jctr = s.jctr := rfl
@[simp] theorem State.modSession_upd (n : Nat) (f : Session → Session) (s : State) : (s.modSession n f).upd = s.upd := rfl
@[simp] theorem State.modSession_io (n : Nat) (f : Session → Session) (s : State) : (s.modSession n f).io = s.io := rfl
@[simp] theorem State.modSession_scan (n : Nat) (f : Session → Session) (s : State) : (s.modSession n f).scan = s.scan := rfl
@[simp] theorem State.modSession_pwr (n : Nat) (f : Session → Session) (s : State) : (s.modSession n f).pwr = s.pwr := rfl
@[simp] theorem State.modSession_thm (n : Nat) (f : Session → Session) (s : State) : (s.modSession n f).thm = s.thm := rfl
@[simp] theorem State.modSession_hw (n : Nat) (f : Session → Session) (s : State) : (s.modSession n f).hw = s.hw := rfl
@[simp] theorem State.modSession_free (n : Nat) (f : Session → Session) (s : State) : (s.modSession n f).free = s.free := rfl
@[simp] theorem State.modSession_out (n : Nat) (f : Session → Session) (s : State) : (s.modSession n f).out = s.out := rfl
@[simp] theorem State.modSession_pending (n : Nat) (f : Session → Session) (s : State) : (s.modSession n f).pending = s.pending := rfl

@[simp] theorem State.sendResp_clk (n : Nat) (r : Resp) (c : Nat) (s : State) : (s.sendResp n r c).clk = s.clk := by unfold State.sendResp; split <;> rfl
@[simp] theorem State.sendResp_ident (n : Nat) (r : Resp) (c : Nat) (s : State) : (s.sendResp n r c).ident = s.ident := by unfold State.sendResp; split <;> rfl
@[simp] theorem State.sendResp_img (n : Nat) (r : Resp) (c : Nat) (s : State) : (s.sendResp n r c).img = s.img := by unfold State.sendResp; split <;> rfl
@[simp] theorem State.sendResp_ring (n : Nat) (r : Resp) (c : Nat) (s : State) : (s.sendResp n r c).ring = s.ring := by unfold State.sendResp; split <;> rfl
@[simp] theorem State.sendResp_sense (n : Nat) (r : Resp) (c : Nat) (s : State) : (s.sendResp n r c).sense = s.sense := by unfold State.sendResp; split <;> rfl
@[simp] theorem State.sendResp_sweep (n : Nat) (r : Resp) (c : Nat) (s : State) : (s.sendResp n r c).sweep = s.sweep := by unfold State.sendResp; split <;> rfl
@[simp] theorem State.sendResp_str (n : Nat) (r : Resp) (c : Nat) (s : State) : (s.sendResp n r c).str = s.str := by unfold State.sendResp; split <;> rfl
@[simp] theorem State.sendResp_rc (n : Nat) (r : Resp) (c : Nat) (s : State) : (s.sendResp n r c).rc = s.rc := by unfold State.sendResp; split <;> rfl
@[simp] theorem State.sendResp_bank (n : Nat) (r : Resp) (c : Nat) (s : State) : (s.sendResp n r c).bank = s.bank := by unfold State.sendResp; split <;> rfl
@[simp] theorem State.sendResp_est (n : Nat) (r : Resp) (c : Nat) (s : State) : (s.sendResp n r c).est = s.est := by unfold State.sendResp; split <;> rfl
@[simp] theorem State.sendResp_saf (n : Nat) (r : Resp) (c : Nat) (s : State) : (s.sendResp n r c).saf = s.saf := by unfold State.sendResp; split <;> rfl
@[simp] theorem State.sendResp_twin (n : Nat) (r : Resp) (c : Nat) (s : State) : (s.sendResp n r c).twin = s.twin := by unfold State.sendResp; split <;> rfl
@[simp] theorem State.sendResp_trust (n : Nat) (r : Resp) (c : Nat) (s : State) : (s.sendResp n r c).trust = s.trust := by unfold State.sendResp; split <;> rfl
@[simp] theorem State.sendResp_hist (n : Nat) (r : Resp) (c : Nat) (s : State) : (s.sendResp n r c).hist = s.hist := by unfold State.sendResp; split <;> rfl
@[simp] theorem State.sendResp_ffr (n : Nat) (r : Resp) (c : Nat) (s : State) : (s.sendResp n r c).ffr = s.ffr := by unfold State.sendResp; split <;> rfl
@[simp] theorem State.sendResp_host (n : Nat) (r : Resp) (c : Nat) (s : State) : (s.sendResp n r c).host = s.host := by unfold State.sendResp; split <;> rfl
@[simp] theorem State.sendResp_jrn (n : Nat) (r : Resp) (c : Nat) (s : State) : (s.sendResp n r c).jrn = s.jrn := by unfold State.sendResp; split <;> rfl
@[simp] theorem State.sendResp_ptp (n : Nat) (r : Resp) (c : Nat) (s : State) : (s.sendResp n r c).ptp = s.ptp := by unfold State.sendResp; split <;> rfl
@[simp] theorem State.sendResp_can (n : Nat) (r : Resp) (c : Nat) (s : State) : (s.sendResp n r c).can = s.can := by unfold State.sendResp; split <;> rfl
@[simp] theorem State.sendResp_hk (n : Nat) (r : Resp) (c : Nat) (s : State) : (s.sendResp n r c).hk = s.hk := by unfold State.sendResp; split <;> rfl
@[simp] theorem State.sendResp_ctr (n : Nat) (r : Resp) (c : Nat) (s : State) : (s.sendResp n r c).ctr = s.ctr := by unfold State.sendResp; split <;> rfl
@[simp] theorem State.sendResp_ctrSat (n : Nat) (r : Resp) (c : Nat) (s : State) : (s.sendResp n r c).ctrSat = s.ctrSat := by unfold State.sendResp; split <;> rfl
@[simp] theorem State.sendResp_jctr (n : Nat) (r : Resp) (c : Nat) (s : State) : (s.sendResp n r c).jctr = s.jctr := by unfold State.sendResp; split <;> rfl
@[simp] theorem State.sendResp_upd (n : Nat) (r : Resp) (c : Nat) (s : State) : (s.sendResp n r c).upd = s.upd := by unfold State.sendResp; split <;> rfl
@[simp] theorem State.sendResp_io (n : Nat) (r : Resp) (c : Nat) (s : State) : (s.sendResp n r c).io = s.io := by unfold State.sendResp; split <;> rfl
@[simp] theorem State.sendResp_scan (n : Nat) (r : Resp) (c : Nat) (s : State) : (s.sendResp n r c).scan = s.scan := by unfold State.sendResp; split <;> rfl
@[simp] theorem State.sendResp_pwr (n : Nat) (r : Resp) (c : Nat) (s : State) : (s.sendResp n r c).pwr = s.pwr := by unfold State.sendResp; split <;> rfl
@[simp] theorem State.sendResp_thm (n : Nat) (r : Resp) (c : Nat) (s : State) : (s.sendResp n r c).thm = s.thm := by unfold State.sendResp; split <;> rfl
@[simp] theorem State.sendResp_hw (n : Nat) (r : Resp) (c : Nat) (s : State) : (s.sendResp n r c).hw = s.hw := by unfold State.sendResp; split <;> rfl
@[simp] theorem State.sendResp_free (n : Nat) (r : Resp) (c : Nat) (s : State) : (s.sendResp n r c).free = s.free := by unfold State.sendResp; split <;> rfl
@[simp] theorem State.sendResp_pending (n : Nat) (r : Resp) (c : Nat) (s : State) : (s.sendResp n r c).pending = s.pending := by unfold State.sendResp; split <;> rfl

@[simp] theorem State.flushOne_clk (n : Nat) (s : State) : (s.flushOne n).clk = s.clk := by unfold State.flushOne; (repeat' split) <;> simp
@[simp] theorem State.flushOne_ident (n : Nat) (s : State) : (s.flushOne n).ident = s.ident := by unfold State.flushOne; (repeat' split) <;> simp
@[simp] theorem State.flushOne_img (n : Nat) (s : State) : (s.flushOne n).img = s.img := by unfold State.flushOne; (repeat' split) <;> simp
@[simp] theorem State.flushOne_ring (n : Nat) (s : State) : (s.flushOne n).ring = s.ring := by unfold State.flushOne; (repeat' split) <;> simp
@[simp] theorem State.flushOne_sense (n : Nat) (s : State) : (s.flushOne n).sense = s.sense := by unfold State.flushOne; (repeat' split) <;> simp
@[simp] theorem State.flushOne_sweep (n : Nat) (s : State) : (s.flushOne n).sweep = s.sweep := by unfold State.flushOne; (repeat' split) <;> simp
@[simp] theorem State.flushOne_str (n : Nat) (s : State) : (s.flushOne n).str = s.str := by unfold State.flushOne; (repeat' split) <;> simp
@[simp] theorem State.flushOne_rc (n : Nat) (s : State) : (s.flushOne n).rc = s.rc := by unfold State.flushOne; (repeat' split) <;> simp
@[simp] theorem State.flushOne_bank (n : Nat) (s : State) : (s.flushOne n).bank = s.bank := by unfold State.flushOne; (repeat' split) <;> simp
@[simp] theorem State.flushOne_est (n : Nat) (s : State) : (s.flushOne n).est = s.est := by unfold State.flushOne; (repeat' split) <;> simp
@[simp] theorem State.flushOne_saf (n : Nat) (s : State) : (s.flushOne n).saf = s.saf := by unfold State.flushOne; (repeat' split) <;> simp
@[simp] theorem State.flushOne_twin (n : Nat) (s : State) : (s.flushOne n).twin = s.twin := by unfold State.flushOne; (repeat' split) <;> simp
@[simp] theorem State.flushOne_trust (n : Nat) (s : State) : (s.flushOne n).trust = s.trust := by unfold State.flushOne; (repeat' split) <;> simp
@[simp] theorem State.flushOne_hist (n : Nat) (s : State) : (s.flushOne n).hist = s.hist := by unfold State.flushOne; (repeat' split) <;> simp
@[simp] theorem State.flushOne_ffr (n : Nat) (s : State) : (s.flushOne n).ffr = s.ffr := by unfold State.flushOne; (repeat' split) <;> simp
@[simp] theorem State.flushOne_jrn (n : Nat) (s : State) : (s.flushOne n).jrn = s.jrn := by unfold State.flushOne; (repeat' split) <;> simp
@[simp] theorem State.flushOne_ptp (n : Nat) (s : State) : (s.flushOne n).ptp = s.ptp := by unfold State.flushOne; (repeat' split) <;> simp
@[simp] theorem State.flushOne_can (n : Nat) (s : State) : (s.flushOne n).can = s.can := by unfold State.flushOne; (repeat' split) <;> simp
@[simp] theorem State.flushOne_hk (n : Nat) (s : State) : (s.flushOne n).hk = s.hk := by unfold State.flushOne; (repeat' split) <;> simp
@[simp] theorem State.flushOne_ctr (n : Nat) (s : State) : (s.flushOne n).ctr = s.ctr := by unfold State.flushOne; (repeat' split) <;> simp
@[simp] theorem State.flushOne_ctrSat (n : Nat) (s : State) : (s.flushOne n).ctrSat = s.ctrSat := by unfold State.flushOne; (repeat' split) <;> simp
@[simp] theorem State.flushOne_jctr (n : Nat) (s : State) : (s.flushOne n).jctr = s.jctr := by unfold State.flushOne; (repeat' split) <;> simp
@[simp] theorem State.flushOne_upd (n : Nat) (s : State) : (s.flushOne n).upd = s.upd := by unfold State.flushOne; (repeat' split) <;> simp
@[simp] theorem State.flushOne_io (n : Nat) (s : State) : (s.flushOne n).io = s.io := by unfold State.flushOne; (repeat' split) <;> simp
@[simp] theorem State.flushOne_scan (n : Nat) (s : State) : (s.flushOne n).scan = s.scan := by unfold State.flushOne; (repeat' split) <;> simp
@[simp] theorem State.flushOne_pwr (n : Nat) (s : State) : (s.flushOne n).pwr = s.pwr := by unfold State.flushOne; (repeat' split) <;> simp
@[simp] theorem State.flushOne_thm (n : Nat) (s : State) : (s.flushOne n).thm = s.thm := by unfold State.flushOne; (repeat' split) <;> simp
@[simp] theorem State.flushOne_hw (n : Nat) (s : State) : (s.flushOne n).hw = s.hw := by unfold State.flushOne; (repeat' split) <;> simp
@[simp] theorem State.flushOne_free (n : Nat) (s : State) : (s.flushOne n).free = s.free := by unfold State.flushOne; (repeat' split) <;> simp
@[simp] theorem State.flushOne_pending (n : Nat) (s : State) : (s.flushOne n).pending = s.pending := by unfold State.flushOne; (repeat' split) <;> simp

@[simp] theorem State.flush_clk (n k : Nat) (s : State) : (s.flush n k).clk = s.clk := by induction k generalizing s with
  | zero => rfl
  | succ k ih => simp [State.flush, ih]
@[simp] theorem State.flush_ident (n k : Nat) (s : State) : (s.flush n k).ident = s.ident := by induction k generalizing s with
  | zero => rfl
  | succ k ih => simp [State.flush, ih]
@[simp] theorem State.flush_img (n k : Nat) (s : State) : (s.flush n k).img = s.img := by induction k generalizing s with
  | zero => rfl
  | succ k ih => simp [State.flush, ih]
@[simp] theorem State.flush_ring (n k : Nat) (s : State) : (s.flush n k).ring = s.ring := by induction k generalizing s with
  | zero => rfl
  | succ k ih => simp [State.flush, ih]
@[simp] theorem State.flush_sense (n k : Nat) (s : State) : (s.flush n k).sense = s.sense := by induction k generalizing s with
  | zero => rfl
  | succ k ih => simp [State.flush, ih]
@[simp] theorem State.flush_sweep (n k : Nat) (s : State) : (s.flush n k).sweep = s.sweep := by induction k generalizing s with
  | zero => rfl
  | succ k ih => simp [State.flush, ih]
@[simp] theorem State.flush_str (n k : Nat) (s : State) : (s.flush n k).str = s.str := by induction k generalizing s with
  | zero => rfl
  | succ k ih => simp [State.flush, ih]
@[simp] theorem State.flush_rc (n k : Nat) (s : State) : (s.flush n k).rc = s.rc := by induction k generalizing s with
  | zero => rfl
  | succ k ih => simp [State.flush, ih]
@[simp] theorem State.flush_bank (n k : Nat) (s : State) : (s.flush n k).bank = s.bank := by induction k generalizing s with
  | zero => rfl
  | succ k ih => simp [State.flush, ih]
@[simp] theorem State.flush_est (n k : Nat) (s : State) : (s.flush n k).est = s.est := by induction k generalizing s with
  | zero => rfl
  | succ k ih => simp [State.flush, ih]
@[simp] theorem State.flush_saf (n k : Nat) (s : State) : (s.flush n k).saf = s.saf := by induction k generalizing s with
  | zero => rfl
  | succ k ih => simp [State.flush, ih]
@[simp] theorem State.flush_twin (n k : Nat) (s : State) : (s.flush n k).twin = s.twin := by induction k generalizing s with
  | zero => rfl
  | succ k ih => simp [State.flush, ih]
@[simp] theorem State.flush_trust (n k : Nat) (s : State) : (s.flush n k).trust = s.trust := by induction k generalizing s with
  | zero => rfl
  | succ k ih => simp [State.flush, ih]
@[simp] theorem State.flush_hist (n k : Nat) (s : State) : (s.flush n k).hist = s.hist := by induction k generalizing s with
  | zero => rfl
  | succ k ih => simp [State.flush, ih]
@[simp] theorem State.flush_ffr (n k : Nat) (s : State) : (s.flush n k).ffr = s.ffr := by induction k generalizing s with
  | zero => rfl
  | succ k ih => simp [State.flush, ih]
@[simp] theorem State.flush_jrn (n k : Nat) (s : State) : (s.flush n k).jrn = s.jrn := by induction k generalizing s with
  | zero => rfl
  | succ k ih => simp [State.flush, ih]
@[simp] theorem State.flush_ptp (n k : Nat) (s : State) : (s.flush n k).ptp = s.ptp := by induction k generalizing s with
  | zero => rfl
  | succ k ih => simp [State.flush, ih]
@[simp] theorem State.flush_can (n k : Nat) (s : State) : (s.flush n k).can = s.can := by induction k generalizing s with
  | zero => rfl
  | succ k ih => simp [State.flush, ih]
@[simp] theorem State.flush_hk (n k : Nat) (s : State) : (s.flush n k).hk = s.hk := by induction k generalizing s with
  | zero => rfl
  | succ k ih => simp [State.flush, ih]
@[simp] theorem State.flush_ctr (n k : Nat) (s : State) : (s.flush n k).ctr = s.ctr := by induction k generalizing s with
  | zero => rfl
  | succ k ih => simp [State.flush, ih]
@[simp] theorem State.flush_ctrSat (n k : Nat) (s : State) : (s.flush n k).ctrSat = s.ctrSat := by induction k generalizing s with
  | zero => rfl
  | succ k ih => simp [State.flush, ih]
@[simp] theorem State.flush_jctr (n k : Nat) (s : State) : (s.flush n k).jctr = s.jctr := by induction k generalizing s with
  | zero => rfl
  | succ k ih => simp [State.flush, ih]
@[simp] theorem State.flush_upd (n k : Nat) (s : State) : (s.flush n k).upd = s.upd := by induction k generalizing s with
  | zero => rfl
  | succ k ih => simp [State.flush, ih]
@[simp] theorem State.flush_io (n k : Nat) (s : State) : (s.flush n k).io = s.io := by induction k generalizing s with
  | zero => rfl
  | succ k ih => simp [State.flush, ih]
@[simp] theorem State.flush_scan (n k : Nat) (s : State) : (s.flush n k).scan = s.scan := by induction k generalizing s with
  | zero => rfl
  | succ k ih => simp [State.flush, ih]
@[simp] theorem State.flush_pwr (n k : Nat) (s : State) : (s.flush n k).pwr = s.pwr := by induction k generalizing s with
  | zero => rfl
  | succ k ih => simp [State.flush, ih]
@[simp] theorem State.flush_thm (n k : Nat) (s : State) : (s.flush n k).thm = s.thm := by induction k generalizing s with
  | zero => rfl
  | succ k ih => simp [State.flush, ih]
@[simp] theorem State.flush_hw (n k : Nat) (s : State) : (s.flush n k).hw = s.hw := by induction k generalizing s with
  | zero => rfl
  | succ k ih => simp [State.flush, ih]
@[simp] theorem State.flush_free (n k : Nat) (s : State) : (s.flush n k).free = s.free := by induction k generalizing s with
  | zero => rfl
  | succ k ih => simp [State.flush, ih]
@[simp] theorem State.flush_pending (n k : Nat) (s : State) : (s.flush n k).pending = s.pending := by induction k generalizing s with
  | zero => rfl
  | succ k ih => simp [State.flush, ih]

@[simp] theorem State.sendBytes_clk (c : OutChan) (n : Nat) (w : String) (b : List Byte) (s : State) : (s.sendBytes c n w b).clk = s.clk := rfl
@[simp] theorem State.sendBytes_ident (c : OutChan) (n : Nat) (w : String) (b : List Byte) (s : State) : (s.sendBytes c n w b).ident = s.ident := rfl
@[simp] theorem State.sendBytes_img (c : OutChan) (n : Nat) (w : String) (b : List Byte) (s : State) : (s.sendBytes c n w b).img = s.img := rfl
@[simp] theorem State.sendBytes_ring (c : OutChan) (n : Nat) (w : String) (b : List Byte) (s : State) : (s.sendBytes c n w b).ring = s.ring := rfl
@[simp] theorem State.sendBytes_sense (c : OutChan) (n : Nat) (w : String) (b : List Byte) (s : State) : (s.sendBytes c n w b).sense = s.sense := rfl
@[simp] theorem State.sendBytes_sweep (c : OutChan) (n : Nat) (w : String) (b : List Byte) (s : State) : (s.sendBytes c n w b).sweep = s.sweep := rfl
@[simp] theorem State.sendBytes_str (c : OutChan) (n : Nat) (w : String) (b : List Byte) (s : State) : (s.sendBytes c n w b).str = s.str := rfl
@[simp] theorem State.sendBytes_rc (c : OutChan) (n : Nat) (w : String) (b : List Byte) (s : State) : (s.sendBytes c n w b).rc = s.rc := rfl
@[simp] theorem State.sendBytes_bank (c : OutChan) (n : Nat) (w : String) (b : List Byte) (s : State) : (s.sendBytes c n w b).bank = s.bank := rfl
@[simp] theorem State.sendBytes_est (c : OutChan) (n : Nat) (w : String) (b : List Byte) (s : State) : (s.sendBytes c n w b).est = s.est := rfl
@[simp] theorem State.sendBytes_saf (c : OutChan) (n : Nat) (w : String) (b : List Byte) (s : State) : (s.sendBytes c n w b).saf = s.saf := rfl
@[simp] theorem State.sendBytes_twin (c : OutChan) (n : Nat) (w : String) (b : List Byte) (s : State) : (s.sendBytes c n w b).twin = s.twin := rfl
@[simp] theorem State.sendBytes_trust (c : OutChan) (n : Nat) (w : String) (b : List Byte) (s : State) : (s.sendBytes c n w b).trust = s.trust := rfl
@[simp] theorem State.sendBytes_hist (c : OutChan) (n : Nat) (w : String) (b : List Byte) (s : State) : (s.sendBytes c n w b).hist = s.hist := rfl
@[simp] theorem State.sendBytes_ffr (c : OutChan) (n : Nat) (w : String) (b : List Byte) (s : State) : (s.sendBytes c n w b).ffr = s.ffr := rfl
@[simp] theorem State.sendBytes_host (c : OutChan) (n : Nat) (w : String) (b : List Byte) (s : State) : (s.sendBytes c n w b).host = s.host := rfl
@[simp] theorem State.sendBytes_jrn (c : OutChan) (n : Nat) (w : String) (b : List Byte) (s : State) : (s.sendBytes c n w b).jrn = s.jrn := rfl
@[simp] theorem State.sendBytes_ptp (c : OutChan) (n : Nat) (w : String) (b : List Byte) (s : State) : (s.sendBytes c n w b).ptp = s.ptp := rfl
@[simp] theorem State.sendBytes_can (c : OutChan) (n : Nat) (w : String) (b : List Byte) (s : State) : (s.sendBytes c n w b).can = s.can := rfl
@[simp] theorem State.sendBytes_hk (c : OutChan) (n : Nat) (w : String) (b : List Byte) (s : State) : (s.sendBytes c n w b).hk = s.hk := rfl
@[simp] theorem State.sendBytes_ctr (c : OutChan) (n : Nat) (w : String) (b : List Byte) (s : State) : (s.sendBytes c n w b).ctr = s.ctr := rfl
@[simp] theorem State.sendBytes_ctrSat (c : OutChan) (n : Nat) (w : String) (b : List Byte) (s : State) : (s.sendBytes c n w b).ctrSat = s.ctrSat := rfl
@[simp] theorem State.sendBytes_jctr (c : OutChan) (n : Nat) (w : String) (b : List Byte) (s : State) : (s.sendBytes c n w b).jctr = s.jctr := rfl
@[simp] theorem State.sendBytes_upd (c : OutChan) (n : Nat) (w : String) (b : List Byte) (s : State) : (s.sendBytes c n w b).upd = s.upd := rfl
@[simp] theorem State.sendBytes_io (c : OutChan) (n : Nat) (w : String) (b : List Byte) (s : State) : (s.sendBytes c n w b).io = s.io := rfl
@[simp] theorem State.sendBytes_scan (c : OutChan) (n : Nat) (w : String) (b : List Byte) (s : State) : (s.sendBytes c n w b).scan = s.scan := rfl
@[simp] theorem State.sendBytes_pwr (c : OutChan) (n : Nat) (w : String) (b : List Byte) (s : State) : (s.sendBytes c n w b).pwr = s.pwr := rfl
@[simp] theorem State.sendBytes_thm (c : OutChan) (n : Nat) (w : String) (b : List Byte) (s : State) : (s.sendBytes c n w b).thm = s.thm := rfl
@[simp] theorem State.sendBytes_hw (c : OutChan) (n : Nat) (w : String) (b : List Byte) (s : State) : (s.sendBytes c n w b).hw = s.hw := rfl
@[simp] theorem State.sendBytes_free (c : OutChan) (n : Nat) (w : String) (b : List Byte) (s : State) : (s.sendBytes c n w b).free = s.free := rfl
@[simp] theorem State.sendBytes_pending (c : OutChan) (n : Nat) (w : String) (b : List Byte) (s : State) : (s.sendBytes c n w b).pending = s.pending := rfl

@[simp] theorem State.twinFrame_clk (m : TwinMsg) (w : String) (k : Nat) (b : List Byte) (s : State) : (s.twinFrame m w k b).clk = s.clk := by
  unfold State.twinFrame; split <;> rfl
@[simp] theorem State.twinFrame_ident (m : TwinMsg) (w : String) (k : Nat) (b : List Byte) (s : State) : (s.twinFrame m w k b).ident = s.ident := by
  unfold State.twinFrame; split <;> rfl
@[simp] theorem State.twinFrame_img (m : TwinMsg) (w : String) (k : Nat) (b : List Byte) (s : State) : (s.twinFrame m w k b).img = s.img := by
  unfold State.twinFrame; split <;> rfl
@[simp] theorem State.twinFrame_ring (m : TwinMsg) (w : String) (k : Nat) (b : List Byte) (s : State) : (s.twinFrame m w k b).ring = s.ring := by
  unfold State.twinFrame; split <;> rfl
@[simp] theorem State.twinFrame_sense (m : TwinMsg) (w : String) (k : Nat) (b : List Byte) (s : State) : (s.twinFrame m w k b).sense = s.sense := by
  unfold State.twinFrame; split <;> rfl
@[simp] theorem State.twinFrame_sweep (m : TwinMsg) (w : String) (k : Nat) (b : List Byte) (s : State) : (s.twinFrame m w k b).sweep = s.sweep := by
  unfold State.twinFrame; split <;> rfl
@[simp] theorem State.twinFrame_str (m : TwinMsg) (w : String) (k : Nat) (b : List Byte) (s : State) : (s.twinFrame m w k b).str = s.str := by
  unfold State.twinFrame; split <;> rfl
@[simp] theorem State.twinFrame_rc (m : TwinMsg) (w : String) (k : Nat) (b : List Byte) (s : State) : (s.twinFrame m w k b).rc = s.rc := by
  unfold State.twinFrame; split <;> rfl
@[simp] theorem State.twinFrame_bank (m : TwinMsg) (w : String) (k : Nat) (b : List Byte) (s : State) : (s.twinFrame m w k b).bank = s.bank := by
  unfold State.twinFrame; split <;> rfl
@[simp] theorem State.twinFrame_est (m : TwinMsg) (w : String) (k : Nat) (b : List Byte) (s : State) : (s.twinFrame m w k b).est = s.est := by
  unfold State.twinFrame; split <;> rfl
@[simp] theorem State.twinFrame_saf (m : TwinMsg) (w : String) (k : Nat) (b : List Byte) (s : State) : (s.twinFrame m w k b).saf = s.saf := by
  unfold State.twinFrame; split <;> rfl
@[simp] theorem State.twinFrame_trust (m : TwinMsg) (w : String) (k : Nat) (b : List Byte) (s : State) : (s.twinFrame m w k b).trust = s.trust := by
  unfold State.twinFrame; split <;> rfl
@[simp] theorem State.twinFrame_hist (m : TwinMsg) (w : String) (k : Nat) (b : List Byte) (s : State) : (s.twinFrame m w k b).hist = s.hist := by
  unfold State.twinFrame; split <;> rfl
@[simp] theorem State.twinFrame_ffr (m : TwinMsg) (w : String) (k : Nat) (b : List Byte) (s : State) : (s.twinFrame m w k b).ffr = s.ffr := by
  unfold State.twinFrame; split <;> rfl
@[simp] theorem State.twinFrame_host (m : TwinMsg) (w : String) (k : Nat) (b : List Byte) (s : State) : (s.twinFrame m w k b).host = s.host := by
  unfold State.twinFrame; split <;> rfl
@[simp] theorem State.twinFrame_jrn (m : TwinMsg) (w : String) (k : Nat) (b : List Byte) (s : State) : (s.twinFrame m w k b).jrn = s.jrn := by
  unfold State.twinFrame; split <;> rfl
@[simp] theorem State.twinFrame_ptp (m : TwinMsg) (w : String) (k : Nat) (b : List Byte) (s : State) : (s.twinFrame m w k b).ptp = s.ptp := by
  unfold State.twinFrame; split <;> rfl
@[simp] theorem State.twinFrame_can (m : TwinMsg) (w : String) (k : Nat) (b : List Byte) (s : State) : (s.twinFrame m w k b).can = s.can := by
  unfold State.twinFrame; split <;> rfl
@[simp] theorem State.twinFrame_hk (m : TwinMsg) (w : String) (k : Nat) (b : List Byte) (s : State) : (s.twinFrame m w k b).hk = s.hk := by
  unfold State.twinFrame; split <;> rfl
@[simp] theorem State.twinFrame_ctr (m : TwinMsg) (w : String) (k : Nat) (b : List Byte) (s : State) : (s.twinFrame m w k b).ctr = s.ctr := by
  unfold State.twinFrame; split <;> rfl
@[simp] theorem State.twinFrame_ctrSat (m : TwinMsg) (w : String) (k : Nat) (b : List Byte) (s : State) : (s.twinFrame m w k b).ctrSat = s.ctrSat := by
  unfold State.twinFrame; split <;> rfl
@[simp] theorem State.twinFrame_jctr (m : TwinMsg) (w : String) (k : Nat) (b : List Byte) (s : State) : (s.twinFrame m w k b).jctr = s.jctr := by
  unfold State.twinFrame; split <;> rfl
@[simp] theorem State.twinFrame_upd (m : TwinMsg) (w : String) (k : Nat) (b : List Byte) (s : State) : (s.twinFrame m w k b).upd = s.upd := by
  unfold State.twinFrame; split <;> rfl
@[simp] theorem State.twinFrame_io (m : TwinMsg) (w : String) (k : Nat) (b : List Byte) (s : State) : (s.twinFrame m w k b).io = s.io := by
  unfold State.twinFrame; split <;> rfl
@[simp] theorem State.twinFrame_scan (m : TwinMsg) (w : String) (k : Nat) (b : List Byte) (s : State) : (s.twinFrame m w k b).scan = s.scan := by
  unfold State.twinFrame; split <;> rfl
@[simp] theorem State.twinFrame_pwr (m : TwinMsg) (w : String) (k : Nat) (b : List Byte) (s : State) : (s.twinFrame m w k b).pwr = s.pwr := by
  unfold State.twinFrame; split <;> rfl
@[simp] theorem State.twinFrame_thm (m : TwinMsg) (w : String) (k : Nat) (b : List Byte) (s : State) : (s.twinFrame m w k b).thm = s.thm := by
  unfold State.twinFrame; split <;> rfl
@[simp] theorem State.twinFrame_hw (m : TwinMsg) (w : String) (k : Nat) (b : List Byte) (s : State) : (s.twinFrame m w k b).hw = s.hw := by
  unfold State.twinFrame; split <;> rfl
@[simp] theorem State.twinFrame_free (m : TwinMsg) (w : String) (k : Nat) (b : List Byte) (s : State) : (s.twinFrame m w k b).free = s.free := by
  unfold State.twinFrame; split <;> rfl
@[simp] theorem State.twinFrame_pending (m : TwinMsg) (w : String) (k : Nat) (b : List Byte) (s : State) : (s.twinFrame m w k b).pending = s.pending := by
  unfold State.twinFrame; split <;> rfl

@[simp] theorem State.twinPut_clk (m : TwinMsg) (w : String) (b : List Byte) (s : State) : (s.twinPut m w b).clk = s.clk := State.twinFrame_clk m w _ b s
@[simp] theorem State.twinPut_ident (m : TwinMsg) (w : String) (b : List Byte) (s : State) : (s.twinPut m w b).ident = s.ident := State.twinFrame_ident m w _ b s
@[simp] theorem State.twinPut_img (m : TwinMsg) (w : String) (b : List Byte) (s : State) : (s.twinPut m w b).img = s.img := State.twinFrame_img m w _ b s
@[simp] theorem State.twinPut_ring (m : TwinMsg) (w : String) (b : List Byte) (s : State) : (s.twinPut m w b).ring = s.ring := State.twinFrame_ring m w _ b s
@[simp] theorem State.twinPut_sense (m : TwinMsg) (w : String) (b : List Byte) (s : State) : (s.twinPut m w b).sense = s.sense := State.twinFrame_sense m w _ b s
@[simp] theorem State.twinPut_sweep (m : TwinMsg) (w : String) (b : List Byte) (s : State) : (s.twinPut m w b).sweep = s.sweep := State.twinFrame_sweep m w _ b s
@[simp] theorem State.twinPut_str (m : TwinMsg) (w : String) (b : List Byte) (s : State) : (s.twinPut m w b).str = s.str := State.twinFrame_str m w _ b s
@[simp] theorem State.twinPut_rc (m : TwinMsg) (w : String) (b : List Byte) (s : State) : (s.twinPut m w b).rc = s.rc := State.twinFrame_rc m w _ b s
@[simp] theorem State.twinPut_bank (m : TwinMsg) (w : String) (b : List Byte) (s : State) : (s.twinPut m w b).bank = s.bank := State.twinFrame_bank m w _ b s
@[simp] theorem State.twinPut_est (m : TwinMsg) (w : String) (b : List Byte) (s : State) : (s.twinPut m w b).est = s.est := State.twinFrame_est m w _ b s
@[simp] theorem State.twinPut_saf (m : TwinMsg) (w : String) (b : List Byte) (s : State) : (s.twinPut m w b).saf = s.saf := State.twinFrame_saf m w _ b s
@[simp] theorem State.twinPut_trust (m : TwinMsg) (w : String) (b : List Byte) (s : State) : (s.twinPut m w b).trust = s.trust := State.twinFrame_trust m w _ b s
@[simp] theorem State.twinPut_hist (m : TwinMsg) (w : String) (b : List Byte) (s : State) : (s.twinPut m w b).hist = s.hist := State.twinFrame_hist m w _ b s
@[simp] theorem State.twinPut_ffr (m : TwinMsg) (w : String) (b : List Byte) (s : State) : (s.twinPut m w b).ffr = s.ffr := State.twinFrame_ffr m w _ b s
@[simp] theorem State.twinPut_host (m : TwinMsg) (w : String) (b : List Byte) (s : State) : (s.twinPut m w b).host = s.host := State.twinFrame_host m w _ b s
@[simp] theorem State.twinPut_jrn (m : TwinMsg) (w : String) (b : List Byte) (s : State) : (s.twinPut m w b).jrn = s.jrn := State.twinFrame_jrn m w _ b s
@[simp] theorem State.twinPut_ptp (m : TwinMsg) (w : String) (b : List Byte) (s : State) : (s.twinPut m w b).ptp = s.ptp := State.twinFrame_ptp m w _ b s
@[simp] theorem State.twinPut_can (m : TwinMsg) (w : String) (b : List Byte) (s : State) : (s.twinPut m w b).can = s.can := State.twinFrame_can m w _ b s
@[simp] theorem State.twinPut_hk (m : TwinMsg) (w : String) (b : List Byte) (s : State) : (s.twinPut m w b).hk = s.hk := State.twinFrame_hk m w _ b s
@[simp] theorem State.twinPut_ctr (m : TwinMsg) (w : String) (b : List Byte) (s : State) : (s.twinPut m w b).ctr = s.ctr := State.twinFrame_ctr m w _ b s
@[simp] theorem State.twinPut_ctrSat (m : TwinMsg) (w : String) (b : List Byte) (s : State) : (s.twinPut m w b).ctrSat = s.ctrSat := State.twinFrame_ctrSat m w _ b s
@[simp] theorem State.twinPut_jctr (m : TwinMsg) (w : String) (b : List Byte) (s : State) : (s.twinPut m w b).jctr = s.jctr := State.twinFrame_jctr m w _ b s
@[simp] theorem State.twinPut_upd (m : TwinMsg) (w : String) (b : List Byte) (s : State) : (s.twinPut m w b).upd = s.upd := State.twinFrame_upd m w _ b s
@[simp] theorem State.twinPut_io (m : TwinMsg) (w : String) (b : List Byte) (s : State) : (s.twinPut m w b).io = s.io := State.twinFrame_io m w _ b s
@[simp] theorem State.twinPut_scan (m : TwinMsg) (w : String) (b : List Byte) (s : State) : (s.twinPut m w b).scan = s.scan := State.twinFrame_scan m w _ b s
@[simp] theorem State.twinPut_pwr (m : TwinMsg) (w : String) (b : List Byte) (s : State) : (s.twinPut m w b).pwr = s.pwr := State.twinFrame_pwr m w _ b s
@[simp] theorem State.twinPut_thm (m : TwinMsg) (w : String) (b : List Byte) (s : State) : (s.twinPut m w b).thm = s.thm := State.twinFrame_thm m w _ b s
@[simp] theorem State.twinPut_hw (m : TwinMsg) (w : String) (b : List Byte) (s : State) : (s.twinPut m w b).hw = s.hw := State.twinFrame_hw m w _ b s
@[simp] theorem State.twinPut_free (m : TwinMsg) (w : String) (b : List Byte) (s : State) : (s.twinPut m w b).free = s.free := State.twinFrame_free m w _ b s
@[simp] theorem State.twinPut_pending (m : TwinMsg) (w : String) (b : List Byte) (s : State) : (s.twinPut m w b).pending = s.pending := State.twinFrame_pending m w _ b s

@[simp] theorem State.twinRecord_clk (m : TwinMsg) (w : String) (s : State) : (s.twinRecord m w).clk = s.clk := State.twinPut_clk m w _ s
@[simp] theorem State.twinRecord_ident (m : TwinMsg) (w : String) (s : State) : (s.twinRecord m w).ident = s.ident := State.twinPut_ident m w _ s
@[simp] theorem State.twinRecord_img (m : TwinMsg) (w : String) (s : State) : (s.twinRecord m w).img = s.img := State.twinPut_img m w _ s
@[simp] theorem State.twinRecord_ring (m : TwinMsg) (w : String) (s : State) : (s.twinRecord m w).ring = s.ring := State.twinPut_ring m w _ s
@[simp] theorem State.twinRecord_sense (m : TwinMsg) (w : String) (s : State) : (s.twinRecord m w).sense = s.sense := State.twinPut_sense m w _ s
@[simp] theorem State.twinRecord_sweep (m : TwinMsg) (w : String) (s : State) : (s.twinRecord m w).sweep = s.sweep := State.twinPut_sweep m w _ s
@[simp] theorem State.twinRecord_str (m : TwinMsg) (w : String) (s : State) : (s.twinRecord m w).str = s.str := State.twinPut_str m w _ s
@[simp] theorem State.twinRecord_rc (m : TwinMsg) (w : String) (s : State) : (s.twinRecord m w).rc = s.rc := State.twinPut_rc m w _ s
@[simp] theorem State.twinRecord_bank (m : TwinMsg) (w : String) (s : State) : (s.twinRecord m w).bank = s.bank := State.twinPut_bank m w _ s
@[simp] theorem State.twinRecord_est (m : TwinMsg) (w : String) (s : State) : (s.twinRecord m w).est = s.est := State.twinPut_est m w _ s
@[simp] theorem State.twinRecord_saf (m : TwinMsg) (w : String) (s : State) : (s.twinRecord m w).saf = s.saf := State.twinPut_saf m w _ s
@[simp] theorem State.twinRecord_trust (m : TwinMsg) (w : String) (s : State) : (s.twinRecord m w).trust = s.trust := State.twinPut_trust m w _ s
@[simp] theorem State.twinRecord_hist (m : TwinMsg) (w : String) (s : State) : (s.twinRecord m w).hist = s.hist := State.twinPut_hist m w _ s
@[simp] theorem State.twinRecord_ffr (m : TwinMsg) (w : String) (s : State) : (s.twinRecord m w).ffr = s.ffr := State.twinPut_ffr m w _ s
@[simp] theorem State.twinRecord_host (m : TwinMsg) (w : String) (s : State) : (s.twinRecord m w).host = s.host := State.twinPut_host m w _ s
@[simp] theorem State.twinRecord_jrn (m : TwinMsg) (w : String) (s : State) : (s.twinRecord m w).jrn = s.jrn := State.twinPut_jrn m w _ s
@[simp] theorem State.twinRecord_ptp (m : TwinMsg) (w : String) (s : State) : (s.twinRecord m w).ptp = s.ptp := State.twinPut_ptp m w _ s
@[simp] theorem State.twinRecord_can (m : TwinMsg) (w : String) (s : State) : (s.twinRecord m w).can = s.can := State.twinPut_can m w _ s
@[simp] theorem State.twinRecord_hk (m : TwinMsg) (w : String) (s : State) : (s.twinRecord m w).hk = s.hk := State.twinPut_hk m w _ s
@[simp] theorem State.twinRecord_ctr (m : TwinMsg) (w : String) (s : State) : (s.twinRecord m w).ctr = s.ctr := State.twinPut_ctr m w _ s
@[simp] theorem State.twinRecord_ctrSat (m : TwinMsg) (w : String) (s : State) : (s.twinRecord m w).ctrSat = s.ctrSat := State.twinPut_ctrSat m w _ s
@[simp] theorem State.twinRecord_jctr (m : TwinMsg) (w : String) (s : State) : (s.twinRecord m w).jctr = s.jctr := State.twinPut_jctr m w _ s
@[simp] theorem State.twinRecord_upd (m : TwinMsg) (w : String) (s : State) : (s.twinRecord m w).upd = s.upd := State.twinPut_upd m w _ s
@[simp] theorem State.twinRecord_io (m : TwinMsg) (w : String) (s : State) : (s.twinRecord m w).io = s.io := State.twinPut_io m w _ s
@[simp] theorem State.twinRecord_scan (m : TwinMsg) (w : String) (s : State) : (s.twinRecord m w).scan = s.scan := State.twinPut_scan m w _ s
@[simp] theorem State.twinRecord_pwr (m : TwinMsg) (w : String) (s : State) : (s.twinRecord m w).pwr = s.pwr := State.twinPut_pwr m w _ s
@[simp] theorem State.twinRecord_thm (m : TwinMsg) (w : String) (s : State) : (s.twinRecord m w).thm = s.thm := State.twinPut_thm m w _ s
@[simp] theorem State.twinRecord_hw (m : TwinMsg) (w : String) (s : State) : (s.twinRecord m w).hw = s.hw := State.twinPut_hw m w _ s
@[simp] theorem State.twinRecord_free (m : TwinMsg) (w : String) (s : State) : (s.twinRecord m w).free = s.free := State.twinPut_free m w _ s
@[simp] theorem State.twinRecord_pending (m : TwinMsg) (w : String) (s : State) : (s.twinRecord m w).pending = s.pending := State.twinPut_pending m w _ s

@[simp] theorem State.twinSend_clk (w : String) (l : List Int) (s : State) : (s.twinSend w l).clk = s.clk := State.twinRecord_clk _ w s
@[simp] theorem State.twinSend_ident (w : String) (l : List Int) (s : State) : (s.twinSend w l).ident = s.ident := State.twinRecord_ident _ w s
@[simp] theorem State.twinSend_img (w : String) (l : List Int) (s : State) : (s.twinSend w l).img = s.img := State.twinRecord_img _ w s
@[simp] theorem State.twinSend_ring (w : String) (l : List Int) (s : State) : (s.twinSend w l).ring = s.ring := State.twinRecord_ring _ w s
@[simp] theorem State.twinSend_sense (w : String) (l : List Int) (s : State) : (s.twinSend w l).sense = s.sense := State.twinRecord_sense _ w s
@[simp] theorem State.twinSend_sweep (w : String) (l : List Int) (s : State) : (s.twinSend w l).sweep = s.sweep := State.twinRecord_sweep _ w s
@[simp] theorem State.twinSend_str (w : String) (l : List Int) (s : State) : (s.twinSend w l).str = s.str := State.twinRecord_str _ w s
@[simp] theorem State.twinSend_rc (w : String) (l : List Int) (s : State) : (s.twinSend w l).rc = s.rc := State.twinRecord_rc _ w s
@[simp] theorem State.twinSend_bank (w : String) (l : List Int) (s : State) : (s.twinSend w l).bank = s.bank := State.twinRecord_bank _ w s
@[simp] theorem State.twinSend_est (w : String) (l : List Int) (s : State) : (s.twinSend w l).est = s.est := State.twinRecord_est _ w s
@[simp] theorem State.twinSend_saf (w : String) (l : List Int) (s : State) : (s.twinSend w l).saf = s.saf := State.twinRecord_saf _ w s
@[simp] theorem State.twinSend_trust (w : String) (l : List Int) (s : State) : (s.twinSend w l).trust = s.trust := State.twinRecord_trust _ w s
@[simp] theorem State.twinSend_hist (w : String) (l : List Int) (s : State) : (s.twinSend w l).hist = s.hist := State.twinRecord_hist _ w s
@[simp] theorem State.twinSend_ffr (w : String) (l : List Int) (s : State) : (s.twinSend w l).ffr = s.ffr := State.twinRecord_ffr _ w s
@[simp] theorem State.twinSend_host (w : String) (l : List Int) (s : State) : (s.twinSend w l).host = s.host := State.twinRecord_host _ w s
@[simp] theorem State.twinSend_jrn (w : String) (l : List Int) (s : State) : (s.twinSend w l).jrn = s.jrn := State.twinRecord_jrn _ w s
@[simp] theorem State.twinSend_ptp (w : String) (l : List Int) (s : State) : (s.twinSend w l).ptp = s.ptp := State.twinRecord_ptp _ w s
@[simp] theorem State.twinSend_can (w : String) (l : List Int) (s : State) : (s.twinSend w l).can = s.can := State.twinRecord_can _ w s
@[simp] theorem State.twinSend_hk (w : String) (l : List Int) (s : State) : (s.twinSend w l).hk = s.hk := State.twinRecord_hk _ w s
@[simp] theorem State.twinSend_ctr (w : String) (l : List Int) (s : State) : (s.twinSend w l).ctr = s.ctr := State.twinRecord_ctr _ w s
@[simp] theorem State.twinSend_ctrSat (w : String) (l : List Int) (s : State) : (s.twinSend w l).ctrSat = s.ctrSat := State.twinRecord_ctrSat _ w s
@[simp] theorem State.twinSend_jctr (w : String) (l : List Int) (s : State) : (s.twinSend w l).jctr = s.jctr := State.twinRecord_jctr _ w s
@[simp] theorem State.twinSend_upd (w : String) (l : List Int) (s : State) : (s.twinSend w l).upd = s.upd := State.twinRecord_upd _ w s
@[simp] theorem State.twinSend_io (w : String) (l : List Int) (s : State) : (s.twinSend w l).io = s.io := State.twinRecord_io _ w s
@[simp] theorem State.twinSend_scan (w : String) (l : List Int) (s : State) : (s.twinSend w l).scan = s.scan := State.twinRecord_scan _ w s
@[simp] theorem State.twinSend_pwr (w : String) (l : List Int) (s : State) : (s.twinSend w l).pwr = s.pwr := State.twinRecord_pwr _ w s
@[simp] theorem State.twinSend_thm (w : String) (l : List Int) (s : State) : (s.twinSend w l).thm = s.thm := State.twinRecord_thm _ w s
@[simp] theorem State.twinSend_hw (w : String) (l : List Int) (s : State) : (s.twinSend w l).hw = s.hw := State.twinRecord_hw _ w s
@[simp] theorem State.twinSend_free (w : String) (l : List Int) (s : State) : (s.twinSend w l).free = s.free := State.twinRecord_free _ w s
@[simp] theorem State.twinSend_pending (w : String) (l : List Int) (s : State) : (s.twinSend w l).pending = s.pending := State.twinRecord_pending _ w s


@[simp] theorem State.stampedAt_ident (n t : Nat) (s : State) : (s.stampedAt n t).ident = s.ident := rfl
@[simp] theorem State.stampedAt_img (n t : Nat) (s : State) : (s.stampedAt n t).img = s.img := rfl
@[simp] theorem State.stampedAt_ring (n t : Nat) (s : State) : (s.stampedAt n t).ring = s.ring := rfl
@[simp] theorem State.stampedAt_sense (n t : Nat) (s : State) : (s.stampedAt n t).sense = s.sense := rfl
@[simp] theorem State.stampedAt_sweep (n t : Nat) (s : State) : (s.stampedAt n t).sweep = s.sweep := rfl
@[simp] theorem State.stampedAt_str (n t : Nat) (s : State) : (s.stampedAt n t).str = s.str := rfl
@[simp] theorem State.stampedAt_rc (n t : Nat) (s : State) : (s.stampedAt n t).rc = s.rc := rfl
@[simp] theorem State.stampedAt_bank (n t : Nat) (s : State) : (s.stampedAt n t).bank = s.bank := rfl
@[simp] theorem State.stampedAt_est (n t : Nat) (s : State) : (s.stampedAt n t).est = s.est := rfl
@[simp] theorem State.stampedAt_saf (n t : Nat) (s : State) : (s.stampedAt n t).saf = s.saf := rfl
@[simp] theorem State.stampedAt_twin (n t : Nat) (s : State) : (s.stampedAt n t).twin = s.twin := rfl
@[simp] theorem State.stampedAt_trust (n t : Nat) (s : State) : (s.stampedAt n t).trust = s.trust := rfl
@[simp] theorem State.stampedAt_hist (n t : Nat) (s : State) : (s.stampedAt n t).hist = s.hist := rfl
@[simp] theorem State.stampedAt_ffr (n t : Nat) (s : State) : (s.stampedAt n t).ffr = s.ffr := rfl
@[simp] theorem State.stampedAt_host (n t : Nat) (s : State) : (s.stampedAt n t).host = s.host := rfl
@[simp] theorem State.stampedAt_jrn (n t : Nat) (s : State) : (s.stampedAt n t).jrn = s.jrn := rfl
@[simp] theorem State.stampedAt_ptp (n t : Nat) (s : State) : (s.stampedAt n t).ptp = s.ptp := rfl
@[simp] theorem State.stampedAt_can (n t : Nat) (s : State) : (s.stampedAt n t).can = s.can := rfl
@[simp] theorem State.stampedAt_hk (n t : Nat) (s : State) : (s.stampedAt n t).hk = s.hk := rfl
@[simp] theorem State.stampedAt_ctr (n t : Nat) (s : State) : (s.stampedAt n t).ctr = s.ctr := rfl
@[simp] theorem State.stampedAt_ctrSat (n t : Nat) (s : State) : (s.stampedAt n t).ctrSat = s.ctrSat := rfl
@[simp] theorem State.stampedAt_jctr (n t : Nat) (s : State) : (s.stampedAt n t).jctr = s.jctr := rfl
@[simp] theorem State.stampedAt_upd (n t : Nat) (s : State) : (s.stampedAt n t).upd = s.upd := rfl
@[simp] theorem State.stampedAt_io (n t : Nat) (s : State) : (s.stampedAt n t).io = s.io := rfl
@[simp] theorem State.stampedAt_scan (n t : Nat) (s : State) : (s.stampedAt n t).scan = s.scan := rfl
@[simp] theorem State.stampedAt_pwr (n t : Nat) (s : State) : (s.stampedAt n t).pwr = s.pwr := rfl
@[simp] theorem State.stampedAt_thm (n t : Nat) (s : State) : (s.stampedAt n t).thm = s.thm := rfl
@[simp] theorem State.stampedAt_hw (n t : Nat) (s : State) : (s.stampedAt n t).hw = s.hw := rfl
@[simp] theorem State.stampedAt_free (n t : Nat) (s : State) : (s.stampedAt n t).free = s.free := rfl
@[simp] theorem State.stampedAt_out (n t : Nat) (s : State) : (s.stampedAt n t).out = s.out := rfl
@[simp] theorem State.stampedAt_pending (n t : Nat) (s : State) : (s.stampedAt n t).pending = s.pending := rfl

@[simp] theorem State.atTsc_ident (t : Nat) (s : State) : (s.atTsc t).ident = s.ident := by unfold State.atTsc; split <;> rfl
@[simp] theorem State.atTsc_img (t : Nat) (s : State) : (s.atTsc t).img = s.img := by unfold State.atTsc; split <;> rfl
@[simp] theorem State.atTsc_ring (t : Nat) (s : State) : (s.atTsc t).ring = s.ring := by unfold State.atTsc; split <;> rfl
@[simp] theorem State.atTsc_sense (t : Nat) (s : State) : (s.atTsc t).sense = s.sense := by unfold State.atTsc; split <;> rfl
@[simp] theorem State.atTsc_sweep (t : Nat) (s : State) : (s.atTsc t).sweep = s.sweep := by unfold State.atTsc; split <;> rfl
@[simp] theorem State.atTsc_str (t : Nat) (s : State) : (s.atTsc t).str = s.str := by unfold State.atTsc; split <;> rfl
@[simp] theorem State.atTsc_rc (t : Nat) (s : State) : (s.atTsc t).rc = s.rc := by unfold State.atTsc; split <;> rfl
@[simp] theorem State.atTsc_bank (t : Nat) (s : State) : (s.atTsc t).bank = s.bank := by unfold State.atTsc; split <;> rfl
@[simp] theorem State.atTsc_est (t : Nat) (s : State) : (s.atTsc t).est = s.est := by unfold State.atTsc; split <;> rfl
@[simp] theorem State.atTsc_saf (t : Nat) (s : State) : (s.atTsc t).saf = s.saf := by unfold State.atTsc; split <;> rfl
@[simp] theorem State.atTsc_twin (t : Nat) (s : State) : (s.atTsc t).twin = s.twin := by unfold State.atTsc; split <;> rfl
@[simp] theorem State.atTsc_trust (t : Nat) (s : State) : (s.atTsc t).trust = s.trust := by unfold State.atTsc; split <;> rfl
@[simp] theorem State.atTsc_hist (t : Nat) (s : State) : (s.atTsc t).hist = s.hist := by unfold State.atTsc; split <;> rfl
@[simp] theorem State.atTsc_ffr (t : Nat) (s : State) : (s.atTsc t).ffr = s.ffr := by unfold State.atTsc; split <;> rfl
@[simp] theorem State.atTsc_host (t : Nat) (s : State) : (s.atTsc t).host = s.host := by unfold State.atTsc; split <;> rfl
@[simp] theorem State.atTsc_jrn (t : Nat) (s : State) : (s.atTsc t).jrn = s.jrn := by unfold State.atTsc; split <;> rfl
@[simp] theorem State.atTsc_ptp (t : Nat) (s : State) : (s.atTsc t).ptp = s.ptp := by unfold State.atTsc; split <;> rfl
@[simp] theorem State.atTsc_can (t : Nat) (s : State) : (s.atTsc t).can = s.can := by unfold State.atTsc; split <;> rfl
@[simp] theorem State.atTsc_hk (t : Nat) (s : State) : (s.atTsc t).hk = s.hk := by unfold State.atTsc; split <;> rfl
@[simp] theorem State.atTsc_ctr (t : Nat) (s : State) : (s.atTsc t).ctr = s.ctr := by unfold State.atTsc; split <;> rfl
@[simp] theorem State.atTsc_ctrSat (t : Nat) (s : State) : (s.atTsc t).ctrSat = s.ctrSat := by unfold State.atTsc; split <;> rfl
@[simp] theorem State.atTsc_jctr (t : Nat) (s : State) : (s.atTsc t).jctr = s.jctr := by unfold State.atTsc; split <;> rfl
@[simp] theorem State.atTsc_upd (t : Nat) (s : State) : (s.atTsc t).upd = s.upd := by unfold State.atTsc; split <;> rfl
@[simp] theorem State.atTsc_io (t : Nat) (s : State) : (s.atTsc t).io = s.io := by unfold State.atTsc; split <;> rfl
@[simp] theorem State.atTsc_scan (t : Nat) (s : State) : (s.atTsc t).scan = s.scan := by unfold State.atTsc; split <;> rfl
@[simp] theorem State.atTsc_pwr (t : Nat) (s : State) : (s.atTsc t).pwr = s.pwr := by unfold State.atTsc; split <;> rfl
@[simp] theorem State.atTsc_thm (t : Nat) (s : State) : (s.atTsc t).thm = s.thm := by unfold State.atTsc; split <;> rfl
@[simp] theorem State.atTsc_hw (t : Nat) (s : State) : (s.atTsc t).hw = s.hw := by unfold State.atTsc; split <;> rfl
@[simp] theorem State.atTsc_free (t : Nat) (s : State) : (s.atTsc t).free = s.free := by unfold State.atTsc; split <;> rfl
@[simp] theorem State.atTsc_out (t : Nat) (s : State) : (s.atTsc t).out = s.out := by unfold State.atTsc; split <;> rfl
@[simp] theorem State.atTsc_pending (t : Nat) (s : State) : (s.atTsc t).pending = s.pending := by unfold State.atTsc; split <;> rfl

@[simp] theorem State.reply_clk (q : Req) (c : Nat) (b : List Byte) (s : State) : (s.reply q c b).clk = s.clk := by simp [State.reply]
@[simp] theorem State.reply_ident (q : Req) (c : Nat) (b : List Byte) (s : State) : (s.reply q c b).ident = s.ident := by simp [State.reply]
@[simp] theorem State.reply_img (q : Req) (c : Nat) (b : List Byte) (s : State) : (s.reply q c b).img = s.img := by simp [State.reply]
@[simp] theorem State.reply_ring (q : Req) (c : Nat) (b : List Byte) (s : State) : (s.reply q c b).ring = s.ring := by simp [State.reply]
@[simp] theorem State.reply_sense (q : Req) (c : Nat) (b : List Byte) (s : State) : (s.reply q c b).sense = s.sense := by simp [State.reply]
@[simp] theorem State.reply_sweep (q : Req) (c : Nat) (b : List Byte) (s : State) : (s.reply q c b).sweep = s.sweep := by simp [State.reply]
@[simp] theorem State.reply_str (q : Req) (c : Nat) (b : List Byte) (s : State) : (s.reply q c b).str = s.str := by simp [State.reply]
@[simp] theorem State.reply_rc (q : Req) (c : Nat) (b : List Byte) (s : State) : (s.reply q c b).rc = s.rc := by simp [State.reply]
@[simp] theorem State.reply_bank (q : Req) (c : Nat) (b : List Byte) (s : State) : (s.reply q c b).bank = s.bank := by simp [State.reply]
@[simp] theorem State.reply_est (q : Req) (c : Nat) (b : List Byte) (s : State) : (s.reply q c b).est = s.est := by simp [State.reply]
@[simp] theorem State.reply_saf (q : Req) (c : Nat) (b : List Byte) (s : State) : (s.reply q c b).saf = s.saf := by simp [State.reply]
@[simp] theorem State.reply_twin (q : Req) (c : Nat) (b : List Byte) (s : State) : (s.reply q c b).twin = s.twin := by simp [State.reply]
@[simp] theorem State.reply_trust (q : Req) (c : Nat) (b : List Byte) (s : State) : (s.reply q c b).trust = s.trust := by simp [State.reply]
@[simp] theorem State.reply_hist (q : Req) (c : Nat) (b : List Byte) (s : State) : (s.reply q c b).hist = s.hist := by simp [State.reply]
@[simp] theorem State.reply_ffr (q : Req) (c : Nat) (b : List Byte) (s : State) : (s.reply q c b).ffr = s.ffr := by simp [State.reply]
@[simp] theorem State.reply_jrn (q : Req) (c : Nat) (b : List Byte) (s : State) : (s.reply q c b).jrn = s.jrn := by simp [State.reply]
@[simp] theorem State.reply_ptp (q : Req) (c : Nat) (b : List Byte) (s : State) : (s.reply q c b).ptp = s.ptp := by simp [State.reply]
@[simp] theorem State.reply_can (q : Req) (c : Nat) (b : List Byte) (s : State) : (s.reply q c b).can = s.can := by simp [State.reply]
@[simp] theorem State.reply_hk (q : Req) (c : Nat) (b : List Byte) (s : State) : (s.reply q c b).hk = s.hk := by simp [State.reply]
@[simp] theorem State.reply_ctr (q : Req) (c : Nat) (b : List Byte) (s : State) : (s.reply q c b).ctr = s.ctr := by simp [State.reply]
@[simp] theorem State.reply_ctrSat (q : Req) (c : Nat) (b : List Byte) (s : State) : (s.reply q c b).ctrSat = s.ctrSat := by simp [State.reply]
@[simp] theorem State.reply_jctr (q : Req) (c : Nat) (b : List Byte) (s : State) : (s.reply q c b).jctr = s.jctr := by simp [State.reply]
@[simp] theorem State.reply_upd (q : Req) (c : Nat) (b : List Byte) (s : State) : (s.reply q c b).upd = s.upd := by simp [State.reply]
@[simp] theorem State.reply_io (q : Req) (c : Nat) (b : List Byte) (s : State) : (s.reply q c b).io = s.io := by simp [State.reply]
@[simp] theorem State.reply_scan (q : Req) (c : Nat) (b : List Byte) (s : State) : (s.reply q c b).scan = s.scan := by simp [State.reply]
@[simp] theorem State.reply_pwr (q : Req) (c : Nat) (b : List Byte) (s : State) : (s.reply q c b).pwr = s.pwr := by simp [State.reply]
@[simp] theorem State.reply_thm (q : Req) (c : Nat) (b : List Byte) (s : State) : (s.reply q c b).thm = s.thm := by simp [State.reply]
@[simp] theorem State.reply_hw (q : Req) (c : Nat) (b : List Byte) (s : State) : (s.reply q c b).hw = s.hw := by simp [State.reply]
@[simp] theorem State.reply_free (q : Req) (c : Nat) (b : List Byte) (s : State) : (s.reply q c b).free = s.free := by simp [State.reply]
@[simp] theorem State.reply_pending (q : Req) (c : Nat) (b : List Byte) (s : State) : (s.reply q c b).pending = s.pending := by simp [State.reply]

@[simp] theorem State.refuseReq_ident (q : Req) (c : Nat) (s : State) : (s.refuseReq q c).ident = s.ident := by simp [State.refuseReq]
@[simp] theorem State.refuseReq_img (q : Req) (c : Nat) (s : State) : (s.refuseReq q c).img = s.img := by simp [State.refuseReq]
@[simp] theorem State.refuseReq_ring (q : Req) (c : Nat) (s : State) : (s.refuseReq q c).ring = s.ring := by simp [State.refuseReq]
@[simp] theorem State.refuseReq_sense (q : Req) (c : Nat) (s : State) : (s.refuseReq q c).sense = s.sense := by simp [State.refuseReq]
@[simp] theorem State.refuseReq_sweep (q : Req) (c : Nat) (s : State) : (s.refuseReq q c).sweep = s.sweep := by simp [State.refuseReq]
@[simp] theorem State.refuseReq_str (q : Req) (c : Nat) (s : State) : (s.refuseReq q c).str = s.str := by simp [State.refuseReq]
@[simp] theorem State.refuseReq_rc (q : Req) (c : Nat) (s : State) : (s.refuseReq q c).rc = s.rc := by simp [State.refuseReq]
@[simp] theorem State.refuseReq_bank (q : Req) (c : Nat) (s : State) : (s.refuseReq q c).bank = s.bank := by simp [State.refuseReq]
@[simp] theorem State.refuseReq_est (q : Req) (c : Nat) (s : State) : (s.refuseReq q c).est = s.est := by simp [State.refuseReq]
@[simp] theorem State.refuseReq_saf (q : Req) (c : Nat) (s : State) : (s.refuseReq q c).saf = s.saf := by simp [State.refuseReq]
@[simp] theorem State.refuseReq_twin (q : Req) (c : Nat) (s : State) : (s.refuseReq q c).twin = s.twin := by simp [State.refuseReq]
@[simp] theorem State.refuseReq_trust (q : Req) (c : Nat) (s : State) : (s.refuseReq q c).trust = s.trust := by simp [State.refuseReq]
@[simp] theorem State.refuseReq_hist (q : Req) (c : Nat) (s : State) : (s.refuseReq q c).hist = s.hist := by simp [State.refuseReq]
@[simp] theorem State.refuseReq_jrn (q : Req) (c : Nat) (s : State) : (s.refuseReq q c).jrn = s.jrn := by simp [State.refuseReq]
@[simp] theorem State.refuseReq_ptp (q : Req) (c : Nat) (s : State) : (s.refuseReq q c).ptp = s.ptp := by simp [State.refuseReq]
@[simp] theorem State.refuseReq_can (q : Req) (c : Nat) (s : State) : (s.refuseReq q c).can = s.can := by simp [State.refuseReq]
@[simp] theorem State.refuseReq_hk (q : Req) (c : Nat) (s : State) : (s.refuseReq q c).hk = s.hk := by simp [State.refuseReq]
@[simp] theorem State.refuseReq_jctr (q : Req) (c : Nat) (s : State) : (s.refuseReq q c).jctr = s.jctr := by simp [State.refuseReq]
@[simp] theorem State.refuseReq_upd (q : Req) (c : Nat) (s : State) : (s.refuseReq q c).upd = s.upd := by simp [State.refuseReq]
@[simp] theorem State.refuseReq_io (q : Req) (c : Nat) (s : State) : (s.refuseReq q c).io = s.io := by simp [State.refuseReq]
@[simp] theorem State.refuseReq_scan (q : Req) (c : Nat) (s : State) : (s.refuseReq q c).scan = s.scan := by simp [State.refuseReq]
@[simp] theorem State.refuseReq_pwr (q : Req) (c : Nat) (s : State) : (s.refuseReq q c).pwr = s.pwr := by simp [State.refuseReq]
@[simp] theorem State.refuseReq_thm (q : Req) (c : Nat) (s : State) : (s.refuseReq q c).thm = s.thm := by simp [State.refuseReq]
@[simp] theorem State.refuseReq_hw (q : Req) (c : Nat) (s : State) : (s.refuseReq q c).hw = s.hw := by simp [State.refuseReq]
@[simp] theorem State.refuseReq_free (q : Req) (c : Nat) (s : State) : (s.refuseReq q c).free = s.free := by simp [State.refuseReq]
@[simp] theorem State.refuseReq_pending (q : Req) (c : Nat) (s : State) : (s.refuseReq q c).pending = s.pending := by simp [State.refuseReq]

@[simp] theorem State.enter_clk (q : Req) (n : Nat) (s : State) : (s.enter q n).clk = s.clk := rfl
@[simp] theorem State.enter_ident (q : Req) (n : Nat) (s : State) : (s.enter q n).ident = s.ident := rfl
@[simp] theorem State.enter_img (q : Req) (n : Nat) (s : State) : (s.enter q n).img = s.img := rfl
@[simp] theorem State.enter_ring (q : Req) (n : Nat) (s : State) : (s.enter q n).ring = s.ring := rfl
@[simp] theorem State.enter_sense (q : Req) (n : Nat) (s : State) : (s.enter q n).sense = s.sense := rfl
@[simp] theorem State.enter_sweep (q : Req) (n : Nat) (s : State) : (s.enter q n).sweep = s.sweep := rfl
@[simp] theorem State.enter_str (q : Req) (n : Nat) (s : State) : (s.enter q n).str = s.str := rfl
@[simp] theorem State.enter_rc (q : Req) (n : Nat) (s : State) : (s.enter q n).rc = s.rc := rfl
@[simp] theorem State.enter_bank (q : Req) (n : Nat) (s : State) : (s.enter q n).bank = s.bank := rfl
@[simp] theorem State.enter_est (q : Req) (n : Nat) (s : State) : (s.enter q n).est = s.est := rfl
@[simp] theorem State.enter_saf (q : Req) (n : Nat) (s : State) : (s.enter q n).saf = s.saf := rfl
@[simp] theorem State.enter_twin (q : Req) (n : Nat) (s : State) : (s.enter q n).twin = s.twin := rfl
@[simp] theorem State.enter_trust (q : Req) (n : Nat) (s : State) : (s.enter q n).trust = s.trust := rfl
@[simp] theorem State.enter_hist (q : Req) (n : Nat) (s : State) : (s.enter q n).hist = s.hist := rfl
@[simp] theorem State.enter_ffr (q : Req) (n : Nat) (s : State) : (s.enter q n).ffr = s.ffr := rfl
@[simp] theorem State.enter_jrn (q : Req) (n : Nat) (s : State) : (s.enter q n).jrn = s.jrn := rfl
@[simp] theorem State.enter_ptp (q : Req) (n : Nat) (s : State) : (s.enter q n).ptp = s.ptp := rfl
@[simp] theorem State.enter_can (q : Req) (n : Nat) (s : State) : (s.enter q n).can = s.can := rfl
@[simp] theorem State.enter_hk (q : Req) (n : Nat) (s : State) : (s.enter q n).hk = s.hk := rfl
@[simp] theorem State.enter_ctr (q : Req) (n : Nat) (s : State) : (s.enter q n).ctr = s.ctr := rfl
@[simp] theorem State.enter_ctrSat (q : Req) (n : Nat) (s : State) : (s.enter q n).ctrSat = s.ctrSat := rfl
@[simp] theorem State.enter_jctr (q : Req) (n : Nat) (s : State) : (s.enter q n).jctr = s.jctr := rfl
@[simp] theorem State.enter_upd (q : Req) (n : Nat) (s : State) : (s.enter q n).upd = s.upd := rfl
@[simp] theorem State.enter_io (q : Req) (n : Nat) (s : State) : (s.enter q n).io = s.io := rfl
@[simp] theorem State.enter_scan (q : Req) (n : Nat) (s : State) : (s.enter q n).scan = s.scan := rfl
@[simp] theorem State.enter_pwr (q : Req) (n : Nat) (s : State) : (s.enter q n).pwr = s.pwr := rfl
@[simp] theorem State.enter_thm (q : Req) (n : Nat) (s : State) : (s.enter q n).thm = s.thm := rfl
@[simp] theorem State.enter_hw (q : Req) (n : Nat) (s : State) : (s.enter q n).hw = s.hw := rfl
@[simp] theorem State.enter_free (q : Req) (n : Nat) (s : State) : (s.enter q n).free = s.free := rfl
@[simp] theorem State.enter_out (q : Req) (n : Nat) (s : State) : (s.enter q n).out = s.out := rfl
@[simp] theorem State.enter_pending (q : Req) (n : Nat) (s : State) : (s.enter q n).pending = s.pending := rfl

@[simp] theorem State.noCredit_ident (q : Req) (n : Nat) (s : State) : (s.noCredit q n).ident = s.ident := by simp [State.noCredit]
@[simp] theorem State.noCredit_img (q : Req) (n : Nat) (s : State) : (s.noCredit q n).img = s.img := by simp [State.noCredit]
@[simp] theorem State.noCredit_ring (q : Req) (n : Nat) (s : State) : (s.noCredit q n).ring = s.ring := by simp [State.noCredit]
@[simp] theorem State.noCredit_sense (q : Req) (n : Nat) (s : State) : (s.noCredit q n).sense = s.sense := by simp [State.noCredit]
@[simp] theorem State.noCredit_sweep (q : Req) (n : Nat) (s : State) : (s.noCredit q n).sweep = s.sweep := by simp [State.noCredit]
@[simp] theorem State.noCredit_str (q : Req) (n : Nat) (s : State) : (s.noCredit q n).str = s.str := by simp [State.noCredit]
@[simp] theorem State.noCredit_rc (q : Req) (n : Nat) (s : State) : (s.noCredit q n).rc = s.rc := by simp [State.noCredit]
@[simp] theorem State.noCredit_bank (q : Req) (n : Nat) (s : State) : (s.noCredit q n).bank = s.bank := by simp [State.noCredit]
@[simp] theorem State.noCredit_est (q : Req) (n : Nat) (s : State) : (s.noCredit q n).est = s.est := by simp [State.noCredit]
@[simp] theorem State.noCredit_saf (q : Req) (n : Nat) (s : State) : (s.noCredit q n).saf = s.saf := by simp [State.noCredit]
@[simp] theorem State.noCredit_twin (q : Req) (n : Nat) (s : State) : (s.noCredit q n).twin = s.twin := by simp [State.noCredit]
@[simp] theorem State.noCredit_trust (q : Req) (n : Nat) (s : State) : (s.noCredit q n).trust = s.trust := by simp [State.noCredit]
@[simp] theorem State.noCredit_hist (q : Req) (n : Nat) (s : State) : (s.noCredit q n).hist = s.hist := by simp [State.noCredit]
@[simp] theorem State.noCredit_jrn (q : Req) (n : Nat) (s : State) : (s.noCredit q n).jrn = s.jrn := by simp [State.noCredit]
@[simp] theorem State.noCredit_ptp (q : Req) (n : Nat) (s : State) : (s.noCredit q n).ptp = s.ptp := by simp [State.noCredit]
@[simp] theorem State.noCredit_can (q : Req) (n : Nat) (s : State) : (s.noCredit q n).can = s.can := by simp [State.noCredit]
@[simp] theorem State.noCredit_hk (q : Req) (n : Nat) (s : State) : (s.noCredit q n).hk = s.hk := by simp [State.noCredit]
@[simp] theorem State.noCredit_jctr (q : Req) (n : Nat) (s : State) : (s.noCredit q n).jctr = s.jctr := by simp [State.noCredit]
@[simp] theorem State.noCredit_upd (q : Req) (n : Nat) (s : State) : (s.noCredit q n).upd = s.upd := by simp [State.noCredit]
@[simp] theorem State.noCredit_io (q : Req) (n : Nat) (s : State) : (s.noCredit q n).io = s.io := by simp [State.noCredit]
@[simp] theorem State.noCredit_scan (q : Req) (n : Nat) (s : State) : (s.noCredit q n).scan = s.scan := by simp [State.noCredit]
@[simp] theorem State.noCredit_pwr (q : Req) (n : Nat) (s : State) : (s.noCredit q n).pwr = s.pwr := by simp [State.noCredit]
@[simp] theorem State.noCredit_thm (q : Req) (n : Nat) (s : State) : (s.noCredit q n).thm = s.thm := by simp [State.noCredit]
@[simp] theorem State.noCredit_hw (q : Req) (n : Nat) (s : State) : (s.noCredit q n).hw = s.hw := by simp [State.noCredit]
@[simp] theorem State.noCredit_free (q : Req) (n : Nat) (s : State) : (s.noCredit q n).free = s.free := by simp [State.noCredit]
@[simp] theorem State.noCredit_pending (q : Req) (n : Nat) (s : State) : (s.noCredit q n).pending = s.pending := by simp [State.noCredit]

@[simp] theorem State.closeSession_clk (n : Nat) (s : State) : (s.closeSession n).clk = s.clk := by unfold State.closeSession; split <;> rfl
@[simp] theorem State.closeSession_ident (n : Nat) (s : State) : (s.closeSession n).ident = s.ident := by unfold State.closeSession; split <;> rfl
@[simp] theorem State.closeSession_img (n : Nat) (s : State) : (s.closeSession n).img = s.img := by unfold State.closeSession; split <;> rfl
@[simp] theorem State.closeSession_ring (n : Nat) (s : State) : (s.closeSession n).ring = s.ring := by unfold State.closeSession; split <;> rfl
@[simp] theorem State.closeSession_sense (n : Nat) (s : State) : (s.closeSession n).sense = s.sense := by unfold State.closeSession; split <;> rfl
@[simp] theorem State.closeSession_sweep (n : Nat) (s : State) : (s.closeSession n).sweep = s.sweep := by unfold State.closeSession; split <;> rfl
@[simp] theorem State.closeSession_str (n : Nat) (s : State) : (s.closeSession n).str = s.str := by unfold State.closeSession; split <;> rfl
@[simp] theorem State.closeSession_rc (n : Nat) (s : State) : (s.closeSession n).rc = s.rc := by unfold State.closeSession; split <;> rfl
@[simp] theorem State.closeSession_bank (n : Nat) (s : State) : (s.closeSession n).bank = s.bank := by unfold State.closeSession; split <;> rfl
@[simp] theorem State.closeSession_est (n : Nat) (s : State) : (s.closeSession n).est = s.est := by unfold State.closeSession; split <;> rfl
@[simp] theorem State.closeSession_saf (n : Nat) (s : State) : (s.closeSession n).saf = s.saf := by unfold State.closeSession; split <;> rfl
@[simp] theorem State.closeSession_twin (n : Nat) (s : State) : (s.closeSession n).twin = s.twin := by unfold State.closeSession; split <;> rfl
@[simp] theorem State.closeSession_trust (n : Nat) (s : State) : (s.closeSession n).trust = s.trust := by unfold State.closeSession; split <;> rfl
@[simp] theorem State.closeSession_hist (n : Nat) (s : State) : (s.closeSession n).hist = s.hist := by unfold State.closeSession; split <;> rfl
@[simp] theorem State.closeSession_ffr (n : Nat) (s : State) : (s.closeSession n).ffr = s.ffr := by unfold State.closeSession; split <;> rfl
@[simp] theorem State.closeSession_jrn (n : Nat) (s : State) : (s.closeSession n).jrn = s.jrn := by unfold State.closeSession; split <;> rfl
@[simp] theorem State.closeSession_ptp (n : Nat) (s : State) : (s.closeSession n).ptp = s.ptp := by unfold State.closeSession; split <;> rfl
@[simp] theorem State.closeSession_can (n : Nat) (s : State) : (s.closeSession n).can = s.can := by unfold State.closeSession; split <;> rfl
@[simp] theorem State.closeSession_hk (n : Nat) (s : State) : (s.closeSession n).hk = s.hk := by unfold State.closeSession; split <;> rfl
@[simp] theorem State.closeSession_ctr (n : Nat) (s : State) : (s.closeSession n).ctr = s.ctr := by unfold State.closeSession; split <;> rfl
@[simp] theorem State.closeSession_ctrSat (n : Nat) (s : State) : (s.closeSession n).ctrSat = s.ctrSat := by unfold State.closeSession; split <;> rfl
@[simp] theorem State.closeSession_jctr (n : Nat) (s : State) : (s.closeSession n).jctr = s.jctr := by unfold State.closeSession; split <;> rfl
@[simp] theorem State.closeSession_upd (n : Nat) (s : State) : (s.closeSession n).upd = s.upd := by unfold State.closeSession; split <;> rfl
@[simp] theorem State.closeSession_io (n : Nat) (s : State) : (s.closeSession n).io = s.io := by unfold State.closeSession; split <;> rfl
@[simp] theorem State.closeSession_scan (n : Nat) (s : State) : (s.closeSession n).scan = s.scan := by unfold State.closeSession; split <;> rfl
@[simp] theorem State.closeSession_pwr (n : Nat) (s : State) : (s.closeSession n).pwr = s.pwr := by unfold State.closeSession; split <;> rfl
@[simp] theorem State.closeSession_thm (n : Nat) (s : State) : (s.closeSession n).thm = s.thm := by unfold State.closeSession; split <;> rfl
@[simp] theorem State.closeSession_hw (n : Nat) (s : State) : (s.closeSession n).hw = s.hw := by unfold State.closeSession; split <;> rfl
@[simp] theorem State.closeSession_free (n : Nat) (s : State) : (s.closeSession n).free = s.free := by unfold State.closeSession; split <;> rfl
@[simp] theorem State.closeSession_pending (n : Nat) (s : State) : (s.closeSession n).pending = s.pending := by unfold State.closeSession; split <;> rfl

@[simp] theorem State.stamped_clk_tscFix (n : Nat) (s : State) : (s.stamped n).clk.tscFix = s.clk.tscFix := rfl
@[simp] theorem State.stamped_clk_tscValid (n : Nat) (s : State) : (s.stamped n).clk.tscValid = s.clk.tscValid := rfl
@[simp] theorem State.stamped_clk_incr (n : Nat) (s : State) : (s.stamped n).clk.incr = s.clk.incr := rfl
@[simp] theorem State.stamped_clk_slewRem (n : Nat) (s : State) : (s.stamped n).clk.slewRem = s.clk.slewRem := rfl
@[simp] theorem State.stamped_clk_setReq (n : Nat) (s : State) : (s.stamped n).clk.setReq = s.clk.setReq := rfl
@[simp] theorem State.stamped_clk_setWait (n : Nat) (s : State) : (s.stamped n).clk.setWait = s.clk.setWait := rfl
@[simp] theorem State.stamped_clk_upNs (n : Nat) (s : State) : (s.stamped n).clk.upNs = s.clk.upNs := rfl
@[simp] theorem State.stamped_clk_cycleT0 (n : Nat) (s : State) : (s.stamped n).clk.cycleT0 = s.clk.cycleT0 := rfl
@[simp] theorem State.stamped_clk_cycleNo (n : Nat) (s : State) : (s.stamped n).clk.cycleNo = s.clk.cycleNo := rfl
@[simp] theorem State.stamped_now (n : Nat) (s : State) : (s.stamped n).now = s.now := by simp [State.now]
@[simp] theorem State.dropEvent_ffr_nv (e : Event) (s : State) : (s.dropEvent e).ffr.nv = s.ffr.nv := rfl
@[simp] theorem State.dropEvent_ffr_writing (e : Event) (s : State) : (s.dropEvent e).ffr.writing = s.ffr.writing := rfl
@[simp] theorem State.dropEvent_ffr_revising (e : Event) (s : State) : (s.dropEvent e).ffr.revising = s.ffr.revising := rfl
@[simp] theorem State.dropEvent_ffr_mirroring (e : Event) (s : State) : (s.dropEvent e).ffr.mirroring = s.ffr.mirroring := rfl
@[simp] theorem State.dropEvent_ffr_tallies (e : Event) (s : State) : (s.dropEvent e).ffr.tallies = s.ffr.tallies := rfl
@[simp] theorem State.dropEvent_ffr_secCodes (e : Event) (s : State) : (s.dropEvent e).ffr.secCodes = s.ffr.secCodes := rfl
@[simp] theorem State.dropEvent_ffr_rsel (e : Event) (s : State) : (s.dropEvent e).ffr.rsel = s.ffr.rsel := rfl
@[simp] theorem State.dropEvent_ffr_resCode (e : Event) (s : State) : (s.dropEvent e).ffr.resCode = s.ffr.resCode := rfl
@[simp] theorem State.dropEvent_ffr_archPend (e : Event) (s : State) : (s.dropEvent e).ffr.archPend = s.ffr.archPend := rfl
@[simp] theorem State.dropEvent_ffr_due (e : Event) (s : State) : (s.dropEvent e).ffr.due = s.ffr.due := rfl
@[simp] theorem State.dropEvent_ffr_clearReq (e : Event) (s : State) : (s.dropEvent e).ffr.clearReq = s.ffr.clearReq := rfl
@[simp] theorem State.deliver_ffr_nv (e : Event) (s : State) : (s.deliver e).ffr.nv = s.ffr.nv := by unfold State.deliver; split <;> simp
@[simp] theorem State.deliver_ffr_writing (e : Event) (s : State) : (s.deliver e).ffr.writing = s.ffr.writing := by unfold State.deliver; split <;> simp
@[simp] theorem State.deliver_ffr_revising (e : Event) (s : State) : (s.deliver e).ffr.revising = s.ffr.revising := by unfold State.deliver; split <;> simp
@[simp] theorem State.deliver_ffr_mirroring (e : Event) (s : State) : (s.deliver e).ffr.mirroring = s.ffr.mirroring := by unfold State.deliver; split <;> simp
@[simp] theorem State.deliver_ffr_tallies (e : Event) (s : State) : (s.deliver e).ffr.tallies = s.ffr.tallies := by unfold State.deliver; split <;> simp
@[simp] theorem State.deliver_ffr_secCodes (e : Event) (s : State) : (s.deliver e).ffr.secCodes = s.ffr.secCodes := by unfold State.deliver; split <;> simp
@[simp] theorem State.deliver_ffr_rsel (e : Event) (s : State) : (s.deliver e).ffr.rsel = s.ffr.rsel := by unfold State.deliver; split <;> simp
@[simp] theorem State.deliver_ffr_resCode (e : Event) (s : State) : (s.deliver e).ffr.resCode = s.ffr.resCode := by unfold State.deliver; split <;> simp
@[simp] theorem State.deliver_ffr_archPend (e : Event) (s : State) : (s.deliver e).ffr.archPend = s.ffr.archPend := by unfold State.deliver; split <;> simp
@[simp] theorem State.deliver_ffr_due (e : Event) (s : State) : (s.deliver e).ffr.due = s.ffr.due := by unfold State.deliver; split <;> simp
@[simp] theorem State.deliver_ffr_clearReq (e : Event) (s : State) : (s.deliver e).ffr.clearReq = s.ffr.clearReq := by unfold State.deliver; split <;> simp
@[simp] theorem State.emit_clk_tscFix (c n : Nat) (b : List Int) (s : State) : (s.emit c n b).clk.tscFix = s.clk.tscFix := by simp [State.emit]
@[simp] theorem State.emit_clk_tscValid (c n : Nat) (b : List Int) (s : State) : (s.emit c n b).clk.tscValid = s.clk.tscValid := by simp [State.emit]
@[simp] theorem State.emit_clk_incr (c n : Nat) (b : List Int) (s : State) : (s.emit c n b).clk.incr = s.clk.incr := by simp [State.emit]
@[simp] theorem State.emit_clk_slewRem (c n : Nat) (b : List Int) (s : State) : (s.emit c n b).clk.slewRem = s.clk.slewRem := by simp [State.emit]
@[simp] theorem State.emit_clk_setReq (c n : Nat) (b : List Int) (s : State) : (s.emit c n b).clk.setReq = s.clk.setReq := by simp [State.emit]
@[simp] theorem State.emit_clk_setWait (c n : Nat) (b : List Int) (s : State) : (s.emit c n b).clk.setWait = s.clk.setWait := by simp [State.emit]
@[simp] theorem State.emit_clk_upNs (c n : Nat) (b : List Int) (s : State) : (s.emit c n b).clk.upNs = s.clk.upNs := by simp [State.emit]
@[simp] theorem State.emit_clk_cycleT0 (c n : Nat) (b : List Int) (s : State) : (s.emit c n b).clk.cycleT0 = s.clk.cycleT0 := by simp [State.emit]
@[simp] theorem State.emit_clk_cycleNo (c n : Nat) (b : List Int) (s : State) : (s.emit c n b).clk.cycleNo = s.clk.cycleNo := by simp [State.emit]
@[simp] theorem State.emit_now (c n : Nat) (b : List Int) (s : State) : (s.emit c n b).now = s.now := by simp [State.now]
@[simp] theorem State.emit_ffr_nv (c n : Nat) (b : List Int) (s : State) : (s.emit c n b).ffr.nv = s.ffr.nv := by simp [State.emit]
@[simp] theorem State.emit_ffr_writing (c n : Nat) (b : List Int) (s : State) : (s.emit c n b).ffr.writing = s.ffr.writing := by simp [State.emit]
@[simp] theorem State.emit_ffr_revising (c n : Nat) (b : List Int) (s : State) : (s.emit c n b).ffr.revising = s.ffr.revising := by simp [State.emit]
@[simp] theorem State.emit_ffr_mirroring (c n : Nat) (b : List Int) (s : State) : (s.emit c n b).ffr.mirroring = s.ffr.mirroring := by simp [State.emit]
@[simp] theorem State.emit_ffr_tallies (c n : Nat) (b : List Int) (s : State) : (s.emit c n b).ffr.tallies = s.ffr.tallies := by simp [State.emit]
@[simp] theorem State.emit_ffr_secCodes (c n : Nat) (b : List Int) (s : State) : (s.emit c n b).ffr.secCodes = s.ffr.secCodes := by simp [State.emit]
@[simp] theorem State.emit_ffr_rsel (c n : Nat) (b : List Int) (s : State) : (s.emit c n b).ffr.rsel = s.ffr.rsel := by simp [State.emit]
@[simp] theorem State.emit_ffr_resCode (c n : Nat) (b : List Int) (s : State) : (s.emit c n b).ffr.resCode = s.ffr.resCode := by simp [State.emit]
@[simp] theorem State.emit_ffr_archPend (c n : Nat) (b : List Int) (s : State) : (s.emit c n b).ffr.archPend = s.ffr.archPend := by simp [State.emit]
@[simp] theorem State.emit_ffr_due (c n : Nat) (b : List Int) (s : State) : (s.emit c n b).ffr.due = s.ffr.due := by simp [State.emit]
@[simp] theorem State.emit_ffr_clearReq (c n : Nat) (b : List Int) (s : State) : (s.emit c n b).ffr.clearReq = s.ffr.clearReq := by simp [State.emit]
@[simp] theorem State.noteSaturated_clk_tscFix (a : Nat) (s : State) : (s.noteSaturated a).clk.tscFix = s.clk.tscFix := by unfold State.noteSaturated; split <;> simp
@[simp] theorem State.noteSaturated_clk_tscValid (a : Nat) (s : State) : (s.noteSaturated a).clk.tscValid = s.clk.tscValid := by unfold State.noteSaturated; split <;> simp
@[simp] theorem State.noteSaturated_clk_incr (a : Nat) (s : State) : (s.noteSaturated a).clk.incr = s.clk.incr := by unfold State.noteSaturated; split <;> simp
@[simp] theorem State.noteSaturated_clk_slewRem (a : Nat) (s : State) : (s.noteSaturated a).clk.slewRem = s.clk.slewRem := by unfold State.noteSaturated; split <;> simp
@[simp] theorem State.noteSaturated_clk_setReq (a : Nat) (s : State) : (s.noteSaturated a).clk.setReq = s.clk.setReq := by unfold State.noteSaturated; split <;> simp
@[simp] theorem State.noteSaturated_clk_setWait (a : Nat) (s : State) : (s.noteSaturated a).clk.setWait = s.clk.setWait := by unfold State.noteSaturated; split <;> simp
@[simp] theorem State.noteSaturated_clk_upNs (a : Nat) (s : State) : (s.noteSaturated a).clk.upNs = s.clk.upNs := by unfold State.noteSaturated; split <;> simp
@[simp] theorem State.noteSaturated_clk_cycleT0 (a : Nat) (s : State) : (s.noteSaturated a).clk.cycleT0 = s.clk.cycleT0 := by unfold State.noteSaturated; split <;> simp
@[simp] theorem State.noteSaturated_clk_cycleNo (a : Nat) (s : State) : (s.noteSaturated a).clk.cycleNo = s.clk.cycleNo := by unfold State.noteSaturated; split <;> simp
@[simp] theorem State.noteSaturated_now (a : Nat) (s : State) : (s.noteSaturated a).now = s.now := by simp [State.now]
@[simp] theorem State.noteSaturated_ffr_nv (a : Nat) (s : State) : (s.noteSaturated a).ffr.nv = s.ffr.nv := by unfold State.noteSaturated; split <;> simp
@[simp] theorem State.noteSaturated_ffr_writing (a : Nat) (s : State) : (s.noteSaturated a).ffr.writing = s.ffr.writing := by unfold State.noteSaturated; split <;> simp
@[simp] theorem State.noteSaturated_ffr_revising (a : Nat) (s : State) : (s.noteSaturated a).ffr.revising = s.ffr.revising := by unfold State.noteSaturated; split <;> simp
@[simp] theorem State.noteSaturated_ffr_mirroring (a : Nat) (s : State) : (s.noteSaturated a).ffr.mirroring = s.ffr.mirroring := by unfold State.noteSaturated; split <;> simp
@[simp] theorem State.noteSaturated_ffr_tallies (a : Nat) (s : State) : (s.noteSaturated a).ffr.tallies = s.ffr.tallies := by unfold State.noteSaturated; split <;> simp
@[simp] theorem State.noteSaturated_ffr_secCodes (a : Nat) (s : State) : (s.noteSaturated a).ffr.secCodes = s.ffr.secCodes := by unfold State.noteSaturated; split <;> simp
@[simp] theorem State.noteSaturated_ffr_rsel (a : Nat) (s : State) : (s.noteSaturated a).ffr.rsel = s.ffr.rsel := by unfold State.noteSaturated; split <;> simp
@[simp] theorem State.noteSaturated_ffr_resCode (a : Nat) (s : State) : (s.noteSaturated a).ffr.resCode = s.ffr.resCode := by unfold State.noteSaturated; split <;> simp
@[simp] theorem State.noteSaturated_ffr_archPend (a : Nat) (s : State) : (s.noteSaturated a).ffr.archPend = s.ffr.archPend := by unfold State.noteSaturated; split <;> simp
@[simp] theorem State.noteSaturated_ffr_due (a : Nat) (s : State) : (s.noteSaturated a).ffr.due = s.ffr.due := by unfold State.noteSaturated; split <;> simp
@[simp] theorem State.noteSaturated_ffr_clearReq (a : Nat) (s : State) : (s.noteSaturated a).ffr.clearReq = s.ffr.clearReq := by unfold State.noteSaturated; split <;> simp
@[simp] theorem State.bump_clk_tscFix (a : Nat) (s : State) : (s.bump a).clk.tscFix = s.clk.tscFix := by simp [State.bump]
@[simp] theorem State.bump_clk_tscValid (a : Nat) (s : State) : (s.bump a).clk.tscValid = s.clk.tscValid := by simp [State.bump]
@[simp] theorem State.bump_clk_incr (a : Nat) (s : State) : (s.bump a).clk.incr = s.clk.incr := by simp [State.bump]
@[simp] theorem State.bump_clk_slewRem (a : Nat) (s : State) : (s.bump a).clk.slewRem = s.clk.slewRem := by simp [State.bump]
@[simp] theorem State.bump_clk_setReq (a : Nat) (s : State) : (s.bump a).clk.setReq = s.clk.setReq := by simp [State.bump]
@[simp] theorem State.bump_clk_setWait (a : Nat) (s : State) : (s.bump a).clk.setWait = s.clk.setWait := by simp [State.bump]
@[simp] theorem State.bump_clk_upNs (a : Nat) (s : State) : (s.bump a).clk.upNs = s.clk.upNs := by simp [State.bump]
@[simp] theorem State.bump_clk_cycleT0 (a : Nat) (s : State) : (s.bump a).clk.cycleT0 = s.clk.cycleT0 := by simp [State.bump]
@[simp] theorem State.bump_clk_cycleNo (a : Nat) (s : State) : (s.bump a).clk.cycleNo = s.clk.cycleNo := by simp [State.bump]
@[simp] theorem State.bump_now (a : Nat) (s : State) : (s.bump a).now = s.now := by simp [State.now]
@[simp] theorem State.bump_ffr_nv (a : Nat) (s : State) : (s.bump a).ffr.nv = s.ffr.nv := by simp [State.bump]
@[simp] theorem State.bump_ffr_writing (a : Nat) (s : State) : (s.bump a).ffr.writing = s.ffr.writing := by simp [State.bump]
@[simp] theorem State.bump_ffr_revising (a : Nat) (s : State) : (s.bump a).ffr.revising = s.ffr.revising := by simp [State.bump]
@[simp] theorem State.bump_ffr_mirroring (a : Nat) (s : State) : (s.bump a).ffr.mirroring = s.ffr.mirroring := by simp [State.bump]
@[simp] theorem State.bump_ffr_tallies (a : Nat) (s : State) : (s.bump a).ffr.tallies = s.ffr.tallies := by simp [State.bump]
@[simp] theorem State.bump_ffr_secCodes (a : Nat) (s : State) : (s.bump a).ffr.secCodes = s.ffr.secCodes := by simp [State.bump]
@[simp] theorem State.bump_ffr_rsel (a : Nat) (s : State) : (s.bump a).ffr.rsel = s.ffr.rsel := by simp [State.bump]
@[simp] theorem State.bump_ffr_resCode (a : Nat) (s : State) : (s.bump a).ffr.resCode = s.ffr.resCode := by simp [State.bump]
@[simp] theorem State.bump_ffr_archPend (a : Nat) (s : State) : (s.bump a).ffr.archPend = s.ffr.archPend := by simp [State.bump]
@[simp] theorem State.bump_ffr_due (a : Nat) (s : State) : (s.bump a).ffr.due = s.ffr.due := by simp [State.bump]
@[simp] theorem State.bump_ffr_clearReq (a : Nat) (s : State) : (s.bump a).ffr.clearReq = s.ffr.clearReq := by simp [State.bump]
@[simp] theorem State.bumpBy_clk_tscFix (a n : Nat) (s : State) : (s.bumpBy a n).clk.tscFix = s.clk.tscFix := by simp [State.bumpBy]
@[simp] theorem State.bumpBy_clk_tscValid (a n : Nat) (s : State) : (s.bumpBy a n).clk.tscValid = s.clk.tscValid := by simp [State.bumpBy]
@[simp] theorem State.bumpBy_clk_incr (a n : Nat) (s : State) : (s.bumpBy a n).clk.incr = s.clk.incr := by simp [State.bumpBy]
@[simp] theorem State.bumpBy_clk_slewRem (a n : Nat) (s : State) : (s.bumpBy a n).clk.slewRem = s.clk.slewRem := by simp [State.bumpBy]
@[simp] theorem State.bumpBy_clk_setReq (a n : Nat) (s : State) : (s.bumpBy a n).clk.setReq = s.clk.setReq := by simp [State.bumpBy]
@[simp] theorem State.bumpBy_clk_setWait (a n : Nat) (s : State) : (s.bumpBy a n).clk.setWait = s.clk.setWait := by simp [State.bumpBy]
@[simp] theorem State.bumpBy_clk_upNs (a n : Nat) (s : State) : (s.bumpBy a n).clk.upNs = s.clk.upNs := by simp [State.bumpBy]
@[simp] theorem State.bumpBy_clk_cycleT0 (a n : Nat) (s : State) : (s.bumpBy a n).clk.cycleT0 = s.clk.cycleT0 := by simp [State.bumpBy]
@[simp] theorem State.bumpBy_clk_cycleNo (a n : Nat) (s : State) : (s.bumpBy a n).clk.cycleNo = s.clk.cycleNo := by simp [State.bumpBy]
@[simp] theorem State.bumpBy_now (a n : Nat) (s : State) : (s.bumpBy a n).now = s.now := by simp [State.now]
@[simp] theorem State.bumpBy_ffr_nv (a n : Nat) (s : State) : (s.bumpBy a n).ffr.nv = s.ffr.nv := by simp [State.bumpBy]
@[simp] theorem State.bumpBy_ffr_writing (a n : Nat) (s : State) : (s.bumpBy a n).ffr.writing = s.ffr.writing := by simp [State.bumpBy]
@[simp] theorem State.bumpBy_ffr_revising (a n : Nat) (s : State) : (s.bumpBy a n).ffr.revising = s.ffr.revising := by simp [State.bumpBy]
@[simp] theorem State.bumpBy_ffr_mirroring (a n : Nat) (s : State) : (s.bumpBy a n).ffr.mirroring = s.ffr.mirroring := by simp [State.bumpBy]
@[simp] theorem State.bumpBy_ffr_tallies (a n : Nat) (s : State) : (s.bumpBy a n).ffr.tallies = s.ffr.tallies := by simp [State.bumpBy]
@[simp] theorem State.bumpBy_ffr_secCodes (a n : Nat) (s : State) : (s.bumpBy a n).ffr.secCodes = s.ffr.secCodes := by simp [State.bumpBy]
@[simp] theorem State.bumpBy_ffr_rsel (a n : Nat) (s : State) : (s.bumpBy a n).ffr.rsel = s.ffr.rsel := by simp [State.bumpBy]
@[simp] theorem State.bumpBy_ffr_resCode (a n : Nat) (s : State) : (s.bumpBy a n).ffr.resCode = s.ffr.resCode := by simp [State.bumpBy]
@[simp] theorem State.bumpBy_ffr_archPend (a n : Nat) (s : State) : (s.bumpBy a n).ffr.archPend = s.ffr.archPend := by simp [State.bumpBy]
@[simp] theorem State.bumpBy_ffr_due (a n : Nat) (s : State) : (s.bumpBy a n).ffr.due = s.ffr.due := by simp [State.bumpBy]
@[simp] theorem State.bumpBy_ffr_clearReq (a n : Nat) (s : State) : (s.bumpBy a n).ffr.clearReq = s.ffr.clearReq := by simp [State.bumpBy]
@[simp] theorem State.refuseReq_clk_tscFix (q : Req) (c : Nat) (s : State) : (s.refuseReq q c).clk.tscFix = s.clk.tscFix := by simp [State.refuseReq]
@[simp] theorem State.refuseReq_clk_tscValid (q : Req) (c : Nat) (s : State) : (s.refuseReq q c).clk.tscValid = s.clk.tscValid := by simp [State.refuseReq]
@[simp] theorem State.refuseReq_clk_incr (q : Req) (c : Nat) (s : State) : (s.refuseReq q c).clk.incr = s.clk.incr := by simp [State.refuseReq]
@[simp] theorem State.refuseReq_clk_slewRem (q : Req) (c : Nat) (s : State) : (s.refuseReq q c).clk.slewRem = s.clk.slewRem := by simp [State.refuseReq]
@[simp] theorem State.refuseReq_clk_setReq (q : Req) (c : Nat) (s : State) : (s.refuseReq q c).clk.setReq = s.clk.setReq := by simp [State.refuseReq]
@[simp] theorem State.refuseReq_clk_setWait (q : Req) (c : Nat) (s : State) : (s.refuseReq q c).clk.setWait = s.clk.setWait := by simp [State.refuseReq]
@[simp] theorem State.refuseReq_clk_upNs (q : Req) (c : Nat) (s : State) : (s.refuseReq q c).clk.upNs = s.clk.upNs := by simp [State.refuseReq]
@[simp] theorem State.refuseReq_clk_cycleT0 (q : Req) (c : Nat) (s : State) : (s.refuseReq q c).clk.cycleT0 = s.clk.cycleT0 := by simp [State.refuseReq]
@[simp] theorem State.refuseReq_clk_cycleNo (q : Req) (c : Nat) (s : State) : (s.refuseReq q c).clk.cycleNo = s.clk.cycleNo := by simp [State.refuseReq]
@[simp] theorem State.refuseReq_now (q : Req) (c : Nat) (s : State) : (s.refuseReq q c).now = s.now := by simp [State.now]
@[simp] theorem State.refuseReq_ffr_nv (q : Req) (c : Nat) (s : State) : (s.refuseReq q c).ffr.nv = s.ffr.nv := by simp [State.refuseReq]
@[simp] theorem State.refuseReq_ffr_writing (q : Req) (c : Nat) (s : State) : (s.refuseReq q c).ffr.writing = s.ffr.writing := by simp [State.refuseReq]
@[simp] theorem State.refuseReq_ffr_revising (q : Req) (c : Nat) (s : State) : (s.refuseReq q c).ffr.revising = s.ffr.revising := by simp [State.refuseReq]
@[simp] theorem State.refuseReq_ffr_mirroring (q : Req) (c : Nat) (s : State) : (s.refuseReq q c).ffr.mirroring = s.ffr.mirroring := by simp [State.refuseReq]
@[simp] theorem State.refuseReq_ffr_tallies (q : Req) (c : Nat) (s : State) : (s.refuseReq q c).ffr.tallies = s.ffr.tallies := by simp [State.refuseReq]
@[simp] theorem State.refuseReq_ffr_secCodes (q : Req) (c : Nat) (s : State) : (s.refuseReq q c).ffr.secCodes = s.ffr.secCodes := by simp [State.refuseReq]
@[simp] theorem State.refuseReq_ffr_rsel (q : Req) (c : Nat) (s : State) : (s.refuseReq q c).ffr.rsel = s.ffr.rsel := by simp [State.refuseReq]
@[simp] theorem State.refuseReq_ffr_resCode (q : Req) (c : Nat) (s : State) : (s.refuseReq q c).ffr.resCode = s.ffr.resCode := by simp [State.refuseReq]
@[simp] theorem State.refuseReq_ffr_archPend (q : Req) (c : Nat) (s : State) : (s.refuseReq q c).ffr.archPend = s.ffr.archPend := by simp [State.refuseReq]
@[simp] theorem State.refuseReq_ffr_due (q : Req) (c : Nat) (s : State) : (s.refuseReq q c).ffr.due = s.ffr.due := by simp [State.refuseReq]
@[simp] theorem State.refuseReq_ffr_clearReq (q : Req) (c : Nat) (s : State) : (s.refuseReq q c).ffr.clearReq = s.ffr.clearReq := by simp [State.refuseReq]
@[simp] theorem State.noCredit_clk_tscFix (q : Req) (n : Nat) (s : State) : (s.noCredit q n).clk.tscFix = s.clk.tscFix := by simp [State.noCredit]
@[simp] theorem State.noCredit_clk_tscValid (q : Req) (n : Nat) (s : State) : (s.noCredit q n).clk.tscValid = s.clk.tscValid := by simp [State.noCredit]
@[simp] theorem State.noCredit_clk_incr (q : Req) (n : Nat) (s : State) : (s.noCredit q n).clk.incr = s.clk.incr := by simp [State.noCredit]
@[simp] theorem State.noCredit_clk_slewRem (q : Req) (n : Nat) (s : State) : (s.noCredit q n).clk.slewRem = s.clk.slewRem := by simp [State.noCredit]
@[simp] theorem State.noCredit_clk_setReq (q : Req) (n : Nat) (s : State) : (s.noCredit q n).clk.setReq = s.clk.setReq := by simp [State.noCredit]
@[simp] theorem State.noCredit_clk_setWait (q : Req) (n : Nat) (s : State) : (s.noCredit q n).clk.setWait = s.clk.setWait := by simp [State.noCredit]
@[simp] theorem State.noCredit_clk_upNs (q : Req) (n : Nat) (s : State) : (s.noCredit q n).clk.upNs = s.clk.upNs := by simp [State.noCredit]
@[simp] theorem State.noCredit_clk_cycleT0 (q : Req) (n : Nat) (s : State) : (s.noCredit q n).clk.cycleT0 = s.clk.cycleT0 := by simp [State.noCredit]
@[simp] theorem State.noCredit_clk_cycleNo (q : Req) (n : Nat) (s : State) : (s.noCredit q n).clk.cycleNo = s.clk.cycleNo := by simp [State.noCredit]
@[simp] theorem State.noCredit_now (q : Req) (n : Nat) (s : State) : (s.noCredit q n).now = s.now := by simp [State.now]
@[simp] theorem State.noCredit_ffr_nv (q : Req) (n : Nat) (s : State) : (s.noCredit q n).ffr.nv = s.ffr.nv := by simp [State.noCredit]
@[simp] theorem State.noCredit_ffr_writing (q : Req) (n : Nat) (s : State) : (s.noCredit q n).ffr.writing = s.ffr.writing := by simp [State.noCredit]
@[simp] theorem State.noCredit_ffr_revising (q : Req) (n : Nat) (s : State) : (s.noCredit q n).ffr.revising = s.ffr.revising := by simp [State.noCredit]
@[simp] theorem State.noCredit_ffr_mirroring (q : Req) (n : Nat) (s : State) : (s.noCredit q n).ffr.mirroring = s.ffr.mirroring := by simp [State.noCredit]
@[simp] theorem State.noCredit_ffr_tallies (q : Req) (n : Nat) (s : State) : (s.noCredit q n).ffr.tallies = s.ffr.tallies := by simp [State.noCredit]
@[simp] theorem State.noCredit_ffr_secCodes (q : Req) (n : Nat) (s : State) : (s.noCredit q n).ffr.secCodes = s.ffr.secCodes := by simp [State.noCredit]
@[simp] theorem State.noCredit_ffr_rsel (q : Req) (n : Nat) (s : State) : (s.noCredit q n).ffr.rsel = s.ffr.rsel := by simp [State.noCredit]
@[simp] theorem State.noCredit_ffr_resCode (q : Req) (n : Nat) (s : State) : (s.noCredit q n).ffr.resCode = s.ffr.resCode := by simp [State.noCredit]
@[simp] theorem State.noCredit_ffr_archPend (q : Req) (n : Nat) (s : State) : (s.noCredit q n).ffr.archPend = s.ffr.archPend := by simp [State.noCredit]
@[simp] theorem State.noCredit_ffr_due (q : Req) (n : Nat) (s : State) : (s.noCredit q n).ffr.due = s.ffr.due := by simp [State.noCredit]
@[simp] theorem State.noCredit_ffr_clearReq (q : Req) (n : Nat) (s : State) : (s.noCredit q n).ffr.clearReq = s.ffr.clearReq := by simp [State.noCredit]
@[simp] theorem State.when_clk (c : Bool) (f : State → State) (s : State) : (State.when c f s).clk = if c then (f s).clk else s.clk := by
  unfold State.when; split <;> rfl
@[simp] theorem State.when_ident (c : Bool) (f : State → State) (s : State) : (State.when c f s).ident = if c then (f s).ident else s.ident := by
  unfold State.when; split <;> rfl
@[simp] theorem State.when_img (c : Bool) (f : State → State) (s : State) : (State.when c f s).img = if c then (f s).img else s.img := by
  unfold State.when; split <;> rfl
@[simp] theorem State.when_ring (c : Bool) (f : State → State) (s : State) : (State.when c f s).ring = if c then (f s).ring else s.ring := by
  unfold State.when; split <;> rfl
@[simp] theorem State.when_sense (c : Bool) (f : State → State) (s : State) : (State.when c f s).sense = if c then (f s).sense else s.sense := by
  unfold State.when; split <;> rfl
@[simp] theorem State.when_sweep (c : Bool) (f : State → State) (s : State) : (State.when c f s).sweep = if c then (f s).sweep else s.sweep := by
  unfold State.when; split <;> rfl
@[simp] theorem State.when_str (c : Bool) (f : State → State) (s : State) : (State.when c f s).str = if c then (f s).str else s.str := by
  unfold State.when; split <;> rfl
@[simp] theorem State.when_rc (c : Bool) (f : State → State) (s : State) : (State.when c f s).rc = if c then (f s).rc else s.rc := by
  unfold State.when; split <;> rfl
@[simp] theorem State.when_bank (c : Bool) (f : State → State) (s : State) : (State.when c f s).bank = if c then (f s).bank else s.bank := by
  unfold State.when; split <;> rfl
@[simp] theorem State.when_est (c : Bool) (f : State → State) (s : State) : (State.when c f s).est = if c then (f s).est else s.est := by
  unfold State.when; split <;> rfl
@[simp] theorem State.when_saf (c : Bool) (f : State → State) (s : State) : (State.when c f s).saf = if c then (f s).saf else s.saf := by
  unfold State.when; split <;> rfl
@[simp] theorem State.when_twin (c : Bool) (f : State → State) (s : State) : (State.when c f s).twin = if c then (f s).twin else s.twin := by
  unfold State.when; split <;> rfl
@[simp] theorem State.when_trust (c : Bool) (f : State → State) (s : State) : (State.when c f s).trust = if c then (f s).trust else s.trust := by
  unfold State.when; split <;> rfl
@[simp] theorem State.when_hist (c : Bool) (f : State → State) (s : State) : (State.when c f s).hist = if c then (f s).hist else s.hist := by
  unfold State.when; split <;> rfl
@[simp] theorem State.when_ffr (c : Bool) (f : State → State) (s : State) : (State.when c f s).ffr = if c then (f s).ffr else s.ffr := by
  unfold State.when; split <;> rfl
@[simp] theorem State.when_host (c : Bool) (f : State → State) (s : State) : (State.when c f s).host = if c then (f s).host else s.host := by
  unfold State.when; split <;> rfl
@[simp] theorem State.when_jrn (c : Bool) (f : State → State) (s : State) : (State.when c f s).jrn = if c then (f s).jrn else s.jrn := by
  unfold State.when; split <;> rfl
@[simp] theorem State.when_ptp (c : Bool) (f : State → State) (s : State) : (State.when c f s).ptp = if c then (f s).ptp else s.ptp := by
  unfold State.when; split <;> rfl
@[simp] theorem State.when_can (c : Bool) (f : State → State) (s : State) : (State.when c f s).can = if c then (f s).can else s.can := by
  unfold State.when; split <;> rfl
@[simp] theorem State.when_hk (c : Bool) (f : State → State) (s : State) : (State.when c f s).hk = if c then (f s).hk else s.hk := by
  unfold State.when; split <;> rfl
@[simp] theorem State.when_ctr (c : Bool) (f : State → State) (s : State) : (State.when c f s).ctr = if c then (f s).ctr else s.ctr := by
  unfold State.when; split <;> rfl
@[simp] theorem State.when_ctrSat (c : Bool) (f : State → State) (s : State) : (State.when c f s).ctrSat = if c then (f s).ctrSat else s.ctrSat := by
  unfold State.when; split <;> rfl
@[simp] theorem State.when_jctr (c : Bool) (f : State → State) (s : State) : (State.when c f s).jctr = if c then (f s).jctr else s.jctr := by
  unfold State.when; split <;> rfl
@[simp] theorem State.when_upd (c : Bool) (f : State → State) (s : State) : (State.when c f s).upd = if c then (f s).upd else s.upd := by
  unfold State.when; split <;> rfl
@[simp] theorem State.when_io (c : Bool) (f : State → State) (s : State) : (State.when c f s).io = if c then (f s).io else s.io := by
  unfold State.when; split <;> rfl
@[simp] theorem State.when_scan (c : Bool) (f : State → State) (s : State) : (State.when c f s).scan = if c then (f s).scan else s.scan := by
  unfold State.when; split <;> rfl
@[simp] theorem State.when_pwr (c : Bool) (f : State → State) (s : State) : (State.when c f s).pwr = if c then (f s).pwr else s.pwr := by
  unfold State.when; split <;> rfl
@[simp] theorem State.when_thm (c : Bool) (f : State → State) (s : State) : (State.when c f s).thm = if c then (f s).thm else s.thm := by
  unfold State.when; split <;> rfl
@[simp] theorem State.when_hw (c : Bool) (f : State → State) (s : State) : (State.when c f s).hw = if c then (f s).hw else s.hw := by
  unfold State.when; split <;> rfl
@[simp] theorem State.when_free (c : Bool) (f : State → State) (s : State) : (State.when c f s).free = if c then (f s).free else s.free := by
  unfold State.when; split <;> rfl
@[simp] theorem State.when_out (c : Bool) (f : State → State) (s : State) : (State.when c f s).out = if c then (f s).out else s.out := by
  unfold State.when; split <;> rfl
@[simp] theorem State.when_pending (c : Bool) (f : State → State) (s : State) : (State.when c f s).pending = if c then (f s).pending else s.pending := by
  unfold State.when; split <;> rfl

@[simp] theorem State.forEach_clk {α : Type} (l : List α) (f : α → State → State) (s : State) (h : ∀ a s, (f a s).clk = s.clk) :
    (State.forEach l f s).clk = s.clk := State.forEach_keeps (·.clk) l f s h
@[simp] theorem State.forEach_ident {α : Type} (l : List α) (f : α → State → State) (s : State) (h : ∀ a s, (f a s).ident = s.ident) :
    (State.forEach l f s).ident = s.ident := State.forEach_keeps (·.ident) l f s h
@[simp] theorem State.forEach_img {α : Type} (l : List α) (f : α → State → State) (s : State) (h : ∀ a s, (f a s).img = s.img) :
    (State.forEach l f s).img = s.img := State.forEach_keeps (·.img) l f s h
@[simp] theorem State.forEach_ring {α : Type} (l : List α) (f : α → State → State) (s : State) (h : ∀ a s, (f a s).ring = s.ring) :
    (State.forEach l f s).ring = s.ring := State.forEach_keeps (·.ring) l f s h
@[simp] theorem State.forEach_sense {α : Type} (l : List α) (f : α → State → State) (s : State) (h : ∀ a s, (f a s).sense = s.sense) :
    (State.forEach l f s).sense = s.sense := State.forEach_keeps (·.sense) l f s h
@[simp] theorem State.forEach_sweep {α : Type} (l : List α) (f : α → State → State) (s : State) (h : ∀ a s, (f a s).sweep = s.sweep) :
    (State.forEach l f s).sweep = s.sweep := State.forEach_keeps (·.sweep) l f s h
@[simp] theorem State.forEach_str {α : Type} (l : List α) (f : α → State → State) (s : State) (h : ∀ a s, (f a s).str = s.str) :
    (State.forEach l f s).str = s.str := State.forEach_keeps (·.str) l f s h
@[simp] theorem State.forEach_rc {α : Type} (l : List α) (f : α → State → State) (s : State) (h : ∀ a s, (f a s).rc = s.rc) :
    (State.forEach l f s).rc = s.rc := State.forEach_keeps (·.rc) l f s h
@[simp] theorem State.forEach_bank {α : Type} (l : List α) (f : α → State → State) (s : State) (h : ∀ a s, (f a s).bank = s.bank) :
    (State.forEach l f s).bank = s.bank := State.forEach_keeps (·.bank) l f s h
@[simp] theorem State.forEach_est {α : Type} (l : List α) (f : α → State → State) (s : State) (h : ∀ a s, (f a s).est = s.est) :
    (State.forEach l f s).est = s.est := State.forEach_keeps (·.est) l f s h
@[simp] theorem State.forEach_saf {α : Type} (l : List α) (f : α → State → State) (s : State) (h : ∀ a s, (f a s).saf = s.saf) :
    (State.forEach l f s).saf = s.saf := State.forEach_keeps (·.saf) l f s h
@[simp] theorem State.forEach_twin {α : Type} (l : List α) (f : α → State → State) (s : State) (h : ∀ a s, (f a s).twin = s.twin) :
    (State.forEach l f s).twin = s.twin := State.forEach_keeps (·.twin) l f s h
@[simp] theorem State.forEach_trust {α : Type} (l : List α) (f : α → State → State) (s : State) (h : ∀ a s, (f a s).trust = s.trust) :
    (State.forEach l f s).trust = s.trust := State.forEach_keeps (·.trust) l f s h
@[simp] theorem State.forEach_hist {α : Type} (l : List α) (f : α → State → State) (s : State) (h : ∀ a s, (f a s).hist = s.hist) :
    (State.forEach l f s).hist = s.hist := State.forEach_keeps (·.hist) l f s h
@[simp] theorem State.forEach_ffr {α : Type} (l : List α) (f : α → State → State) (s : State) (h : ∀ a s, (f a s).ffr = s.ffr) :
    (State.forEach l f s).ffr = s.ffr := State.forEach_keeps (·.ffr) l f s h
@[simp] theorem State.forEach_host {α : Type} (l : List α) (f : α → State → State) (s : State) (h : ∀ a s, (f a s).host = s.host) :
    (State.forEach l f s).host = s.host := State.forEach_keeps (·.host) l f s h
@[simp] theorem State.forEach_jrn {α : Type} (l : List α) (f : α → State → State) (s : State) (h : ∀ a s, (f a s).jrn = s.jrn) :
    (State.forEach l f s).jrn = s.jrn := State.forEach_keeps (·.jrn) l f s h
@[simp] theorem State.forEach_ptp {α : Type} (l : List α) (f : α → State → State) (s : State) (h : ∀ a s, (f a s).ptp = s.ptp) :
    (State.forEach l f s).ptp = s.ptp := State.forEach_keeps (·.ptp) l f s h
@[simp] theorem State.forEach_can {α : Type} (l : List α) (f : α → State → State) (s : State) (h : ∀ a s, (f a s).can = s.can) :
    (State.forEach l f s).can = s.can := State.forEach_keeps (·.can) l f s h
@[simp] theorem State.forEach_hk {α : Type} (l : List α) (f : α → State → State) (s : State) (h : ∀ a s, (f a s).hk = s.hk) :
    (State.forEach l f s).hk = s.hk := State.forEach_keeps (·.hk) l f s h
@[simp] theorem State.forEach_ctr {α : Type} (l : List α) (f : α → State → State) (s : State) (h : ∀ a s, (f a s).ctr = s.ctr) :
    (State.forEach l f s).ctr = s.ctr := State.forEach_keeps (·.ctr) l f s h
@[simp] theorem State.forEach_ctrSat {α : Type} (l : List α) (f : α → State → State) (s : State) (h : ∀ a s, (f a s).ctrSat = s.ctrSat) :
    (State.forEach l f s).ctrSat = s.ctrSat := State.forEach_keeps (·.ctrSat) l f s h
@[simp] theorem State.forEach_jctr {α : Type} (l : List α) (f : α → State → State) (s : State) (h : ∀ a s, (f a s).jctr = s.jctr) :
    (State.forEach l f s).jctr = s.jctr := State.forEach_keeps (·.jctr) l f s h
@[simp] theorem State.forEach_upd {α : Type} (l : List α) (f : α → State → State) (s : State) (h : ∀ a s, (f a s).upd = s.upd) :
    (State.forEach l f s).upd = s.upd := State.forEach_keeps (·.upd) l f s h
@[simp] theorem State.forEach_io {α : Type} (l : List α) (f : α → State → State) (s : State) (h : ∀ a s, (f a s).io = s.io) :
    (State.forEach l f s).io = s.io := State.forEach_keeps (·.io) l f s h
@[simp] theorem State.forEach_scan {α : Type} (l : List α) (f : α → State → State) (s : State) (h : ∀ a s, (f a s).scan = s.scan) :
    (State.forEach l f s).scan = s.scan := State.forEach_keeps (·.scan) l f s h
@[simp] theorem State.forEach_pwr {α : Type} (l : List α) (f : α → State → State) (s : State) (h : ∀ a s, (f a s).pwr = s.pwr) :
    (State.forEach l f s).pwr = s.pwr := State.forEach_keeps (·.pwr) l f s h
@[simp] theorem State.forEach_thm {α : Type} (l : List α) (f : α → State → State) (s : State) (h : ∀ a s, (f a s).thm = s.thm) :
    (State.forEach l f s).thm = s.thm := State.forEach_keeps (·.thm) l f s h
@[simp] theorem State.forEach_hw {α : Type} (l : List α) (f : α → State → State) (s : State) (h : ∀ a s, (f a s).hw = s.hw) :
    (State.forEach l f s).hw = s.hw := State.forEach_keeps (·.hw) l f s h
@[simp] theorem State.forEach_free {α : Type} (l : List α) (f : α → State → State) (s : State) (h : ∀ a s, (f a s).free = s.free) :
    (State.forEach l f s).free = s.free := State.forEach_keeps (·.free) l f s h
@[simp] theorem State.forEach_out {α : Type} (l : List α) (f : α → State → State) (s : State) (h : ∀ a s, (f a s).out = s.out) :
    (State.forEach l f s).out = s.out := State.forEach_keeps (·.out) l f s h
@[simp] theorem State.forEach_pending {α : Type} (l : List α) (f : α → State → State) (s : State) (h : ∀ a s, (f a s).pending = s.pending) :
    (State.forEach l f s).pending = s.pending := State.forEach_keeps (·.pending) l f s h

end Sys2Proof.Machine
end

