-- ==== Sys2Proof/Laws/Vec.lean ====
section
/-! SUPPORT. What replacing one element, or every element, leaves and writes. -/

namespace Sys2Proof.Machine

/-- Element `j` after element `i` was replaced. -/
@[simp] theorem Vec.upd_get {α : Type} {n : Nat} (v : Vector α n) (i : Fin n) (f : α → α) (j : Nat) (h : j < n) :
    (Vec.upd v i f)[j]'h = if (i : Nat) = j then f (v[j]'h) else v[j]'h := by
  by_cases e : (i : Nat) = j
  · subst e; simp [Vec.upd]
  · simp [Vec.upd, Vector.getElem_set, e]

/-- Element `j` after every element was replaced. -/
@[simp] theorem Vec.updAll_get {α : Type} {n : Nat} (v : Vector α n) (f : Fin n → α → α) (j : Nat) (h : j < n) :
    (Vec.updAll v f)[j]'h = f ⟨j, h⟩ (v[j]'h) := by
  simp [Vec.updAll]

end Sys2Proof.Machine
end

