-- ==== Sys2Proof/Laws/Request.lean ====
section
/-! SUPPORT. How a served request, a recorded event and a count act on the state: the lemmas that the statements' proofs cite in place of
unfolding the shared operations. -/

namespace Sys2Proof.Machine

/-! ### Requests -/

/-- A request of a session that is heard and may make it reaches its body. -/
theorem State.withReq_heard {q : Req} {x : Session} {s : State} (h : s.hears q x) (type : Nat) (may : HostRole → Bool)
    (body : Session → State → State) (hm : may (s.roleOf x) = true) : s.withReq q type may body = body x (s.enter q type) := by
  obtain ⟨h1, h2, h3⟩ := h
  simp [State.withReq, h1, h2, h3, hm]

/-- A request of a session whose role does not permit it is refused with LHP_ROLE. -/
theorem State.withReq_role {q : Req} {x : Session} {s : State} (h : s.hears q x) (type : Nat) (may : HostRole → Bool)
    (body : Session → State → State) (hm : may (s.roleOf x) = false) :
    s.withReq q type may body = (s.enter q type).refuseReq q 0x0C02 := by
  obtain ⟨h1, h2, h3⟩ := h
  simp [State.withReq, h1, h2, h3, hm]

/-- A served write: its effect, then its answer. -/
theorem State.hostWrite_served {q : Req} {x : Session} {s : State} (h : s.serves q x) (w : Write) :
    s.hostWrite q w = if (w x (s.enter q 2)).1 = 0 then (w x (s.enter q 2)).2.reply q 0 []
      else (w x (s.enter q 2)).2.refuseReq q (w x (s.enter q 2)).1 := by
  simp [State.hostWrite, State.withReq_heard h.1 _ _ _ h.2]

/-- A served write that its checks accept. -/
theorem State.hostWrite_ok {q : Req} {x : Session} {s : State} (h : s.serves q x) (w : Write) (hc : (w x (s.enter q 2)).1 = 0) :
    s.hostWrite q w = (w x (s.enter q 2)).2.reply q 0 [] := by
  simp [State.hostWrite_served h, hc]

/-- A served write that its checks refuse. -/
theorem State.hostWrite_refused {q : Req} {x : Session} {s : State} (h : s.serves q x) (w : Write) (hc : (w x (s.enter q 2)).1 ≠ 0) :
    s.hostWrite q w = (w x (s.enter q 2)).2.refuseReq q (w x (s.enter q 2)).1 := by
  simp [State.hostWrite_served h, hc]

@[simp] theorem State.enter_roleOf (q : Req) (n : Nat) (s : State) (x : Session) : (s.enter q n).roleOf x = s.roleOf x := by
  simp [State.roleOf, State.sw2]

/-- The session of a slot after it was replaced. -/
theorem State.session_modSession {s : State} {id : Nat} (f : Session → Session) (hf : ∀ x, (f x).id = x.id) :
    (s.modSession id f).session id = (s.session id).map f := by
  unfold State.session State.modSession
  simp only [State.modHost_host, List.find?_map]
  have hp : ((fun x : Session => x.id == id) ∘ fun x => if (x.id == id) = true then f x else x) = fun x => x.id == id := by
    funext x
    by_cases h : x.id = id <;> simp [h, hf]
  rw [hp]
  cases h : s.host.sessions.find? (fun x => x.id == id) with
  | none => rfl
  | some x =>
    have hx : x.id = id := by simpa using List.find?_some h
    simp [hx]

/-- A session that is owed nothing sends nothing. -/
theorem State.flush_idle {s : State} {id : Nat} {x : Session} (h : s.session id = some x) (hx : x.fifo = []) (n : Nat) :
    s.flush id n = s := by
  induction n with
  | zero => rfl
  | succ n ih =>
    have : s.flushOne id = s := by simp [State.flushOne, h, hx]
    simp [State.flush, this, ih]

/-- The answer to a request of a quiet session leaves at once. -/
theorem State.reply_prompt {q : Req} {x : Session} {s u : State} {type : Nat} (h : s.prompt q x) (ht : type < 0x100)
    (hh : u.host = (s.enter q type).host) (hr : u.hist.refusing = false) (c : Nat) (b : List Byte) :
    (u.reply q c b).out = q.answer type c b :: u.out := by
  obtain ⟨⟨hs, -, -⟩, hf, hw, hi, -⟩ := h
  have hu : u.session q.session = some { x with idleUp := s.clk.upNs, credits := x.credits - 1, inExec := x.inExec + 1, fifo := x.fifo ++ [{ msg := q.msg, type := type }] } := by
    have : u.session q.session = (s.enter q type).session q.session := by simp [State.session, hh]
    rw [this, State.enter, State.session_modSession _ (by intro _; rfl), hs]
    rfl
  have ht' : ¬ 0x100 ≤ type := by omega
  unfold State.reply
  generalize hv : u.modSession q.session _ = v
  have hvs : v.session q.session = some { x with idleUp := s.clk.upNs, credits := x.credits - 1, inExec := x.inExec + 1, fifo := [{ msg := q.msg, type := type, ready := some (c, b) }] } := by
    subst hv
    rw [State.session_modSession _ (by intro _; rfl), hu]
    simp [hf]
  have hvr : v.hist.refusing = false := by subst hv; simpa using hr
  have hvo : v.out = u.out := by subst hv; simp
  have hheld : ¬ 16 ≤ x.inExec := by omega
  have hone : ∃ y, (v.flushOne q.session).session q.session = some y ∧ y.fifo = [] ∧ (v.flushOne q.session).out = q.answer type c b :: v.out := by
    simp only [State.flushOne, hvs]
    simp [Resp.ready?, State.withholds, hvr, hheld, ht', hw, State.sendResp, State.sendBytes, State.send, Nat.mod_eq_of_lt ht, Req.answer, Req.response]
    rw [show ∀ (w : State) (o : List Out), (w.setOut o).session q.session = w.session q.session from fun _ _ => rfl,
      State.session_modSession _ (by intro _; rfl), hvs]
    simp
  obtain ⟨y, hy, hyf, hyo⟩ := hone
  rw [show (17 : Nat) = 16 + 1 from rfl, State.flush, State.flush_idle hy hyf, hyo, hvo]

/-! ### Events and counts -/

/-- An event put in order into a queue stands in it. -/
theorem Event.mem_enqueue (l : List Event) (e x : Event) : x ∈ Event.enqueue l e ↔ x = e ∨ x ∈ l := by
  induction l with
  | nil => simp [Event.enqueue]
  | cons y t ih =>
    simp only [Event.enqueue]
    split
    · simp only [List.mem_cons, ih]; tauto
    · simp only [List.mem_cons]

/-- A queue is one longer with an event put into it. -/
@[simp] theorem Event.enqueue_length (l : List Event) (e : Event) : (Event.enqueue l e).length = l.length + 1 := by
  induction l with
  | nil => rfl
  | cons y t ih =>
    simp only [Event.enqueue]
    split <;> simp [ih]

/-- An event recorded where the queue has room. -/
theorem State.emit_ffr {c n : Nat} {b : List Int} {s : State} (h : s.ffr.queue.length < Ffr.capacity) :
    (s.emit c n b).ffr = { s.ffr with queue := Event.enqueue s.ffr.queue (s.stampEvent c n b) } := by
  simp [State.emit, State.deliver, h, State.stamped]

/-- Recording an event keeps every event of the queue. -/
theorem State.emit_keeps {c n : Nat} {b : List Int} {s : State} {e : Event} (h : e ∈ s.ffr.queue) : e ∈ (s.emit c n b).ffr.queue := by
  by_cases hr : s.ffr.queue.length < Ffr.capacity
  · rw [State.emit_ffr hr]; exact (Event.mem_enqueue _ _ _).2 (.inr h)
  · simp [State.emit, State.deliver, hr, State.stamped, State.dropEvent, State.countOnly, h]

/-- Where the queue has room, the event is recorded. -/
theorem State.emit_recorded {c n : Nat} {b : List Int} {s : State} (h : s.ffr.queue.length < Ffr.capacity) :
    State.recorded c n b s (s.emit c n b) := by
  refine ⟨s.stampEvent c n b, ?_, rfl, rfl, rfl, ?_⟩
  · rw [State.emit_ffr h]; exact (Event.mem_enqueue _ _ _).2 (.inl rfl)
  · simp [State.stampEvent, State.stampOf]

/-- Where the queue has room, recording changes no counter. -/
theorem State.emit_ctr {c n : Nat} {b : List Int} {s : State} (h : s.ffr.queue.length < Ffr.capacity) : (s.emit c n b).ctr = s.ctr := by
  simp [State.emit, State.deliver, h, State.stamped]

/-- Noting a saturation changes no counter where the queue has room. -/
theorem State.noteSaturated_ctr {a : Nat} {s : State} (h : s.ffr.queue.length < Ffr.capacity) : (s.noteSaturated a).ctr = s.ctr := by
  unfold State.noteSaturated
  split
  · rw [State.emit_ctr (by simpa using h)]; rfl
  · rfl

/-- A count: the counter is one higher, or holds at its saturation value. -/
theorem State.bump_ctr {a : Nat} {s : State} (h : s.ffr.queue.length < Ffr.capacity) :
    (s.bump a).ctr = Sparse.set s.ctr a (min (Counter.max a) (s.counter a + 1)) := by
  rw [State.bump, State.noteSaturated_ctr (by simpa using h)]; rfl

/-- Counting keeps every event of the queue. -/
theorem State.bump_keeps {a : Nat} {s : State} {e : Event} (h : e ∈ s.ffr.queue) : e ∈ (s.bump a).ffr.queue := by
  unfold State.bump State.noteSaturated
  split
  · exact State.emit_keeps (by simpa using h)
  · simpa using h

/-! ### Tables by number -/

theorem Sparse.find_put {β : Type} (l : List (Nat × β)) (k j : Nat) (v : β) :
    Sparse.find (Sparse.put l k v) j = if j = k then some v else Sparse.find l j := by
  induction l with
  | nil =>
    by_cases h : j = k
    · simp [Sparse.put, Sparse.find, h]
    · have : ¬ k = j := fun e => h e.symm
      simp [Sparse.put, Sparse.find, h, this]
  | cons e t ih =>
    obtain ⟨i, w⟩ := e
    simp only [Sparse.find] at ih
    simp only [Sparse.put]
    split
    · by_cases h : j = k
      · simp [Sparse.find, h]
      · have : ¬ k = j := fun e => h e.symm
        simp [Sparse.find, h, this]
    · split
      · rename_i h1 h2
        subst h2
        by_cases h : j = k
        · simp [Sparse.find, h]
        · have : ¬ k = j := fun e => h e.symm
          simp [Sparse.find, h, this]
      · rename_i h1 h2
        by_cases hi : i = j
        · subst hi
          have : ¬ i = k := fun e => h2 e.symm
          simp [Sparse.find, this]
        · simp only [Sparse.find, List.find?_cons]
          have hb : (i == j) = false := by simpa using hi
          simp only [hb]
          exact ih

theorem Sparse.find_erase {β : Type} (l : List (Nat × β)) (k j : Nat) :
    Sparse.find (Sparse.erase l k) j = if j = k then none else Sparse.find l j := by
  induction l with
  | nil => simp [Sparse.erase, Sparse.find]
  | cons e t ih =>
    obtain ⟨i, w⟩ := e
    simp only [Sparse.find, Sparse.erase] at ih
    simp only [Sparse.erase, Sparse.find, List.filter_cons]
    by_cases hik : i = k
    · subst hik
      simp only [bne_self_eq_false, Bool.false_eq_true, if_false, ih]
      by_cases h : j = i
      · simp [h]
      · have hb : (i == j) = false := by simpa using fun e : i = j => h e.symm
        simp [h, hb]
    · have hb : (i != k) = true := by simpa using hik
      simp only [hb, if_true, List.find?_cons]
      by_cases hij : i = j
      · subst hij; simp [hik]
      · have hb : (i == j) = false := by simpa using hij
        simp only [hb]; exact ih

/-- The entry of `j` after the entry of `k` was set. -/
theorem Sparse.get_set (l : List (Nat × Nat)) (k j v : Nat) : Sparse.get (Sparse.set l k v) j 0 = if j = k then v else Sparse.get l j 0 := by
  unfold Sparse.set Sparse.get
  split
  · rename_i h
    rw [Sparse.find_erase]; split <;> simp [h]
  · rw [Sparse.find_put]; split <;> simp

theorem Sparse.get_put {β : Type} (l : List (Nat × β)) (k j : Nat) (v d : β) :
    Sparse.get (Sparse.put l k v) j d = if j = k then v else Sparse.get l j d := by
  unfold Sparse.get
  rw [Sparse.find_put]; split <;> simp

/-! ### What was recorded or counted, seen from an earlier state -/

/-- No stamp of a source goes back when an event is recorded. -/
theorem State.emit_last {c n : Nat} {b : List Int} {s : State} (src : Nat) :
    Sparse.get s.clk.lastStamp src 0 ≤ Sparse.get (s.emit c n b).clk.lastStamp src 0 := by
  simp only [State.emit, State.stamped, State.modClk_clk, State.deliver_clk, Sparse.get_put]
  split
  · rename_i h
    subst h
    simp only [State.stampOf, State.deliver_clk]
    omega
  · exact Nat.le_refl _

/-- No stamp of a source goes back when something is counted. -/
theorem State.bump_last {a : Nat} {s : State} (src : Nat) :
    Sparse.get s.clk.lastStamp src 0 ≤ Sparse.get (s.bump a).clk.lastStamp src 0 := by
  unfold State.bump State.noteSaturated
  split
  · exact Nat.le_trans (by simp) (State.emit_last src)
  · simp

/-- An event recorded from `u`, where `u` came after `s`, is recorded since `s`. -/
theorem State.recorded_since {c n : Nat} {b : List Int} {s u t : State} (h : State.recorded c n b u t)
    (hl : Sparse.get s.clk.lastStamp n 0 ≤ Sparse.get u.clk.lastStamp n 0) : State.recorded c n b s t := by
  obtain ⟨e, he, h1, h2, h3, h4⟩ := h
  exact ⟨e, he, h1, h2, h3, Nat.lt_of_le_of_lt hl h4⟩

/-- What was recorded stays recorded when another event is. -/
theorem State.recorded_emit {c n c' n' : Nat} {b b' : List Int} {s t : State} (h : State.recorded c n b s t) :
    State.recorded c n b s (t.emit c' n' b') := by
  obtain ⟨e, he, h⟩ := h
  exact ⟨e, State.emit_keeps he, h⟩

/-- What was recorded stays recorded when something is counted. -/
theorem State.recorded_bump {c n a : Nat} {b : List Int} {s t : State} (h : State.recorded c n b s t) :
    State.recorded c n b s (t.bump a) := by
  obtain ⟨e, he, h⟩ := h
  exact ⟨e, State.bump_keeps he, h⟩

/-- Recording looks at the first-fault queue alone. -/
theorem State.recorded_ffr {c n : Nat} {b : List Int} {s t u : State} (h : State.recorded c n b s t) (hu : u.ffr = t.ffr) :
    State.recorded c n b s u := by
  obtain ⟨e, he, h⟩ := h
  exact ⟨e, hu ▸ he, h⟩

/-- An event more leaves the queue at most one longer. -/
theorem State.emit_length {c n : Nat} {b : List Int} {s : State} : (s.emit c n b).ffr.queue.length ≤ s.ffr.queue.length + 1 := by
  by_cases hr : s.ffr.queue.length < Ffr.capacity
  · rw [State.emit_ffr hr]; simp
  · simp [State.emit, State.deliver, hr, State.stamped, State.dropEvent, State.countOnly]

/-- A count leaves the queue at most one longer. -/
theorem State.bump_length {a : Nat} {s : State} : (s.bump a).ffr.queue.length ≤ s.ffr.queue.length + 1 := by
  unfold State.bump State.noteSaturated
  split
  · exact Nat.le_trans State.emit_length (by simp)
  · simp

/-- A count where the queue has room. -/
theorem State.bump_counted {a : Nat} {s : State} (h : s.ffr.queue.length < Ffr.capacity) : State.counted a s (s.bump a) := by
  unfold State.counted
  rw [State.counter, State.bump_ctr h, Sparse.get_set, if_pos rfl]

end Sys2Proof.Machine
end

