-- ==== Sys2Proof/Tests/Helpers.lean ====
section
/-! SUPPORT. Small states for the tests: the reset state with one service session open. -/

namespace Sys2Proof.Tests

open Machine

/-- A service session in slot 0. -/
def W.x : Session := { id := 0, role := .service }

/-- An operate session in slot 0. -/
def W.y : Session := { id := 0, role := .operate }

/-- A read session in slot 0. -/
def W.z : Session := { id := 0, role := .read }

/-- A request of the session in slot 0. -/
def W.q : Req := { session := 0, msg := 1 }

/-- The reset state with the service session open. -/
def W.s : State := State.reset.modHost fun h => { h with sessions := [W.x] }

/-- The reset state with the read session open. -/
def W.r : State := State.reset.modHost fun h => { h with sessions := [W.z] }

/-- A state with the configuration of one string changed. -/
def W.topo (n : Fin 8) (f : StrCfg → StrCfg) (s : State) : State :=
  s.modImg fun i => { i with cfg := { i.cfg with strs := Vec.upd i.cfg.strs n f } }

/-- A state in which string `n` meets every condition of START, with the bank in RUN. -/
def W.ready (n : Fin 8) : State :=
  ((((W.s.modSaf fun t => { t with profileOk := true, a := { t.a with run := true }, b := { t.b with run := true } }).modRing n fun r =>
    { r with mode := .closed }).modStr n fun e =>
    { e with state := .off, snsValid := 0x3FF, gd := Vector.replicate 6 { dataFault := false, mgmtFault := false, session := true } }).modBank fun b =>
    { b with state := .run }).modImg fun i => { i with profPending := false, reenum := 0 }

/-- A state with the IO section of the configuration changed. -/
def W.io (f : IoCfg → IoCfg) (s : State) : State := s.modImg fun i => { i with cfg := { i.cfg with io := f i.cfg.io } }

/-- A state with CAN port 1 configured. -/
def W.can (f : CanCfg → CanCfg) (s : State) : State := W.io (fun o => { o with can := Vec.upd o.can 1 f }) s

/-- A member that takes over and holds every lease but that of the first pack. -/
def W.lastPack : State :=
  W.s.modTwin fun w => (({ w with role := .active, fenceConf := true, takeover := true, activeIn := .low }.modLeases fun l => { l with held := true }).modLease (.pack 0 0) fun l => { l with held := false })

/-- The one lease left is free. -/
theorem W.lastPack_free : W.lastPack.leaseFree (.pack 0 0) = true := by
  simp [W.lastPack, State.leaseFree, Twin.lease, Twin.modLease, Twin.modLeases]
  exact .inl (.inr rfl)

/-- Every other lease is held. -/
theorem W.lastPack_held : ∀ l ∈ LeaseId.all, l ≠ .pack 0 0 → (W.lastPack.twin.lease l).held = true := by
  intro l _ h
  rcases l with n | n | ⟨n, k⟩ | _
  case pack =>
    have : ¬(n = 0 ∧ k = 0) := fun e => h (by rw [e.1, e.2])
    have h2 : n.val * 24 + k.val < 192 := by omega
    simp [W.lastPack, Twin.lease, Twin.modLease, Twin.modLeases, this, h2]
  all_goals simp [W.lastPack, Twin.lease, Twin.modLease, Twin.modLeases]

end Sys2Proof.Tests
end

