-- ==== Sys2Proof/Tests/Slice0.lean ====
section
/-! SUPPORT. The model's own tests: ill-formed commands, worked examples of the spec, one step on small states, and for every statement
that has hypotheses a state and operands that meet them. -/

set_option maxRecDepth 20000

open Sys2Proof Sys2Proof.Machine

namespace Sys2Proof.Tests

/-! ### Ill-formed commands are refused by the checks of WellFormed -/

/-- The console is slot 8; no slot 9 exists (12 R321). -/
theorem test_wf_refuses_slot : Instr.wf (.commit { session := 9, msg := 1 }) = false := by decide

/-- MSG_ID is 32 bits wide (12 Table 12.2). -/
theorem test_wf_refuses_msg : Instr.wf (.commit { session := 0, msg := 2 ^ 32 }) = false := by decide

/-- A register address is 32 bits wide in a READ (12 Table 12.1). -/
theorem test_wf_refuses_address : Instr.wf (.readLoLatch W.q (2 ^ 32) 1) = false := by decide

/-- COUNT of a WRITE is 16 bits wide (12 Table 12.1). -/
theorem test_wf_refuses_words : Operand.words (List.replicate 65536 0) = false := by
  unfold Operand.words
  rw [List.length_replicate]
  decide

/-- A tested input is a string or the global input, 8 (08 R227). -/
theorem test_wf_refuses_input : Operand.inputs [9] = false := by decide

/-- An image has at most 16 MiB (02 R43). -/
theorem test_wf_refuses_body : Operand.body (List.replicate 16777217 0#8) = false := by
  unfold Operand.body
  rw [List.length_replicate]
  decide

/-! ### Worked examples and tables of the spec -/

/-- The node at address 7 on string 3 is source 0x14E (00, the example under the source numbers). -/
theorem test_source_number : Src.node 3 6 = 0x14E := by decide

/-- 01 Table 1.3: the four items reach the queue in the order a, b, c, d and leave it as d, b, c, a. -/
theorem test_event_order :
    (([(0x012, 120048), (0x022, 120008), (0x000, 120048), (0x002, 120008)].map fun e =>
      ({ code := 0, source := e.1, member := false, tsc := e.2, body := [] } : Event)).foldl Event.enqueue []).map (·.source) =
      [0x002, 0x022, 0x000, 0x012] := by decide

/-- 04 Table 4.2: compensation at enumeration of nodes 1, 12 and 24; delays in 0.25 ns. -/
theorem test_compensation :
    [165, 37775, 18252, 19669, 36482, 1452].map (fun d => (Comp.value d 0).toNat) = [24959, 15556, 20437, 20083, 15880, 24637] := by
  decide +kernel

/-- 04 Table 4.3: compensation tracked at 12 ns more loop delay; L is 9,482.50 ns. -/
theorem test_tracked_compensation :
    [165, 37775, 18252, 19669, 36482, 1452].map (fun d => (Comp.value d (trackClosed 12 d 37930)).toNat) =
      [24959, 15544, 20431, 20077, 15868, 24637] := by
  decide +kernel

/-- 04, the worked example of one point: at 137.2 Hz, settling takes 22 sets and accumulation 52. -/
theorem test_point_sets : pointSets 137200 1 20 = 22 ∧ pointSets 137200 1 50 = 52 := by decide +kernel

/-- 04, the worked example of one point: 1.72368 + j 0.03310 mV over 7.95373 - j 0.31599 A is 216.21 + j 12.75 micro-ohms. -/
theorem test_impedance :
    let z := impedance (toF32 (172368 / 100000000), toF32 (3310 / 100000000)) (795373 / 100000, -31599 / 100000)
    roundQ (100 * f32v z.1) = 21621 ∧ roundQ (100 * f32v z.2) = 1275 := by
  decide +kernel

/-- 03 Table 3.10 at its boundaries. -/
theorem test_loop_states :
    [3999, 4000, 7999, 8000, 12000, 12001].map LoopState.ofCurrent = [.opened, .abnLow, .abnLow, .closed, .closed, .abnHigh] := by
  decide

/-- The inputs of 06 Table 6.5: string, A_s in W, SOC in 0.1 %, f_T, f_PL; the mean SOC is 3.630 / 7. -/
def W.splitIns : List SplitIn :=
  ([(0, 396800, 520, 1, 1), (1, 395520, 510, 1, 1), (2, 398080, 540, 1, 1), (3, 396160, 500, 68 / 100, 1), (4, 396800, 520, 1, 1),
    (6, 186300, 530, 1, 6 / 10), (7, 395520, 510, 1, 1)] : List (Fin 8 × Rat × Rat × Rat × Rat)).map fun e =>
    { n := e.1, a := e.2.1, o := 0, w := e.2.1 * clampQ (1 / 2) (3 / 2) (1 + 5 * (363 / 700 - e.2.2.1 / 1000)) * e.2.2.2.1 * e.2.2.2.2 }

/-- 06 Table 6.5, column P_s. -/
theorem test_split_shares :
    splitShares 1600000 W.splitIns =
      ([(0, 266182), (1, 278685), (2, 240145), (3, 198913), (4, 266182), (6, 71208), (7, 278685)], none) := by
  decide +kernel

/-- 06 R172: at the knee f_T is 1 and at T_MAX 0.2; 06 Table 6.5 has 0.68 at 44 °C. -/
theorem test_temperature_factor : [(40 : Rat), 44, 50, 60].map (DispCfg.fT {}) = [1, 68 / 100, 1 / 5, 1 / 5] := by decide +kernel

/-- 12, the worked frequency correction: two Syncs 16,000,000,000 ns apart stamped 16,000,000,592 ns apart take the increment from 2.0
to 0x01_FFFF_FEC2. -/
theorem test_ptp_increment :
    Ptp.steeredIncr { syncs := List.replicate 16 (0, 0) ++ [(16000000000, 16000000592)] } 0x200000000 = 0x1FFFFFEC2 := by
  decide +kernel

/-- 12, the worked transfer: a 5,400,000-byte image ends with a block of 26,048 bytes at 5,373,952; no other length fits there. -/
theorem test_block_ok :
    Xfer.blockOk 5400000 5373952 26048 = true ∧ Xfer.blockOk 5400000 5373952 26047 = false ∧ Xfer.blockOk 5400000 5373951 26048 = false := by
  decide

/-- 14, the worked transmitter: at 4.12 mA, x lies below CUTOFF and y is LO. -/
theorem test_root_cutoff :
    AiCfg.value { char := .root, lo := 0, hi := 250, cutoff := 1 / 100 } 8240 = (0, false) := by
  decide +kernel

/-- 14 Table 14.2 LINEAR: 12 mA is mid-range. -/
theorem test_linear : AiCfg.value { char := .linear, lo := 0, hi := 250 } 24000 = (125, false) := by decide +kernel

/-- 14, the worked pair of an ultrasonic flow sensor: c is 1,600 m/s, to the metre. -/
theorem test_speed_of_sound : roundQ (UsfCfg.sound { len := 70711 / 1000000 } 4417490 4421390) = 1600 := by decide +kernel

/-! ### Register values after reset that the spec gives -/

/-- 01 Table 1.10 ID_PART; 08 Table 8.11 SAF_LATCH. -/
theorem test_reset_identity_latch : State.reset.readReg 0 = 0x9208 ∧ State.reset.readReg 0x1C0010 = 0x800000FF := by decide +kernel

/-- 04 Table 4.14 STRn_SWP_CFG and 03 Table 3.17 RINGn_BREAK, of string and Ring port 5. -/
theorem test_reset_sweep_break : State.reset.readReg 0x085C00 = 0x11140018 ∧ State.reset.readReg 0x10500C = 0xFFFF := by decide +kernel

/-- 12 Table 12.10 PTP_STATUS. -/
theorem test_reset_ptp : State.reset.readReg 0x020000 = 0x20FF0000 := by decide +kernel

/-- An address that is not a multiple of 4 is refused as such before it is found unmapped (01 R34). -/
theorem test_address_codes : Reg.addrCode 0x7FFFFF = 0x0C11 ∧ Reg.addrCode 0x7FFFFC = 0x0C10 := by decide +kernel

/-! ### One step on a small state -/

/-- On an empty queue a tick of 2.0 ns passes, the nominal increment (01 The time-stamp counter; log 1). -/
theorem test_tick : (W.s.modClk Clock.tick).now = W.s.now + 2 := by decide +kernel

/-- 01 R19: a slew of -250 us takes 250 ms of counted time, so one cycle absorbs 1 us and lasts 1,001 us. -/
theorem test_slew :
    let t := (W.s.modClk fun c => { c with slewRem := Clock.fix (-250000) }).atCycle 1000000
    t.clk.slewRem = Clock.fix (-249000) ∧ t.clk.upNs = W.s.clk.upNs + 1001000 := by
  decide +kernel

/-- What holds of the next state, false of a stop. -/
def W.after (o : Host.Outcome State Fault Refusal) (p : State → Bool) : Bool :=
  match o with
  | .next t => p t
  | .fault _ => false
  | .refused _ => false

/-- RUN commanded while the bank is OFF is refused with BANK_STATE_REFUSED (06 Table 6.1, Table 6.6). -/
theorem test_run_from_off : W.after (execBankRun W.q W.s) (fun t => t.bank.resCode == 0x0610 && t.bank.state == .off) = true := by
  decide +kernel

/-- COMMIT with no staged image is refused with IMG_CMD_STATE (02 Table 2.3 and the codes after it). -/
theorem test_commit_without_staged : W.after (execCommit W.q W.s) (fun t => t.img.pend.isNone && t.img.resCode == 0x0117) = true := by
  decide +kernel

/-- SWITCHOVER on a module that runs alone is refused with TWIN_NOT_PAIRED (09, TWIN_RESULT). -/
theorem test_switchover_alone : W.after (execSwitchover W.q W.s) (fun t => t.twin.resCode == 0x0904 && t.twin.role == .alone) = true := by
  decide +kernel

/-! ### The hypotheses of the statements can be met -/

/-- The hypotheses of StepRunsTheFrontCommand can be met. -/
theorem witness_StepRunsTheFrontCommand :
    (∃ (c : Instr) (rest : List Instr) (s : State), s.pending = c :: rest) ∧
    (∃ s : State, s.pending = []) :=
  ⟨⟨.setClose 0, [], State.reset.setPending [.setClose 0], rfl⟩,
    ⟨State.reset, rfl⟩⟩



/-- The hypotheses of TrustInvariantKept can be met. -/
theorem witness_TrustInvariantKept :
    (∃ s t : State, s.trustInv ∧ step s = .next t) :=
  ⟨State.reset, _, by decide, rfl⟩

/-- The hypotheses of CountersNeverWrap can be met. -/
theorem witness_CountersNeverWrap :
    (∃ s t : State, s.countersInv ∧ step s = .next t) ∧
    (∃ (c : Instr) (s t : State), mayClear c = false ∧ s.countersInv ∧ exec c s = .next t) :=
  ⟨⟨State.reset, _, fun a => ⟨Nat.zero_le _, Nat.zero_le _⟩, rfl⟩,
    ⟨.setClose 0, State.reset, _, rfl, fun a => ⟨Nat.zero_le _, Nat.zero_le _⟩, rfl⟩⟩

/-- The hypotheses of HistoryStaysInOrder can be met. -/
theorem witness_HistoryStaysInOrder :
    (∃ s t : State, s.historyInv ∧ step s = .next t) :=
  ⟨State.reset, _, by decide, rfl⟩

/-- The hypotheses of FirstFaultQueueBounded can be met. -/
theorem witness_FirstFaultQueueBounded :
    (∃ s t : State, s.ffr.queue.length ≤ 512 ∧ step s = .next t) :=
  ⟨State.reset, _, by decide, rfl⟩

/-- The hypotheses of AcceptanceNumbersRise can be met. -/
theorem witness_AcceptanceNumbersRise :
    (∃ (c : Instr) (s t : State), (∀ p, c ≠ .axolotlDone p) ∧ exec c s = .next t) :=
  ⟨.setClose 0, State.reset, _, (fun _ h => nomatch h), rfl⟩

/-- The hypotheses of ZeroisedAndMeasuredStay can be met. -/
theorem witness_ZeroisedAndMeasuredStay :
    (∃ s t : State, s.trustInv ∧ s.trust.nv.owner = .zeroised ∧ step s = .next t) ∧
    (∃ (c : Instr) (s t : State) (i : Fin 8), (∀ r, c ≠ .powerOnReset r) ∧ i ≠ 7 ∧ exec c s = .next t) :=
  ⟨⟨State.reset.modTrust fun t => { t with nv := { t.nv with owner := .zeroised, trk := false } }, _, by decide, rfl, rfl⟩,
    ⟨.setClose 0, State.reset, _, 0, (fun _ h => nomatch h), by decide, rfl⟩⟩

/-- The hypotheses of ResetKeeps can be met. -/
theorem witness_ResetKeeps :
    (∃ (s : State), (s.pwr.shutLatch = false)) ∧
    (∃ (s : State), (s.pwr.shutLatch = true)) :=
  ⟨⟨W.s, by decide⟩,
    ⟨W.s.modPwr fun p => { p with shutLatch := true }, by decide⟩⟩

/-- The hypotheses of ReadRoleWritesRefused can be met. -/
theorem witness_ReadRoleWritesRefused :
    (∃ (s : State) (q : Req) (x : Session), s.prompt q x ∧ s.roleOf x = .read) :=
  ⟨W.r, W.q, W.z, by decide, by decide⟩

/-- The hypotheses of RequestsTurnedAway can be met. -/
theorem witness_RequestsTurnedAway :
    (∃ (s : State) (q : Req) (x : Session), s.session q.session = some x ∧ x.credits = 0 ∧ s.dark = false ∧ x.fifo = [] ∧ x.withheld = 0 ∧ x.inExec < 15 ∧ s.hist.refusing = false) ∧
    (∃ (s : State), s.dark = true) :=
  ⟨⟨State.reset.modHost fun h => { h with sessions := [{ W.x with credits := 0 }] }, W.q, { W.x with credits := 0 }, rfl, by decide⟩,
    ⟨W.s.modTrust fun t => { t with bootHalt := true }, by decide⟩⟩

/-- The hypotheses of PendingStepHolds can be met. -/
theorem witness_PendingStepHolds :
    (∃ (s : State) (q : Req) (x : Session) (t : State), s.serves q x ∧ s.img.pend = none ∧ exec (.rollbackAll q) s = .next t ∧ t.img.resCode = 0) ∧
    (∃ (s : State) (q : Req) (x : Session) (p : PendStep), (s.serves q x) ∧ (s.img.pend = some p)) ∧
    (∃ (s : State) (q : Req) (x : Session) (p : PendStep), (s.serves q x) ∧ (s.img.pend = some p)) ∧
    (∃ (s : State) (q : Req) (x : Session) (p : PendStep), (s.serves q x) ∧ (s.img.pend = some p)) ∧
    (∃ (s : State) (q : Req) (x : Session) (p : PendStep), (s.serves q x) ∧ (s.img.pend = some p)) ∧
    (∃ (s : State) (q : Req) (x : Session) (p : PendStep), (s.serves q x) ∧ (s.img.pend = some p)) ∧
    (∃ (s : State) (q : Req) (x : Session) (p : PendStep), (s.serves q x) ∧ (s.img.pend = some p)) ∧
    (∃ (c : Instr) (s t : State) (p : PendStep), mayEndStep c = false ∧ s.img.pend = some p ∧ exec c s = .next t) :=
  ⟨⟨W.s.modJrn fun j => { j with stepsDone := 1 }, W.q, W.x, _, by decide, rfl, rfl, by decide +kernel⟩,
    ⟨W.s.modImg fun i => { i with pend := some {} }, W.q, W.x, {}, by decide, rfl⟩,
    ⟨W.s.modImg fun i => { i with pend := some {} }, W.q, W.x, {}, by decide, rfl⟩,
    ⟨W.s.modImg fun i => { i with pend := some {} }, W.q, W.x, {}, by decide, rfl⟩,
    ⟨W.s.modImg fun i => { i with pend := some {} }, W.q, W.x, {}, by decide, rfl⟩,
    ⟨W.s.modImg fun i => { i with pend := some {} }, W.q, W.x, {}, by decide, rfl⟩,
    ⟨W.s.modImg fun i => { i with pend := some {} }, W.q, W.x, {}, by decide, rfl⟩,
    ⟨.setClose 0, W.s.modImg fun i => { i with pend := some {} }, _, {}, rfl, rfl, rfl⟩⟩

/-- The hypotheses of TimeRegistersFollowTheirRules can be met. -/
theorem witness_TimeRegistersFollowTheirRules :
    (∃ (s : State) (q : Req) (x : Session), (s.serves q x)) ∧
    (∃ (s : State) (q : Req) (x : Session) (v : Word), (s.serves q x) ∧ (s.ptp.servo = false) ∧ (19 * 2 ^ 32 ≤ 10 * (s.ptp.incrHiHeld.toNat * 2 ^ 32 + v.toNat)) ∧ (10 * (s.ptp.incrHiHeld.toNat * 2 ^ 32 + v.toNat) ≤ 21 * 2 ^ 32)) ∧
    (∃ (s : State) (q : Req) (x : Session) (v : Word), (s.serves q x) ∧ (s.ptp.servo = false) ∧ (10 * (s.ptp.incrHiHeld.toNat * 2 ^ 32 + v.toNat) < 19 * 2 ^ 32 ∨ 21 * 2 ^ 32 < 10 * (s.ptp.incrHiHeld.toNat * 2 ^ 32 + v.toNat))) ∧
    (∃ (s : State) (q : Req) (x : Session) (v : Word), (s.serves q x) ∧ (s.ptp.servo = false) ∧ (s.clk.tscValid = true) ∧ (s.tooLarge (signed 32 v.toNat) = false)) ∧
    (∃ (s : State) (q : Req) (x : Session), (s.serves q x) ∧ (s.ptp.servo = false) ∧ (s.clk.tscValid = false)) ∧
    (∃ (s : State), (s.room)) :=
  ⟨⟨W.s, W.q, W.x, by decide⟩,
    ⟨W.s.modPtp fun p => { p with servo := false, incrHiHeld := 2 }, W.q, W.x, 0, by decide⟩,
    ⟨W.s.modPtp fun p => { p with servo := false, incrHiHeld := 3 }, W.q, W.x, 0, by decide⟩,
    ⟨(W.s.modPtp fun p => { p with servo := false }).modClk fun c => { c with tscValid := true }, W.q, W.x, 7, by decide⟩,
    ⟨W.s.modPtp fun p => { p with servo := false }, W.q, W.x, by decide⟩,
    ⟨W.s, by decide⟩⟩

/-- The hypotheses of SilentSessionCloses can be met. -/
theorem witness_SilentSessionCloses :
    (∃ (s : State) (i : Nat) (x : Session), (s.session i = some x) ∧ (30000000000 ≤ s.since x.idleUp)) ∧
    (∃ (s : State) (i : Nat) (x : Session), (s.session i = some x) ∧ (s.since x.idleUp < 30000000000)) ∧
    (∃ (s : State) (q : Req) (x : Session), (s.hears q x)) :=
  ⟨⟨W.s.modClk fun c => { c with upNs := 30000000000 }, 0, W.x, rfl, by decide⟩,
    ⟨W.s, 0, W.x, rfl, by decide⟩,
    ⟨W.s, W.q, W.x, by decide⟩⟩

/-- The hypotheses of CommandsRefusedByTheirOwner can be met. -/
theorem witness_CommandsRefusedByTheirOwner :
    (∃ (s : State) (q : Req) (x : Session) (n : Fin 8), (s.serves q x) ∧ (s.ringLease n = false)) ∧
    (∃ (s : State) (q : Req) (x : Session) (n : Fin 8), (s.serves q x) ∧ (s.ringLease n = false)) ∧
    (∃ (s : State) (q : Req) (x : Session) (n : Fin 8), (s.serves q x) ∧ (s.strLease n = false)) ∧
    (∃ (s : State) (q : Req) (x : Session) (n : Fin 8), (s.serves q x) ∧ (s.strLease n = false)) ∧
    (∃ (s : State) (q : Req) (x : Session) (n : Fin 8), (s.serves q x) ∧ (s.strLease n = false)) ∧
    (∃ (s : State) (q : Req) (x : Session) (n : Fin 8), (s.serves q x) ∧ (s.strLease n = false)) ∧
    (∃ (s : State) (q : Req) (x : Session) (n : Fin 8), (s.serves q x) ∧ (s.strLease n = false)) ∧
    (∃ (s : State) (q : Req) (x : Session) (n : Fin 8), (s.serves q x) ∧ (s.strLease n = false)) ∧
    (∃ (s : State) (q : Req) (x : Session) (n : Fin 8), (s.serves q x) ∧ (s.strLease n = false)) ∧
    (∃ (s : State) (q : Req) (x : Session) (n : Fin 8), (s.serves q x) ∧ (s.strLease n = false)) ∧
    (∃ (s : State) (q : Req) (x : Session) (n : Fin 8), (s.serves q x) ∧ (s.strLease n = false)) ∧
    (∃ (s : State) (q : Req) (x : Session), (s.serves q x) ∧ (s.leads = false)) ∧
    (∃ (s : State) (q : Req) (x : Session), (s.serves q x) ∧ (s.leads = false)) ∧
    (∃ (s : State) (q : Req) (x : Session), (s.serves q x) ∧ (s.leads = false)) ∧
    (∃ (s : State) (q : Req) (x : Session), (s.serves q x) ∧ (s.leads = false)) ∧
    (∃ (s : State) (q : Req) (x : Session), (s.serves q x) ∧ (s.leads = false)) ∧
    (∃ (s : State) (q : Req) (x : Session), (s.serves q x) ∧ (s.leads = false)) ∧
    (∃ (s : State) (q : Req) (x : Session), (s.serves q x) ∧ (s.leads = false)) ∧
    (∃ (s : State) (q : Req) (x : Session), (s.serves q x) ∧ (s.leads = false)) ∧
    (∃ (s : State) (q : Req) (x : Session), (s.serves q x) ∧ (s.writes = false)) ∧
    (∃ (s : State) (q : Req) (x : Session), (s.serves q x) ∧ (s.writes = false)) ∧
    (∃ (s : State) (q : Req) (x : Session), (s.serves q x) ∧ (s.writes = false)) ∧
    (∃ (s : State) (q : Req) (x : Session), (s.serves q x) ∧ (s.writes = false)) ∧
    (∃ (s : State) (q : Req) (x : Session), (s.serves q x) ∧ (s.writes = false)) ∧
    (∃ (s : State) (q : Req) (x : Session), (s.prompt q x) ∧ ((s.roleOf x).mayWrite = true) ∧ ((s.ptp.servo && s.ptp.locked) = false) ∧ (s.leads = false)) ∧
    (∃ (s : State) (q : Req) (x : Session), (s.serves q x) ∧ (s.bank.state = .fault)) ∧
    (∃ (s : State) (q : Req) (x : Session), (s.serves q x) ∧ (s.bank.state = .fault)) ∧
    (∃ (s : State) (q : Req) (x : Session), (s.serves q x) ∧ (s.bank.state = .fault)) ∧
    (∃ (s : State) (q : Req) (x : Session), (s.serves q x) ∧ (s.bank.state = .fault)) ∧
    (∃ (s : State) (q : Req) (x : Session), (s.serves q x) ∧ (s.bank.state = .fault)) ∧
    (∃ (s : State) (q : Req) (x : Session), (s.serves q x) ∧ (s.bank.state = .fault)) ∧
    (∃ (s : State) (q : Req) (x : Session), (s.serves q x) ∧ (s.bank.state = .fault)) :=
  ⟨⟨W.s.modTwin fun w => { w with role := .standby }, W.q, W.x, 2, by decide⟩,
    ⟨W.s.modTwin fun w => { w with role := .standby }, W.q, W.x, 2, by decide⟩,
    ⟨W.s.modTwin fun w => { w with role := .standby }, W.q, W.x, 2, by decide⟩,
    ⟨W.s.modTwin fun w => { w with role := .standby }, W.q, W.x, 2, by decide⟩,
    ⟨W.s.modTwin fun w => { w with role := .standby }, W.q, W.x, 2, by decide⟩,
    ⟨W.s.modTwin fun w => { w with role := .standby }, W.q, W.x, 2, by decide⟩,
    ⟨W.s.modTwin fun w => { w with role := .standby }, W.q, W.x, 2, by decide⟩,
    ⟨W.s.modTwin fun w => { w with role := .standby }, W.q, W.x, 2, by decide⟩,
    ⟨W.s.modTwin fun w => { w with role := .standby }, W.q, W.x, 2, by decide⟩,
    ⟨W.s.modTwin fun w => { w with role := .standby }, W.q, W.x, 2, by decide⟩,
    ⟨W.s.modTwin fun w => { w with role := .standby }, W.q, W.x, 2, by decide⟩,
    ⟨W.s.modTwin fun w => { w with role := .standby }, W.q, W.x, by decide⟩,
    ⟨W.s.modTwin fun w => { w with role := .standby }, W.q, W.x, by decide⟩,
    ⟨W.s.modTwin fun w => { w with role := .standby }, W.q, W.x, by decide⟩,
    ⟨W.s.modTwin fun w => { w with role := .standby }, W.q, W.x, by decide⟩,
    ⟨W.s.modTwin fun w => { w with role := .standby }, W.q, W.x, by decide⟩,
    ⟨W.s.modTwin fun w => { w with role := .standby }, W.q, W.x, by decide⟩,
    ⟨W.s.modTwin fun w => { w with role := .standby }, W.q, W.x, by decide⟩,
    ⟨W.s.modTwin fun w => { w with role := .standby }, W.q, W.x, by decide⟩,
    ⟨W.s.modTwin fun w => { w with role := .standby }, W.q, W.x, by decide⟩,
    ⟨W.s.modTwin fun w => { w with role := .standby }, W.q, W.x, by decide⟩,
    ⟨W.s.modTwin fun w => { w with role := .standby }, W.q, W.x, by decide⟩,
    ⟨W.s.modTwin fun w => { w with role := .standby }, W.q, W.x, by decide⟩,
    ⟨W.s.modTwin fun w => { w with role := .standby }, W.q, W.x, by decide⟩,
    ⟨W.s.modTwin fun w => { w with role := .standby }, W.q, W.x, by decide⟩,
    ⟨W.s.modBank fun b => { b with state := .fault }, W.q, W.x, by decide⟩,
    ⟨W.s.modBank fun b => { b with state := .fault }, W.q, W.x, by decide⟩,
    ⟨W.s.modBank fun b => { b with state := .fault }, W.q, W.x, by decide⟩,
    ⟨W.s.modBank fun b => { b with state := .fault }, W.q, W.x, by decide⟩,
    ⟨W.s.modBank fun b => { b with state := .fault }, W.q, W.x, by decide⟩,
    ⟨W.s.modBank fun b => { b with state := .fault }, W.q, W.x, by decide⟩,
    ⟨W.s.modBank fun b => { b with state := .fault }, W.q, W.x, by decide⟩⟩

/-- The hypotheses of ImageStepsComplete can be met. -/
theorem witness_ImageStepsComplete :
    (∃ (s : State) (q : Req) (x : Session), (s.serves q x) ∧ (s.img.pend = none) ∧ (s.img.request .commit s.jrn.stepsDone = 0) ∧ ((s.img.cfg.paired && (!s.leads || (!s.img.peerMatch && s.twin.role != .alone))) = false)) ∧
    (∃ (s : State) (q : Req) (x : Session), (s.serves q x) ∧ (s.img.pend = none) ∧ (s.img.request .forward s.jrn.stepsDone = 0) ∧ ((s.img.cfg.paired && (!s.leads || (!s.img.peerMatch && s.twin.role != .alone))) = false)) ∧
    (∃ (s : State) (q : Req) (x : Session), (s.serves q x) ∧ (s.img.pend = none) ∧ (s.img.request .forward s.jrn.stepsDone = 0) ∧ ((s.img.cfg.paired && (!s.leads || (!s.img.peerMatch && s.twin.role != .alone))) = false)) ∧
    (∃ (s : State) (q : Req) (x : Session), (s.serves q x) ∧ (s.img.pend = none) ∧ (s.jrn.stepsDone ≠ 0) ∧ ((s.img.cfg.paired && !s.leads) = false)) ∧
    (∃ (s : State) (q : Req) (x : Session), (s.serves q x) ∧ (s.img.pend = none) ∧ (s.jrn.stepsDone ≠ 0) ∧ ((s.img.cfg.paired && !s.leads) = false)) ∧
    (∃ (s : State) (q : Req) (x : Session), (s.serves q x) ∧ (s.img.pend = none) ∧ (s.img.plan ≠ .partly) ∧ (s.img.stg.valid = true)) ∧
    (∃ (s : State) (p : PendStep), (s.img.pend = some p)) ∧
    (∃ (s : State) (p : PendStep), (s.leads = true) ∧ (s.trust.pending = none) ∧ (s.img.pend = some p) ∧ (((s.atCycle 700000).atCycle 900000).evalDue p = true)) ∧
    (∃ (s : State) (p : PendStep), (s.leads = true) ∧ (s.img.pend = some p) ∧ (p.passed = true) ∧ (p.target ≤ s.now) ∧ (p.all = false)) :=
  ⟨⟨W.s.modImg fun i => { i with stg := { valid := true } }, W.q, W.x, by decide⟩,
    ⟨W.s.modImg fun i => { i with stg := { valid := true, plan := [{}] } }, W.q, W.x, by decide⟩,
    ⟨W.s.modImg fun i => { i with stg := { valid := true, plan := [{}] } }, W.q, W.x, by decide⟩,
    ⟨W.s.modJrn fun j => { j with stepsDone := 1 }, W.q, W.x, by decide⟩,
    ⟨W.s.modJrn fun j => { j with stepsDone := 1 }, W.q, W.x, by decide⟩,
    ⟨W.s.modImg fun i => { i with stg := { valid := true } }, W.q, W.x, by decide⟩,
    ⟨W.s.modImg fun i => { i with pend := some {} }, {}, rfl⟩,
    ⟨W.s.modImg fun i => { i with pend := some { shadowReady := some 0 } }, { shadowReady := some 0 }, by decide, by decide, rfl, by decide⟩,
    ⟨W.s.modImg fun i => { i with pend := some { passed := true } }, { passed := true }, by decide, rfl, by decide, by decide, by decide⟩⟩

/-- The hypotheses of ImageExchangeComplete can be met. -/
theorem witness_ImageExchangeComplete :
    (∃ (s : State) (p : PendStep), (s.paired = true) ∧ (s.twin.role = .active) ∧ (s.img.pend = some p) ∧ (p.shadowReady.isSome = true)) ∧
    (∃ (s : State) (f : TwinFrame) (p : Prepare), (s.frameOk f = true) ∧ (s.twin.taken f.seq = false) ∧ (s.twin.role = .standby) ∧ (p.token = false)) ∧
    (∃ (s : State) (f : TwinFrame) (p : Prepare), (s.frameOk f = true) ∧ (s.twin.taken f.seq = false) ∧ (s.twin.role = .standby) ∧ (p.token = true)) ∧
    (∃ (s : State) (f : TwinFrame) (p : PendStep), (s.frameOk f = true) ∧ (s.twin.taken f.seq = false) ∧ (s.img.pend = some p) ∧ (p.prepared = true)) ∧
    (∃ (s : State) (f : TwinFrame) (t0 : Nat), (s.frameOk f = true) ∧ (s.twin.taken f.seq = false) ∧ (s.trust.pendTarget = some t0)) ∧
    (∃ (s : State) (f : TwinFrame) (p : PeerPrep), (s.frameOk f = true) ∧ (s.twin.taken f.seq = false) ∧ (s.img.peer = some p)) ∧
    (∃ (s : State) (f : TwinFrame), (s.frameOk f = true) ∧ (s.twin.taken f.seq = false)) ∧
    (∃ (s : State) (f : TwinFrame), (s.frameOk f = true) ∧ (s.twin.taken f.seq = false)) ∧
    (∃ (s : State) (f : TwinFrame), (s.frameOk f = true) ∧ (s.twin.taken f.seq = false) ∧ (s.twin.role = .standby ∨ s.twin.role = .unsynced) ∧ (s.planOpen = false)) ∧
    (∃ (s : State) (f : TwinFrame), (s.frameOk f = true) ∧ (s.twin.taken f.seq = false) ∧ (s.twin.role = .standby ∨ s.twin.role = .unsynced) ∧ (s.planOpen = true)) ∧
    (∃ (s : State) (p : BitVec 4), (s.img.profActive = some p)) ∧
    (∃ (s : State) (p : BitVec 4), (s.img.profActive = some p)) ∧
    (∃ (s : State), (s.img.profActive = none)) ∧
    (∃ (s : State) (pin : Bool), (s.room) ∧ (pin ≠ s.ident.memberPin)) :=
  ⟨⟨(W.s.modTwin fun w => { w with role := .active, formed := true, solo := false }).modImg fun i => { i with pend := some { shadowReady := some 0 } }, { shadowReady := some 0 }, by decide, by decide, rfl, by decide⟩,
    ⟨W.s.modTwin fun w => { w with role := .standby, peerKey := some 1 }, { seq := 4 }, {}, by decide⟩,
    ⟨W.s.modTwin fun w => { w with role := .standby, peerKey := some 1 }, { seq := 4 }, { token := true }, by decide⟩,
    ⟨(W.s.modTwin fun w => { w with peerKey := some 1 }).modImg fun i => { i with pend := some { prepared := true } }, { seq := 4 }, { prepared := true }, by decide, by decide, rfl, by decide⟩,
    ⟨(W.s.modTwin fun w => { w with peerKey := some 1 }).modTrust fun u => { u with pendTarget := some 0 }, { seq := 4 }, 0, by decide, by decide, rfl⟩,
    ⟨(W.s.modTwin fun w => { w with peerKey := some 1 }).modImg fun i => { i with peer := some {} }, { seq := 4 }, {}, by decide, by decide, rfl⟩,
    ⟨(W.s.modTwin fun w => { w with peerKey := some 1 }), { seq := 4 }, by decide⟩,
    ⟨(W.s.modTwin fun w => { w with peerKey := some 1 }), { seq := 4 }, by decide⟩,
    ⟨W.s.modTwin fun w => { w with role := .standby, peerKey := some 1 }, { seq := 4 }, by decide⟩,
    ⟨(W.s.modTwin fun w => { w with role := .standby, peerKey := some 1 }).modImg fun i => { i with plan := .partly }, { seq := 4 }, by decide⟩,
    ⟨W.s.modImg fun i => { i with profActive := some 1 }, 1, rfl⟩,
    ⟨W.s.modImg fun i => { i with profActive := some 1 }, 1, rfl⟩,
    ⟨W.s, by decide⟩,
    ⟨W.s, true, by decide⟩⟩

/-- The hypotheses of RingEnumerationComplete can be met. -/
theorem witness_RingEnumerationComplete :
    (∃ (s : State) (q : Req) (x : Session) (n : Fin 8), (s.serves q x) ∧ (s.ringLease n = true) ∧ (s.ring[n].busy = false) ∧ (s.str[n].state.active = false) ∧ (s.str[n].auxOpen = true)) ∧
    (∃ (s : State) (q : Req) (x : Session) (n : Fin 8), (s.serves q x) ∧ (s.ringLease n = true) ∧ (s.ring[n].busy = false) ∧ (s.ring[n].mode = .split) ∧ (s.ring[n].closeBlocked = false) ∧ (s.ring[n].signalOk (s.topo n).packs = true)) ∧
    (∃ (s : State) (n : Fin 8) (e : EnumRun), (s.ring[n].at .silence = some e)) ∧
    (∃ (s : State), (s.room)) ∧
    (∃ (s : State) (n : Fin 8) (ident : BitVec 128) (e : EnumRun) (i : Fin 24), (s.trust.keysErased = false) ∧ (s.ring[n].at .assign = some e) ∧ (e.k + 1 ≤ (s.topo n).packs) ∧ (nodeAt (e.k + 1) = some i) ∧ (ident = s.img.cfg.nodeIdent n i)) ∧
    (∃ (s : State) (n : Fin 8) (e : EnumRun), (s.room) ∧ (s.ring[n].at .assign = some e)) ∧
    (∃ (s : State) (n : Fin 8) (e : EnumRun), (s.ring[n].at .assign = some e) ∧ ((s.topo n).packs ≤ e.k)) ∧
    (∃ (s : State) (n : Fin 8) (d : Nat) (e : EnumRun), (s.ring[n].at .transit = some e) ∧ (d ≤ (e.dA.getLast?).getD 0 + 1800 * s.hops n ((s.topo n).packs + 1))) ∧
    (∃ (s : State) (n : Fin 8) (f : SessFrame) (e : EnumRun) (i : Fin 24) (r : SessRun), (s.ring[n].at .session = some e) ∧ (nodeAt e.k = some i) ∧ (e.sess = some r) ∧ (f.crcOk = true) ∧ (f.macOk = true) ∧ (r.step = 5) ∧ (f.step = 6) ∧ (f.mac = r.doneMac)) ∧
    (∃ (s : State) (n : Fin 8) (f : SessFrame) (e : EnumRun) (i : Fin 24) (r : SessRun), (s.ring[n].at .session = some e) ∧ (nodeAt e.k = some i) ∧ (e.sess = some r) ∧ (f.crcOk = true) ∧ (f.macOk = true) ∧ (r.step = 1) ∧ (f.step = 2)) ∧
    (∃ (s : State) (n : Fin 8) (e : EnumRun), (s.ring[n].at .session = some e)) ∧
    (∃ (s : State) (n : Fin 8) (e : EnumRun), (s.ring[n].enumRun = some e) ∧ (e.held = false) ∧ (e.phase = .measureA ∨ e.phase = .measureB) ∧ (e.probes.length < 63)) ∧
    (∃ (s : State) (n : Fin 8) (elapsed : Nat) (turn : Nat) (e : EnumRun), (s.ring[n].enumRun = some e) ∧ (e.held = false) ∧ (e.peer = false) ∧ (e.phase = .measureA) ∧ (e.probes.length = 63) ∧ (EnumRun.mean (e.probes ++ [(elapsed : Int) - 2 * turn]) ≤ (e.dA.getLast?).getD 0 + 1800 * s.hops n e.k)) :=
  ⟨⟨W.s, W.q, W.x, 2, by decide⟩,
    ⟨W.s.modRing 1 fun r => { r with mode := .split, pos := 0 }, W.q, W.x, 1, by decide⟩,
    ⟨W.s.modRing 1 fun r => { r with enumRun := some {} }, 1, {}, rfl⟩,
    ⟨W.s, by decide⟩,
    ⟨(W.s.modRing 1 fun r => { r with enumRun := some { phase := .assign } }).modImg fun i => { i with cfg := { i.cfg with strs := Vec.upd i.cfg.strs 1 fun c => { c with packs := 4 } } }, 1, 0, { phase := .assign }, 0, ⟨rfl, rfl, by decide, rfl, by decide⟩⟩,
    ⟨W.s.modRing 1 fun r => { r with enumRun := some { phase := .assign } }, 1, { phase := .assign }, by decide, rfl⟩,
    ⟨W.s.modRing 1 fun r => { r with enumRun := some { phase := .assign } }, 1, { phase := .assign }, rfl, by decide⟩,
    ⟨W.s.modRing 1 fun r => { r with enumRun := some { phase := .transit } }, 1, 900, { phase := .transit }, rfl, by decide⟩,
    ⟨W.s.modRing 1 fun r => { r with enumRun := some { phase := .session, k := 1, sess := some { step := 5 } } }, 1, { step := 6, crcOk := true, macOk := true, mac := SessRun.doneMac { step := 5 } }, { phase := .session, k := 1, sess := some { step := 5 } }, 0, { step := 5 }, rfl, rfl, rfl, rfl, rfl, rfl, rfl, rfl⟩,
    ⟨W.s.modRing 1 fun r => { r with enumRun := some { phase := .session, k := 1, sess := some { step := 1 } } }, 1, { step := 2, crcOk := true, macOk := true }, { phase := .session, k := 1, sess := some { step := 1 } }, 0, { step := 1 }, rfl, rfl, rfl, rfl, rfl, rfl, rfl⟩,
    ⟨W.s.modRing 1 fun r => { r with enumRun := some { phase := .session } }, 1, { phase := .session }, rfl⟩,
    ⟨W.s.modRing 1 fun r => { r with enumRun := some { phase := .measureB } }, 1, { phase := .measureB }, rfl, by decide, by decide, by decide⟩,
    ⟨W.s.modRing 1 fun r => { r with enumRun := some { phase := .measureA, probes := List.replicate 63 8 } }, 1, 90, 2, { phase := .measureA, probes := List.replicate 63 8 }, rfl, by decide, by decide, by decide, by decide, by decide⟩⟩

/-- The hypotheses of RingTrafficComplete can be met. -/
theorem witness_RingTrafficComplete :
    (∃ (s : State) (n : Fin 8) (endB : Bool) (f : ReplyFrame) (k : Fin 24) (c : RingCmdReq), (f.crcOk = true) ∧ (f.macOk = true) ∧ (nodeAt f.node = some k) ∧ (s.ring[n].outAt endB = some c) ∧ (c.node = k.val + 1) ∧ (c.opcode = 0x0010) ∧ (f.opcode = 0x0010) ∧ (f.status = .ok) ∧ (f.ctr = s.ring[n].nodes[k].ctr) ∧ (f.payload.length ≤ 112) ∧ (s.ring[n].nodes[k].isolated = false) ∧ (s.ring[n].queue = [])) ∧
    (∃ (s : State) (n : Fin 8) (c : RingCmdReq), (s.ring[n].queue.length < 64) ∧ (c.payload.length ≤ 256) ∧ (∀ k, nodeAt c.node = some k → s.ring[n].nodes[k].isolated = false) ∧ (s.ring[n].windowOpen = false)) ∧
    (∃ (s : State) (n : Fin 8) (c : RingCmdReq) (k : Fin 24), (nodeAt c.node = some k) ∧ (s.ring[n].reachable c.node = true) ∧ (s.ring[n].queue = []) ∧ (c.payload.length ≤ 256) ∧ (s.ring[n].windowOpen = true) ∧ (s.ring[n].outAt (s.ring[n].fromB c.node) = none) ∧ (s.mayLaunch n (s.ring[n].fromB c.node) = true) ∧ (s.fits { c with stamp := s.now, fails := 0 } s.now = true)) ∧
    (∃ (s : State) (n : Fin 8) (c : RingCmdReq), (s.room) ∧ (64 ≤ s.ring[n].queue.length) ∧ (c.urgent = false) ∧ (c.payload.length ≤ 256) ∧ (∀ k, nodeAt c.node = some k → s.ring[n].nodes[k].isolated = false)) ∧
    (∃ (s : State) (n : Fin 8) (c : RingCmdReq) (k : Fin 24), (s.ringLease n = true) ∧ (s.ring[n].silentA = false) ∧ (s.ring[n].mode = .closed) ∧ (s.ring[n].closeStep = .none) ∧ (s.ring[n].both = false) ∧ (s.ring[n].queue = [c]) ∧ (s.ring[n].outA = none) ∧ (nodeAt c.node = some k) ∧ (s.ring[n].reachable c.node = true) ∧ (s.fits c (s.atCycle 665000).now = true)) ∧
    (∃ (s : State) (n : Fin 8) (endB : Bool) (c : RingCmdReq) (k : Fin 24), (s.ring[n].outAt endB = some c) ∧ (c.fails < 2) ∧ (nodeAt c.node = some k) ∧ (s.ring[n].reachable c.node = true) ∧ (s.ring[n].windowOpen = true) ∧ (s.mayLaunch n endB = true) ∧ (s.fits { c with fails := c.fails + 1 } (s.atTsc (s.ring[n].cmdEnd endB + 30000)).now = true)) ∧
    (∃ (s : State) (n : Fin 8) (endB : Bool) (c : RingCmdReq) (k : Fin 24), (s.room) ∧ (s.ring[n].outAt endB = some c) ∧ (c.fails = 2) ∧ (nodeAt c.node = some k)) ∧
    (∃ (s : State), (s.room)) ∧
    (∃ (s : State) (n : Fin 8), (s.enumSilence n = false)) ∧
    (∃ (s : State) (n : Fin 8), (s.enumSilence n = true) ∧ (s.ring[n].queue = [])) ∧
    (∃ (s : State) (n : Fin 8) (d : Nat), (s.ringLease n = true) ∧ (s.ring[n].closeStep ≠ .awaitReturn) ∧ (s.ring[n].mode = .closed) ∧ (d ≤ s.ring[n].loopNow.toNat + 800)) ∧
    (∃ (s : State) (n : Fin 8) (endB : Bool) (d : Nat), (s.ring[n].closeStep ≠ .awaitReturn) ∧ (s.ring[n].mode = .closed) ∧ (endB = false ∨ s.ring[n].loopNow.toNat + 800 < d)) ∧
    (∃ (s : State) (n : Fin 8) (d : Nat), (s.ring[n].closeStep = .awaitReturn) ∧ (((d : Int) - s.ring[n].loopEnum.toNat).natAbs ≤ 24)) ∧
    (∃ (s : State) (n : Fin 8), (s.ringLease n = true) ∧ (s.ring[n].closeStep ≠ .awaitReturn) ∧ (s.ring[n].mode = .closed) ∧ (s.ring[n].wrapSeen = false) ∧ (s.ring[n].missedRet = 0)) ∧
    (∃ (s : State) (n : Fin 8), (s.room) ∧ (s.ringLease n = true) ∧ (s.ring[n].closeStep ≠ .awaitReturn) ∧ (s.ring[n].mode = .closed) ∧ (s.ring[n].missedRet = 1 ∨ s.ring[n].wrapSeen = true)) ∧
    (∃ (s : State) (n : Fin 8), (s.room) ∧ (s.ringLease n = true) ∧ (s.ring[n].drift = false)) ∧
    (∃ (s : State), (s.room)) ∧
    (∃ (s : State) (n : Fin 8), (s.room) ∧ (s.ring[n].floop = .abnLow ∨ s.ring[n].floop = .abnHigh) ∧ (s.ring[n].floopAbn = false)) :=
  ⟨⟨W.s.modRing 1 fun r => { r with outA := some { node := 1, opcode := 0x0010 } }, 1, false, { crcOk := true, macOk := true, node := 1, opcode := 0x0010, status := .ok, ctr := 0 }, 0, { node := 1, opcode := 0x0010 }, by decide, by decide, rfl, rfl, by decide, by decide, by decide, by decide, by decide, by decide, by decide, by decide⟩,
    ⟨W.s, 1, {}, by decide, by decide, (fun k _ => (by decide : ∀ k : Fin 24, (W.s.ring[1].nodes[k].isolated) = false) k), rfl⟩,
    ⟨W.s.modRing 1 fun r => { r with windowOpen := true }, 1, { node := 1 }, 0, by decide⟩,
    ⟨W.s.modRing 1 fun r => { r with queue := List.replicate 64 {} }, 1, {}, by decide, by decide, rfl, by decide, (fun k _ => (by decide : ∀ k : Fin 24, (W.s.ring[1].nodes[k].isolated) = false) k)⟩,
    ⟨W.s.modRing 1 fun r => { r with mode := .closed, queue := [{ node := 1 }] }, 1, { node := 1 }, 0, by decide⟩,
    ⟨W.s.modRing 1 fun r => { r with windowOpen := true, outB := some { node := 3 } }, 1, true, { node := 3 }, 2, by decide⟩,
    ⟨W.s.modRing 1 fun r => { r with outB := some { node := 3, fails := 2 } }, 1, true, { node := 3, fails := 2 }, 2, by decide, rfl, by decide, rfl⟩,
    ⟨W.s, by decide⟩,
    ⟨W.s, 1, by decide⟩,
    ⟨W.s.modRing 1 fun r => { r with mode := .silent, enumRun := some { beganUp := W.s.clk.upNs } }, 1, by decide⟩,
    ⟨W.s.modRing 1 fun r => { r with mode := .closed }, 1, 99, by decide⟩,
    ⟨W.s.modRing 1 fun r => { r with mode := .closed }, 1, true, 801, by decide⟩,
    ⟨W.s.modRing 1 fun r => { r with mode := .split, closeStep := .awaitReturn }, 1, 20, by decide⟩,
    ⟨W.s.modRing 1 fun r => { r with mode := .closed }, 1, by decide⟩,
    ⟨W.s.modRing 1 fun r => { r with mode := .closed, missedRet := 1 }, 1, by decide, rfl, by decide, rfl, .inl rfl⟩,
    ⟨W.s, 1, by decide⟩,
    ⟨W.s, by decide⟩,
    ⟨W.s.modRing 1 fun r => { r with floop := .abnLow }, 1, by decide⟩⟩

/-- The hypotheses of CycleInstantsComplete can be met. -/
theorem witness_CycleInstantsComplete :
    (∃ (s : State), (s.pwr.shelf = false) ∧ (s.upd.armed = false)) ∧
    (∃ (s : State), (s.pwr.shelf = false)) ∧
    (∃ (s : State) (n : Fin 8) (k : Fin 24) (f : SampleFrame), (f.crcOk = true) ∧ (f.macOk = true) ∧ (s.ring[n].served = true) ∧ (s.ring[n].nodes[k].isolated = false) ∧ (s.sampleLate n k f = false) ∧ (s.cellsMatch n f = true) ∧ (bit f.status.toNat 30 = false) ∧ (s.sweep[n].ackDue = none)) ∧
    (∃ (s : State), (s.pwr.shelf = false)) ∧
    (∃ (s : State), (s.pwr.shelf = false)) :=
  ⟨⟨W.s, by decide⟩,
    ⟨W.s, by decide⟩,
    ⟨W.s.modRing 1 fun r => { r with mode := .closed, setClosed := false }, 1, 3, { crcOk := true, macOk := true, set := 0, endB := false, status := BitVec.ofNat 32 (W.s.topo 1).cells }, by decide⟩,
    ⟨W.s.modRing 1 fun r => { r with mode := .closed }, by decide⟩,
    ⟨W.s, by decide⟩⟩

/-- The hypotheses of SweepAndRippleComplete can be met. -/
theorem witness_SweepAndRippleComplete :
    (∃ (s : State) (q : Req) (x : Session) (n : Fin 8), (s.serves q x) ∧ (s.str[n].state = .run) ∧ (s.sweep[n].request.ok (s.topo n) = true) ∧ ((s.sweep[n].request.freqs.all fun f => s.onHarmonic n f) = false) ∧ (s.sweep[n].pending = none) ∧ (s.sweep[n].running = none)) ∧
    (∃ (s : State) (q : Req) (x : Session) (n : Fin 8), (s.serves q x) ∧ (s.str[n].state = .run) ∧ (s.sweep[n].request.ok (s.topo n) = true) ∧ ((s.sweep[n].request.freqs.all fun f => s.onHarmonic n f) = false) ∧ (s.sweep[n].pending = none) ∧ (s.sweep[n].running.isSome = true)) ∧
    (∃ (s : State) (q : Req) (x : Session) (n : Fin 8), (s.serves q x) ∧ (s.sweep[n].running.isSome = true) ∧ (s.sweep[n].tpt = false) ∧ (s.sweep[n].startNext = false) ∧ (((s.enter q 2).deriveSweep n).room)) ∧
    (∃ (s : State) (q : Req) (x : Session) (n : Fin 8), (s.serves q x) ∧ (s.room) ∧ (s.sweep[n].running.isSome = true) ∧ (s.sweep[n].startNext = true ∨ s.sweep[n].tpt = true)) ∧
    (∃ (s : State) (q : Req) (x : Session) (n : Fin 8) (r : SweepReq), (s.serves q x) ∧ (s.room) ∧ (s.sweep[n].pending = some r)) ∧
    (∃ (s : State) (n : Fin 8) (r : SweepReq), (s.sweep[n].running = some r) ∧ (s.sweep[n].startNext = true) ∧ (s.sweep[n].redoPass = false) ∧ (s.sweep[n].tpt = false) ∧ (1 ≤ r.points) ∧ (s.onHarmonic n (r.freqs.getD 0 0) = false)) ∧
    (∃ (s : State) (n : Fin 8), (s.sweep[n].running.isSome = true)) ∧
    (∃ (s : State) (n : Fin 8), (s.sweep[n].running.isSome = true) ∧ (s.sweep[n].ackDue = none)) ∧
    (∃ (s : State) (n : Fin 8) (p : Nat), (s.sweep[n].ackDue = some p) ∧ (s.sweep[n].startNext = true) ∧ (s.sweep[n].tpt = false) ∧ (s.sweep[n].running.isSome = true)) ∧
    (∃ (s : State) (n : Fin 8), (s.sweep[n].regTpt ≠ 0) ∧ (s.str[n].state = .run) ∧ (s.sweep[n].running = none) ∧ (s.sweep[n].pending = none)) ∧
    (∃ (s : State) (n : Fin 8), (s.room) ∧ (s.sweep[n].regTpt ≠ 0) ∧ (s.str[n].state ≠ .run)) ∧
    (∃ (s : State) (q : Req) (x : Session) (mask : Byte), (s.serves q x) ∧ (((stringsOf mask).all fun n => s.calReady n) = true)) ∧
    (∃ (s : State) (n : Fin 8), (s.rcMayLearn n = true)) ∧
    (∃ (s : State) (n : Fin 8), (s.room) ∧ (s.rcMayLearn n = false)) ∧
    (∃ (s : State), (s.room)) ∧
    (∃ (s : State) (n : Fin 8), (s.rc[n].fading = true)) ∧
    (∃ (s : State) (n : Fin 8), (s.room) ∧ (s.rc[n].high = false) ∧ (s.rippleHigh n = true)) ∧
    (∃ (s : State) (q : Req) (x : Session) (v : Word), (s.serves q x) ∧ (45000 ≤ v.toNat % 2 ^ 17) ∧ (v.toNat % 2 ^ 17 ≤ 65000)) :=
  ⟨⟨(W.s.modStr 2 fun e => { e with state := .run }).modSweep 2 fun w => { w with regCfg := 0x11050001, regFreq := [(0, 75000)] }, W.q, W.x, 2, by decide⟩,
    ⟨(W.s.modStr 2 fun e => { e with state := .run }).modSweep 2 fun w => { w with regCfg := 0x11050001, regFreq := [(0, 75000)], running := some {} }, W.q, W.x, 2, by decide⟩,
    ⟨W.s.modSweep 2 fun w => { w with running := some {} }, W.q, W.x, 2, by decide⟩,
    ⟨W.s.modSweep 2 fun w => { w with running := some {}, startNext := true }, W.q, W.x, 2, by decide⟩,
    ⟨W.s.modSweep 2 fun w => { w with pending := some {} }, W.q, W.x, 2, {}, by decide, by decide, rfl⟩,
    ⟨W.s.modSweep 2 fun w => { w with running := some { points := 1, freqs := [75000] }, startNext := true }, 2, { points := 1, freqs := [75000] }, rfl, rfl, rfl, rfl, by decide, by decide⟩,
    ⟨W.s.modSweep 2 fun w => { w with running := some {} }, 2, by decide⟩,
    ⟨W.s.modSweep 2 fun w => { w with running := some {} }, 2, by decide, rfl⟩,
    ⟨W.s.modSweep 2 fun w => { w with running := some {}, ackDue := some 3, startNext := true }, 2, 3, rfl, rfl, rfl, by decide⟩,
    ⟨(W.s.modStr 2 fun e => { e with state := .run }).modSweep 2 fun w => { w with regTpt := 9 }, 2, by decide⟩,
    ⟨W.s.modSweep 2 fun w => { w with regTpt := 9 }, 2, by decide⟩,
    ⟨W.s, W.q, W.x, 0, by decide⟩,
    ⟨(W.s.modStr 2 fun e => { e with state := .run }).modRc 2 fun r => { r with locked := true, stopped := false, dirty := false }, 2, by decide⟩,
    ⟨W.s, 2, by decide⟩,
    ⟨W.s, by decide⟩,
    ⟨W.s.modRc 2 fun r => { r with fading := true }, 2, by decide⟩,
    ⟨(W.s.modRc 2 fun r => { r with above := true, learning := true, highSince := some 0 }).modClk fun c => { c with upNs := 5000000000 }, 2, by decide⟩,
    ⟨W.s, W.q, W.x, 50000, by decide⟩⟩

/-- The hypotheses of StringCommandsComplete can be met. -/
theorem witness_StringCommandsComplete :
    (∃ (s : State) (q : Req) (x : Session) (n : Fin 8), (s.serves q x) ∧ (s.strLease n = true) ∧ ((s.topo n).declared = true) ∧ (s.str[n].state = .disabled) ∧ (s.ring[n].mode ≠ .enumFailed)) ∧
    (∃ (s : State) (q : Req) (x : Session) (n : Fin 8), (s.serves q x) ∧ (s.strLease n = true) ∧ (s.str[n].state = .off ∨ s.str[n].state = .shed ∨ s.str[n].state = .service) ∧ (s.ring[n].mode ≠ .enumFailed)) ∧
    (∃ (s : State) (q : Req) (x : Session) (n : Fin 8), (s.serves q x) ∧ (s.strLease n = true) ∧ (s.str[n].state = .off ∨ s.str[n].state = .shed ∨ s.str[n].state = .service) ∧ (s.ring[n].mode = .enumFailed)) ∧
    (∃ (s : State) (q : Req) (x : Session) (n : Fin 8), (s.serves q x) ∧ (s.str[n].state = .off) ∧ (s.bank.state = .precharge ∨ s.bank.state = .run ∨ s.bank.state = .hold) ∧ (s.startMask n = 0) ∧ (s.strLease n = true)) ∧
    (∃ (s : State) (q : Req) (x : Session) (n : Fin 8), (s.serves q x) ∧ (s.strLease n = true) ∧ (s.str[n].state = .run) ∧ (s.str[n].opening = .none)) ∧
    (∃ (s : State) (q : Req) (x : Session) (n : Fin 8), (s.serves q x) ∧ (s.strLease n = true) ∧ (s.str[n].state = .hold) ∧ (s.str[n].opening = .none) ∧ (s.bank.state = .run)) ∧
    (∃ (s : State) (q : Req) (x : Session) (n : Fin 8), (s.serves q x) ∧ (s.strLease n = true) ∧ (s.str[n].state = .precharge ∨ s.str[n].state = .run ∨ s.str[n].state = .hold) ∧ (s.str[n].opening = .none)) ∧
    (∃ (s : State) (q : Req) (x : Session) (n : Fin 8), (s.serves q x) ∧ (s.strLease n = true) ∧ (s.str[n].state = .shed ∨ s.str[n].state = .service) ∧ (s.ringReady n = true)) ∧
    (∃ (s : State) (q : Req) (x : Session) (n : Fin 8), (s.serves q x) ∧ (s.strLease n = true) ∧ (s.str[n].state = .precharge ∨ s.str[n].state = .run ∨ s.str[n].state = .hold) ∧ (s.str[n].opening = .none)) ∧
    (∃ (s : State) (q : Req) (x : Session) (n : Fin 8), (s.serves q x) ∧ (s.strLease n = true) ∧ (s.str[n].state = .off) ∧ (s.ring[n].mode ≠ .enumFailed) ∧ (bit s.img.reenum.toNat n = false)) ∧
    (∃ (s : State) (q : Req) (x : Session) (n : Fin 8), (s.serves q x) ∧ (s.strLease n = true) ∧ (s.str[n].state = .fault) ∧ (s.str[n].lockout = false) ∧ (s.causeInactive n = true) ∧ (s.channelsAgree = true) ∧ (s.str[n].auxOpen = true) ∧ (s.str[n].drives = 0) ∧ (s.ring[n].mode ≠ .enumFailed)) ∧
    (∃ (s : State) (q : Req) (x : Session) (n : Fin 8) (reg : Fin 7) (v : Word) (r : Rat), (s.serves q x) ∧ (s.strLease n = true) ∧ (f32 v = some r) ∧ (((s.topo n).bound (0x40 + 4 * reg) (-(2 ^ 128)) (2 ^ 128)).1 ≤ r) ∧ (r ≤ ((s.topo n).bound (0x40 + 4 * reg) (-(2 ^ 128)) (2 ^ 128)).2) ∧ (s.sw2 4 = false) ∧ (s.str[n].coefCommit = none)) ∧
    (∃ (s : State) (q : Req) (x : Session), (s.serves q x)) :=
  ⟨⟨W.topo 2 (fun c => { c with declared := true }) W.s, W.q, W.x, 2, by decide⟩,
    ⟨W.s.modStr 2 fun e => { e with state := .shed }, W.q, W.x, 2, by decide⟩,
    ⟨(W.s.modStr 2 fun e => { e with state := .shed }).modRing 2 fun r => { r with mode := .enumFailed }, W.q, W.x, 2, by decide⟩,
    ⟨W.ready 2, W.q, W.x, 2, by decide⟩,
    ⟨W.s.modStr 2 fun e => { e with state := .run }, W.q, W.x, 2, by decide⟩,
    ⟨(W.ready 2).modStr 2 fun e => { e with state := .hold }, W.q, W.x, 2, by decide⟩,
    ⟨W.s.modStr 2 fun e => { e with state := .run }, W.q, W.x, 2, by decide⟩,
    ⟨(W.ready 2).modStr 2 fun e => { e with state := .service }, W.q, W.x, 2, by decide⟩,
    ⟨W.s.modStr 2 fun e => { e with state := .hold }, W.q, W.x, 2, by decide⟩,
    ⟨W.s.modStr 2 fun e => { e with state := .off }, W.q, W.x, 2, by decide⟩,
    ⟨((((W.ready 2).modStr 2 fun e => { e with state := .fault }).modRing 2 fun r => { r with floop := .closed }).modSaf fun t => { t with cmpOk := true }).modClk fun c => { c with upNs := 2000000 }, W.q, W.x, 2, by decide⟩,
    ⟨W.s, W.q, W.x, 2, 1, 0, 0, by decide, by decide, by decide +kernel, by decide +kernel, by decide +kernel, by decide, by decide⟩,
    ⟨W.s, W.q, W.x, by decide⟩⟩

/-- The hypotheses of ContactorsComplete can be met. -/
theorem witness_ContactorsComplete :
    (∃ (s : State) (n : Fin 8) (aux : BitVec 3), (s.str[n].state = .precharge) ∧ (s.str[n].opening = .none) ∧ (s.str[n].prech = .kNeg) ∧ (bit aux.toNat 0 = true)) ∧
    (∃ (s : State) (n : Fin 8) (aux : BitVec 3), (s.str[n].state = .precharge) ∧ (s.str[n].opening = .none) ∧ (s.str[n].prech = .kPos) ∧ (bit aux.toNat 2 = true)) ∧
    (∃ (s : State) (n : Fin 8) (aux : BitVec 3), (s.str[n].state = .precharge) ∧ (s.str[n].opening = .none) ∧ (s.str[n].prech = .kPreOpen) ∧ (bit aux.toNat 1 = false)) ∧
    (∃ (s : State) (n : Fin 8), (s.room) ∧ (s.str[n].state = .precharge) ∧ (s.str[n].prech = .kNeg ∨ s.str[n].prech = .kPreT0 ∨ s.str[n].prech = .kPre)) ∧
    (∃ (s : State), (s.room)) ∧
    (∃ (s : State) (n : Fin 8) (i : Fin 3), (bit s.str[n].pullin.toNat i = true)) ∧
    (∃ (s : State) (n : Fin 8), (s.str[n].opening = .kNegDelay)) ∧
    (∃ (s : State) (n : Fin 8), (s.room) ∧ (s.str[n].opening = .tripWait) ∧ (2000 ≤ max s.str[n].smp.istrA.natAbs s.str[n].smp.istrB.natAbs)) :=
  ⟨⟨W.s.modStr 2 fun e => { e with state := .precharge, prech := .kNeg }, 2, 1, by decide⟩,
    ⟨W.s.modStr 2 fun e => { e with state := .precharge, prech := .kPos }, 2, 7, by decide⟩,
    ⟨W.s.modStr 2 fun e => { e with state := .precharge, prech := .kPreOpen }, 2, 5, by decide⟩,
    ⟨W.s.modStr 2 fun e => { e with state := .precharge, prech := .kPre, drives := 3 }, 2, by decide⟩,
    ⟨W.s, by decide⟩,
    ⟨W.s.modStr 2 fun e => { e with pullin := 2 }, 2, 1, by decide⟩,
    ⟨W.s.modStr 2 fun e => { e with opening := .kNegDelay, drives := 1 }, 2, by decide⟩,
    ⟨W.s.modStr 2 fun e => { e with opening := .tripWait, drives := 7, smp := { istrB := -3000 } }, 2, by decide⟩⟩

/-- The hypotheses of ControlCycleComplete can be met. -/
theorem witness_ControlCycleComplete :
    (∃ (s : State) (n : Fin 8), (s.str[n].state ≠ .disabled) ∧ (s.str[n].computing = false)) ∧
    (∃ (s : State) (n : Fin 8), (s.room) ∧ (s.str[n].state ≠ .disabled) ∧ (s.str[n].computing = true)) ∧
    (∃ (s : State) (n : Fin 8), (s.room) ∧ (s.str[n].computing = true) ∧ (s.str[n].smp.vbus ≠ 0)) ∧
    (∃ (s : State) (n : Fin 8) (iv : Nat), ((s.topo n).sync = true) ∧ (s.str[n].state ≠ .disabled) ∧ (95 * (s.topo n).pNom ≤ 100 * (s.str[n].syncSince + iv))) ∧
    (∃ (s : State) (n : Fin 8), (s.room) ∧ ((s.topo n).sync = true)) ∧
    (∃ (s : State) (n : Fin 8) (p : Fin 6), (s.str[n].gd[p].tempIn = none)) ∧
    (∃ (s : State) (n : Fin 8), ((List.finRange 6).all (fun p => s.str[n].gd[p].tempIn.isSome && s.str[n].gd[p].filt.isNone) = true)) ∧
    (∃ (f : StatusFrame), (f.crcOk = true) ∧ (f.macOk = true)) ∧
    (∃ (s : State) (f : StatusFrame), (s.room) ∧ (f.crcOk = true) ∧ (f.macOk = false)) ∧
    (∃ (s : State) (f : StatusFrame), (s.room) ∧ (f.crcOk = false)) ∧
    (∃ (s : State), (s.room)) :=
  ⟨⟨W.s.modStr 2 fun e => { e with state := .off }, 2, by decide⟩,
    ⟨W.s.modStr 2 fun e => { e with state := .run, computing := true }, 2, by decide⟩,
    ⟨W.s.modStr 2 fun e => { e with computing := true, smp := { vbus := 80000 } }, 2, by decide⟩,
    ⟨(W.topo 2 (fun c => { c with sync := true, fc := 10000 }) W.s).modStr 2 fun e => { e with state := .off }, 2, 1280000, by decide⟩,
    ⟨W.topo 2 (fun c => { c with sync := true, fc := 10000 }) W.s, 2, by decide⟩,
    ⟨W.s, 2, 3, by decide⟩,
    ⟨W.s.modStr 2 fun e => { e with gd := Vector.replicate 6 { temp := 300, mgmtFault := false } }, 2, by decide⟩,
    ⟨{}, by decide⟩,
    ⟨W.s, { macOk := false }, by decide⟩,
    ⟨W.s, { crcOk := false }, by decide⟩,
    ⟨W.s, by decide⟩⟩

/-- The hypotheses of BankCommandsComplete can be met. -/
theorem witness_BankCommandsComplete :
    (∃ (s : State) (q : Req) (x : Session), (s.serves q x) ∧ (s.bank.state = .off ∨ s.bank.state = .stop) ∧ (s.img.cur.valid = true) ∧ (s.clk.tscValid = true) ∧ (s.saf.profileOk = true) ∧ (s.leads = true) ∧ (s.stringsQuiet = true)) ∧
    (∃ (s : State) (q : Req) (x : Session), (s.room) ∧ (s.serves q x) ∧ (s.bank.state = .standby) ∧ (s.bankPermits = true) ∧ (s.img.profPending = false)) ∧
    (∃ (s : State) (q : Req) (x : Session), (s.serves q x) ∧ (s.bank.state = .precharge ∨ s.bank.state = .hold) ∧ ((s.str.toList.any fun e => e.state.running) = true)) ∧
    (∃ (s : State) (q : Req) (x : Session), (s.serves q x) ∧ (s.bank.state = .run)) ∧
    (∃ (s : State) (q : Req) (x : Session), (s.serves q x) ∧ (s.bank.state = .run ∨ s.bank.state = .hold)) ∧
    (∃ (s : State) (q : Req) (x : Session), (s.serves q x) ∧ (s.bank.state = .fault) ∧ (s.bankCauseGone = true) ∧ (s.str.toList.all StrEng.auxOpen = true) ∧ (s.channelsAgree = true)) ∧
    (∃ (s : State) (q : Req) (x : Session), (s.serves q x) ∧ (s.bank.state = .stop ∨ s.mayLeaveOff = true) ∧ (s.bank.state = .off ∨ s.bank.state = .stop) ∧ (s.roleOf x = .service)) ∧
    (∃ (s : State) (q : Req) (x : Session), (s.serves q x) ∧ (s.bank.state = .off) ∧ (s.mayLeaveOff = false) ∧ (s.roleOf x = .service)) ∧
    (∃ (s : State) (q : Req) (x : Session), (s.serves q x) ∧ (s.bank.state = .standby ∨ s.bank.state = .stop ∨ s.bank.state = .service)) :=
  ⟨⟨(((W.ready 2).modBank fun b => { b with state := .off }).modImg fun i => { i with cur := { i.cur with valid := true } }).modClk fun c => { c with tscValid := true }, W.q, W.x, by decide⟩,
    ⟨((W.ready 2).modBank fun b => { b with state := .standby }).modSaf fun t => { t with cmpOk := true, fab := { t.fab with global := false, pcsOpen := false } }, W.q, W.x, by decide⟩,
    ⟨(W.s.modBank fun b => { b with state := .hold }).modStr 3 fun e => { e with state := .hold }, W.q, W.x, by decide⟩,
    ⟨W.s.modBank fun b => { b with state := .run }, W.q, W.x, by decide⟩,
    ⟨W.s.modBank fun b => { b with state := .hold }, W.q, W.x, by decide⟩,
    ⟨((W.ready 2).modBank fun b => { b with state := .fault }).modSaf fun t => { t with cmpOk := true }, W.q, W.x, by decide⟩,
    ⟨W.s.modBank fun b => { b with state := .stop }, W.q, W.x, by decide⟩,
    ⟨W.s, W.q, W.x, by decide⟩,
    ⟨W.s.modBank fun b => { b with state := .standby }, W.q, W.x, by decide⟩⟩

/-- The hypotheses of DispatchComplete can be met. -/
theorem witness_DispatchComplete :
    (∃ (s : State) (q : Req) (x : Session) (body : DispBody), (s.serves q x) ∧ (x.port ≠ .console) ∧ (s.leads = true) ∧ (s.twin.releasing = false) ∧ (s.bank.state = .run ∨ s.bank.state = .hold) ∧ (s.identRoom x.ident = true) ∧ (s.dispRepeat x.ident body = none) ∧ (s.dispOld x.ident body = false) ∧ (body.zero = 0) ∧ (body.flags.toNat ≤ 1) ∧ (s.img.cfg.disp.inRange body = true) ∧ (body.validUntil = 0) ∧ (s.bank.acceptedThisCycle ≤ 64) ∧ (s.waitingDisp.length + s.bank.wait.length < 256)) ∧
    (∃ (s : State) (f : TwinFrame) (w : DispWait), (s.frameOk f = true) ∧ (s.twin.taken f.seq = false) ∧ (s.bank.wait = [w]) ∧ (w.alone = false) ∧ (s.dispRepeat w.ident w.body = none) ∧ (s.dispOld w.ident w.body = false)) ∧
    (∃ (s : State) (f : TwinFrame) (w : DispWait) (k : Nat), (s.room) ∧ (s.frameOk f = true) ∧ (s.twin.taken f.seq = false) ∧ (s.bank.wait = [w]) ∧ (w.alone = false) ∧ (s.dispRepeat w.ident w.body = some k)) ∧
    (∃ (s : State) (f : TwinFrame) (w : DispWait) (v : DispWait), (s.frameOk f = true) ∧ (s.twin.taken f.seq = false) ∧ (s.bank.wait = [w, v]) ∧ (w.confirmed = false) ∧ (v.alone = false) ∧ (w.seq < v.seq)) ∧
    (∃ (s : State) (w : DispWait), (s.room) ∧ (s.bank.wait = [w]) ∧ (w.alone = false) ∧ (w.confirmed = false)) ∧
    (∃ (s : State) (q : Req) (x : Session), (s.serves q x)) ∧
    (∃ (s : State) (d : DispEntry), (s.leads = true) ∧ (s.bank.state = .run ∨ s.bank.state = .hold) ∧ (s.waitingDisp = [d]) ∧ (d.accCycle < s.cycle) ∧ (d.body.validUntil = 0)) ∧
    (∃ (s : State), (s.leads = true) ∧ (s.bank.state.flowing = false) ∧ (s.bank.inForce = none) ∧ (∀ n : Fin 8, s.str[n].state ≠ .run)) ∧
    (∃ (s : State), (s.leads = true) ∧ (s.bank.splitDue = true) ∧ (s.bank.inForce = none)) ∧
    (∃ (s : State), (s.leads = true) ∧ (s.bank.splitDue = false)) :=
  ⟨⟨W.s.modBank fun b => { b with state := .run }, W.q, W.x, {}, by decide⟩,
    ⟨(W.s.modBank fun b => { b with wait := [{ seq := 4 }] }).modTwin fun t => { t with peerKey := some 1 }, { seq := 4 }, { seq := 4 }, by decide⟩,
    ⟨((W.s.modBank fun b => { b with wait := [{ seq := 4 }] }).modJrn fun j => { j with idents := [{ seq := 3 }] }).modTwin fun t => { t with peerKey := some 1 }, { seq := 4 }, { seq := 4 }, 3, by decide, by decide, by decide, by decide, by decide, rfl⟩,
    ⟨(W.s.modBank fun b => { b with wait := [{ seq := 4 }, { seq := 5 }] }).modTwin fun t => { t with peerKey := some 1 }, { seq := 4 }, { seq := 4 }, { seq := 5 }, by decide⟩,
    ⟨W.s.modBank fun b => { b with wait := [{ seq := 4 }] }, { seq := 4 }, by decide⟩,
    ⟨W.s, W.q, W.x, by decide⟩,
    ⟨((W.s.modBank fun b => { b with state := .run }).modJrn fun j => { j with disp := [{}] }).modClk fun c => { c with cycleNo := 5 }, {}, by decide, by decide, rfl, by decide, by decide⟩,
    ⟨W.s, by decide⟩,
    ⟨W.s.modBank fun b => { b with splitDue := true }, by decide⟩,
    ⟨W.s, by decide⟩⟩

/-- The hypotheses of EstimationCommandsComplete can be met. -/
theorem witness_EstimationCommandsComplete :
    (∃ (s : State), (s.est.stepRun = true)) ∧
    (∃ (s : State) (q : Req) (x : Session), (s.serves q x) ∧ (s.leads = true)) ∧
    (∃ (s : State) (q : Req) (x : Session), (s.serves q x) ∧ (s.leads = true) ∧ (s.est.learnBusy = false)) ∧
    (∃ (s : State), (21600000000000 ≤ s.learnAge) ∧ (s.est.learnBusy = false)) ∧
    (∃ (s : State) (a : LearnArea), (s.room) ∧ (s.est.learnWrite = some a) ∧ (a.valid = true) ∧ (s.jrn.area0.seq < a.seq) ∧ (s.jrn.area1.seq < a.seq)) ∧
    (∃ (s : State) (a : LearnArea), (s.room) ∧ (s.est.learnWrite = some a)) ∧
    (∃ (s : State), (s.est.learnWrite = none)) ∧
    (∃ (s : State) (n : Fin 8), (s.leads = true) ∧ (n ∈ s.declared)) :=
  ⟨⟨W.s.modEst fun e => { e with stepRun := true }, by decide⟩,
    ⟨W.s, W.q, W.x, by decide⟩,
    ⟨W.s, W.q, W.x, by decide⟩,
    ⟨W.s.modClk fun c => { c with upNs := 21600000000001 }, by decide⟩,
    ⟨W.s.modEst fun e => { e with learnBusy := true, learnWrite := some (W.s.learnArea 1 1) }, W.s.learnArea 1 1, by decide, rfl, by decide, by decide, by decide⟩,
    ⟨W.s.modEst fun e => { e with learnBusy := true, learnWrite := some (W.s.learnArea 1 1) }, W.s.learnArea 1 1, by decide, rfl⟩,
    ⟨W.s, by decide⟩,
    ⟨W.topo 2 (fun c => { c with declared := true }) W.s, 2, by decide⟩⟩

/-- The hypotheses of SafetyChannelsComplete can be met. -/
theorem witness_SafetyChannelsComplete :
    (∃ (s : State) (b : Bool) (n : Fin 8), (n ∈ s.judged) ∧ ((s.ring[n].floop == .opened || s.ring[n].nodeFault) = true) ∧ (s.str[n].state.active = true) ∧ (n.val * 32 + 1 ∉ (s.saf.chan b).fired)) ∧
    (∃ (s : State) (b : Bool) (n : Fin 8), ((s.saf.chan b).failed = false) ∧ (s.str[n].contReq = true) ∧ (s.str[n].mismatch = false) ∧ (s.str[n].state.active = true) ∧ (n.val * 32 + 24 ∉ (s.saf.chan b).fired)) ∧
    (∃ (s : State) (b : Bool) (n : Fin 8), (s.room) ∧ ((s.saf.chan b).failed = false) ∧ (s.str[n].contReq = true) ∧ (s.str[n].mismatch = false) ∧ (s.sweep[n].running = none) ∧ (n.val * 32 + 24 ∉ (s.saf.chan b).fired)) ∧
    (∃ (s : State), (s.room) ∧ (s.saf.a.faultDem ≠ s.saf.b.faultDem)) ∧
    (∃ (s : State) (b : Bool), ((s.saf.chan b).run = false)) ∧
    (∃ (s : State) (b : Bool), ((s.saf.chan b).run = true) ∧ ((s.saf.chan b).rxOk = true)) ∧
    (∃ (s : State) (b : Bool), (s.room) ∧ ((s.saf.chan b).run = true) ∧ ((s.saf.chan b).rxOk = false) ∧ ((s.saf.chan b).failRun = 2) ∧ ((s.saf.chan b).failed = false)) ∧
    (∃ (s : State) (b : Bool), (s.room) ∧ ((s.saf.chan b).failed = false)) ∧
    (∃ (s : State) (q : Req) (x : Session), (s.room) ∧ (s.serves q x) ∧ (s.leads = true) ∧ (s.bank.state = .standby)) ∧
    (∃ (s : State), (s.room) ∧ (s.saf.testDue = false)) :=
  ⟨⟨((W.topo 2 (fun c => { c with declared := true }) W.s).modStr 2 fun e => { e with state := .run }).modRing 2 fun r => { r with floop := .opened }, false, 2, by decide⟩,
    ⟨W.s.modStr 2 fun e => { e with state := .run, contReq := true }, true, 2, by decide⟩,
    ⟨W.s.modStr 2 fun e => { e with state := .run, contReq := true }, true, 2, by decide⟩,
    ⟨W.s.modSaf fun t => { t with a := { t.a with faultDem := 1 } }, by decide⟩,
    ⟨W.s.modSaf fun t => { t with a := { t.a with run := false } }, false, by decide⟩,
    ⟨W.s.modSaf fun t => { t with a := { t.a with run := true, rxOk := true } }, false, by decide⟩,
    ⟨W.s.modSaf fun t => { t with a := { t.a with run := true, failRun := 2 } }, false, by decide⟩,
    ⟨W.s, true, by decide⟩,
    ⟨W.s.modBank fun b => { b with state := .standby }, W.q, W.x, by decide⟩,
    ⟨W.s.modSaf fun t => { t with testDue := false }, by decide⟩⟩

/-- The hypotheses of TripFabricComplete can be met. -/
theorem witness_TripFabricComplete :
    (∃ (s : State), (s.room)) ∧
    (∃ (s : State), (s.room)) ∧
    (∃ (s : State), (s.room)) ∧
    (∃ (s : State) (b : Bool) (thr : List Nat), (s.room) ∧ (thr ≠ (s.saf.chan (!b)).thr) ∧ (s.saf.fab.cfgMismatch = false)) ∧
    (∃ (s : State), (s.room) ∧ (s.saf.fab.estopA.active ≠ s.saf.fab.estopB.active) ∧ (s.saf.fab.discrepancy = false)) ∧
    (∃ (s : State), (s.saf.fab.estopBothOpen = true) ∧ (s.quiet s.saf.fab.estopA 1000000000 = true) ∧ (s.quiet s.saf.fab.estopB 1000000000 = true)) ∧
    (∃ (s : State), (s.saf.fab.coilTimer = true)) :=
  ⟨⟨W.s, by decide⟩,
    ⟨W.s, by decide⟩,
    ⟨W.s, by decide⟩,
    ⟨W.s, true, [4], by decide⟩,
    ⟨W.s.modSaf fun t => { t with fab := { t.fab with estopA := { active := true }, estopB := {} } }, by decide⟩,
    ⟨(W.s.modClk fun c => { c with upNs := 2000000000 }).modSaf fun t => { t with fab := { t.fab with estopBothOpen := true, estopA := {}, estopB := {} } }, by decide⟩,
    ⟨W.s.modSaf fun t => { t with fab := { t.fab with coilTimer := true } }, by decide⟩⟩

/-- The hypotheses of TwinLinkComplete can be met. -/
theorem witness_TwinLinkComplete :
    (∃ (s : State) (l : Bool), (s.room) ∧ ((if l then s.twin.lane1.up else s.twin.lane0.up) = true)) ∧
    (∃ (s : State), (s.twin.lane0.up = false) ∧ (s.twin.lane1.up = false) ∧ (s.twin.role ≠ .alone)) ∧
    (∃ (s : State), (s.room) ∧ (s.twin.role ≠ .alone) ∧ (s.trust.keysErased = false)) ∧
    (∃ (s : State), (s.twin.ownKey.isSome = true) ∧ (s.twin.rekeyAt = none) ∧ (s.rekeyDue = true)) ∧
    (∃ (s : State), (s.twin.role ≠ .alone) ∧ (s.twin.ownKey.isSome = true)) ∧
    (∃ (s : State) (f : TwinFrame), (s.frameOk f = true) ∧ (s.twin.taken f.seq = false) ∧ (s.img.peer = none)) ∧
    (∃ (s : State) (f : TwinFrame), (s.room) ∧ (s.twin.peerKey.isSome = true) ∧ (s.frameOk f = false)) ∧
    (∃ (s : State), (s.twin.peerKey = none)) :=
  ⟨⟨W.s.modTwin fun w => { w with lane0 := { up := true } }, false, by decide⟩,
    ⟨W.s.modTwin fun w => { w with role := .unsynced }, by decide⟩,
    ⟨W.s.modTwin fun w => { w with role := .unsynced }, by decide⟩,
    ⟨W.s.modTwin fun w => { w with ownKey := some 1, frames := 2 ^ 31 }, by decide⟩,
    ⟨W.s.modTwin fun w => { w with role := .unsynced, ownKey := some 1 }, by decide⟩,
    ⟨W.s.modTwin fun w => { w with peerKey := some 1 }, { seq := 4 }, by decide⟩,
    ⟨W.s.modTwin fun w => { w with peerKey := some 1 }, { macOk := false }, by decide⟩,
    ⟨W.s, by decide⟩⟩

/-- The hypotheses of TwinRecordsComplete can be met. -/
theorem witness_TwinRecordsComplete :
    (∃ (s : State) (f : TwinFrame) (n : Fin 8), (s.frameOk f = true) ∧ (s.twin.taken f.seq = false) ∧ (s.twin.str[n].held = false) ∧ (s.twin.role = .standby)) ∧
    (∃ (s : State) (f : TwinFrame) (e : EstRecord), (s.frameOk f = true) ∧ (s.twin.taken f.seq = false) ∧ (s.twin.role = .standby) ∧ (e.complete = true) ∧ (s.trust.peerToken = none) ∧ (s.img.profPending = false)) ∧
    (∃ (s : State) (f : TwinFrame) (e : EstRecord), (s.frameOk f = true) ∧ (s.twin.taken f.seq = false) ∧ (e.complete = false)) ∧
    (∃ (s : State) (f : TwinFrame) (arrived : BitVec 32), (s.frameOk f = true) ∧ (s.twin.taken f.seq = false) ∧ (s.twin.role = .standby) ∧ (arrived ≠ 0) ∧ (s.twin.timeOut ≠ 0) ∧ ((s.twoWay f arrived).natAbs ≤ 4000000000)) ∧
    (∃ (s : State) (u : Nat), (s.room) ∧ (s.twin.timeLost = false) ∧ (s.twin.ofsSince = some u) ∧ (1000000 ≤ s.since u)) ∧
    (∃ (s : State) (u : Nat), (s.room) ∧ (s.twin.ptpLost = false) ∧ (s.twin.ptpSince = some u) ∧ (1000000000 ≤ s.since u)) ∧
    (∃ (s : State) (f : TwinFrame), (s.frameOk f = true) ∧ (s.twin.taken f.seq = false) ∧ (s.twin.role ≠ .alone)) ∧
    (∃ (s : State) (f : TwinFrame) (ident : Nat) (wtag : BitVec 64), (s.frameOk f = true) ∧ (s.twin.taken f.seq = false) ∧ (s.twin.role ≠ .alone) ∧ ((((s.jrn.identOf ident).map fun h => h.jseq ≠ 0 && wtag ≤ h.wtag).getD false) = false)) ∧
    (∃ (s : State) (f : TwinFrame) (ident : Nat) (wtag : BitVec 64) (h : HostIdent), (s.frameOk f = true) ∧ (s.twin.taken f.seq = false) ∧ (s.jrn.identOf ident = some h) ∧ (h.jseq ≠ 0) ∧ (wtag ≤ h.wtag)) ∧
    (∃ (s : State) (f : TwinFrame), (s.frameOk f = true) ∧ (s.twin.taken f.seq = true)) ∧
    (∃ (s : State) (f : TwinFrame) (r : HistRec), (s.frameOk f = true) ∧ (s.twin.taken f.seq = false) ∧ (s.twin.role ≠ .alone) ∧ (s.hist.nv.freedTo < r.rseq)) ∧
    (∃ (s : State) (q : Req) (x : Session) (h : Heartbeat), (s.serves q x) ∧ (s.img.cfg.paired = true) ∧ (s.twin.role = .unsynced) ∧ (s.twin.resync = .idle) ∧ (s.twin.fenceIn = false) ∧ (s.twin.hbOk = true) ∧ (s.twin.peer = some h) ∧ (h.role = .active) ∧ (h.member ≠ s.ident.member) ∧ (h.cfgDigest = s.cfgDigest16) ∧ (s.versionsOk h = true)) ∧
    (∃ (s : State) (h : Heartbeat), (s.twin.role = .unsynced) ∧ (s.twin.resync = .idle) ∧ (s.img.cfg.pair.autoResync = true) ∧ (s.twin.resyncTried = false) ∧ (s.twin.fenceIn = false) ∧ (s.twin.hbOk = true) ∧ (s.twin.peer = some h) ∧ (h.role = .active) ∧ (h.member ≠ s.ident.member) ∧ (h.cfgDigest = s.cfgDigest16) ∧ (s.versionsOk h = true)) ∧
    (∃ (s : State) (c : ResyncCopy), (s.room) ∧ (s.twin.role = .unsynced) ∧ (s.twin.resync ≠ .idle) ∧ (c.digestOk = true)) ∧
    (∃ (s : State) (c : ResyncCopy), (s.room) ∧ (s.twin.role = .unsynced) ∧ (s.twin.resync ≠ .idle) ∧ (c.digestOk = false)) ∧
    (∃ (s : State), (s.room) ∧ (s.twin.resync ≠ .idle)) :=
  ⟨⟨W.s.modTwin fun w => { w with peerKey := some 1, role := .standby }, { seq := 4 }, 2, by decide⟩,
    ⟨W.s.modTwin fun w => { w with peerKey := some 1, role := .standby }, { seq := 4 }, {}, by decide⟩,
    ⟨W.s.modTwin fun w => { w with peerKey := some 1, role := .standby }, { seq := 4 }, { complete := false }, by decide⟩,
    ⟨W.s.modTwin fun w => { w with peerKey := some 1, role := .standby, timeOut := 5 }, { seq := 4, tsc := 20 }, 12, by decide⟩,
    ⟨(W.s.modTwin fun w => { w with ofsSince := some 0 }).modClk fun c => { c with upNs := 1000000 }, 0, by decide, by decide, rfl, by decide⟩,
    ⟨(W.s.modTwin fun w => { w with ptpSince := some 0 }).modClk fun c => { c with upNs := 1000000000 }, 0, by decide, by decide, rfl, by decide⟩,
    ⟨W.s.modTwin fun w => { w with peerKey := some 1, role := .standby }, { seq := 4 }, by decide⟩,
    ⟨W.s.modTwin fun w => { w with peerKey := some 1, role := .standby }, { seq := 4 }, 1, 7, by decide⟩,
    ⟨(W.s.modTwin fun w => { w with peerKey := some 1, role := .standby }).modJrn fun j => { j with idents := [{ ident := 1, jseq := 3, wtag := 7 }] }, { seq := 4 }, 1, 7, { ident := 1, jseq := 3, wtag := 7 }, by decide, by decide, rfl, by decide, by decide⟩,
    ⟨W.s.modTwin fun w => { w with peerKey := some 1, role := .standby }, {}, by decide⟩,
    ⟨W.s.modTwin fun w => { w with peerKey := some 1, role := .standby }, { seq := 4 }, { rseq := 3 }, by decide⟩,
    ⟨(W.s.modImg fun i => { i with cfg := { i.cfg with paired := true, pair := { i.cfg.pair with twinMin := 0, twinMax := 0xFFFF } } }).modTwin fun w => { w with role := .unsynced, hbOk := true, peer := some { role := .active, member := true, twinMin := 0, twinMax := 0xFFFF, cfgDigest := (W.s.modImg fun i => { i with cfg := { i.cfg with paired := true, pair := { i.cfg.pair with twinMin := 0, twinMax := 0xFFFF } } }).cfgDigest16 } }, W.q, W.x, { role := .active, member := true, twinMin := 0, twinMax := 0xFFFF, cfgDigest := (W.s.modImg fun i => { i with cfg := { i.cfg with paired := true, pair := { i.cfg.pair with twinMin := 0, twinMax := 0xFFFF } } }).cfgDigest16 }, by decide, by decide, by decide, by decide, by decide, by decide, rfl, rfl, by decide, rfl, by decide⟩,
    ⟨(W.s.modImg fun i => { i with cfg := { i.cfg with pair := { i.cfg.pair with twinMin := 0, twinMax := 0xFFFF, autoResync := true } } }).modTwin fun w => { w with role := .unsynced, hbOk := true, peer := some { role := .active, member := true, twinMin := 0, twinMax := 0xFFFF, cfgDigest := (W.s.modImg fun i => { i with cfg := { i.cfg with pair := { i.cfg.pair with twinMin := 0, twinMax := 0xFFFF, autoResync := true } } }).cfgDigest16 } }, { role := .active, member := true, twinMin := 0, twinMax := 0xFFFF, cfgDigest := (W.s.modImg fun i => { i with cfg := { i.cfg with pair := { i.cfg.pair with twinMin := 0, twinMax := 0xFFFF, autoResync := true } } }).cfgDigest16 }, by decide, by decide, by decide, by decide, by decide, by decide, rfl, rfl, by decide, rfl, by decide⟩,
    ⟨W.s.modTwin fun w => { w with role := .unsynced, resync := .compare }, {}, by decide⟩,
    ⟨W.s.modTwin fun w => { w with role := .unsynced, resync := .compare }, { digestOk := false }, by decide⟩,
    ⟨W.s.modTwin fun w => { w with resync := .journal }, by decide⟩⟩

/-- The hypotheses of LeasesAndFencingComplete can be met. -/
theorem witness_LeasesAndFencingComplete :
    (∃ (s : State), (s.room) ∧ (s.twin.role = .active) ∧ (s.twin.activeIn = .low) ∧ (s.twin.fenceIn = false) ∧ (s.twin.fenceOut = false) ∧ (s.twin.fenceWait = false) ∧ (s.saf.a.failed = false) ∧ (s.saf.b.failed = false) ∧ (s.ident.member = false)) ∧
    (∃ (s : State), (s.room) ∧ (s.twin.role = .standby) ∧ (s.twin.activeIn = .high) ∧ (11 ∉ s.twin.disagree)) ∧
    (∃ (s : State), (s.twin.selfFault = false) ∧ (s.trust.keysErased = false)) ∧
    (∃ (s : State) (l : LeaseId), ((s.twin.lease l).held = true)) ∧
    (∃ (s : State) (n : Fin 8), (s.twin.ring[n].held = true)) ∧
    (∃ (s : State) (n : Fin 8), (s.twin.fenceConf = true) ∧ (s.twin.takeover = true) ∧ (s.twin.activeIn = .low) ∧ (s.leaseFree (.ring n) = true)) ∧
    (∃ (s : State) (n : Fin 8), (s.room) ∧ (s.twin.fenceConf = true) ∧ (s.twin.takeover = true) ∧ (s.twin.activeIn = .low) ∧ (s.leaseFree (.str n) = true)) ∧
    (∃ (s : State) (n : Fin 8) (k : Fin 24), (s.room) ∧ (s.twin.fenceConf = true) ∧ (s.twin.takeover = true) ∧ (s.twin.activeIn = .low) ∧ (s.leaseFree (.pack n k) = true) ∧ (∀ l ∈ LeaseId.all, l ≠ .pack n k → (s.twin.lease l).held = true)) ∧
    (∃ (s : State) (v : Line3), (v = .low) ∧ (s.twin.activeIn = .high) ∧ (s.twin.role = .standby) ∧ (s.twin.hand ≠ .released) ∧ ((s.twin.peer.map fun h => bit h.flags.toNat 7).getD false = false) ∧ (s.twin.fenceIn = false) ∧ (s.twin.fenceOut = false) ∧ (s.twin.fenceWait = false) ∧ (s.saf.a.failed = false) ∧ (s.saf.b.failed = false) ∧ (s.ident.member = false)) ∧
    (∃ (s : State), (s.room) ∧ (s.twin.fenceWait = true) ∧ (s.twin.fenceIn = false)) ∧
    (∃ (s : State), (s.room) ∧ (s.twin.fenceOut = true) ∧ (s.twin.fenceConf = false) ∧ (s.twin.role = .standby)) ∧
    (∃ (s : State), (s.room) ∧ (s.twin.fenceOut = true) ∧ (s.twin.fenceConf = false)) ∧
    (∃ (s : State), (s.twin.role ≠ .alone) ∧ (s.twin.role ≠ .fenced)) ∧
    (∃ (s : State), (s.room) ∧ (s.twin.role ≠ .fenced) ∧ (∀ n : Fin 8, s.ring[n].enumRun = none)) ∧
    (∃ (s : State), (s.twin.role = .alone)) ∧
    (∃ (s : State), (s.twin.role = .fenced)) :=
  ⟨⟨(W.s.modTwin fun w => { w with role := .active }).modIdent fun i => { i with member := false }, by decide⟩,
    ⟨W.s.modTwin fun w => { w with role := .standby, activeIn := .high }, by decide⟩,
    ⟨W.s, by decide⟩,
    ⟨W.s.modTwin fun w => { w with hist := { w.hist with held := true } }, .hist, by decide⟩,
    ⟨W.s.modTwin fun w => { w with ring := Vec.upd w.ring 2 fun l => { l with held := true } }, 2, by decide⟩,
    ⟨W.s.modTwin fun w => { w with fenceConf := true, takeover := true, activeIn := .low }, 2, by decide⟩,
    ⟨W.s.modTwin fun w => { w with role := .standby, fenceConf := true, takeover := true, activeIn := .low }, 2, by decide⟩,
    ⟨W.lastPack, 0, 0, by decide, rfl, rfl, rfl, W.lastPack_free, W.lastPack_held⟩,
    ⟨(W.s.modTwin fun w => { w with role := .standby, activeIn := .high }).modIdent fun i => { i with member := false }, .low, by decide⟩,
    ⟨W.s.modTwin fun w => { w with fenceWait := true }, by decide⟩,
    ⟨W.s.modTwin fun w => { w with fenceOut := true, role := .standby }, by decide⟩,
    ⟨W.s.modTwin fun w => { w with fenceOut := true, role := .standby }, by decide⟩,
    ⟨W.s.modTwin fun w => { w with role := .standby }, by decide⟩,
    ⟨W.s, by decide⟩,
    ⟨W.s, by decide⟩,
    ⟨W.s.modTwin fun w => { w with role := .fenced }, by decide⟩⟩

/-- The hypotheses of PairAndHandoverComplete can be met. -/
theorem witness_PairAndHandoverComplete :
    (∃ (s : State), (s.mayForm = true)) ∧
    (∃ (s : State), (s.twin.estMiss = 3) ∧ (s.twin.role = .standby)) ∧
    (∃ (s : State) (q : Req) (x : Session), (s.serves q x) ∧ (s.img.cfg.paired = true) ∧ (s.twin.role = .active) ∧ (s.mayHandOver = true)) ∧
    (∃ (s : State), (s.twin.hand = .running) ∧ (s.twin.role = .active) ∧ (s.twin.selfFault = false)) ∧
    (∃ (s : State) (f : TwinFrame), (s.frameOk f = true) ∧ (s.twin.taken f.seq = false) ∧ (s.twin.role = .standby) ∧ (s.twin.activeIn ≠ .low)) ∧
    (∃ (s : State) (q : Req) (x : Session) (h : Heartbeat) (u : Nat), (s.serves q x) ∧ (s.img.cfg.paired = true) ∧ (s.twin.fenceOut = true) ∧ (s.roleOf x = .service) ∧ (s.twin.peer = some h) ∧ (s.twin.fenceBoot.toNat < h.bootCount.toNat) ∧ (s.twin.peerHbSince = some u) ∧ (1000000000 ≤ s.since u)) ∧
    (∃ (s : State), (s.twin.hold = true)) :=
  ⟨⟨(W.s.modTwin fun w => { w with role := .unsynced, activeIn := .low, formSince := some 0 }).modClk fun c => { c with upNs := 100000000000 }, by decide⟩,
    ⟨W.s.modTwin fun w => { w with role := .standby, estMiss := 3 }, by decide⟩,
    ⟨(W.s.modImg fun i => { i with cfg := { i.cfg with paired := true }, pend := none }).modTwin fun w => { w with role := .active, formed := true }, W.q, W.x, by decide, rfl, by decide, by decide⟩,
    ⟨W.s.modTwin fun w => { w with role := .active, hand := .running }, by decide⟩,
    ⟨W.s.modTwin fun w => { w with peerKey := some 1, role := .standby, activeIn := .high }, { seq := 4 }, by decide⟩,
    ⟨((W.s.modImg fun i => { i with cfg := { i.cfg with paired := true } }).modTwin fun w => { w with fenceOut := true, peer := some { bootCount := 1 }, peerHbSince := some 0 }).modClk fun c => { c with upNs := 1000000000 }, W.q, W.x, { bootCount := 1 }, 0, by decide, by decide, by decide, by decide, rfl, by decide, rfl, by decide⟩,
    ⟨W.s.modTwin fun w => { w with hold := true }, by decide⟩⟩

/-- The hypotheses of TrustCommandsComplete can be met. -/
theorem witness_TrustCommandsComplete :
    (∃ (s : State) (q : Req) (x : Session), (s.serves q x)) ∧
    (∃ (s : State) (k : Token), (s.trust.pending = some k) ∧ (s.trust.pendTarget = none) ∧ (s.paired = false)) ∧
    (∃ (s : State) (q : Req) (x : Session), (s.serves q x) ∧ (s.roleOf x = .service) ∧ (s.trust.nv.secVersion.toNat < s.running.secVersion)) ∧
    (∃ (s : State) (q : Req) (x : Session) (m : Byte), (s.serves q x) ∧ (∀ n ∈ stringsOf m, s.str[n].state ≠ .precharge ∧ s.str[n].state ≠ .run ∧ s.str[n].state ≠ .hold)) ∧
    (∃ (s : State) (q : Req) (x : Session), (s.serves q x) ∧ (s.roleOf x = .service)) ∧
    (∃ (s : State) (n : Fin 8) (p : Fin 6) (f : SessFrame) (r : SessRun), (s.str[n].gd[p].sess = some r) ∧ (s.since r.startUp ≤ 10000000) ∧ (r.step = 5) ∧ (f.step = 6) ∧ (f.mac = r.doneMac)) ∧
    (∃ (s : State) (n : Fin 8) (p : Fin 6) (f : SessFrame) (r : SessRun), (s.str[n].gd[p].sess = some r) ∧ (s.since r.startUp ≤ 10000000) ∧ (r.step = 1) ∧ (f.step = 2)) ∧
    (∃ (s : State) (q : Req) (x : Session), (s.prompt q x) ∧ (s.trust.nv.owner ≠ .zeroised)) ∧
    (∃ (s : State), (s.trust.policyReport = true) ∧ (s.trust.nv.owner ≠ .unowned)) ∧
    (∃ (s : State), (s.trust.policyReport = false ∨ s.trust.nv.owner = .unowned)) :=
  ⟨⟨W.s, W.q, W.x, by decide⟩,
    ⟨W.s.modTrust fun u => { u with pending := some {} }, {}, rfl, by decide, by decide⟩,
    ⟨W.s.modUpd fun u => { u with bank0 := { secVersion := 3 } }, W.q, W.x, by decide⟩,
    ⟨W.s, W.q, W.x, 3, by decide⟩,
    ⟨W.s, W.q, W.x, by decide⟩,
    ⟨W.s.modGd 0 0 fun g => { g with sess := some { step := 5 } }, 0, 0, { step := 6, mac := SessRun.doneMac { step := 5 } }, { step := 5 }, ⟨by decide, by decide, rfl, rfl, rfl⟩⟩,
    ⟨W.s.modGd 0 0 fun g => { g with sess := some { step := 1 } }, 0, 0, { step := 2 }, { step := 1 }, rfl, by decide, by decide, by decide⟩,
    ⟨W.s, W.q, W.x, by decide⟩,
    ⟨W.s.modTrust fun u => { u with policyReport := true, nv := { u.nv with owner := .owned } }, by decide⟩,
    ⟨W.s, by decide⟩⟩

/-- The hypotheses of HistoryIntakeComplete can be met. -/
theorem witness_HistoryIntakeComplete :
    (∃ (s : State) (src : Nat) (body : List Byte), (s.writes = true) ∧ (Src.listed src = true) ∧ (s.intakeCode (Hist.recLen body.length) = 0) ∧ (s.hist.gapDue = false)) ∧
    (∃ (s : State) (src : Nat) (body : List Byte), (s.writes = true) ∧ (Src.listed src = true) ∧ (s.intakeCode (Hist.recLen body.length) ≠ 0)) ∧
    (∃ (s : State) (src : Nat), (Src.listed src = false ∨ s.writes = false)) ∧
    (∃ (s : State) (q : Req) (x : Session) (text : List Byte), (s.serves q x) ∧ (1 ≤ text.length) ∧ (text.length ≤ 4000) ∧ (s.writes = true) ∧ (s.intakeCode (Hist.recLen text.length) = 0) ∧ (s.hist.gapDue = false)) ∧
    (∃ (s : State), (16 < s.hist.nv.freeSeg)) ∧
    (∃ (s : State) (b : Bool) (cmd : Nat), (s.room) ∧ ((s.hist.copy b).state ≠ .failed) ∧ (cmd ∉ (s.hist.copy b).reissued)) ∧
    (∃ (s : State) (b : Bool) (cmd : Nat), (s.room) ∧ ((s.hist.copy b).state ≠ .failed) ∧ (cmd ∈ (s.hist.copy b).reissued)) ∧
    (∃ (s : State) (b : Bool), ((s.hist.copy b).state = .failed)) ∧
    (∃ (s : State), (s.hist.state = .resuming) ∧ (s.hist.takeover = false) ∧ (s.hist.full = false) ∧ (s.hist.late = []) ∧ (s.hist.ckDue = false)) ∧
    (∃ (s : State) (b : Bool), ((s.hist.copy b).state = .rebuilding)) ∧
    (∃ (s : State), (s.hist.nv.segOpen = true) ∧ (s.writes = true) ∧ (s.hist.state = .resuming)) ∧
    (∃ (s : State), (s.hist.nv.segOpen = true) ∧ (s.writes = true) ∧ (s.hist.state ≠ .resuming) ∧ (s.intakeCode 208 = 0) ∧ (s.hist.gapDue = false) ∧ (s.hist.nv.offset + 208 ≤ Hist.recordEnd)) :=
  ⟨⟨W.s, 0x80, [], by decide⟩,
    ⟨W.s.modHist fun h => { h with full := true }, 0x80, [], by decide⟩,
    ⟨W.s, 0x9, by decide⟩,
    ⟨W.s, W.q, W.x, [1, 2], by decide⟩,
    ⟨W.s.modHist fun h => { h with nv := { h.nv with freeSeg := 40 } }, by decide⟩,
    ⟨W.s, true, 3, by decide⟩,
    ⟨W.s.modHist fun h => { h with a := { h.a with reissued := [3] } }, false, 3, by decide⟩,
    ⟨W.s.modHist fun h => { h with a := { h.a with state := .failed } }, false, by decide⟩,
    ⟨W.s.modHist fun h => { h with state := .resuming }, by decide⟩,
    ⟨W.s.modHist fun h => { h with a := { h.a with state := .rebuilding } }, false, by decide⟩,
    ⟨W.s.modHist fun h => { h with state := .resuming, nv := { h.nv with segOpen := true } }, by decide⟩,
    ⟨W.s.modHist fun h => { h with state := .writing, nv := { h.nv with segOpen := true, offset := 0x100 } }, by decide⟩⟩

/-- The hypotheses of HistoryCopiesComplete can be met. -/
theorem witness_HistoryCopiesComplete :
    (∃ (s : State) (q : Req) (x : Session) (force : Bool) (ns : ShelfNs), (s.serves q x) ∧ (s.writes = true) ∧ (s.hist.a.state = .failed ∨ s.hist.a.state = .absent ∨ s.hist.a.state = .foreign) ∧ (ns.blank = true ∨ ns.storeId = s.hist.nv.storeId ∨ (force = true ∧ s.roleOf x = .service))) ∧
    (∃ (s : State) (q : Req) (x : Session) (force : Bool) (ns : ShelfNs), (s.serves q x) ∧ (s.writes = true) ∧ (s.hist.b.state = .failed ∨ s.hist.b.state = .absent ∨ s.hist.b.state = .foreign) ∧ (ns.blank = true ∨ ns.storeId = s.hist.nv.storeId ∨ (force = true ∧ s.roleOf x = .service))) ∧
    (∃ (s : State) (b : Bool), (s.room) ∧ ((s.hist.copy b).state = .rebuilding)) ∧
    (∃ (s : State) (q : Req) (x : Session), (s.serves q x) ∧ (s.writes = true) ∧ (s.roleOf x = .service) ∧ (s.hist.full = true ∨ (s.hist.a.blank = true ∧ s.hist.b.blank = true))) ∧
    (∃ (s : State) (q : Req) (x : Session), (s.serves q x) ∧ (s.writes = true) ∧ (s.hist.nv.segOpen = true)) ∧
    (∃ (s : State) (q : Req) (x : Session) (p : BitVec 4), (s.serves q x) ∧ (s.writes = true) ∧ (p.toNat ≤ 3)) ∧
    (∃ (s : State) (k : BitVec 4) (cause : Nat), (s.room) ∧ (s.hist.profNext = some (k, cause))) :=
  ⟨⟨W.s.modHist fun h => { h with a := { h.a with state := .absent } }, W.q, W.x, false, { blank := true, capBytes := 419430400 }, by decide⟩,
    ⟨W.s.modHist fun h => { h with b := { h.b with state := .failed } }, W.q, W.x, false, { blank := true, capBytes := 419430400 }, by decide⟩,
    ⟨W.s.modHist fun h => { h with b := { h.b with state := .rebuilding } }, true, by decide⟩,
    ⟨W.s.modHist fun h => { h with full := true }, W.q, W.x, by decide⟩,
    ⟨W.s.modHist fun h => { h with nv := { h.nv with segOpen := true } }, W.q, W.x, by decide⟩,
    ⟨W.s, W.q, W.x, 2, by decide⟩,
    ⟨W.s.modHist fun h => { h with profNext := some (2, 0) }, 2, 0, by decide, rfl⟩⟩

/-- The hypotheses of RecorderCommandsComplete can be met. -/
theorem witness_RecorderCommandsComplete :
    (∃ (s : State) (code : BitVec 16) (src : Nat), (s.room) ∧ (Event.codeOk code = true) ∧ (Src.listed src = true)) ∧
    (∃ (s : State) (e : Event) (l : List Event), (s.ffr.writing = false) ∧ (s.ffr.revising = none) ∧ (s.ffr.due = []) ∧ (s.ffr.dropped = 0) ∧ (s.ffr.queue = e :: l) ∧ (e.tsc + 5000 ≤ s.now) ∧ (s.ffr.nv.full = false) ∧ ((s.ffr.nv.recs.head?.map fun r => r.takes s.img.cfg.policy e).getD false = false) ∧ (s.ffr.inSecond e.code < s.img.cfg.policy.ffrRate) ∧ (s.ffr.nv.bytes + (80 + FfrRec.bodyLen e.body.length) + 96 ≤ Ffr.area)) ∧
    (∃ (s : State) (e : Event) (l : List Event) (r : FfrRec) (rs : List FfrRec), (s.ffr.writing = false) ∧ (s.ffr.revising = none) ∧ (s.ffr.due = []) ∧ (s.ffr.dropped = 0) ∧ (s.ffr.queue = e :: l) ∧ (e.tsc + 5000 ≤ s.now) ∧ (s.ffr.nv.full = false) ∧ (s.ffr.nv.recs = r :: rs) ∧ (r.takes s.img.cfg.policy e = true)) ∧
    (∃ (s : State) (r : FfrRec) (rs : List FfrRec), (s.ffr.revising = none) ∧ (s.ffr.writing = true) ∧ (s.ffr.nv.recs = r :: rs) ∧ (s.ffr.clearReq = none) ∧ (s.ffr.mirrorDue = [])) ∧
    (∃ (s : State) (q : Req) (x : Session), (s.serves q x) ∧ (s.writes = true) ∧ (s.hist.refusing = false) ∧ (s.paired = false) ∧ (((s.enter q 2).archiveAll (s.ffr.nv.recs.reverse.filter (·.committed))).1 = 0)) ∧
    (∃ (s : State) (q : Req) (x : Session), (s.serves q x) ∧ (s.roleOf x = .service) ∧ (s.ffr.writing = false) ∧ (s.ffr.revising = none) ∧ (s.ffr.nv.archived = true)) ∧
    (∃ (s : State) (f : TwinFrame) (r : FfrRec), (s.frameOk f = true) ∧ (s.twin.taken f.seq = false) ∧ (s.ffr.writing = false) ∧ (s.ffr.revising = none) ∧ (r.rev = 0) ∧ (s.ffr.nv.full = false) ∧ (s.ffr.nv.bytes + r.size + 96 ≤ Ffr.area)) ∧
    (∃ (s : State) (f : TwinFrame), (s.frameOk f = true) ∧ (s.twin.taken f.seq = false) ∧ (s.ffr.writing = true ∨ s.ffr.revising.isSome = true)) ∧
    (∃ (s : State) (f : TwinFrame), (s.twin.taken f.seq = true) ∧ (s.frameOk f = true)) ∧
    (∃ (s : State) (n : BitVec 32), (s.room) ∧ (n.toNat ∈ s.ffr.mirroring)) :=
  ⟨⟨W.s, 0x0234, 0x70, by decide⟩,
    ⟨(W.s.modFfr fun f => { f with queue := [{}] }).modClk fun c => { c with tscFix := 6000 * 2 ^ 32 }, {}, [], by decide⟩,
    ⟨((W.s.modFfr fun f => { f with queue := [{}], nv := { f.nv with recs := [{ committed := true }] } }).modClk fun c => { c with tscFix := 6000 * 2 ^ 32 }).modImg fun i => { i with cfg := { i.cfg with policy := { i.cfg.policy with ffrWindow := 5 } } }, {}, [], { committed := true }, [], by decide⟩,
    ⟨W.s.modFfr fun f => { f with writing := true, nv := { f.nv with recs := [{}] } }, {}, [], by decide⟩,
    ⟨W.s, W.q, W.x, by decide⟩,
    ⟨W.s.modFfr fun f => { f with nv := { f.nv with archived := true } }, W.q, W.x, by decide⟩,
    ⟨W.s.modTwin fun w => { w with peerKey := some 1 }, { seq := 4 }, {}, by decide⟩,
    ⟨(W.s.modFfr fun f => { f with writing := true }).modTwin fun w => { w with peerKey := some 1 }, { seq := 4 }, by decide⟩,
    ⟨W.s.modTwin fun w => { w with peerKey := some 1 }, { seq := 0 }, by decide⟩,
    ⟨W.s.modFfr fun f => { f with mirroring := [4] }, 4, by decide⟩⟩

/-- The hypotheses of HostLinksAndSessionsComplete can be met. -/
theorem witness_HostLinksAndSessionsComplete :
    (∃ (s : State) (p : HostPort), (s.room) ∧ ((s.portOf p).up = true)) ∧
    (∃ (p : HostPort), (p ≠ .console)) ∧
    (∃ (s : State), (s.room)) ∧
    (∃ (s : State) (c : TlsConn) (r : HostRole), (s.room) ∧ (s.pwr.quiesced = false) ∧ ((s.portOf c.port).up = true) ∧ (s.trust.nv.owner = .owned) ∧ (s.trust.bootHalt = false) ∧ (c.tls13 = true) ∧ (c.suiteOk = true) ∧ (c.groupOk = true) ∧ (c.sigAlgOk = true) ∧ (s.tlsSessions < 8) ∧ (c.ou = some r)) ∧
    (∃ (s : State) (i : Nat), ((s.session i).isSome = true)) ∧
    (∃ (s : State) (x : Session) (i : Nat), (s.session i = some x)) ∧
    (∃ (s : State) (x : Session) (i : Nat), (s.session i = some x) ∧ (s.since x.idleUp ≥ 30000000000)) ∧
    (∃ (s : State) (q : Req) (x : Session) (len : Nat), (s.prompt q x) ∧ (len ≤ 65544)) ∧
    (∃ (s : State) (q : Req) (x : Session) (len : Nat), (s.session q.session = some x) ∧ (len > 65544)) ∧
    (∃ (s : State) (q : Req) (x : Session), (s.prompt q x)) ∧
    (∃ (s : State) (q : Req) (x : Session) (c : Byte), (s.hears q x) ∧ (c.toNat ≤ 3)) ∧
    (∃ (s : State) (q : Req) (x : Session), (s.hears q x)) :=
  ⟨⟨W.s.modPort .b fun l => { l with up := true }, .b, by decide⟩,
    ⟨.a, by decide⟩,
    ⟨W.s, by decide⟩,
    ⟨(W.s.modPort .a fun l => { l with up := true }).modTrust fun u => { u with nv := { u.nv with owner := .owned } }, { port := .a, tls13 := true, suiteOk := true, groupOk := true, sigAlgOk := true, ou := some .operate }, .operate, by decide, by decide, by decide, by decide, by decide, by decide, by decide, by decide, by decide, by decide, rfl⟩,
    ⟨W.s, 0, by decide⟩,
    ⟨W.s, W.x, 0, rfl⟩,
    ⟨W.s.modClk fun c => { c with upNs := 30000000000 }, W.x, 0, rfl, by decide⟩,
    ⟨W.s, W.q, W.x, 8, by decide⟩,
    ⟨W.s, W.q, W.x, 65545, rfl, by decide⟩,
    ⟨W.s, W.q, W.x, by decide⟩,
    ⟨W.s, W.q, W.x, 2, by decide⟩,
    ⟨W.s, W.q, W.x, by decide⟩⟩

/-- The hypotheses of HostTransfersComplete can be met. -/
theorem witness_HostTransfersComplete :
    (∃ (s : State) (q : Req) (x : Session) (target : Nat) (total : Nat), (s.hears q x) ∧ ((s.roleOf x).mayXfer target = true) ∧ (Xfer.totalOk target total = true) ∧ (s.xfer target = none) ∧ (¬(target = 1 ∧ (s.img.plan = .partly ∨ s.img.plan = .pending))) ∧ (¬(target = 2 ∧ s.trust.nv.lock = true))) ∧
    (∃ (s : State) (q : Req) (x : Session) (target : Nat) (offset : Nat) (data : List Byte) (d : XferDesc), (s.hears q x) ∧ ((s.roleOf x).mayXfer target = true) ∧ (s.xfer target = some d) ∧ (d.ident = x.ident) ∧ (Xfer.blockOk d.total offset data.length = true)) ∧
    (∃ (s : State) (q : Req) (x : Session) (target : Nat) (d : XferDesc), (s.hears q x) ∧ ((s.roleOf x).mayXfer target = true) ∧ (s.xfer target = some d) ∧ (d.ident = x.ident) ∧ (d.bytes.length = d.total) ∧ (Config.sha384 d.bytes = d.digest)) ∧
    (∃ (s : State) (target : Nat) (d : XferDesc) (u : Nat), (s.xfer target = some d) ∧ (d.lostUp = some u) ∧ (s.since u ≥ 600000000000)) ∧
    (∃ (s : State) (q : Req) (x : Session) (i : Nat), (s.serves q x) ∧ (s.roleOf x = .service) ∧ ((s.jrn.idents.any fun h => h.slot == i) = true)) ∧
    (∃ (s : State) (q : Req) (x : Session) (a : Nat), (s.prompt q x) ∧ (Reg.addrCode a = 0)) ∧
    (∃ (s : State) (q : Req) (x : Session) (a : Nat) (count : Nat), (s.prompt q x) ∧ (1 ≤ count) ∧ (count ≤ 256) ∧ (∀ i < count, Reg.addrCode (a + 4 * i) = 0)) ∧
    (∃ (s : State) (q : Req) (x : Session), (s.serves q x)) ∧
    (∃ (s : State) (q : Req) (x : Session) (a : Nat) (v : Word), (s.serves q x) ∧ (s.room) ∧ (Reg.addrCode a = 0) ∧ ((Block.of a).isSome = true) ∧ (Reg.access a = some .clr) ∧ (Reg.cleared a v.toNat ≠ [])) ∧
    (∃ (s : State) (q : Req) (x : Session), (s.prompt q x) ∧ (s.trust.nv.owner ≠ .zeroised)) ∧
    (∃ (s : State) (q : Req) (x : Session) (addr : Nat) (count : Nat), (s.hears q x) ∧ (s.trust.nv.owner ≠ .zeroised) ∧ (∀ i < count, Reg.addrCode (addr + 4 * i) = 0)) :=
  ⟨⟨W.s, W.q, W.x, 1, 256, by decide⟩,
    ⟨W.s.modHost fun h => { h with xfers := [{ target := 3, total := 200 }] }, W.q, W.x, 3, 0, List.replicate 200 0, { target := 3, total := 200 }, by decide, by decide, rfl, by decide, by decide⟩,
    ⟨W.s.modHost fun h => { h with xfers := [{ target := 3, total := 1, digest := Config.sha384 [7], blocks := [(0, [7])] }] }, W.q, W.x, 3, { target := 3, total := 1, digest := Config.sha384 [7], blocks := [(0, [7])] }, ⟨by decide, by decide, rfl, rfl, rfl, rfl⟩⟩,
    ⟨(W.s.modHost fun h => { h with xfers := [{ target := 3, total := 200, lostUp := some 0 }] }).modClk fun c => { c with upNs := 600000000000 }, 3, { target := 3, total := 200, lostUp := some 0 }, 0, rfl, rfl, by decide⟩,
    ⟨W.s.modJrn fun j => { j with idents := [{}] }, W.q, W.x, 0, by decide⟩,
    ⟨W.s, W.q, W.x, 0x18, by decide⟩,
    ⟨W.s, W.q, W.x, 0, 4, by decide⟩,
    ⟨W.s, W.q, W.x, by decide⟩,
    ⟨W.s, W.q, W.x, 0x240118, 1, by decide, by decide, by decide, by decide, rfl, by decide⟩,
    ⟨W.s, W.q, W.x, by decide⟩,
    ⟨W.s, W.q, W.x, 0, 4, by decide⟩⟩

/-- The hypotheses of TimeCommandsComplete can be met. -/
theorem witness_TimeCommandsComplete :
    (∃ (s : State) (q : Req) (x : Session), (s.serves q x) ∧ ((s.ptp.servo && s.ptp.locked) = false) ∧ (s.leads = true) ∧ (s.clk.tscValid = false) ∧ (s.clk.setReq = none)) ∧
    (∃ (s : State) (q : Req) (x : Session) (tai : Nat), (s.serves q x) ∧ ((s.ptp.servo && s.ptp.locked) = false) ∧ (s.leads = true) ∧ (s.clk.tscValid = true) ∧ (s.tooLarge ((tai : Int) - s.now) = false)) ∧
    (∃ (s : State) (r : TimeReport), (s.clk.setReq = some r) ∧ (s.clk.tscValid = false)) ∧
    (∃ (s : State) (q : Req) (x : Session), (s.serves q x) ∧ (s.ptp.masterPending = true) ∧ (s.tooLarge (-(s.ptp.pendOfs / 4)) = false)) ∧
    (∃ (s : State) (q : Req) (x : Session), (s.serves q x)) ∧
    (∃ (s : State) (q : Req) (x : Session) (v : Word), (s.serves q x) ∧ (s.ptp.servo = false) ∧ (19 * 2 ^ 32 ≤ (s.ptp.incrHiHeld.toNat * 2 ^ 32 + v.toNat) * 10) ∧ ((s.ptp.incrHiHeld.toNat * 2 ^ 32 + v.toNat) * 10 ≤ 21 * 2 ^ 32)) ∧
    (∃ (s : State) (q : Req) (x : Session) (v : Word), (s.serves q x) ∧ (s.ptp.servo = false) ∧ (s.clk.tscValid = true) ∧ (s.tooLarge (signed 32 v.toNat) = false)) ∧
    (∃ (s : State) (m : PtpMsg), (s.ptpMine m.transportOk m.domain = true) ∧ (m.port = s.ptp.slavePort) ∧ (m.source = s.ptp.gmId) ∧ (s.ptp.gmId ≠ 0) ∧ (m.twoStep = true)) ∧
    (∃ (s : State) (m : PtpMsg), (s.ptpMine m.transportOk m.domain = true) ∧ (m.port = s.ptp.slavePort) ∧ (m.source = s.ptp.gmId) ∧ (s.ptp.gmId ≠ 0) ∧ (m.twoStep = false)) ∧
    (∃ (s : State) (m : PtpMsg) (t2 : Int), (s.ptpMine m.transportOk m.domain = true) ∧ (m.source = s.ptp.gmId) ∧ (s.ptp.twoStep = some t2)) ∧
    (∃ (s : State) (m : PtpMsg) (t3 : Int), (s.ptpMine m.transportOk m.domain = true) ∧ (s.ptp.delayTx = some t3) ∧ (s.img.cfg.io.ptpProfile = .power)) ∧
    (∃ (s : State) (m : PtpMsg) (t1 : Int) (t2 : Int) (t3 : Int), (s.ptpMine m.transportOk m.domain = true) ∧ (s.ptp.delayTx = some t3) ∧ (s.img.cfg.io.ptpProfile ≠ .power) ∧ (s.ptp.lastSync = some (t1, t2))) ∧
    (∃ (s : State) (m : PtpMsg), (s.ptpMine m.transportOk m.domain = true) ∧ (s.img.cfg.io.ptpProfile = .power)) ∧
    (∃ (s : State) (m : PtpAnn) (b : PtpAnn), (s.ptpMine m.transportOk m.domain = true) ∧ ((if m.port = HostPort.b then ({ s.ptp with annB := some m } : Ptp) else ({ s.ptp with annA := some m } : Ptp)).best = some b) ∧ (b.gm ≠ s.ptp.gmId) ∧ (b.cls ≤ s.img.cfg.io.ptpClassMax.toNat)) ∧
    (∃ (s : State), (s.room)) :=
  ⟨⟨W.s, W.q, W.x, by decide⟩,
    ⟨W.s.modClk fun c => { c with tscValid := true }, W.q, W.x, 7, by decide⟩,
    ⟨W.s.modClk fun c => { c with setReq := some { value := 5 } }, { value := 5 }, rfl, by decide⟩,
    ⟨W.s.modPtp fun p => { p with masterPending := true, pendOfs := 4000004 }, W.q, W.x, by decide⟩,
    ⟨W.s, W.q, W.x, by decide⟩,
    ⟨W.s.modPtp fun p => { p with incrHiHeld := 2, servo := false }, W.q, W.x, 5, by decide⟩,
    ⟨(W.s.modPtp fun p => { p with servo := false }).modClk fun c => { c with tscValid := true }, W.q, W.x, 5, by decide⟩,
    ⟨W.s.modPtp fun p => { p with gmId := 1 }, { transportOk := true, domain := W.s.img.cfg.io.ptpDomain, source := 1, twoStep := true, port := .a }, by decide⟩,
    ⟨W.s.modPtp fun p => { p with gmId := 1 }, { transportOk := true, domain := W.s.img.cfg.io.ptpDomain, source := 1, twoStep := false, port := .a }, by decide⟩,
    ⟨W.s.modPtp fun p => { p with gmId := 1, twoStep := some 4 }, { transportOk := true, domain := W.s.img.cfg.io.ptpDomain, source := 1 }, 4, by decide, by decide, rfl⟩,
    ⟨(W.s.modPtp fun p => { p with delayTx := some 4 }).modImg fun i => { i with cfg := { i.cfg with io := { i.cfg.io with ptpProfile := .power } } }, { transportOk := true, domain := W.s.img.cfg.io.ptpDomain }, 4, by decide, rfl, by decide⟩,
    ⟨W.s.modPtp fun p => { p with delayTx := some 4, lastSync := some (1, 2) }, { transportOk := true, domain := W.s.img.cfg.io.ptpDomain }, 1, 2, 4, by decide, rfl, by decide, rfl⟩,
    ⟨W.s.modImg fun i => { i with cfg := { i.cfg with io := { i.cfg.io with ptpProfile := .power } } }, { transportOk := true, domain := W.s.img.cfg.io.ptpDomain }, by decide⟩,
    ⟨W.s, { transportOk := true, domain := W.s.img.cfg.io.ptpDomain, gm := 4, cls := 6 }, { transportOk := true, domain := W.s.img.cfg.io.ptpDomain, gm := 4, cls := 6 }, by decide, rfl, by decide, by decide⟩,
    ⟨W.s, by decide⟩⟩

/-- The hypotheses of AcceptedWorkComplete can be met. -/
theorem witness_AcceptedWorkComplete :
    (∃ (s : State) (q : Req) (x : Session) (wtag : BitVec 64) (a : Nat) (v : Word), (s.serves q x) ∧ (s.journalEarly x a 1 = 0) ∧ ((s.lastTag x).map (·.1) ≠ some wtag) ∧ (s.tagOld x wtag = false) ∧ (s.journalFull a = false) ∧ ((Reg.write a v x (s.enter q 2)).1 = 0)) ∧
    (∃ (s : State) (w : DispWait), (s.bank.wait = [w]) ∧ (w.alone = true) ∧ (s.dispRepeat w.ident w.body = none) ∧ (s.dispOld w.ident w.body = false)) ∧
    (∃ (s : State) (x : Session) (jseq : Nat) (w : JWait), (s.jWaiting jseq = some w) ∧ (w.alone = true) ∧ (w.entry.addr = 0x18) ∧ (x = (s.session w.session).getD { id := w.session, port := if w.session = 8 then .console else .a, ident := w.ident }) ∧ (s.jseqGiven x w.wtag = none) ∧ (s.tagOld x w.wtag = false)) ∧
    (∃ (s : State) (x : Session) (f : TwinFrame) (jseq : Nat) (w : JWait), (s.frameOk f = true) ∧ (s.twin.taken f.seq = false) ∧ (s.jWaiting jseq = some w) ∧ (w.alone = false) ∧ (w.entry.addr = 0x18) ∧ (x = (s.session w.session).getD { id := w.session, port := if w.session = 8 then .console else .a, ident := w.ident }) ∧ (s.jseqGiven x w.wtag = none) ∧ (s.tagOld x w.wtag = false)) ∧
    (∃ (s : State) (f : TwinFrame), (s.frameOk f = true) ∧ (s.twin.taken f.seq = false)) ∧
    (∃ (s : State) (f : TwinFrame), (s.frameOk f = true) ∧ (s.twin.taken f.seq = false)) ∧
    (∃ (s : State) (f : TwinFrame) (rseq : Nat) (r : Nat), (s.frameOk f = true) ∧ (s.twin.taken f.seq = false) ∧ (s.ffr.archPend.map (·.1) = some r) ∧ (r ≤ rseq)) ∧
    (∃ (s : State) (e : JEntry), (s.host.reapplyDue = true) ∧ (s.img.cur.valid = true) ∧ (s.jrn.writes = [e]) ∧ (e.addr = 0x18)) ∧
    (∃ (s : State), (s.host.reapplyDue = false ∨ s.img.cur.valid = false)) :=
  ⟨⟨W.s, W.q, W.x, 1, 0x18, 5, by decide⟩,
    ⟨W.s.modBank fun b => { b with wait := [{ seq := 4, alone := true }] }, { seq := 4, alone := true }, by decide⟩,
    ⟨W.s.modHost fun h => { h with jwait := [{ entry := { addr := 0x18, value := 9, jseq := 1 }, alone := true }] }, W.x, 1, { entry := { addr := 0x18, value := 9, jseq := 1 }, alone := true }, rfl, by decide, by decide, by decide, by decide, by decide⟩,
    ⟨(W.s.modTwin fun w => { w with peerKey := some 1 }).modHost fun h => { h with jwait := [{ entry := { addr := 0x18, value := 9, jseq := 1 } }] }, W.x, { seq := 4 }, 1, { entry := { addr := 0x18, value := 9, jseq := 1 } }, by decide, by decide, rfl, by decide, by decide, by decide, by decide, by decide⟩,
    ⟨(W.s.modTwin fun w => { w with peerKey := some 1 }), { seq := 4 }, by decide⟩,
    ⟨(W.s.modTwin fun w => { w with peerKey := some 1 }), { seq := 4 }, by decide⟩,
    ⟨(W.s.modTwin fun w => { w with peerKey := some 1 }).modFfr fun f => { f with archPend := some (3, default) }, { seq := 4 }, 4, 3, by decide, by decide, rfl, by decide⟩,
    ⟨((W.s.modHost fun h => { h with reapplyDue := true }).modImg fun i => { i with cur := { i.cur with valid := true } }).modJrn fun j => { j with writes := [{ addr := 0x18, value := 9, jseq := 3 }] }, { addr := 0x18, value := 9, jseq := 3 }, by decide⟩,
    ⟨W.s, by decide⟩⟩

/-- The hypotheses of CanCommandsComplete can be met. -/
theorem witness_CanCommandsComplete :
    (∃ (s : State) (p : Fin 4) (f : CanFrame) (y : CanFilter), ((s.canCfg p).assigned = true) ∧ (f.remote = false) ∧ ((s.canCfg p).filters.find? (CanFilter.hits f) = some y) ∧ (y.act = .q0) ∧ (s.can[p].q0.length < 32)) ∧
    (∃ (s : State) (p : Fin 4) (f : CanFrame), (s.room) ∧ ((s.canCfg p).assigned = true) ∧ (f.remote = false) ∧ ((s.canCfg p).filters.find? (CanFilter.hits f) = none) ∧ ((s.canCfg p).stations = [])) ∧
    (∃ (s : State) (p : Fin 4) (f : CanFrame), (s.room) ∧ ((s.canCfg p).assigned = true) ∧ (f.remote = true)) ∧
    (∃ (s : State) (p : Fin 4) (i : Nat) (m : CanMsg), ((s.canCfg p).map[i]? = some m) ∧ ((s.canCfg p).assigned = true) ∧ (s.leads = true) ∧ (s.can[p].txq.length < 32)) ∧
    (∃ (s : State) (p : Fin 4) (i : Nat) (m : CanMsg), (s.room) ∧ ((s.canCfg p).map[i]? = some m) ∧ ((s.canCfg p).assigned = true) ∧ (s.leads = true) ∧ (32 ≤ s.can[p].txq.length)) ∧
    (∃ (s : State) (p : Fin 4) (b : Fin 3) (f : CanFrame), (s.can[p].bufs[b].frame = some f) ∧ (s.canMonitor p = false) ∧ (s.can[p].err = .active) ∧ ((s.canCfg p).idOrder = true) ∧ (f.isRef = false)) ∧
    (∃ (s : State) (p : Fin 4) (tec : Nat) (recv : Nat), (s.canMonitor p = false) ∧ ((s.canCfg p).assigned = true) ∧ (s.can[p].err = .active) ∧ (tec ≤ 127) ∧ (recv ≤ 127)) ∧
    (∃ (s : State) (p : Fin 4) (tec : Nat), (s.room) ∧ (s.canMonitor p = false) ∧ ((s.canCfg p).assigned = true) ∧ (s.can[p].err = .passive) ∧ (255 < tec)) ∧
    (∃ (s : State) (q : Req) (x : Session) (p : Fin 4), (s.serves q x) ∧ (s.leads = true) ∧ (s.can[p].err = .busOff)) ∧
    (∃ (s : State) (q : Req) (x : Session) (p : Fin 4) (b : BitVec 2) (i : Fin 3), (s.serves q x) ∧ (s.room) ∧ (s.leads = true) ∧ (s.abortable p b = some i) ∧ (s.can[p].bufs[i].inTx = false)) ∧
    (∃ (s : State) (q : Req) (x : Session) (p : Fin 4) (b : BitVec 2) (i : Fin 3), (s.serves q x) ∧ (s.leads = true) ∧ (s.abortable p b = some i) ∧ (s.can[p].bufs[i].inTx = true)) ∧
    (∃ (s : State) (p : Fin 4), (s.can[p].autoWait = true) ∧ (s.can[p].err = .busOff) ∧ (s.busOffAuto p = true)) ∧
    (∃ (s : State) (p : Fin 4), (s.room) ∧ (s.can[p].err = .recovering)) ∧
    (∃ (s : State) (p : Fin 4) (i : Fin 32), (s.room) ∧ (((s.canCfg p).stations.any fun z => z.index == i.val) = true) ∧ (bit s.can[p].stations.toNat i = true)) ∧
    (∃ (s : State) (p : Fin 4) (id : Bool × BitVec 29), ((s.canCfg p).refId = some id) ∧ ((s.canCfg p).assigned = true) ∧ (s.canMonitor p = false) ∧ (s.can[p].bufs[(0 : Fin 3)].frame = none)) ∧
    (∃ (s : State) (p : Fin 4) (id : Bool × BitVec 29), (s.room) ∧ ((s.canCfg p).refId = some id) ∧ ((s.canCfg p).assigned = true) ∧ (s.canMonitor p = false) ∧ (s.can[p].bufs[(0 : Fin 3)].frame.isSome = true)) :=
  ⟨⟨W.can (fun c => { c with assigned := true, filters := [{ on := true, act := .q0 }] }) W.s, 1, {}, { on := true, act := .q0 }, by decide, by decide, rfl, by decide, by decide⟩,
    ⟨W.can (fun c => { c with assigned := true }) W.s, 1, {}, by decide, by decide, by decide, by decide, by decide⟩,
    ⟨W.can (fun c => { c with assigned := true }) W.s, 1, { remote := true }, by decide⟩,
    ⟨W.can (fun c => { c with assigned := true, map := [{}] }) W.s, 1, 0, {}, rfl, by decide, by decide, by decide⟩,
    ⟨(W.can (fun c => { c with assigned := true, map := [{}] }) W.s).modCan 1 fun c => { c with txq := List.replicate 32 {} }, 1, 0, {}, by decide, rfl, by decide, by decide, by decide⟩,
    ⟨(W.can (fun c => { c with idOrder := true }) W.s).modCan 1 fun c => { c with bufs := c.bufs.set 2 { frame := some {} } }, 1, 2, {}, rfl, by decide, by decide, by decide, by decide⟩,
    ⟨W.can (fun c => { c with assigned := true }) W.s, 1, 8, 3, by decide⟩,
    ⟨(W.can (fun c => { c with assigned := true }) W.s).modCan 1 fun c => { c with err := .passive }, 1, 256, by decide⟩,
    ⟨W.s.modCan 1 fun c => { c with err := .busOff }, W.q, W.x, 1, by decide⟩,
    ⟨W.s.modCan 1 fun c => { c with bufs := c.bufs.set 2 { frame := some {} } }, W.q, W.x, 1, 2, 2, by decide, by decide, by decide, by decide, by decide⟩,
    ⟨W.s.modCan 1 fun c => { c with bufs := c.bufs.set 2 { frame := some {}, inTx := true } }, W.q, W.x, 1, 2, 2, by decide, by decide, by decide, by decide⟩,
    ⟨(W.s.modImg fun i => { i with cfg := { i.cfg with policy := { i.cfg.policy with busOff := Vec.upd i.cfg.policy.busOff 1 fun c => { c with auto := true, maxHour := 4 } } } }).modCan 1 fun c => { c with autoWait := true, err := .busOff }, 1, by decide⟩,
    ⟨W.s.modCan 1 fun c => { c with err := .recovering }, 1, by decide⟩,
    ⟨(W.can (fun c => { c with stations := [{ index := 3 }] }) W.s).modCan 1 fun c => { c with stations := 8 }, 1, 3, by decide⟩,
    ⟨W.can (fun c => { c with assigned := true, refId := some (false, 5) }) W.s, 1, (false, 5), rfl, by decide, by decide, by decide⟩,
    ⟨(W.can (fun c => { c with assigned := true, refId := some (false, 5) }) W.s).modCan 1 fun c => { c with bufs := c.bufs.set 0 { frame := some {} } }, 1, (false, 5), by decide, rfl, by decide, by decide, by decide⟩⟩

/-- The hypotheses of HousekeepingComplete can be met. -/
theorem witness_HousekeepingComplete :
    (∃ (s : State) (i : Fin 32), ((s.hkCfg i).isSome = true) ∧ (s.drivesHk = true) ∧ (s.hk.stuck = false) ∧ (s.hk.xact = .none) ∧ (s.hk.due = []) ∧ (s.hk.alert = false)) ∧
    (∃ (s : State) (i : Fin 32), (s.hk.xact = .poll i)) ∧
    (∃ (s : State) (i : Fin 32), (s.room) ∧ (s.hk.xact = .poll i)) ∧
    (∃ (s : State) (i : Fin 32), (s.room) ∧ (s.hk.xact = .poll i)) ∧
    (∃ (s : State) (i : Fin 32), (s.room) ∧ (s.hk.xact = .poll i)) ∧
    (∃ (s : State), (s.hkOn = true) ∧ (s.drivesHk = true) ∧ (s.hk.stuck = false) ∧ (s.hk.xact = .none) ∧ (s.hk.alertHold = false)) ∧
    (∃ (s : State) (addr : BitVec 7) (c : HkCfgT), (s.hk.xact = .alert) ∧ (s.io_.hk.find? (fun c => c.addr == addr.toNat) = some c)) ∧
    (∃ (s : State) (addr : BitVec 7), (s.room) ∧ (s.hk.xact = .alert) ∧ (s.io_.hk.find? (fun c => c.addr == addr.toNat) = none)) ∧
    (∃ (s : State), (s.hk.alertHold = true)) ∧
    (∃ (s : State), (s.room) ∧ (s.hk.xact ≠ .none) ∧ (s.hk.due = []) ∧ (s.hk.alert = false ∨ s.hk.xact = .alert)) ∧
    (∃ (s : State) (i : Fin 32), (s.room) ∧ (s.drivesHk = true) ∧ (s.hk.xact = .poll i)) ∧
    (∃ (s : State), (s.room) ∧ (s.hkOn = true)) ∧
    (∃ (s : State) (q : Req) (x : Session), (s.serves q x) ∧ (s.leads = true)) ∧
    (∃ (s : State), (s.drivesHk = true) ∧ (s.hkOn = true)) ∧
    (∃ (s : State), (s.drivesHk = true) ∧ (s.hkOn = true)) :=
  ⟨⟨W.io (fun o => { o with hk := [{}] }) W.s, 0, by decide⟩,
    ⟨W.s.modHk fun h => { h with xact := .poll 3 }, 3, by decide⟩,
    ⟨W.s.modHk fun h => { h with xact := .poll 3 }, 3, by decide⟩,
    ⟨W.s.modHk fun h => { h with xact := .poll 3 }, 3, by decide⟩,
    ⟨W.s.modHk fun h => { h with xact := .poll 3 }, 3, by decide⟩,
    ⟨W.io (fun o => { o with hk := [{}] }) W.s, by decide⟩,
    ⟨(W.io (fun o => { o with hk := [{ addr := 5 }] }) W.s).modHk fun h => { h with xact := .alert }, 5, { addr := 5 }, by decide, rfl⟩,
    ⟨W.s.modHk fun h => { h with xact := .alert }, 5, by decide, rfl, rfl⟩,
    ⟨W.s.modHk fun h => { h with alertHold := true }, by decide⟩,
    ⟨W.s.modHk fun h => { h with xact := .alert }, by decide⟩,
    ⟨W.s.modHk fun h => { h with xact := .poll 3 }, 3, by decide⟩,
    ⟨W.io (fun o => { o with hk := [{}] }) W.s, by decide⟩,
    ⟨W.s, W.q, W.x, by decide⟩,
    ⟨W.io (fun o => { o with hk := [{}] }) W.s, by decide⟩,
    ⟨W.io (fun o => { o with hk := [{}] }) W.s, by decide⟩⟩

/-- The hypotheses of CountersAndFlowComplete can be met. -/
theorem witness_CountersAndFlowComplete :
    (∃ (s : State) (n : Fin 8) (a : Bool) (b : Bool) (d : Int), (s.pwr.quiesced = false) ∧ (s.img.cfg.io.qin[n].assigned = true) ∧ (s.io.qin[n].seen = true) ∧ (s.img.cfg.io.qin[n].mode.step s.io.qin[n].a s.io.qin[n].b a b = some d)) ∧
    (∃ (s : State) (n : Fin 8) (a : Bool) (b : Bool), (s.pwr.quiesced = false) ∧ (s.room) ∧ (s.img.cfg.io.qin[n].assigned = true) ∧ (s.io.qin[n].seen = true) ∧ (s.img.cfg.io.qin[n].mode.step s.io.qin[n].a s.io.qin[n].b a b = none)) ∧
    (∃ (s : State) (n : Fin 8), (s.room) ∧ (s.io.qin[n].suspect = true)) ∧
    (∃ (s : State) (q : Req) (x : Session), (s.serves q x) ∧ (s.leads = true)) ∧
    (∃ (s : State) (q : Req) (x : Session), (s.serves q x) ∧ (s.leads = true)) ∧
    (∃ (s : State) (n : Fin 8) (dn : BurstResult) (up : BurstResult) (d1 : Nat) (d2 : Nat) (a : Nat) (b : Nat), (s.pwr.quiesced = false) ∧ (s.img.cfg.io.usf[n].assigned = true) ∧ (s.clk.cycleNo % 10 = n.val) ∧ (s.leads = true) ∧ (dn.tof s.img.cfg.io.usf[n] = some a) ∧ (up.tof s.img.cfg.io.usf[n] = some b) ∧ (0 < a) ∧ (0 < b) ∧ (20 ≤ d1) ∧ (d1 ≤ 300) ∧ (20 ≤ d2) ∧ (d2 ≤ 300)) ∧
    (∃ (s : State) (n : Fin 8) (dn : BurstResult) (up : BurstResult), (s.pwr.quiesced = false) ∧ (s.room) ∧ (s.img.cfg.io.usf[n].assigned = true) ∧ (s.clk.cycleNo % 10 = n.val) ∧ (dn.tof s.img.cfg.io.usf[n] = none) ∧ (up.tof s.img.cfg.io.usf[n] = none)) ∧
    (∃ (s : State) (n : Fin 8), (s.room) ∧ (s.io.usf[n].valid = true)) ∧
    (∃ (s : State) (q : Req) (x : Session) (n : Fin 8), (s.serves q x) ∧ (s.leads = true) ∧ (s.img.cfg.io.usf[n].assigned = true) ∧ (s.str[n].state = .off ∨ s.str[n].state = .shed ∨ s.str[n].state = .service)) ∧
    (∃ (s : State), (s.pwr.quiesced = false)) ∧
    (∃ (s : State), (s.pwr.quiesced = true)) ∧
    (∃ (s : State) (i : Fin 8) (rb : Bool), (s.room) ∧ (bit s.io.dout.toNat i ≠ rb) ∧ (s.io.doHighZ = false) ∧ (bit s.io.doFault.toNat i = false)) :=
  ⟨⟨(W.io (fun o => { o with qin := Vec.upd o.qin 2 fun _ => { assigned := true, mode := .x4 } }) W.s).modQin 2 fun q => { q with seen := true, a := false, b := false }, 2, true, false, 1, by decide, rfl, rfl, rfl⟩,
    ⟨(W.io (fun o => { o with qin := Vec.upd o.qin 2 fun _ => { assigned := true, mode := .x4 } }) W.s).modQin 2 fun q => { q with seen := true, a := false, b := false }, 2, true, true, rfl, by decide, rfl, rfl, rfl⟩,
    ⟨W.s.modQin 2 fun q => { q with suspect := true }, 2, by decide⟩,
    ⟨W.s, W.q, W.x, by decide⟩,
    ⟨W.s, W.q, W.x, by decide⟩,
    ⟨(W.io (fun o => { o with usf := Vec.upd o.usf 2 fun c => { c with assigned := true } }) W.s).modClk fun c => { c with cycleNo := 12 }, 2, .pass 100 50 90, .pass 110 50 90, 100, 100, 100, 110, by decide, by decide, by decide, by decide, rfl, rfl, by decide, by decide, by decide, by decide, by decide, by decide⟩,
    ⟨(W.io (fun o => { o with usf := Vec.upd o.usf 2 fun c => { c with assigned := true } }) W.s).modClk fun c => { c with cycleNo := 12 }, 2, .fail 1 1, .fail 1 1, by decide, by decide, by decide, by decide, rfl, rfl⟩,
    ⟨W.s.modUsf 2 fun u => { u with valid := true }, 2, by decide⟩,
    ⟨(W.io (fun o => { o with usf := Vec.upd o.usf 2 fun c => { c with assigned := true } }) W.s).modStr 2 fun e => { e with state := .shed }, W.q, W.x, 2, by decide⟩,
    ⟨W.s, by decide⟩,
    ⟨W.s.modPwr fun p => { p with quiesced := true }, by decide⟩,
    ⟨W.s.modIo fun o => { o with doHighZ := false, doFault := 0, dout := 8 }, 3, false, by decide⟩⟩

/-- The hypotheses of PlantLogicAndLoopsComplete can be met. -/
theorem witness_PlantLogicAndLoopsComplete :
    (∃ (s : State) (q : Req) (x : Session), (s.serves q x) ∧ (s.room) ∧ (s.leads = true) ∧ (s.scan.eff = .stop) ∧ (s.hasProgram = true)) ∧
    (∃ (s : State) (q : Req) (x : Session), (s.serves q x) ∧ (s.room) ∧ (s.leads = true) ∧ (s.scan.eff ≠ .stop)) ∧
    (∃ (s : State) (q : Req) (x : Session), (s.serves q x) ∧ (s.room) ∧ (s.leads = true) ∧ (s.roleOf x = .service) ∧ (s.scan.eff = .run)) ∧
    (∃ (s : State) (q : Req) (x : Session), (s.serves q x) ∧ (s.leads = true) ∧ (s.roleOf x = .service) ∧ (s.scan.eff = .hold)) ∧
    (∃ (s : State) (q : Req) (x : Session), (s.serves q x) ∧ (s.room) ∧ (s.leads = true) ∧ (s.scan.eff = .hold)) ∧
    (∃ (s : State), (s.room) ∧ (s.scan.eff = .hold) ∧ (s.img.cfg.policy.holdMaxMin ≠ 0)) ∧
    (∃ (s : State), (s.scanDue = true) ∧ (s.scan.running = false)) ∧
    (∃ (s : State), (s.room) ∧ (s.scanDue = true) ∧ (s.scan.running = true)) ∧
    (∃ (s : State), (s.scan.running = true)) ∧
    (∃ (s : State), (s.room) ∧ (s.scan.running = true)) ∧
    (∃ (s : State) (i : Fin 16), (s.pwr.quiesced = false) ∧ (s.img.cfg.io.ai[i].assigned = true)) ∧
    (∃ (s : State) (i : Fin 16), (s.room) ∧ (s.io.ai[i].pendSince.isSome = true) ∧ (s.io.ai[i].invalid = false)) ∧
    (∃ (s : State) (i : Fin 16), (s.room) ∧ (s.io.ai[i].pendSince.isSome = true) ∧ (s.io.ai[i].invalid = true)) ∧
    (∃ (s : State) (i : Fin 8) (rb : BitVec 16), (s.room) ∧ (s.io.ao[i].differs rb.toNat = true) ∧ (s.io.ao[i].fault = false) ∧ (s.io.ao[i].highZ = false)) ∧
    (∃ (s : State), (s.room)) :=
  ⟨⟨W.s.modImg fun i => { i with cur := { i.cur with valid := true }, cfg := { i.cfg with plant := { i.cfg.plant with present := true } } }, W.q, W.x, by decide⟩,
    ⟨W.s.modScan fun c => { c with state := .run }, W.q, W.x, by decide⟩,
    ⟨W.s.modScan fun c => { c with state := .run }, W.q, W.x, by decide⟩,
    ⟨W.s.modScan fun c => { c with state := .hold }, W.q, W.x, by decide⟩,
    ⟨W.s.modScan fun c => { c with state := .hold }, W.q, W.x, by decide⟩,
    ⟨(W.s.modScan fun c => { c with state := .hold }).modImg fun i => { i with cfg := { i.cfg with policy := { i.cfg.policy with holdMaxMin := 5 } } }, by decide⟩,
    ⟨W.s.modScan fun c => { c with state := .run }, by decide⟩,
    ⟨W.s.modScan fun c => { c with state := .run, running := true }, by decide⟩,
    ⟨W.s.modScan fun c => { c with running := true }, by decide⟩,
    ⟨W.s.modScan fun c => { c with running := true }, by decide⟩,
    ⟨W.io (fun o => { o with ai := Vec.upd o.ai 3 fun c => { c with assigned := true } }) W.s, 3, by decide⟩,
    ⟨W.s.modAi 3 fun a => { a with pendSince := some 0, invalid := false }, 3, by decide⟩,
    ⟨W.s.modAi 3 fun a => { a with pendSince := some 0, invalid := true }, 3, by decide⟩,
    ⟨W.s.modAo 3 fun o => { o with fault := false, highZ := false }, 3, 1000, by decide⟩,
    ⟨W.s, by decide⟩⟩

/-- The hypotheses of SupplyAndHoldupComplete can be met. -/
theorem witness_SupplyAndHoldupComplete :
    (∃ (s : State), (s.pwr.dip = false)) ∧
    (∃ (s : State), (s.pwr.dip = true) ∧ (s.pwr.fail = false)) ∧
    (∃ (s : State), (s.ffr.queue.length + 64 ≤ 512) ∧ (s.pwr.dip = true) ∧ (s.pwr.fail = false) ∧ (∀ n : Fin 8, s.sweep[n].running = none)) ∧
    (∃ (s : State), (s.pwr.fail = true) ∧ (s.pwr.quiesced = false)) ∧
    (∃ (s : State), (s.room) ∧ (s.pwr.dip = true) ∧ (s.pwr.fail = false)) ∧
    (∃ (s : State), (s.pwr.dip = true) ∧ (s.pwr.fail = true)) ∧
    (∃ (s : State), (s.room)) ∧
    (∃ (s : State) (q : Req) (x : Session), (s.serves q x) ∧ (s.pwr.test = false)) ∧
    (∃ (s : State), (s.pwr.test = false)) ∧
    (∃ (s : State), (s.room) ∧ (s.pwr.test = true)) ∧
    (∃ (s : State), (s.pwr.test = false) ∧ (s.pwr.dip = false)) ∧
    (∃ (s : State), (s.pwr.shelf = true)) ∧
    (∃ (s : State), (s.pwr.shelf = true)) :=
  ⟨⟨W.s, by decide⟩,
    ⟨W.s.modPwr fun p => { p with dip := true }, by decide⟩,
    ⟨W.s.modPwr fun p => { p with dip := true }, by decide⟩,
    ⟨W.s.modPwr fun p => { p with fail := true }, by decide⟩,
    ⟨W.s.modPwr fun p => { p with dip := true }, by decide⟩,
    ⟨W.s.modPwr fun p => { p with dip := true, fail := true }, by decide⟩,
    ⟨W.s, by decide⟩,
    ⟨W.s, W.q, W.x, by decide⟩,
    ⟨W.s, by decide⟩,
    ⟨W.s.modPwr fun p => { p with test := true }, by decide⟩,
    ⟨W.s, by decide⟩,
    ⟨W.s.modPwr fun p => { p with shelf := true }, by decide⟩,
    ⟨W.s.modPwr fun p => { p with shelf := true }, by decide⟩⟩

/-- The hypotheses of ClockAndThermalComplete can be met. -/
theorem witness_ClockAndThermalComplete :
    (∃ (s : State), (s.room)) ∧
    (∃ (s : State), (s.room)) ∧
    (∃ (s : State) (b : Band) (v : Int), (s.thm.riseSince.isSome = true) ∧ (s.thm.goal.up = some (b, v)) ∧ (s.thm.pend = none)) ∧
    (∃ (s : State), (s.room) ∧ (s.thm.shutPend = false)) ∧
    (∃ (s : State), (s.saf.sf21 = false) ∧ (s.pwr.fail = false)) ∧
    (∃ (s : State), (s.ffr.queue.length + 64 ≤ 512) ∧ (s.saf.sf21 = false) ∧ (s.pwr.fail = false) ∧ (∀ n : Fin 8, s.sweep[n].running = none)) :=
  ⟨⟨W.s, by decide⟩,
    ⟨W.s, by decide⟩,
    ⟨W.s.modThm fun t => { t with riseSince := some 0, band := .normal, pend := none, next := none }, .warm, 8500, rfl, rfl, rfl⟩,
    ⟨W.s, by decide⟩,
    ⟨W.s, by decide⟩,
    ⟨W.s, by decide⟩⟩

/-- The hypotheses of StartCommandsComplete can be met. -/
theorem witness_StartCommandsComplete :
    (∃ (s : State) (r : ResetIn), (s.pwr.shutLatch = false) ∧ (r.selfOk = true) ∧ (s.bankOk s.upd.nextBank r.markedOk = true)) ∧
    (∃ (s : State) (r : ResetIn), (s.pwr.shutLatch = false) ∧ (r.selfOk = true) ∧ (s.bankOk s.upd.nextBank r.markedOk = false) ∧ (s.bankOk (!s.upd.nextBank) r.otherOk = true)) ∧
    (∃ (s : State) (r : ResetIn), (s.pwr.shutLatch = false) ∧ (s.startBank r = none)) ∧
    (∃ (s : State) (n : Fin 8), (s.clk.tscValid = true) ∧ (n ∈ s.declared) ∧ (bit s.img.cfg.policy.enumAtStart.toNat n = true) ∧ (bit s.upd.enumDone.toNat n = false) ∧ (s.ringLease n = true) ∧ (s.enumCode n = 0)) ∧
    (∃ (s : State), (s.img.cfg.policy.standbyAtStart = true) ∧ (s.upd.standbyDone = false) ∧ (s.bank.state = .off) ∧ (s.standbyConds.all id = true)) ∧
    (∃ (s : State), (s.room) ∧ (s.pwr.shelf = false) ∧ (s.hw.doorOpen = false)) ∧
    (∃ (s : State), (s.room) ∧ (s.pwr.shelf = false) ∧ (s.hw.doorOpen = true)) ∧
    (∃ (s : State), (s.hw.console = false) ∧ (s.pwr.quiesced = false)) ∧
    (∃ (s : State), (s.hw.console = false) ∧ (s.pwr.quiesced = true)) ∧
    (∃ (s : State), (s.pwr.shelf = false)) ∧
    (∃ (s : State), (s.room) ∧ (s.upd.sdLoad.isSome = true)) :=
  ⟨⟨W.s, {}, by decide⟩,
    ⟨W.s.modUpd fun u => { u with bank0 := { u.bank0 with valid := true }, bank1 := { u.bank1 with valid := true } }, { markedOk := false }, by decide⟩,
    ⟨W.s, { markedOk := false, otherOk := false }, by decide⟩,
    ⟨((W.topo 2 (fun c => { c with declared := true }) W.s).modImg fun i => { i with cfg := { i.cfg with policy := { i.cfg.policy with enumAtStart := 4 } } }).modClk fun c => { c with tscValid := true }, 2, by decide⟩,
    ⟨(((W.ready 2).modBank fun b => { b with state := .off }).modImg fun i => { i with cur := { i.cur with valid := true }, cfg := { i.cfg with policy := { i.cfg.policy with standbyAtStart := true } } }).modClk fun c => { c with tscValid := true }, by decide⟩,
    ⟨W.s, by decide⟩,
    ⟨W.s.modHw fun h => { h with doorOpen := true }, by decide⟩,
    ⟨W.s, by decide⟩,
    ⟨W.s.modPwr fun p => { p with quiesced := true }, by decide⟩,
    ⟨W.s, by decide⟩,
    ⟨W.s.modUpd fun u => { u with sdLoad := some true }, by decide⟩⟩

/-- The hypotheses of UpdateCommandsComplete can be met. -/
theorem witness_UpdateCommandsComplete :
    (∃ (s : State) (q : Req) (x : Session) (files : List (List Byte)), (s.serves q x) ∧ (s.updConds = 0) ∧ (s.sdCode files = 0)) ∧
    (∃ (s : State) (q : Req) (x : Session) (files : List (List Byte)), (s.serves q x) ∧ (s.updConds = 0) ∧ (s.sdCode files = 0) ∧ (s.planOpen = false)) ∧
    (∃ (s : State) (h : PkgHdr), (s.room) ∧ (s.upd.installing = some h)) ∧
    (∃ (s : State) (q : Req) (x : Session), (s.serves q x) ∧ (s.activateCode x = 0)) ∧
    (∃ (s : State) (c : Nat), (s.upd.armedAt = some c) ∧ (c ≤ s.cycle + 1) ∧ (s.updConds + s.updActive = 0)) ∧
    (∃ (s : State) (c : Nat), (s.room) ∧ (s.upd.armedAt = some c) ∧ (c ≤ s.cycle + 1) ∧ (s.updConds + s.updActive ≠ 0)) ∧
    (∃ (s : State) (q : Req) (x : Session) (gd : Bool) (n : Fin 8) (pos : BitVec 5), (s.serves q x) ∧ (s.partCode gd n pos.toNat x = 0) ∧ (gd = true ∨ (s.ring[n].queue.length < 64 ∧ ∀ k, nodeAt pos.toNat = some k → s.ring[n].nodes[k].isolated = false))) ∧
    (∃ (s : State) (q : Req) (x : Session) (gd : Bool) (n : Fin 8) (pos : BitVec 5), (s.serves q x) ∧ (s.partCode gd n pos.toNat x = 0) ∧ (gd = true ∨ (s.ring[n].queue.length < 64 ∧ ∀ k, nodeAt pos.toNat = some k → s.ring[n].nodes[k].isolated = false))) ∧
    (∃ (s : State) (q : Req) (x : Session), (s.serves q x) ∧ (s.upd.state = .loading ∨ s.upd.state = .partXfer) ∧ (s.updConds = 0)) ∧
    (∃ (s : State) (n : Fin 8) (p : Fin 6) (f : ReplyFrame), (f.crcOk = true) ∧ (f.macOk = true) ∧ (s.str[n].gd[p].session = true) ∧ (f.opcode = 0x40) ∧ (f.status = .ok)) ∧
    (∃ (s : State) (n : Fin 8) (p : Fin 6) (f : ReplyFrame) (y : PartXfer), (f.crcOk = true) ∧ (f.macOk = true) ∧ (s.str[n].gd[p].session = true) ∧ (f.opcode = 0x51) ∧ (f.status = .ok) ∧ (s.upd.xfer = some y) ∧ (y.gd = true) ∧ (y.str = n) ∧ (y.pos = p.val) ∧ (y.activate = true)) ∧
    (∃ (s : State) (n : Fin 8) (p : Fin 6) (y : PartXfer), (s.room) ∧ (s.upd.xfer = some y) ∧ (y.gd = true) ∧ (y.str = n) ∧ (y.pos = p.val)) :=
  ⟨⟨((W.s.modPwr fun p => { p with energy := 100, inV := 2400 }).modUpd fun u => { u with sdCard := true, sdMounts := true }).modSaf fun t => { t with a := { t.a with sw2 := 2 }, b := { t.b with sw2 := 2 } }, W.q, W.x, [[]], by decide⟩,
    ⟨((W.s.modPwr fun p => { p with energy := 100, inV := 2400 }).modUpd fun u => { u with sdCard := true, sdMounts := true }).modSaf fun t => { t with a := { t.a with sw2 := 2 }, b := { t.b with sw2 := 2 } }, W.q, W.x, [[]], by decide⟩,
    ⟨W.s.modUpd fun u => { u with installing := some {} }, {}, by decide, rfl⟩,
    ⟨(W.s.modPwr fun p => { p with energy := 100, inV := 2400 }).modUpd fun u => { u with bank1 := { u.bank1 with valid := true, secVersion := 1000 } }, W.q, W.x, by decide, by decide⟩,
    ⟨(W.s.modPwr fun p => { p with energy := 100, inV := 2400 }).modUpd fun u => { u with armedAt := some 0 }, 0, rfl, by decide, by decide⟩,
    ⟨W.s.modUpd fun u => { u with armedAt := some 0 }, 0, by decide, rfl, by decide, by decide⟩,
    ⟨(((W.s.modPwr fun p => { p with energy := 100, inV := 2400 }).modUpd fun u => { u with partNode := some {} }).modStr 2 fun e => { e with state := .service }).modRing 2 fun r => { r with mode := .closed }, W.q, W.x, false, 2, 3, by decide, by decide, .inr (by decide)⟩,
    ⟨(((W.s.modPwr fun p => { p with energy := 100, inV := 2400 }).modUpd fun u => { u with partGd := some {} }).modStr 2 fun e => { e with state := .service, gd := Vec.upd e.gd 4 fun g => { g with session := true } }), W.q, W.x, true, 2, 4, by decide, by decide, .inl rfl⟩,
    ⟨(W.s.modPwr fun p => { p with energy := 100, inV := 2400 }).modUpd fun u => { u with state := .loading }, W.q, W.x, by decide⟩,
    ⟨W.s.modStr 2 fun e => { e with gd := Vec.upd e.gd 4 fun g => { g with session := true } }, 2, 4, { opcode := 0x40 }, by decide⟩,
    ⟨(W.s.modStr 2 fun e => { e with gd := Vec.upd e.gd 4 fun g => { g with session := true } }).modUpd fun u => { u with xfer := some { gd := true, str := 2, pos := 4, activate := true } }, 2, 4, { opcode := 0x51 }, { gd := true, str := 2, pos := 4, activate := true }, by decide, by decide, by decide, by decide, by decide, rfl, by decide, by decide, by decide, by decide⟩,
    ⟨W.s.modUpd fun u => { u with xfer := some { gd := true, str := 2, pos := 4 } }, 2, 4, { gd := true, str := 2, pos := 4 }, by decide, rfl, by decide, by decide, by decide⟩⟩











end Sys2Proof.Tests
end

section
/-! PROOF. What the operations of the model leave as it was. -/

-- One task at a time: the check limits memory, and each task has a stack of its own.
set_option Elab.async false

namespace Sys2Proof.Machine

/-! ### Agreement on parts -/

theorem Part.same_refl (p : Part) (s : State) : p.same s s := by
  cases p <;> simp [Part.same]

theorem Part.same_symm {p : Part} {s t : State} (h : p.same s t) : p.same t s := by
  cases p
  case clk => simp only [Part.same] at h ⊢; rw [← h]
  case ffr => simp only [Part.same] at h ⊢; rw [← h]
  case host => simp only [Part.same] at h ⊢; rw [← h]
  case queue => simp only [Part.same] at h ⊢; simp only [h, and_self]
  all_goals exact Eq.symm h

theorem Part.same_trans {p : Part} {s t u : State} (h : p.same s t) (k : p.same t u) : p.same s u := by
  cases p
  case clk => simp only [Part.same] at h k ⊢; rw [← h, ← k]
  case ffr => simp only [Part.same] at h k ⊢; rw [← h, ← k]
  case host => simp only [Part.same] at h k ⊢; rw [← h, ← k]
  case queue => simp only [Part.same] at h k ⊢; simp only [h, k, and_self]
  all_goals exact Eq.trans k h

/-! ### Scopes -/

/-- What a frame leaves free: parts of the state; of the parts that hold one element for each string, the elements `here`; of the sessions,
the slots `sess`. -/
structure Scope where
  parts : List Part
  here : Fin 8 → Prop
  sess : Nat → Prop

/-- Do two states agree on what is held for string `m`: its Ring, sensing, sweep, engine and repetitive controller. -/
def State.sameAt (m : Fin 8) (s t : State) : Prop :=
  t.ring[m] = s.ring[m] ∧ t.sense[m] = s.sense[m] ∧ t.sweep[m] = s.sweep[m] ∧ t.str[m] = s.str[m] ∧ t.rc[m] = s.rc[m]

/-- Between `s` and `t` nothing differs but what the scope leaves free. -/
structure State.Within (W : Scope) (s t : State) : Prop where
  parts : s.onlyIn W.parts t
  here : ∀ m, ¬ W.here m → s.sameAt m t
  sess : ∀ i, ¬ W.sess i → t.session i = s.session i

theorem State.Within.refl (W : Scope) (s : State) : s.Within W s :=
  ⟨fun p _ => p.same_refl s, fun _ _ => ⟨rfl, rfl, rfl, rfl, rfl⟩, fun _ _ => rfl⟩

theorem State.Within.symm {W : Scope} {s t : State} (h : s.Within W t) : t.Within W s := by
  refine ⟨fun p hp => Part.same_symm (h.parts p hp), fun m hm => ?_, fun i hi => (h.sess i hi).symm⟩
  obtain ⟨h1, h2, h3, h4, h5⟩ := h.here m hm
  exact ⟨h1.symm, h2.symm, h3.symm, h4.symm, h5.symm⟩

theorem State.Within.trans {W : Scope} {s t u : State} (h : s.Within W t) (k : t.Within W u) : s.Within W u := by
  refine ⟨fun p hp => Part.same_trans (h.parts p hp) (k.parts p hp), fun m hm => ?_, fun i hi => (k.sess i hi).trans (h.sess i hi)⟩
  obtain ⟨h1, h2, h3, h4, h5⟩ := h.here m hm
  obtain ⟨k1, k2, k3, k4, k5⟩ := k.here m hm
  exact ⟨k1.trans h1, k2.trans h2, k3.trans h3, k4.trans h4, k5.trans h5⟩

/-- The states that differ from `s` in nothing but what the scope leaves free: a frame is the equation `(f s).upTo W = s.upTo W`, with which
`simp` strips one operation after the other. -/
def State.upTo (W : Scope) (s : State) : Set State := { t | s.Within W t }

/-- `simp` has no business inside the state whose frame is asked for. -/
@[congr] theorem State.upTo_congr (W : Scope) (s : State) : s.upTo W = s.upTo W := rfl

theorem State.upTo_eq {W : Scope} {s t : State} (h : s.Within W t) : t.upTo W = s.upTo W :=
  Set.ext fun _ => ⟨h.trans, h.symm.trans⟩

theorem State.within_of_upTo {W : Scope} {s t : State} (h : t.upTo W = s.upTo W) : s.Within W t := by
  have : t ∈ t.upTo W := State.Within.refl W t
  rwa [h] at this

/-! ### The shapes of a meaning -/

/-- One of two sets of states, as a condition says that `simp` does not look at. -/
def State.either (c : Prop) [Decidable c] (x y : Set State) : Set State := if c then x else y

@[congr] theorem State.either_congr {c : Prop} [Decidable c] {x x' y y' : Set State} (hx : x = x') (hy : y = y') :
    State.either c x y = State.either c x' y' := by rw [hx, hy]

@[simp] theorem State.either_self (c : Prop) [Decidable c] (x : Set State) : State.either c x x = x := ite_self x

/-- A choice keeps what both its branches keep. -/
@[simp] theorem State.upTo_ite (W : Scope) (c : Prop) [Decidable c] (a b : State) :
    (if c then a else b).upTo W = State.either c (a.upTo W) (b.upTo W) := apply_ite _ _ _ _

@[simp] theorem State.upTo_ite_snd {α : Type} (W : Scope) (c : Prop) [Decidable c] (a b : α × State) :
    (if c then a else b).2.upTo W = State.either c (a.2.upTo W) (b.2.upTo W) := apply_ite (fun r : α × State => r.2.upTo W) _ _ _

@[simp] theorem State.upTo_when (W : Scope) (c : Bool) (f : State → State) (s : State) :
    (s.when c f).upTo W = State.either c ((f s).upTo W) (s.upTo W) := apply_ite _ _ _ _

@[simp] theorem State.upTo_forEach {W : Scope} {α : Type} (l : List α) (f : α → State → State) (s : State)
    (h : ∀ a s, (f a s).upTo W = s.upTo W) : (State.forEach l f s).upTo W = s.upTo W :=
  State.forEach_keeps (State.upTo W) l f s h

/-! ### The named updates -/

/-- The parts that are neither the sessions nor one element for each string. -/
def Part.whole : Part → Bool
  | .ring | .sense | .sweep | .str | .rc | .sessions => false
  | _ => true

/-- An update of one whole part. -/
theorem State.upTo_part {W : Scope} {s t : State} (p₀ : Part) (h : p₀ ∈ W.parts) (hw : p₀.whole = true) (hs : ∀ p, p ≠ p₀ → p.same s t) :
    t.upTo W = s.upTo W := by
  have hne : ∀ p : Part, p.whole = false → p.same s t := fun p hp => hs p (by rintro rfl; simp [hw] at hp)
  have hring : t.ring = s.ring := hne .ring rfl
  have hsense : t.sense = s.sense := hne .sense rfl
  have hsweep : t.sweep = s.sweep := hne .sweep rfl
  have hstr : t.str = s.str := hne .str rfl
  have hrc : t.rc = s.rc := hne .rc rfl
  have hsess : t.host.sessions = s.host.sessions := hne .sessions rfl
  refine State.upTo_eq ⟨fun p hp => hs p (by rintro rfl; exact hp h), fun m _ => ?_, fun i _ => ?_⟩
  · simp only [State.sameAt, hring, hsense, hsweep, hstr, hrc, and_self]
  · simp only [State.session, hsess]

@[simp] theorem State.modIdent_upTo {W : Scope} (h : .ident ∈ W.parts) (s : State) (f : Ident → Ident) : (s.modIdent f).upTo W = s.upTo W :=
  State.upTo_part .ident h rfl fun p hp => by cases p <;> simp [Part.same] at hp ⊢
@[simp] theorem State.modImg_upTo {W : Scope} (h : .img ∈ W.parts) (s : State) (f : Img → Img) : (s.modImg f).upTo W = s.upTo W :=
  State.upTo_part .img h rfl fun p hp => by cases p <;> simp [Part.same] at hp ⊢
@[simp] theorem State.modBank_upTo {W : Scope} (h : .bank ∈ W.parts) (s : State) (f : Bank → Bank) : (s.modBank f).upTo W = s.upTo W :=
  State.upTo_part .bank h rfl fun p hp => by cases p <;> simp [Part.same] at hp ⊢
@[simp] theorem State.modEst_upTo {W : Scope} (h : .est ∈ W.parts) (s : State) (f : Est → Est) : (s.modEst f).upTo W = s.upTo W :=
  State.upTo_part .est h rfl fun p hp => by cases p <;> simp [Part.same] at hp ⊢
@[simp] theorem State.modSaf_upTo {W : Scope} (h : .saf ∈ W.parts) (s : State) (f : Safety → Safety) : (s.modSaf f).upTo W = s.upTo W :=
  State.upTo_part .saf h rfl fun p hp => by cases p <;> simp [Part.same] at hp ⊢
@[simp] theorem State.modTwin_upTo {W : Scope} (h : .twin ∈ W.parts) (s : State) (f : Twin → Twin) : (s.modTwin f).upTo W = s.upTo W :=
  State.upTo_part .twin h rfl fun p hp => by cases p <;> simp [Part.same] at hp ⊢
@[simp] theorem State.modTrust_upTo {W : Scope} (h : .trust ∈ W.parts) (s : State) (f : Trust → Trust) : (s.modTrust f).upTo W = s.upTo W :=
  State.upTo_part .trust h rfl fun p hp => by cases p <;> simp [Part.same] at hp ⊢
@[simp] theorem State.modHist_upTo {W : Scope} (h : .hist ∈ W.parts) (s : State) (f : Hist → Hist) : (s.modHist f).upTo W = s.upTo W :=
  State.upTo_part .hist h rfl fun p hp => by cases p <;> simp [Part.same] at hp ⊢
@[simp] theorem State.modJrn_upTo {W : Scope} (h : .jrn ∈ W.parts) (s : State) (f : Journal → Journal) : (s.modJrn f).upTo W = s.upTo W :=
  State.upTo_part .jrn h rfl fun p hp => by cases p <;> simp [Part.same] at hp ⊢
@[simp] theorem State.modPtp_upTo {W : Scope} (h : .ptp ∈ W.parts) (s : State) (f : Ptp → Ptp) : (s.modPtp f).upTo W = s.upTo W :=
  State.upTo_part .ptp h rfl fun p hp => by cases p <;> simp [Part.same] at hp ⊢
@[simp] theorem State.modHk_upTo {W : Scope} (h : .hk ∈ W.parts) (s : State) (f : Hk → Hk) : (s.modHk f).upTo W = s.upTo W :=
  State.upTo_part .hk h rfl fun p hp => by cases p <;> simp [Part.same] at hp ⊢
@[simp] theorem State.modUpd_upTo {W : Scope} (h : .upd ∈ W.parts) (s : State) (f : Upd → Upd) : (s.modUpd f).upTo W = s.upTo W :=
  State.upTo_part .upd h rfl fun p hp => by cases p <;> simp [Part.same] at hp ⊢
@[simp] theorem State.modIo_upTo {W : Scope} (h : .io ∈ W.parts) (s : State) (f : Io → Io) : (s.modIo f).upTo W = s.upTo W :=
  State.upTo_part .io h rfl fun p hp => by cases p <;> simp [Part.same] at hp ⊢
@[simp] theorem State.modScan_upTo {W : Scope} (h : .scan ∈ W.parts) (s : State) (f : Scan → Scan) : (s.modScan f).upTo W = s.upTo W :=
  State.upTo_part .scan h rfl fun p hp => by cases p <;> simp [Part.same] at hp ⊢
@[simp] theorem State.modPwr_upTo {W : Scope} (h : .pwr ∈ W.parts) (s : State) (f : Pwr → Pwr) : (s.modPwr f).upTo W = s.upTo W :=
  State.upTo_part .pwr h rfl fun p hp => by cases p <;> simp [Part.same] at hp ⊢
@[simp] theorem State.modThm_upTo {W : Scope} (h : .thm ∈ W.parts) (s : State) (f : Thm → Thm) : (s.modThm f).upTo W = s.upTo W :=
  State.upTo_part .thm h rfl fun p hp => by cases p <;> simp [Part.same] at hp ⊢
@[simp] theorem State.modHw_upTo {W : Scope} (h : .hw ∈ W.parts) (s : State) (f : Hw → Hw) : (s.modHw f).upTo W = s.upTo W :=
  State.upTo_part .hw h rfl fun p hp => by cases p <;> simp [Part.same] at hp ⊢
@[simp] theorem State.setCtr_upTo {W : Scope} (h : .ctr ∈ W.parts) (s : State) (v : List (Nat × Nat)) : (s.setCtr v).upTo W = s.upTo W :=
  State.upTo_part .ctr h rfl fun p hp => by cases p <;> simp [Part.same] at hp ⊢
@[simp] theorem State.setCtrSat_upTo {W : Scope} (h : .ctrSat ∈ W.parts) (s : State) (v : List Nat) : (s.setCtrSat v).upTo W = s.upTo W :=
  State.upTo_part .ctrSat h rfl fun p hp => by cases p <;> simp [Part.same] at hp ⊢
@[simp] theorem State.setJctr_upTo {W : Scope} (h : .jctr ∈ W.parts) (s : State) (v : List (Nat × Nat)) : (s.setJctr v).upTo W = s.upTo W :=
  State.upTo_part .jctr h rfl fun p hp => by cases p <;> simp [Part.same] at hp ⊢
@[simp] theorem State.setFree_upTo {W : Scope} (h : .free ∈ W.parts) (s : State) (v : Nat) : (s.setFree v).upTo W = s.upTo W :=
  State.upTo_part .free h rfl fun p hp => by cases p <;> simp [Part.same] at hp ⊢
@[simp] theorem State.setOut_upTo {W : Scope} (h : .out ∈ W.parts) (s : State) (v : List Out) : (s.setOut v).upTo W = s.upTo W :=
  State.upTo_part .out h rfl fun p hp => by cases p <;> simp [Part.same] at hp ⊢
@[simp] theorem State.setPending_upTo {W : Scope} (h : .pending ∈ W.parts) (s : State) (v : List Instr) : (s.setPending v).upTo W = s.upTo W :=
  State.upTo_part .pending h rfl fun p hp => by cases p <;> simp [Part.same] at hp ⊢
@[simp] theorem State.modCan_upTo {W : Scope} (h : .can ∈ W.parts) (s : State) (i : Fin 4) (f : CanPort → CanPort) : (s.modCan i f).upTo W = s.upTo W :=
  State.upTo_part .can h rfl fun p hp => by cases p <;> simp [Part.same] at hp ⊢
@[simp] theorem State.mapAllCan_upTo {W : Scope} (h : .can ∈ W.parts) (s : State) (f : Fin 4 → CanPort → CanPort) : (s.mapAllCan f).upTo W = s.upTo W :=
  State.upTo_part .can h rfl fun p hp => by cases p <;> simp [Part.same] at hp ⊢

/-- An update of the clock that leaves the last stamps. -/
@[simp] theorem State.modClk_upTo {W : Scope} (h : .clk ∈ W.parts) (s : State) (f : Clock → Clock) (hf : ∀ c, (f c).lastStamp = c.lastStamp) :
    (s.modClk f).upTo W = s.upTo W :=
  State.upTo_part .clk h rfl fun p hp => by cases p <;> simp [Part.same, hf] at hp ⊢

/-- An update of the recorder that leaves its queue. -/
@[simp] theorem State.modFfr_upTo {W : Scope} (h : .ffr ∈ W.parts) (s : State) (f : Ffr → Ffr) (hq : ∀ r, (f r).queue = r.queue)
    (hd : ∀ r, (f r).dropped = r.dropped) (h1 : ∀ r, (f r).dropFirst = r.dropFirst) (h2 : ∀ r, (f r).dropLast = r.dropLast) :
    (s.modFfr f).upTo W = s.upTo W :=
  State.upTo_part .ffr h rfl fun p hp => by cases p <;> simp [Part.same, hq, hd, h1, h2] at hp ⊢

/-- An update of the host interface that leaves the sessions. -/
@[simp] theorem State.modHost_upTo {W : Scope} (h : .host ∈ W.parts) (s : State) (f : HostIf → HostIf) (hf : ∀ i, (f i).sessions = i.sessions) :
    (s.modHost f).upTo W = s.upTo W :=
  State.upTo_part .host h rfl fun p hp => by cases p <;> simp [Part.same, hf] at hp ⊢

/-- An update of one string's element of an indexed part. -/
theorem State.upTo_at {W : Scope} {s t : State} (p₀ : Part) (h : p₀ ∈ W.parts) (n : Fin 8) (hn : W.here n) (hs : ∀ p, p ≠ p₀ → p.same s t)
    (hh : t.host = s.host) (hm : ∀ m, m ≠ n → s.sameAt m t) : t.upTo W = s.upTo W := by
  refine State.upTo_eq ⟨fun p hp => hs p (by rintro rfl; exact hp h), fun m hw => hm m (by rintro rfl; exact hw hn), fun i _ => ?_⟩
  simp only [State.session, hh]

/-- An update of every string's element of an indexed part. -/
theorem State.upTo_all {W : Scope} {s t : State} (p₀ : Part) (h : p₀ ∈ W.parts) (hn : ∀ n, W.here n) (hs : ∀ p, p ≠ p₀ → p.same s t)
    (hh : t.host = s.host) : t.upTo W = s.upTo W := by
  refine State.upTo_eq ⟨fun p hp => hs p (by rintro rfl; exact hp h), fun m hw => absurd (hn m) hw, fun i _ => ?_⟩
  simp only [State.session, hh]

theorem Vec.upd_ne {α : Type} {n : Nat} (v : Vector α n) (i m : Fin n) (f : α → α) (h : m ≠ i) : (Vec.upd v i f)[m] = v[m] := by
  have : (i : Nat) ≠ m := fun e => h (Fin.ext e.symm)
  simp [this]

@[simp] theorem State.modRing_upTo {W : Scope} (h : .ring ∈ W.parts) (s : State) (n : Fin 8) (hn : W.here n) (f : RingPort → RingPort) :
    (s.modRing n f).upTo W = s.upTo W :=
  State.upTo_at .ring h n hn (fun p hp => by cases p <;> simp [Part.same] at hp ⊢) rfl fun m hm => by
    simp only [State.sameAt, State.modRing_ring, State.modRing_sense, State.modRing_sweep, State.modRing_str, State.modRing_rc, Vec.upd_ne _ _ _ _ hm, and_self]
@[simp] theorem State.mapAllRing_upTo {W : Scope} (h : .ring ∈ W.parts) (s : State) (hn : ∀ n, W.here n) (f : Fin 8 → RingPort → RingPort) :
    (s.mapAllRing f).upTo W = s.upTo W :=
  State.upTo_all .ring h hn (fun p hp => by cases p <;> simp [Part.same] at hp ⊢) rfl
@[simp] theorem State.modSense_upTo {W : Scope} (h : .sense ∈ W.parts) (s : State) (n : Fin 8) (hn : W.here n) (f : RingSense → RingSense) :
    (s.modSense n f).upTo W = s.upTo W :=
  State.upTo_at .sense h n hn (fun p hp => by cases p <;> simp [Part.same] at hp ⊢) rfl fun m hm => by
    simp only [State.sameAt, State.modSense_ring, State.modSense_sense, State.modSense_sweep, State.modSense_str, State.modSense_rc, Vec.upd_ne _ _ _ _ hm, and_self]
@[simp] theorem State.mapAllSense_upTo {W : Scope} (h : .sense ∈ W.parts) (s : State) (hn : ∀ n, W.here n) (f : Fin 8 → RingSense → RingSense) :
    (s.mapAllSense f).upTo W = s.upTo W :=
  State.upTo_all .sense h hn (fun p hp => by cases p <;> simp [Part.same] at hp ⊢) rfl
@[simp] theorem State.modSweep_upTo {W : Scope} (h : .sweep ∈ W.parts) (s : State) (n : Fin 8) (hn : W.here n) (f : Sweep → Sweep) :
    (s.modSweep n f).upTo W = s.upTo W :=
  State.upTo_at .sweep h n hn (fun p hp => by cases p <;> simp [Part.same] at hp ⊢) rfl fun m hm => by
    simp only [State.sameAt, State.modSweep_ring, State.modSweep_sense, State.modSweep_sweep, State.modSweep_str, State.modSweep_rc, Vec.upd_ne _ _ _ _ hm, and_self]
@[simp] theorem State.mapAllSweep_upTo {W : Scope} (h : .sweep ∈ W.parts) (s : State) (hn : ∀ n, W.here n) (f : Fin 8 → Sweep → Sweep) :
    (s.mapAllSweep f).upTo W = s.upTo W :=
  State.upTo_all .sweep h hn (fun p hp => by cases p <;> simp [Part.same] at hp ⊢) rfl
@[simp] theorem State.modStr_upTo {W : Scope} (h : .str ∈ W.parts) (s : State) (n : Fin 8) (hn : W.here n) (f : StrEng → StrEng) :
    (s.modStr n f).upTo W = s.upTo W :=
  State.upTo_at .str h n hn (fun p hp => by cases p <;> simp [Part.same] at hp ⊢) rfl fun m hm => by
    simp only [State.sameAt, State.modStr_ring, State.modStr_sense, State.modStr_sweep, State.modStr_str, State.modStr_rc, Vec.upd_ne _ _ _ _ hm, and_self]
@[simp] theorem State.mapAllStr_upTo {W : Scope} (h : .str ∈ W.parts) (s : State) (hn : ∀ n, W.here n) (f : Fin 8 → StrEng → StrEng) :
    (s.mapAllStr f).upTo W = s.upTo W :=
  State.upTo_all .str h hn (fun p hp => by cases p <;> simp [Part.same] at hp ⊢) rfl
@[simp] theorem State.modRc_upTo {W : Scope} (h : .rc ∈ W.parts) (s : State) (n : Fin 8) (hn : W.here n) (f : RcCtl → RcCtl) :
    (s.modRc n f).upTo W = s.upTo W :=
  State.upTo_at .rc h n hn (fun p hp => by cases p <;> simp [Part.same] at hp ⊢) rfl fun m hm => by
    simp only [State.sameAt, State.modRc_ring, State.modRc_sense, State.modRc_sweep, State.modRc_str, State.modRc_rc, Vec.upd_ne _ _ _ _ hm, and_self]
@[simp] theorem State.mapAllRc_upTo {W : Scope} (h : .rc ∈ W.parts) (s : State) (hn : ∀ n, W.here n) (f : Fin 8 → RcCtl → RcCtl) :
    (s.mapAllRc f).upTo W = s.upTo W :=
  State.upTo_all .rc h hn (fun p hp => by cases p <;> simp [Part.same] at hp ⊢) rfl

/-! ### Time, lines and notes -/

/-- An update of the clock's last stamps alone. -/
theorem State.upTo_stamps {W : Scope} (h : .stamps ∈ W.parts) (s : State) (l : List (Nat × Nat)) :
    (s.modClk fun c => { c with lastStamp := l }).upTo W = s.upTo W :=
  State.upTo_part .stamps h rfl fun p hp => by cases p <;> simp [Part.same] at hp ⊢

@[simp] theorem State.stamped_upTo {W : Scope} (h : .stamps ∈ W.parts) (n : Nat) (s : State) : (s.stamped n).upTo W = s.upTo W :=
  State.upTo_stamps h s _

@[simp] theorem State.stampedAt_upTo {W : Scope} (h : .stamps ∈ W.parts) (n t : Nat) (s : State) : (s.stampedAt n t).upTo W = s.upTo W :=
  State.upTo_stamps h s _

@[simp] theorem Clock.moveTo_lastStamp (t : Nat) (c : Clock) : (c.moveTo t).lastStamp = c.lastStamp := by simp only [Clock.moveTo]

@[simp] theorem State.atCycle_upTo {W : Scope} (h : .clk ∈ W.parts) (n : Nat) (s : State) : (s.atCycle n).upTo W = s.upTo W := by
  unfold State.atCycle; simp [h]

@[simp] theorem State.atTsc_upTo {W : Scope} (h : .clk ∈ W.parts) (n : Nat) (s : State) : (s.atTsc n).upTo W = s.upTo W := by
  unfold State.atTsc; simp [h]

@[simp] theorem State.tick_upTo {W : Scope} (h : .free ∈ W.parts) (s : State) : s.tick.upTo W = s.upTo W := by
  unfold State.tick; simp [h]

@[simp] theorem State.send_upTo {W : Scope} (h : .out ∈ W.parts) (c : OutChan) (n : Nat) (w : String) (a : List Int) (s : State) :
    (s.send c n w a).upTo W = s.upTo W := by
  unfold State.send; simp [h]

@[simp] theorem State.sendBytes_upTo {W : Scope} (h : .out ∈ W.parts) (c : OutChan) (n : Nat) (w : String) (b : List Byte) (s : State) :
    (s.sendBytes c n w b).upTo W = s.upTo W := by
  unfold State.sendBytes; simp [h]

@[simp] theorem State.twinFrame_upTo {W : Scope} (h : [.twin, .out] ⊆ W.parts) (m : TwinMsg) (w : String) (n : Nat) (b : List Byte) (s : State) :
    (s.twinFrame m w n b).upTo W = s.upTo W := by
  simp at h
  unfold State.twinFrame; split <;> simp [h]

@[simp] theorem State.twinPut_upTo {W : Scope} (h : [.twin, .out] ⊆ W.parts) (m : TwinMsg) (w : String) (b : List Byte) (s : State) :
    (s.twinPut m w b).upTo W = s.upTo W := by
  unfold State.twinPut; simp [h]

@[simp] theorem State.twinRecord_upTo {W : Scope} (h : [.twin, .out] ⊆ W.parts) (m : TwinMsg) (w : String) (s : State) :
    (s.twinRecord m w).upTo W = s.upTo W := by
  unfold State.twinRecord; simp [h]

@[simp] theorem State.twinSend_upTo {W : Scope} (h : [.twin, .out] ⊆ W.parts) (w : String) (l : List Int) (s : State) :
    (s.twinSend w l).upTo W = s.upTo W := by
  unfold State.twinSend; simp [h]

@[simp] theorem State.countOnly_upTo {W : Scope} (h : .ctr ∈ W.parts) (a : Nat) (s : State) : (s.countOnly a).upTo W = s.upTo W := by
  unfold State.countOnly; simp [h]

@[simp] theorem State.dropEvent_upTo {W : Scope} (h : .queue ∈ W.parts) (e : Event) (s : State) : (s.dropEvent e).upTo W = s.upTo W :=
  State.upTo_part .queue h rfl fun p hp => by cases p <;> simp [Part.same, State.dropEvent] at hp ⊢

@[simp] theorem State.deliver_upTo {W : Scope} (h : [.queue, .ctr] ⊆ W.parts) (e : Event) (s : State) : (s.deliver e).upTo W = s.upTo W := by
  simp at h
  unfold State.deliver
  split
  · exact State.upTo_part .queue h.1 rfl fun p hp => by cases p <;> simp [Part.same] at hp ⊢
  · simp [h]

@[simp] theorem State.emit_upTo {W : Scope} (h : [.stamps, .queue, .ctr] ⊆ W.parts) (c n : Nat) (b : List Int) (s : State) :
    (s.emit c n b).upTo W = s.upTo W := by
  simp at h
  unfold State.emit; simp [h]

@[simp] theorem State.noteSaturated_upTo {W : Scope} (h : Part.notes ⊆ W.parts) (a : Nat) (s : State) :
    (s.noteSaturated a).upTo W = s.upTo W := by
  simp at h
  unfold State.noteSaturated; simp [h]

@[simp] theorem State.bump_upTo {W : Scope} (h : Part.notes ⊆ W.parts) (a : Nat) (s : State) : (s.bump a).upTo W = s.upTo W := by
  simp at h
  unfold State.bump; simp [h]

@[simp] theorem State.bumpBy_upTo {W : Scope} (h : Part.notes ⊆ W.parts) (a n : Nat) (s : State) : (s.bumpBy a n).upTo W = s.upTo W := by
  simp at h
  unfold State.bumpBy; simp [h]

/-! ### Sessions -/

/-- A session other than the one in slot `id` is not touched by what is done to that one. -/
theorem State.session_modSession_ne (s : State) (id j : Nat) (f : Session → Session) (hf : ∀ x, (f x).id = x.id) (h : j ≠ id) :
    (s.modSession id f).session j = s.session j := by
  unfold State.session State.modSession
  simp only [State.modHost_host, List.find?_map]
  have hp : ((fun x : Session => x.id == j) ∘ fun x => if (x.id == id) = true then f x else x) = fun x => x.id == j := by
    funext x
    by_cases hx : x.id = id <;> simp [hx, hf]
  rw [hp]
  cases hc : s.host.sessions.find? (fun x => x.id == j) with
  | none => rfl
  | some x =>
    have hx : x.id = j := by simpa using List.find?_some hc
    simp [hx, h]

@[simp] theorem State.modSession_upTo {W : Scope} (h : .sessions ∈ W.parts) (id : Nat) (hi : W.sess id) (f : Session → Session)
    (hf : ∀ x, (f x).id = x.id) (s : State) : (s.modSession id f).upTo W = s.upTo W := by
  refine State.upTo_eq ⟨fun p hp => ?_, fun m _ => ⟨rfl, rfl, rfl, rfl, rfl⟩, fun j hj => ?_⟩
  · have hne : p ≠ .sessions := by rintro rfl; exact hp h
    cases p <;> simp [Part.same, State.modSession] at hne ⊢
  · exact State.session_modSession_ne s id j f hf (by rintro rfl; exact hj hi)

/-- An update of the host interface with its sessions. -/
theorem State.modHost_upTo_sessions {W : Scope} (h : .host ∈ W.parts) (hs : .sessions ∈ W.parts) (hi : ∀ i, W.sess i) (s : State)
    (f : HostIf → HostIf) : (s.modHost f).upTo W = s.upTo W := by
  refine State.upTo_eq ⟨fun p hp => ?_, fun m _ => ⟨rfl, rfl, rfl, rfl, rfl⟩, fun j hj => absurd (hi j) hj⟩
  have h1 : p ≠ .host := by rintro rfl; exact hp h
  have h2 : p ≠ .sessions := by rintro rfl; exact hp hs
  cases p <;> simp [Part.same] at h1 h2 ⊢

@[simp] theorem State.closeSession_upTo {W : Scope} (h : [.host, .sessions, .out] ⊆ W.parts) (hi : ∀ i, W.sess i) (id : Nat) (s : State) :
    (s.closeSession id).upTo W = s.upTo W := by
  simp at h
  unfold State.closeSession; split <;> simp [h, State.modHost_upTo_sessions, hi]

@[simp] theorem State.closeWhere_upTo {W : Scope} (h : [.host, .sessions, .out] ⊆ W.parts) (hi : ∀ i, W.sess i) (p : Session → Bool) (s : State) :
    (s.closeWhere p).upTo W = s.upTo W := by
  simp at h
  unfold State.closeWhere; simp [h, hi]

@[simp] theorem State.sendResp_upTo {W : Scope} (h : .out ∈ W.parts) (n : Nat) (r : Resp) (c : Nat) (s : State) :
    (s.sendResp n r c).upTo W = s.upTo W := by
  unfold State.sendResp; split <;> simp [h]

@[simp] theorem State.sendEvent_upTo {W : Scope} (h : .out ∈ W.parts) (n c : Nat) (b : List Byte) (s : State) :
    (s.sendEvent n c b).upTo W = s.upTo W := by
  unfold State.sendEvent; simp [h]

@[simp] theorem State.flushOne_upTo {W : Scope} (h : [.sessions, .out] ⊆ W.parts) (id : Nat) (hi : W.sess id) (s : State) :
    (s.flushOne id).upTo W = s.upTo W := by
  simp at h
  unfold State.flushOne; (repeat' split) <;> simp [h, hi]

@[simp] theorem State.flush_upTo {W : Scope} (h : [.sessions, .out] ⊆ W.parts) (id : Nat) (hi : W.sess id) (n : Nat) (s : State) :
    (s.flush id n).upTo W = s.upTo W := by
  induction n generalizing s with
  | zero => rfl
  | succ n ih => rw [State.flush, ih, State.flushOne_upTo h id hi]

@[simp] theorem State.payOne_upTo {W : Scope} (h : [.sessions, .out] ⊆ W.parts) (x : Session) (hi : W.sess x.id) (s : State) :
    (s.payOne x).upTo W = s.upTo W := by
  simp at h
  unfold State.payOne; simp [h, hi]

@[simp] theorem State.payWithheld_upTo {W : Scope} (h : [.sessions, .out] ⊆ W.parts) (hi : ∀ i, W.sess i) (s : State) :
    s.payWithheld.upTo W = s.upTo W := by
  unfold State.payWithheld; simp [h, hi]

@[simp] theorem State.reply_upTo {W : Scope} (h : [.sessions, .out] ⊆ W.parts) (q : Req) (hi : W.sess q.session) (c : Nat) (b : List Byte)
    (s : State) : (s.reply q c b).upTo W = s.upTo W := by
  unfold State.reply; simp at h; simp [h, hi]

@[simp] theorem State.refuseReq_upTo {W : Scope} (h : Part.answers ⊆ W.parts) (q : Req) (hi : W.sess q.session) (c : Nat) (s : State) :
    (s.refuseReq q c).upTo W = s.upTo W := by
  simp at h
  unfold State.refuseReq; simp [h, hi]

@[simp] theorem State.enter_upTo {W : Scope} (h : .sessions ∈ W.parts) (q : Req) (hi : W.sess q.session) (n : Nat) (s : State) :
    (s.enter q n).upTo W = s.upTo W := by
  unfold State.enter; simp [h, hi]

@[simp] theorem State.noCredit_upTo {W : Scope} (h : Part.answers ⊆ W.parts) (q : Req) (hi : W.sess q.session) (n : Nat) (s : State) :
    (s.noCredit q n).upTo W = s.upTo W := by
  simp at h
  unfold State.noCredit; simp [h, hi]

@[simp] theorem State.withReq_upTo {W : Scope} (h : Part.answers ⊆ W.parts) (q : Req) (hi : W.sess q.session) (n : Nat) (may : HostRole → Bool)
    (body : Session → State → State) (s : State) (hb : ∀ x u, (body x u).upTo W = u.upTo W) : (s.withReq q n may body).upTo W = s.upTo W := by
  simp at h
  unfold State.withReq; split <;> simp [h, hi, hb]

@[simp] theorem State.hostWrite_upTo {W : Scope} (h : Part.answers ⊆ W.parts) (q : Req) (hi : W.sess q.session) (w : Write) (s : State)
    (hw : ∀ x u, (w x u).2.upTo W = u.upTo W) : (s.hostWrite q w).upTo W = s.upTo W := by
  simp at h
  unfold State.hostWrite; simp [h, hi, hw]

@[simp] theorem State.withFrame_upTo {W : Scope} (h : Part.withNotes [.twin] ⊆ W.parts) (f : TwinFrame) (body : State → State) (s : State)
    (hb : ∀ u, (body u).upTo W = u.upTo W) : (s.withFrame f body).upTo W = s.upTo W := by
  simp at h
  unfold State.withFrame; simp [h, hb]

@[simp] theorem Write.cmd_upTo {W : Scope} (check : Session → State → Nat) (result : Nat → State → State) (effect : State → State)
    (hr : ∀ c u, (result c u).upTo W = u.upTo W) (he : ∀ u, (effect u).upTo W = u.upTo W) (x : Session) (s : State) :
    (Write.cmd check result effect x s).2.upTo W = s.upTo W := by
  unfold Write.cmd; split <;> simp [hr, he]

/-! ### Frames of history (chapter 11) -/

@[simp] theorem State.shelfWrite_upTo {W : Scope} (h : .out ∈ W.parts) (what : String) (seg : Nat) (off : Nat) (b : List Byte) (s : State) :
    (State.shelfWrite what seg off b s).upTo W = s.upTo W := by
  unfold State.shelfWrite; simp [h]

@[simp] theorem State.tellSeal_upTo {W : Scope} (h : [.twin, .out] ⊆ W.parts) (seg : Nat) (link : BitVec 384) (s : State) :
    (State.tellSeal seg link s).upTo W = s.upTo W := by
  simp at h
  unfold State.tellSeal; simp [h]

@[simp] theorem State.writeSeal_upTo {W : Scope} (h : [.twin, .hist, .out] ⊆ W.parts) (seg : Nat) (gen : Nat) (bytes : List Byte) (t : List Byte)
    (s : State) : (State.writeSeal seg gen bytes t s).upTo W = s.upTo W := by
  simp at h
  unfold State.writeSeal; simp [h]

@[simp] theorem State.sealSegment_upTo {W : Scope} (h : [.twin, .hist, .out] ⊆ W.parts) (flags : Nat) (s : State) :
    (State.sealSegment flags s).upTo W = s.upTo W := by
  simp at h
  unfold State.sealSegment; simp [h]

@[simp] theorem State.openSegment_upTo {W : Scope} (h : [.hist, .out] ⊆ W.parts) (s : State) : (State.openSegment s).upTo W = s.upTo W := by
  simp at h
  unfold State.openSegment; simp [h]

@[simp] theorem State.fitSegment_upTo {W : Scope} (h : [.twin, .hist, .out] ⊆ W.parts) (len : Nat) (s : State) :
    (State.fitSegment len s).upTo W = s.upTo W := by
  simp at h
  unfold State.fitSegment; simp [h]

@[simp] theorem State.writeChunks_upTo {W : Scope} (h : .out ∈ W.parts) (a0 : Nat) (upto : Nat) (s : State) :
    (State.writeChunks a0 upto s).upTo W = s.upTo W := by
  unfold State.writeChunks; simp [h]

@[simp] theorem State.placeOf_upTo {W : Scope} (h : [.twin, .hist, .out] ⊆ W.parts) (member : Bool) (kind : BitVec 16) (src : Nat) (tsc : Nat)
    (flags : Nat) (body : List Byte) (s : State) : (State.placeOf member kind src tsc flags body s).upTo W = s.upTo W := by
  simp at h
  unfold State.placeOf; simp [h]

@[simp] theorem State.placeRecord_upTo {W : Scope} (h : [.twin, .hist, .out] ⊆ W.parts) (kind : BitVec 16) (src : Nat) (tsc : Nat) (flags : Nat)
    (body : List Byte) (s : State) : (State.placeRecord kind src tsc flags body s).upTo W = s.upTo W := by
  simp at h
  unfold State.placeRecord; simp [h]

@[simp] theorem State.refuseRecord_upTo {W : Scope} (h : Part.withNotes [.hist] ⊆ W.parts) (kind : BitVec 16) (busy : Bool) (s : State) :
    (State.refuseRecord kind busy s).upTo W = s.upTo W := by
  simp at h
  unfold State.refuseRecord; simp [h]

@[simp] theorem State.gapRecord_upTo {W : Scope} (h : Part.withAnswers [.twin, .hist] ⊆ W.parts) (s : State) (hi : ∀ i, W.sess i) :
    (State.gapRecord s).upTo W = s.upTo W := by
  simp at h
  unfold State.gapRecord; simp [h, hi]

@[simp] theorem State.chooseProfile_upTo {W : Scope} (h : .hist ∈ W.parts) (k : BitVec 4) (cause : Nat) (s : State) :
    (State.chooseProfile k cause s).upTo W = s.upTo W := by
  unfold State.chooseProfile; simp [h]

@[simp] theorem State.spaceWarn_upTo {W : Scope} (h : Part.withNotes [.hist] ⊆ W.parts) (s : State) : (State.spaceWarn s).upTo W = s.upTo W := by
  simp at h
  unfold State.spaceWarn; simp [h]

@[simp] theorem State.stepDowns_upTo {W : Scope} (h : Part.withNotes [.hist] ⊆ W.parts) (s : State) : (State.stepDowns s).upTo W = s.upTo W := by
  simp at h
  unfold State.stepDowns; dsimp only; split <;> simp [h]

@[simp] theorem State.fullCheck_upTo {W : Scope} (h : Part.withAnswers [.twin, .hist] ⊆ W.parts) (s : State) (hi : ∀ i, W.sess i) :
    (State.fullCheck s).upTo W = s.upTo W := by
  simp at h
  unfold State.fullCheck; simp [h, hi]

@[simp] theorem State.spaceCheck_upTo {W : Scope} (h : Part.withAnswers [.twin, .hist] ⊆ W.parts) (s : State) (hi : ∀ i, W.sess i) :
    (State.spaceCheck s).upTo W = s.upTo W := by
  simp at h
  unfold State.spaceCheck; simp [h, hi]

@[simp] theorem State.admitOf_upTo {W : Scope} (h : Part.withAnswers [.twin, .hist] ⊆ W.parts) (member : Bool) (kind : BitVec 16) (src : Nat)
    (tsc : Nat) (flags : Nat) (body : List Byte) (s : State) (hi : ∀ i, W.sess i) :
    (State.admitOf member kind src tsc flags body s).2.upTo W = s.upTo W := by
  simp at h
  unfold State.admitOf; simp [h, hi]

@[simp] theorem State.admitAt_upTo {W : Scope} (h : Part.withAnswers [.twin, .hist] ⊆ W.parts) (kind : BitVec 16) (src : Nat) (tsc : Nat)
    (flags : Nat) (body : List Byte) (s : State) (hi : ∀ i, W.sess i) : (State.admitAt kind src tsc flags body s).2.upTo W = s.upTo W := by
  simp at h
  unfold State.admitAt; simp [h, hi]

@[simp] theorem State.intoHistory_upTo {W : Scope} (h : Part.withAnswers [.twin, .hist] ⊆ W.parts) (kind : BitVec 16) (src : Nat)
    (body : List Byte) (s : State) (hi : ∀ i, W.sess i) : (State.intoHistory kind src body s).upTo W = s.upTo W := by
  simp at h
  unfold State.intoHistory; simp [h, hi]

@[simp] theorem State.makeRoom_upTo {W : Scope} (h : Part.withAnswers [.twin, .hist] ⊆ W.parts) (len : Nat) (s : State) (hi : ∀ i, W.sess i) :
    (State.makeRoom len s).upTo W = s.upTo W := by
  simp at h
  unfold State.makeRoom; simp [h, hi]

@[simp] theorem State.certTwin_upTo {W : Scope} (h : Part.withAnswers [.twin, .hist] ⊆ W.parts) (s : State) (hi : ∀ i, W.sess i) :
    (State.certTwin s).upTo W = s.upTo W := by
  simp at h
  unfold State.certTwin; simp [h, hi]

@[simp] theorem State.refuseCopy_upTo {W : Scope} (h : Part.withAnswers [.hist] ⊆ W.parts) (w : HistWait) (s : State) (hi : ∀ i, W.sess i) :
    (State.refuseCopy w s).upTo W = s.upTo W := by
  simp at h
  unfold State.refuseCopy; split <;> simp [h, hi]

/-! ### Frames of gate-driver sessions and the trust core (chapter 10) -/

@[simp] theorem State.modGd_upTo {W : Scope} (h : .str ∈ W.parts) (n : Fin 8) (p : Fin 6) (f : GdPhase → GdPhase) (s : State) (hn : W.here n) :
    (State.modGd n p f s).upTo W = s.upTo W := by
  unfold State.modGd; simp [h, hn]

@[simp] theorem State.gdSend_upTo {W : Scope} (h : .out ∈ W.parts) (n : Fin 8) (p : Fin 6) (what : String) (body : List Byte) (key : Option Nat)
    (s : State) : (State.gdSend n p what body key s).upTo W = s.upTo W := by
  unfold State.gdSend; simp [h]

@[simp] theorem State.gdCommand_upTo {W : Scope} (h : .out ∈ W.parts) (n : Fin 8) (p : Fin 6) (opcode : BitVec 16) (payload : List Byte)
    (s : State) : (State.gdCommand n p opcode payload s).upTo W = s.upTo W := by
  unfold State.gdCommand; simp [h]

@[simp] theorem State.gdAuthFail_upTo {W : Scope} (h : Part.withNotes [.str] ⊆ W.parts) (n : Fin 8) (p : Fin 6) (s : State) (hn : W.here n) :
    (State.gdAuthFail n p s).upTo W = s.upTo W := by
  simp at h
  unfold State.gdAuthFail; simp [h, hn]

/-! ### Frames of impedances (chapter 04) -/

@[simp] theorem State.modCell_upTo {W : Scope} (h : .est ∈ W.parts) (b : Nat) (f : Cell → Cell) (s : State) :
    (State.modCell b f s).upTo W = s.upTo W := by
  unfold State.modCell; simp [h]

@[simp] theorem State.resistances_upTo {W : Scope} (h : Part.withNotes [.est] ⊆ W.parts) (n : Fin 8) (number : Nat) (s : State) :
    (State.resistances n number s).upTo W = s.upTo W := by
  simp at h
  unfold State.resistances; dsimp only; split <;> simp [h]

@[simp] theorem State.deriveSweep_upTo {W : Scope} (h : Part.withAnswers [.est, .twin, .hist] ⊆ W.parts) (n : Fin 8) (s : State)
    (hi : ∀ i, W.sess i) : (State.deriveSweep n s).upTo W = s.upTo W := by
  simp at h
  unfold State.deriveSweep; simp [h, hi]

/-! ### Frames of the plant operations that several chapters share -/

@[simp] theorem State.abortSweep_upTo {W : Scope} (h : Part.withAnswers [.sweep, .bank, .est, .twin, .hist] ⊆ W.parts) (n : Fin 8) (reason : Nat)
    (s : State) (hn : W.here n) (hi : ∀ i, W.sess i) : (State.abortSweep n reason s).upTo W = s.upTo W := by
  simp at h
  unfold State.abortSweep; dsimp only; split <;> simp [h, hn, hi]

@[simp] theorem State.strTo_upTo {W : Scope} (h : Part.withAnswers [.sweep, .str, .bank, .est, .twin, .hist] ⊆ W.parts) (n : Fin 8)
    (new : StrState) (cause : Nat) (s : State) (hn : W.here n) (hi : ∀ i, W.sess i) : (State.strTo n new cause s).upTo W = s.upTo W := by
  simp at h
  unfold State.strTo; simp [h, hn, hi]

@[simp] theorem State.withOutputs_upTo {W : Scope} (h : .out ∈ W.parts) (change : State → State) (s : State) (hc : (change s).upTo W = s.upTo W) :
    (State.withOutputs change s).upTo W = s.upTo W := by
  unfold State.withOutputs; simp [h, hc]

@[simp] theorem State.driveCoils_upTo {W : Scope} (h : [.str, .out] ⊆ W.parts) (n : Fin 8) (d : BitVec 3) (s : State) (hn : W.here n) :
    (State.driveCoils n d s).upTo W = s.upTo W := by
  simp at h
  unfold State.driveCoils; simp [h, hn]

@[simp] theorem State.coilHalves_upTo {W : Scope} (h : [.saf, .out] ⊆ W.parts) (n : Fin 8) (v : Bool) (s : State) :
    (State.coilHalves n v s).upTo W = s.upTo W := by
  simp at h
  unfold State.coilHalves; simp [h]

@[simp] theorem State.pwmHalves_upTo {W : Scope} (h : [.saf, .out] ⊆ W.parts) (n : Fin 8) (v : Bool) (s : State) :
    (State.pwmHalves n v s).upTo W = s.upTo W := by
  simp at h
  unfold State.pwmHalves; simp [h]

@[simp] theorem State.openDone_upTo {W : Scope} (h : Part.withAnswers [.sweep, .str, .bank, .est, .saf, .twin, .hist] ⊆ W.parts) (n : Fin 8)
    (s : State) (hn : W.here n) (hi : ∀ i, W.sess i) : (State.openDone n s).upTo W = s.upTo W := by
  simp at h
  unfold State.openDone; simp [h, hn, hi]

@[simp] theorem State.openAll_upTo {W : Scope} (h : Part.withAnswers [.sweep, .str, .bank, .est, .saf, .twin, .hist] ⊆ W.parts) (n : Fin 8)
    (s : State) (hn : W.here n) (hi : ∀ i, W.sess i) : (State.openAll n s).upTo W = s.upTo W := by
  simp at h
  unfold State.openAll; simp [h, hn, hi]

@[simp] theorem State.tripOpen_upTo {W : Scope} (h : .str ∈ W.parts) (n : Fin 8) (s : State) (hn : W.here n) :
    (State.tripOpen n s).upTo W = s.upTo W := by
  unfold State.tripOpen; simp [h, hn]

@[simp] theorem State.terminate_upTo {W : Scope} (h : Part.withNotes [.jrn] ⊆ W.parts) (e : DispEntry) (st : TermStatus) (s : State) :
    (State.terminate e st s).upTo W = s.upTo W := by
  simp at h
  unfold State.terminate; split <;> simp [h]

@[simp] theorem State.lapseWaiting_upTo {W : Scope} (h : Part.withNotes [.jrn] ⊆ W.parts) (s : State) : (State.lapseWaiting s).upTo W = s.upTo W := by
  simp at h
  unfold State.lapseWaiting; simp [h]

@[simp] theorem State.noteCause_upTo {W : Scope} (h : .saf ∈ W.parts) (n : Fin 8) (code : Nat) (s : State) :
    (State.noteCause n code s).upTo W = s.upTo W := by
  unfold State.noteCause; simp [h]

@[simp] theorem State.pcsOpen_upTo {W : Scope} (h : [.saf, .out] ⊆ W.parts) (s : State) : (State.pcsOpen s).upTo W = s.upTo W := by
  simp at h
  unfold State.pcsOpen; simp [h]

@[simp] theorem State.stringTrip_upTo {W : Scope} (h : Part.withAnswers [.sweep, .str, .bank, .est, .saf, .twin, .hist] ⊆ W.parts) (n : Fin 8)
    (code : Nat) (s : State) (hn : W.here n) (hi : ∀ i, W.sess i) : (State.stringTrip n code s).upTo W = s.upTo W := by
  simp at h
  unfold State.stringTrip; simp [h, hn, hi]

/-! ### Frames of the Rings (chapter 03) -/

@[simp] theorem State.modNode_upTo {W : Scope} (h : .ring ∈ W.parts) (n : Fin 8) (k : Fin 24) (f : NodeEntry → NodeEntry) (s : State)
    (hn : W.here n) : (State.modNode n k f s).upTo W = s.upTo W := by
  unfold State.modNode; simp [h, hn]

@[simp] theorem State.ringResult_upTo {W : Scope} (h : .ring ∈ W.parts) (n : Fin 8) (code : Nat) (detail : Nat) (s : State) (hn : W.here n) :
    (State.ringResult n code detail s).upTo W = s.upTo W := by
  unfold State.ringResult; simp [h, hn]

@[simp] theorem State.sendRing_upTo {W : Scope} (h : .out ∈ W.parts) (n : Fin 8) (endB : Bool) (what : String) (shift : Nat) (type : Nat)
    (addr : Nat) (ctr : Nat) (opcode : Nat) (payload : List Byte) (key : Option Nat) (s : State) :
    (State.sendRing n endB what shift type addr ctr opcode payload key s).upTo W = s.upTo W := by
  unfold State.sendRing; simp [h]

@[simp] theorem State.frameBad_upTo {W : Scope} (h : Part.notes ⊆ W.parts) (n : Fin 8) (node : Nat) (crcOk : Bool) (s : State) :
    (State.frameBad n node crcOk s).upTo W = s.upTo W := by
  simp at h
  unfold State.frameBad; simp [h]

@[simp] theorem State.setExchange_upTo {W : Scope} (h : .ring ∈ W.parts) (n : Fin 8) (endB : Bool) (c : Option RingCmdReq) (s : State)
    (hn : W.here n) : (State.setExchange n endB c s).upTo W = s.upTo W := by
  unfold State.setExchange; simp [h, hn]

@[simp] theorem State.launch_upTo {W : Scope} (h : Part.withNotes [.ring, .out] ⊆ W.parts) (n : Fin 8) (endB : Bool) (c : RingCmdReq) (s : State)
    (hn : W.here n) : (State.launch n endB c s).upTo W = s.upTo W := by
  simp at h
  unfold State.launch; split <;> simp [h, hn]

@[simp] theorem State.pump_upTo {W : Scope} (h : Part.withNotes [.ring, .out] ⊆ W.parts) (n : Fin 8) (endB : Bool) (s : State) (hn : W.here n) :
    (State.pump n endB s).upTo W = s.upTo W := by
  simp at h
  unfold State.pump; dsimp only; split <;> simp [h, hn]

@[simp] theorem State.ringRequest_upTo {W : Scope} (h : Part.withNotes [.ring, .out] ⊆ W.parts) (n : Fin 8) (c : RingCmdReq) (s : State)
    (hn : W.here n) : (State.ringRequest n c s).2.upTo W = s.upTo W := by
  simp at h
  unfold State.ringRequest; simp [h, hn]

@[simp] theorem State.ringAsk_upTo {W : Scope} (h : Part.withNotes [.ring, .out] ⊆ W.parts) (n : Fin 8) (c : RingCmdReq) (s : State)
    (hn : W.here n) : (State.ringAsk n c s).upTo W = s.upTo W := by
  simp at h
  unfold State.ringAsk; simp [h, hn]

theorem execRingCommandRequest_upTo {W : Scope} (h : Part.withNotes [.ring, .out] ⊆ W.parts) (n : Fin 8) (c : RingCmdReq) (s : State)
    (hn : W.here n) :
    ∃ t, execRingCommandRequest n c s = .next t ∧ t.upTo W = s.upTo W := by
  simp at h
  refine ⟨_, rfl, ?_⟩
  simp [h, hn]

@[simp] theorem State.wrapCmds_upTo {W : Scope} (h : Part.withNotes [.ring, .out] ⊆ W.parts) (n : Fin 8) (opcode : BitVec 16) (s : State)
    (hn : W.here n) : (State.wrapCmds n opcode s).upTo W = s.upTo W := by
  simp at h
  unfold State.wrapCmds; simp [h, hn]

@[simp] theorem State.tryUnwrap_upTo {W : Scope} (h : Part.withNotes [.ring, .out] ⊆ W.parts) (n : Fin 8) (s : State) (hn : W.here n) :
    (State.tryUnwrap n s).upTo W = s.upTo W := by
  simp at h
  unfold State.tryUnwrap; simp [h, hn]

theorem execCommandWindowOpen_upTo {W : Scope} (h : Part.withNotes [.clk, .ring, .out] ⊆ W.parts) (n : Fin 8) (s : State) (hn : W.here n) :
    ∃ t, execCommandWindowOpen n s = .next t ∧ t.upTo W = s.upTo W := by
  simp at h
  refine ⟨_, rfl, ?_⟩
  simp [h, hn]

@[simp] theorem State.enumStart_upTo {W : Scope} (h : [.ring, .trust] ⊆ W.parts) (n : Fin 8) (s : State) (hn : W.here n) :
    (State.enumStart n s).upTo W = s.upTo W := by
  simp at h
  unfold State.enumStart; simp [h, hn]

@[simp] theorem State.enumBegin_upTo {W : Scope} (h : [.ring, .twin, .trust, .out] ⊆ W.parts) (n : Fin 8) (s : State) (hn : W.here n) :
    (State.enumBegin n s).upTo W = s.upTo W := by
  simp at h
  unfold State.enumBegin; simp [h, hn]

@[simp] theorem Ring.enumerate_upTo {W : Scope} (h : [.ring, .twin, .trust, .out] ⊆ W.parts) (n : Fin 8) (x : Session) (s : State) (hn : W.here n) :
    (Ring.enumerate n x s).2.upTo W = s.upTo W := by
  simp at h
  unfold Ring.enumerate; simp [h, hn]

theorem execRingEnumerate_upTo {W : Scope} (h : Part.withAnswers [.ring, .twin, .trust] ⊆ W.parts) (q : Req) (n : Fin 8) (s : State)
    (hn : W.here n) (hi : W.sess q.session) :
    ∃ t, execRingEnumerate q n s = .next t ∧ t.upTo W = s.upTo W := by
  simp at h
  refine ⟨_, rfl, ?_⟩
  simp [h, hn, hi]

@[simp] theorem State.enumFail_upTo {W : Scope} (h : Part.withNotes [.ring] ⊆ W.parts) (n : Fin 8) (code : Nat) (pos : Nat) (s : State)
    (hn : W.here n) : (State.enumFail n code pos s).upTo W = s.upTo W := by
  simp at h
  unfold State.enumFail; simp [h, hn]

@[simp] theorem State.modEnum_upTo {W : Scope} (h : .ring ∈ W.parts) (n : Fin 8) (f : EnumRun → EnumRun) (s : State) (hn : W.here n) :
    (State.modEnum n f s).upTo W = s.upTo W := by
  unfold State.modEnum; simp [h, hn]

@[simp] theorem State.enumStop_upTo {W : Scope} (h : Part.withNotes [.ring, .twin, .out] ⊆ W.parts) (n : Fin 8) (code : Nat) (pos : Nat)
    (s : State) (hn : W.here n) : (State.enumStop n code pos s).upTo W = s.upTo W := by
  simp at h
  unfold State.enumStop; split <;> simp [h, hn]

@[simp] theorem State.sendAssign_upTo {W : Scope} (h : [.ring, .out] ⊆ W.parts) (n : Fin 8) (s : State) (hn : W.here n) :
    (State.sendAssign n s).upTo W = s.upTo W := by
  simp at h
  unfold State.sendAssign; simp [h, hn]

theorem execEnumSilenceEnd_upTo {W : Scope} (h : [.ring, .free, .out] ⊆ W.parts) (n : Fin 8) (s : State) (hn : W.here n) :
    ∃ t, execEnumSilenceEnd n s = .next t ∧ t.upTo W = s.upTo W := by
  simp at h
  refine ⟨_, rfl, ?_⟩
  split <;> simp [h, hn]

@[simp] theorem State.sendSession_upTo {W : Scope} (h : .out ∈ W.parts) (n : Fin 8) (k : Nat) (m : List Byte) (s : State) :
    (State.sendSession n k m s).upTo W = s.upTo W := by
  unfold State.sendSession; simp [h]

@[simp] theorem State.nodeAuthFail_upTo {W : Scope} (h : Part.withNotes [.ring] ⊆ W.parts) (n : Fin 8) (k : Nat) (s : State) (hn : W.here n) :
    (State.nodeAuthFail n k s).upTo W = s.upTo W := by
  simp at h
  unfold State.nodeAuthFail; simp [h, hn]

theorem execIdentityReceived_upTo {W : Scope} (h : Part.withNotes [.ring, .free, .out] ⊆ W.parts) (n : Fin 8) (crcOk : Bool) (ident : BitVec 128)
    (s : State) (hn : W.here n) :
    ∃ t, execIdentityReceived n crcOk ident s = .next t ∧ t.upTo W = s.upTo W := by
  simp at h
  refine ⟨_, rfl, ?_⟩
  dsimp only; (repeat' split) <;> simp [h, hn]

theorem execEnumTimeout_upTo {W : Scope} (h : Part.withNotes [.ring, .twin, .out] ⊆ W.parts) (n : Fin 8) (s : State) (hn : W.here n) :
    ∃ t, execEnumTimeout n s = .next t ∧ t.upTo W = s.upTo W := by
  simp at h
  refine ⟨_, rfl, ?_⟩
  (repeat' split) <;> simp [h, hn]

theorem execSessionDeadline_upTo {W : Scope} (h : Part.withNotes [.ring] ⊆ W.parts) (n : Fin 8) (s : State) (hn : W.here n) :
    ∃ t, execSessionDeadline n s = .next t ∧ t.upTo W = s.upTo W := by
  simp at h
  refine ⟨_, rfl, ?_⟩
  split <;> simp [h, hn]

@[simp] theorem State.sendProbe_upTo {W : Scope} (h : .out ∈ W.parts) (n : Fin 8) (endB : Bool) (s : State) :
    (State.sendProbe n endB s).upTo W = s.upTo W := by
  unfold State.sendProbe; split <;> simp [h]

@[simp] theorem State.stepGo_upTo {W : Scope} (h : [.ring, .out] ⊆ W.parts) (n : Fin 8) (s : State) (hn : W.here n) :
    (State.stepGo n s).upTo W = s.upTo W := by
  simp at h
  unfold State.stepGo; (repeat' split) <;> simp [h, hn]

@[simp] theorem State.nodeStep_upTo {W : Scope} (h : [.ring, .out] ⊆ W.parts) (n : Fin 8) (s : State) (hn : W.here n) :
    (State.nodeStep n s).upTo W = s.upTo W := by
  simp at h
  unfold State.nodeStep; simp [h, hn]

@[simp] theorem State.sendTransit_upTo {W : Scope} (h : [.ring, .out] ⊆ W.parts) (n : Fin 8) (s : State) (hn : W.here n) :
    (State.sendTransit n s).upTo W = s.upTo W := by
  simp at h
  unfold State.sendTransit; simp [h, hn]

theorem execRingSessionFrame_upTo {W : Scope} (h : Part.withNotes [.ring, .out] ⊆ W.parts) (n : Fin 8) (f : SessFrame) (s : State) (hn : W.here n) :
    ∃ t, execRingSessionFrame n f s = .next t ∧ t.upTo W = s.upTo W := by
  simp at h
  refine ⟨_, rfl, ?_⟩
  (repeat' split) <;> simp [h, hn]

@[simp] theorem State.setComp_upTo {W : Scope} (h : Part.withNotes [.ring, .sense, .out] ⊆ W.parts) (n : Fin 8) (k : Fin 24) (s : State)
    (hn : W.here n) : (State.setComp n k s).upTo W = s.upTo W := by
  simp at h
  unfold State.setComp; simp [h, hn]

@[simp] theorem State.enumDone_upTo {W : Scope} (h : Part.withNotes [.img, .ring, .sense, .str, .upd, .out] ⊆ W.parts) (n : Fin 8) (e : EnumRun)
    (s : State) (hn : W.here n) : (State.enumDone n e s).upTo W = s.upTo W := by
  simp at h
  unfold State.enumDone; simp [h, hn]

@[simp] theorem State.ownTables_upTo {W : Scope} (h : Part.withNotes [.img, .ring, .sense, .str, .twin, .upd, .out] ⊆ W.parts) (n : Fin 8)
    (e : EnumRun) (s : State) (hn : W.here n) : (State.ownTables n e s).upTo W = s.upTo W := by
  simp at h
  unfold State.ownTables; simp [h, hn]

@[simp] theorem State.measuredA_upTo {W : Scope} (h : Part.withNotes [.ring, .twin, .out] ⊆ W.parts) (n : Fin 8) (e : EnumRun) (d : Nat)
    (s : State) (hn : W.here n) : (State.measuredA n e d s).upTo W = s.upTo W := by
  simp at h
  unfold State.measuredA; simp [h, hn]

@[simp] theorem State.measuredB_upTo {W : Scope} (h : Part.withNotes [.img, .ring, .sense, .str, .twin, .upd, .out] ⊆ W.parts) (n : Fin 8)
    (e : EnumRun) (d : Nat) (s : State) (hn : W.here n) : (State.measuredB n e d s).upTo W = s.upTo W := by
  simp at h
  unfold State.measuredB; dsimp only; (repeat' split) <;> simp [h, hn]

theorem execProbeReplyReceived_upTo {W : Scope} (h : Part.withNotes [.img, .ring, .sense, .str, .twin, .upd, .out] ⊆ W.parts) (n : Fin 8)
    (crcOk : Bool) (macOk : Bool) (elapsed : Nat) (turn : Nat) (s : State) (hn : W.here n) :
    ∃ t, execProbeReplyReceived n crcOk macOk elapsed turn s = .next t ∧ t.upTo W = s.upTo W := by
  simp at h
  refine ⟨_, rfl, ?_⟩
  (repeat' split) <;> simp [h, hn]

theorem execAssignAtEndB_upTo {W : Scope} (h : Part.withNotes [.ring, .out] ⊆ W.parts) (n : Fin 8) (s : State) (hn : W.here n) :
    ∃ t, execAssignAtEndB n s = .next t ∧ t.upTo W = s.upTo W := by
  simp at h
  refine ⟨_, rfl, ?_⟩
  split <;> simp [h, hn]

theorem execTransitAtEndB_upTo {W : Scope} (h : Part.withNotes [.ring, .twin, .out] ⊆ W.parts) (n : Fin 8) (transit : Nat) (s : State)
    (hn : W.here n) :
    ∃ t, execTransitAtEndB n transit s = .next t ∧ t.upTo W = s.upTo W := by
  simp at h
  refine ⟨_, rfl, ?_⟩
  split <;> simp [h, hn]

@[simp] theorem State.peerGone_upTo {W : Scope} (h : Part.withNotes [.img, .ring, .sense, .str, .upd, .out] ⊆ W.parts) (n : Fin 8) (s : State)
    (hn : W.here n) : (State.peerGone n s).upTo W = s.upTo W := by
  simp at h
  unfold State.peerGone; split <;> simp [h, hn]

theorem execRingLos_upTo {W : Scope} (h : Part.withNotes [.ring] ⊆ W.parts) (n : Fin 8) (endB : Bool) (s : State) (hn : W.here n) :
    ∃ t, execRingLos n endB s = .next t ∧ t.upTo W = s.upTo W := by
  simp at h
  refine ⟨_, rfl, ?_⟩
  simp [h, hn]

theorem execLosSilenceEnd_upTo {W : Scope} (h : Part.withNotes [.ring, .out] ⊆ W.parts) (n : Fin 8) (endB : Bool) (s : State) (hn : W.here n) :
    ∃ t, execLosSilenceEnd n endB s = .next t ∧ t.upTo W = s.upTo W := by
  simp at h
  refine ⟨_, rfl, ?_⟩
  simp [h, hn]

@[simp] theorem State.declareBreak_upTo {W : Scope} (h : Part.withNotes [.ring] ⊆ W.parts) (n : Fin 8) (s : State) (hn : W.here n) :
    (State.declareBreak n s).upTo W = s.upTo W := by
  simp at h
  unfold State.declareBreak; simp [h, hn]

@[simp] theorem State.closeFailed_upTo {W : Scope} (h : Part.withNotes [.ring, .out] ⊆ W.parts) (n : Fin 8) (s : State) (hn : W.here n) :
    (State.closeFailed n s).upTo W = s.upTo W := by
  simp at h
  unfold State.closeFailed; simp [h, hn]

theorem execMissedReturn_upTo {W : Scope} (h : Part.withNotes [.ring, .out] ⊆ W.parts) (n : Fin 8) (s : State) (hn : W.here n) :
    ∃ t, execMissedReturn n s = .next t ∧ t.upTo W = s.upTo W := by
  simp at h
  refine ⟨_, rfl, ?_⟩
  simp [h, hn]

@[simp] theorem State.driftCheck_upTo {W : Scope} (h : .ring ∈ W.parts) (n : Fin 8) (s : State) (hn : W.here n) :
    (State.driftCheck n s).upTo W = s.upTo W := by
  unfold State.driftCheck; simp [h, hn]

theorem execBeaconReturn_upTo {W : Scope} (h : Part.withNotes [.ring, .sense, .out] ⊆ W.parts) (n : Fin 8) (endB : Bool) (transit : Nat)
    (s : State) (hn : W.here n) :
    ∃ t, execBeaconReturn n endB transit s = .next t ∧ t.upTo W = s.upTo W := by
  simp at h
  refine ⟨_, rfl, ?_⟩
  simp [h, hn]

theorem execRingDelayDrift_upTo {W : Scope} (h : [.stamps, .ring, .queue, .ctr] ⊆ W.parts) (n : Fin 8) (s : State) (hn : W.here n) :
    ∃ t, execRingDelayDrift n s = .next t ∧ t.upTo W = s.upTo W := by
  simp at h
  refine ⟨_, rfl, ?_⟩
  simp [h, hn]

@[simp] theorem Ring.close_upTo {W : Scope} (h : Part.withNotes [.ring, .out] ⊆ W.parts) (n : Fin 8) (x : Session) (s : State) (hn : W.here n) :
    (Ring.close n x s).2.upTo W = s.upTo W := by
  simp at h
  unfold Ring.close; simp [h, hn]

theorem execRingClose_upTo {W : Scope} (h : Part.withAnswers [.ring] ⊆ W.parts) (q : Req) (n : Fin 8) (s : State) (hn : W.here n)
    (hi : W.sess q.session) :
    ∃ t, execRingClose q n s = .next t ∧ t.upTo W = s.upTo W := by
  simp at h
  refine ⟨_, rfl, ?_⟩
  simp [h, hn, hi]

@[simp] theorem State.guardRing_upTo {W : Scope} (h : Part.withNotes [.ring, .out] ⊆ W.parts) (n : Fin 8) (s : State) (hn : W.here n) :
    (State.guardRing n s).upTo W = s.upTo W := by
  simp at h
  unfold State.guardRing; dsimp only; split <;> simp [h, hn]

@[simp] theorem State.guardWindow_upTo {W : Scope} (h : Part.withNotes [.clk, .ring, .out] ⊆ W.parts) (s : State) (hn : ∀ n, W.here n) :
    (State.guardWindow s).upTo W = s.upTo W := by
  simp at h
  unfold State.guardWindow; simp [h, hn]

@[simp] theorem State.wrapOne_upTo {W : Scope} (h : Part.withNotes [.ring, .out] ⊆ W.parts) (n : Fin 8) (node : Nat) (s : State) (hn : W.here n) :
    (State.wrapOne n node s).upTo W = s.upTo W := by
  simp at h
  unfold State.wrapOne; simp [h, hn]

@[simp] theorem State.unwrapFail_upTo {W : Scope} (h : Part.withNotes [.ring, .out] ⊆ W.parts) (n : Fin 8) (s : State) (hn : W.here n) :
    (State.unwrapFail n s).upTo W = s.upTo W := by
  simp at h
  unfold State.unwrapFail; simp [h, hn]

@[simp] theorem State.unwrapDone_upTo {W : Scope} (h : Part.withNotes [.ring, .out] ⊆ W.parts) (n : Fin 8) (node : Nat) (s : State)
    (hn : W.here n) : (State.unwrapDone n node s).upTo W = s.upTo W := by
  simp at h
  unfold State.unwrapDone; dsimp only; split <;> simp [h, hn]

@[simp] theorem State.loopReads_upTo {W : Scope} (h : Part.withNotes [.ring, .saf] ⊆ W.parts) (n : Fin 8) (ua : BitVec 16) (s : State)
    (hn : W.here n) : (State.loopReads n ua s).upTo W = s.upTo W := by
  simp at h
  unfold State.loopReads; simp [h, hn]

theorem execFaultLoopStateChange_upTo {W : Scope} (h : Part.withNotes [.ring, .saf] ⊆ W.parts) (n : Fin 8) (current : BitVec 16) (s : State)
    (hn : W.here n) :
    ∃ t, execFaultLoopStateChange n current s = .next t ∧ t.upTo W = s.upTo W := by
  simp at h
  refine ⟨_, rfl, ?_⟩
  simp [h, hn]

theorem execFaultLoopAbnormal_upTo {W : Scope} (h : [.stamps, .ring, .queue, .ctr] ⊆ W.parts) (n : Fin 8) (s : State) (hn : W.here n) :
    ∃ t, execFaultLoopAbnormal n s = .next t ∧ t.upTo W = s.upTo W := by
  simp at h
  refine ⟨_, rfl, ?_⟩
  simp [h, hn]

@[simp] theorem State.fabricTrip_upTo {W : Scope} (h : Part.withAnswers [.sweep, .str, .bank, .est, .saf, .twin, .hist] ⊆ W.parts) (n : Fin 8)
    (input : Nat) (code : Nat) (latch : Fabric → Fabric) (s : State) (hn : W.here n) (hi : ∀ i, W.sess i) :
    (State.fabricTrip n input code latch s).upTo W = s.upTo W := by
  simp at h
  unfold State.fabricTrip; simp [h, hn, hi]

theorem execFaultLoopOpen_upTo {W : Scope} (h : Part.withAnswers [.ring, .sweep, .str, .bank, .est, .saf, .twin, .hist] ⊆ W.parts) (n : Fin 8)
    (current : BitVec 16) (s : State) (hn : W.here n) (hi : ∀ i, W.sess i) :
    ∃ t, execFaultLoopOpen n current s = .next t ∧ t.upTo W = s.upTo W := by
  simp at h
  refine ⟨_, rfl, ?_⟩
  simp [h, hn, hi]

/-! ### Frames of sensing (chapter 04) -/

@[simp] theorem State.modSenseNode_upTo {W : Scope} (h : .sense ∈ W.parts) (n : Fin 8) (k : Fin 24) (f : SenseNode → SenseNode) (s : State)
    (hn : W.here n) : (State.modSenseNode n k f s).upTo W = s.upTo W := by
  unfold State.modSenseNode; simp [h, hn]

@[simp] theorem State.takeSample_upTo {W : Scope} (h : Part.withNotes [.ring] ⊆ W.parts) (n : Fin 8) (k : Fin 24) (f : SampleFrame) (s : State)
    (hn : W.here n) : (State.takeSample n k f s).upTo W = s.upTo W := by
  simp at h
  unfold State.takeSample; simp [h, hn]

@[simp] theorem State.psCell_upTo {W : Scope} (h : Part.withNotes [.sense] ⊆ W.parts) (n : Fin 8) (k : Fin 24) (c : Nat) (s : State)
    (hn : W.here n) : (State.psCell n k c s).upTo W = s.upTo W := by
  simp at h
  unfold State.psCell; dsimp only; split <;> simp [h, hn]

@[simp] theorem State.closeEntry_upTo {W : Scope} (h : Part.withNotes [.ring] ⊆ W.parts) (n : Fin 8) (k : Fin 24) (s : State) (hn : W.here n) :
    (State.closeEntry n k s).upTo W = s.upTo W := by
  simp at h
  unfold State.closeEntry; simp [h, hn]

@[simp] theorem State.ringLoss_upTo {W : Scope} (h : Part.withAnswers [.ring, .sweep, .bank, .est, .twin, .hist] ⊆ W.parts) (n : Fin 8)
    (s : State) (hn : W.here n) (hi : ∀ i, W.sess i) : (State.ringLoss n s).upTo W = s.upTo W := by
  simp at h
  unfold State.ringLoss; simp [h, hn, hi]

@[simp] theorem State.nodeViews_upTo {W : Scope} (h : Part.withNotes [.ring, .saf] ⊆ W.parts) (n : Fin 8) (s : State) (hn : W.here n) :
    (State.nodeViews n s).upTo W = s.upTo W := by
  simp at h
  unfold State.nodeViews; simp [h, hn]

@[simp] theorem State.closeSet_upTo {W : Scope} (h : Part.withAnswers [.ring, .sense, .sweep, .str, .bank, .est, .saf, .twin, .hist] ⊆ W.parts)
    (n : Fin 8) (s : State) (hn : W.here n) (hi : ∀ i, W.sess i) : (State.closeSet n s).upTo W = s.upTo W := by
  simp at h
  unfold State.closeSet
  extract_lets r nodes s1 s2 s3 s4 s5 s6 s7 s8
  split
  · simp [h, hn]
  · have h1 : s1.upTo W = s.upTo W := State.upTo_forEach _ _ _ fun _ _ => by simp [h, hn]
    have h2 : s2.upTo W = s1.upTo W := State.ringLoss_upTo (by simp [h]) n s1 hn hi
    have h3 : s3.upTo W = s2.upTo W := State.upTo_forEach _ _ _ fun _ _ => State.upTo_forEach _ _ _ fun _ _ => by simp [h, hn]
    have h7 : s7.upTo W = s3.upTo W := by simp [s7, s6, s5, s4, h, hn]
    have h8 : s8.upTo W = s7.upTo W := by simp only [s8]; split <;> simp [h, hn]
    calc _ = s8.upTo W := by simp [h, hn]
      _ = s.upTo W := by rw [h8, h7, h3, h2, h1]

@[simp] theorem State.trackLoop_upTo {W : Scope} (h : .sense ∈ W.parts) (n : Fin 8) (s : State) (hn : W.here n) :
    (State.trackLoop n s).upTo W = s.upTo W := by
  unfold State.trackLoop; simp [h, hn]

@[simp] theorem State.trackSplit_upTo {W : Scope} (h : .sense ∈ W.parts) (n : Fin 8) (s : State) (hn : W.here n) :
    (State.trackSplit n s).upTo W = s.upTo W := by
  unfold State.trackSplit; simp [h, hn]

@[simp] theorem State.sendComps_upTo {W : Scope} (h : Part.withNotes [.ring, .sense, .out] ⊆ W.parts) (n : Fin 8) (s : State) (hn : W.here n) :
    (State.sendComps n s).upTo W = s.upTo W := by
  simp at h
  unfold State.sendComps; simp [h, hn]

@[simp] theorem State.alignCheck_upTo {W : Scope} (h : Part.withNotes [.sense] ⊆ W.parts) (n : Fin 8) (s : State) (hn : W.here n) :
    (State.alignCheck n s).upTo W = s.upTo W := by
  simp at h
  unfold State.alignCheck; simp [h, hn]

@[simp] theorem State.track_upTo {W : Scope} (h : Part.withNotes [.ring, .sense, .out] ⊆ W.parts) (n : Fin 8) (s : State) (hn : W.here n) :
    (State.track n s).upTo W = s.upTo W := by
  simp at h
  unfold State.track; simp [h, hn]

theorem execTrackingUpdate_upTo {W : Scope} (h : Part.withNotes [.ring, .sense, .out] ⊆ W.parts) (s : State) (hn : ∀ n, W.here n) :
    ∃ t, execTrackingUpdate s = .next t ∧ t.upTo W = s.upTo W := by
  simp at h
  refine ⟨_, rfl, ?_⟩
  simp [h, hn]

/-! ### Frames of sweeps (chapter 04) -/

@[simp] theorem State.judgePoint_upTo {W : Scope} (h : Part.withAnswers [.sweep, .twin, .hist] ⊆ W.parts) (n : Fin 8) (p : Nat) (s : State)
    (hn : W.here n) (hi : ∀ i, W.sess i) : (State.judgePoint n p s).upTo W = s.upTo W := by
  simp at h
  unfold State.judgePoint; simp [h, hn, hi]

@[simp] theorem State.sweepAck_upTo {W : Scope} (h : Part.withNotes [.ring, .out] ⊆ W.parts) (n : Fin 8) (k : Fin 24) (p : Nat) (s : State)
    (hn : W.here n) : (State.sweepAck n k p s).upTo W = s.upTo W := by
  simp at h
  unfold State.sweepAck; simp [h, hn]

@[simp] theorem State.takeResult_upTo {W : Scope} (h : Part.withNotes [.ring, .sense, .out] ⊆ W.parts) (n : Fin 8) (k : Fin 24) (ext : List Byte)
    (s : State) (hn : W.here n) : (State.takeResult n k ext s).upTo W = s.upTo W := by
  simp at h
  unfold State.takeResult; split <;> simp [h, hn]

@[simp] theorem State.tempFrom_upTo {W : Scope} (h : .est ∈ W.parts) (n : Fin 8) (number : Nat) (z : CellZ) (s : State) :
    (State.tempFrom n number z s).upTo W = s.upTo W := by
  unfold State.tempFrom; dsimp only; (repeat' split) <;> simp [h]

@[simp] theorem State.tempsFrom_upTo {W : Scope} (h : .est ∈ W.parts) (n : Fin 8) (p : Nat) (s : State) :
    (State.tempsFrom n p s).upTo W = s.upTo W := by
  unfold State.tempsFrom; simp [h]

@[simp] theorem State.sweepDone_upTo {W : Scope} (h : Part.withAnswers [.sweep, .bank, .est, .twin, .hist] ⊆ W.parts) (n : Fin 8) (s : State)
    (hn : W.here n) (hi : ∀ i, W.sess i) : (State.sweepDone n s).upTo W = s.upTo W := by
  simp at h
  unfold State.sweepDone; simp [h, hn, hi]

@[simp] theorem State.sweepAdvance_upTo {W : Scope} (h : Part.withAnswers [.sweep, .bank, .est, .twin, .hist] ⊆ W.parts) (n : Fin 8) (s : State)
    (hn : W.here n) (hi : ∀ i, W.sess i) : (State.sweepAdvance n s).upTo W = s.upTo W := by
  simp at h
  unfold State.sweepAdvance; dsimp only; split <;> simp [h, hn, hi]

@[simp] theorem State.settlePoint_upTo {W : Scope} (h : Part.withAnswers [.sweep, .bank, .est, .twin, .hist] ⊆ W.parts) (n : Fin 8) (s : State)
    (hn : W.here n) (hi : ∀ i, W.sess i) : (State.settlePoint n s).upTo W = s.upTo W := by
  simp at h
  unfold State.settlePoint; split <;> simp [h, hn, hi]

theorem execSampleReceived_upTo {W : Scope} (h : Part.withAnswers [.ring, .sense, .sweep, .bank, .est, .twin, .hist] ⊆ W.parts) (n : Fin 8)
    (k : Fin 24) (f : SampleFrame) (s : State) (hn : W.here n) (hi : ∀ i, W.sess i) :
    ∃ t, execSampleReceived n k f s = .next t ∧ t.upTo W = s.upTo W := by
  simp at h
  refine ⟨_, rfl, ?_⟩
  dsimp only; (repeat' split) <;> simp [h, hn, hi]

theorem execCommonSampleInstant_upTo {W : Scope} (h : [.clk, .sweep, .str] ⊆ W.parts) (raw : Vector AlignedRaw 8) (s : State) (hn : ∀ n, W.here n) :
    ∃ t, execCommonSampleInstant raw s = .next t ∧ t.upTo W = s.upTo W := by
  simp at h
  refine ⟨_, rfl, ?_⟩
  simp [h, hn]

/-! ### Frames of the string loop (chapter 05) -/

@[simp] theorem State.closeSum_upTo {W : Scope} (h : .str ∈ W.parts) (n : Fin 8) (s : State) (hn : W.here n) :
    (State.closeSum n s).upTo W = s.upTo W := by
  unfold State.closeSum; simp [h, hn]

@[simp] theorem State.strResult_upTo {W : Scope} (h : .str ∈ W.parts) (n : Fin 8) (c : Nat) (detail : Nat) (s : State) (hn : W.here n) :
    (State.strResult n c detail s).upTo W = s.upTo W := by
  unfold State.strResult; simp [h, hn]

@[simp] theorem State.tuneResult_upTo {W : Scope} (h : Part.withNotes [.str] ⊆ W.parts) (n : Fin 8) (offset : Nat) (c : Nat) (s : State)
    (hn : W.here n) : (State.tuneResult n offset c s).upTo W = s.upTo W := by
  simp at h
  unfold State.tuneResult; simp [h, hn]

/-! ### Frames of string states (chapter 05) -/

@[simp] theorem State.writeStrobes_upTo {W : Scope} (h : [.saf, .out] ⊆ W.parts) (m : BitVec 25) (s : State) :
    (State.writeStrobes m s).upTo W = s.upTo W := by
  simp at h
  unfold State.writeStrobes; simp [h]

@[simp] theorem State.settleStrobes_upTo {W : Scope} (h : Part.withNotes [.saf] ⊆ W.parts) (s : State) :
    (State.settleStrobes s).upTo W = s.upTo W := by
  simp at h
  unfold State.settleStrobes; simp [h]

@[simp] theorem State.prechargeFail_upTo {W : Scope} (h : Part.withAnswers [.sweep, .str, .bank, .est, .saf, .twin, .hist] ⊆ W.parts) (n : Fin 8)
    (s : State) (hn : W.here n) (hi : ∀ i, W.sess i) : (State.prechargeFail n s).upTo W = s.upTo W := by
  simp at h
  unfold State.prechargeFail; simp [h, hn, hi]

@[simp] theorem State.prechargeT0_upTo {W : Scope} (h : Part.withAnswers [.sweep, .str, .bank, .est, .saf, .twin, .hist] ⊆ W.parts) (n : Fin 8)
    (s : State) (hn : W.here n) (hi : ∀ i, W.sess i) : (State.prechargeT0 n s).upTo W = s.upTo W := by
  simp at h
  unfold State.prechargeT0; dsimp only; (repeat' split) <;> simp [h, hn, hi]

/-! ### Frames of protection (chapter 08) -/

@[simp] theorem State.fabricCopies_upTo {W : Scope} (h : Part.withNotes [.saf, .out] ⊆ W.parts) (s : State) :
    (State.fabricCopies s).upTo W = s.upTo W := by
  simp at h
  unfold State.fabricCopies; simp [h]

@[simp] theorem State.adoptThr_upTo {W : Scope} (h : Part.withNotes [.saf, .out] ⊆ W.parts) (s : State) : (State.adoptThr s).upTo W = s.upTo W := by
  simp at h
  unfold State.adoptThr; simp [h]

@[simp] theorem State.strobeAll_upTo {W : Scope} (h : [.saf, .out] ⊆ W.parts) (s : State) : (State.strobeAll s).upTo W = s.upTo W := by
  simp at h
  unfold State.strobeAll; simp [h]

@[simp] theorem State.pcsClose_upTo {W : Scope} (h : [.saf, .out] ⊆ W.parts) (s : State) : (State.pcsClose s).upTo W = s.upTo W := by
  simp at h
  unfold State.pcsClose; simp [h]

@[simp] theorem State.standbyStrobes_upTo {W : Scope} (h : [.saf, .out] ⊆ W.parts) (s : State) : (State.standbyStrobes s).upTo W = s.upTo W := by
  simp at h
  unfold State.standbyStrobes; simp [h]

@[simp] theorem State.grant_upTo {W : Scope} (h : [.saf, .out] ⊆ W.parts) (n : Fin 8) (s : State) : (State.grant n s).upTo W = s.upTo W := by
  simp at h
  unfold State.grant; simp [h]

/-! ### Frames of bank dispatch (chapter 06) -/

@[simp] theorem State.dispRefuse_upTo {W : Scope} (h : Part.answers ⊆ W.parts) (q : Req) (c : Nat) (s : State) (hi : W.sess q.session) :
    (State.dispRefuse q c s).upTo W = s.upTo W := by
  simp at h
  unfold State.dispRefuse; simp [h, hi]

@[simp] theorem State.dispDrop_upTo {W : Scope} (h : .bank ∈ W.parts) (w : DispWait) (s : State) : (State.dispDrop w s).upTo W = s.upTo W := by
  unfold State.dispDrop; simp [h]

@[simp] theorem State.dispAck_upTo {W : Scope} (h : Part.withAnswers [.bank, .jrn] ⊆ W.parts) (w : DispWait) (s : State) (hi : ∀ i, W.sess i) :
    (State.dispAck w s).upTo W = s.upTo W := by
  simp at h
  unfold State.dispAck; dsimp only; (repeat' split) <;> simp [h, hi]

@[simp] theorem State.dispRelease_upTo {W : Scope} (h : Part.withAnswers [.bank, .jrn] ⊆ W.parts) (k : Nat) (s : State) (hi : ∀ i, W.sess i) :
    (State.dispRelease k s).upTo W = s.upTo W := by
  simp at h
  induction k generalizing s with
  | zero => rfl
  | succ k ih => unfold State.dispRelease; (repeat' split) <;> simp [h, hi, ih]

@[simp] theorem State.dispTimeout_upTo {W : Scope} (h : Part.withAnswers [.bank] ⊆ W.parts) (w : DispWait) (s : State) (hi : ∀ i, W.sess i) :
    (State.dispTimeout w s).upTo W = s.upTo W := by
  simp at h
  unfold State.dispTimeout; simp [h, hi]

/-! ### Frames of the estimation (chapter 07) -/

@[simp] theorem State.dropAnchor_upTo {W : Scope} (h : Part.withNotes [.est] ⊆ W.parts) (b : Nat) (s : State) :
    (State.dropAnchor b s).upTo W = s.upTo W := by
  simp at h
  unfold State.dropAnchor; simp [h]

@[simp] theorem State.anchorCheck_upTo {W : Scope} (h : Part.withNotes [.est] ⊆ W.parts) (n : Fin 8) (s : State) :
    (State.anchorCheck n s).upTo W = s.upTo W := by
  simp at h
  unfold State.anchorCheck; simp [h]

@[simp] theorem State.modStrEst_upTo {W : Scope} (h : .est ∈ W.parts) (n : Fin 8) (f : StrEst → StrEst) (s : State) :
    (State.modStrEst n f s).upTo W = s.upTo W := by
  unfold State.modStrEst; simp [h]

@[simp] theorem State.restTrack_upTo {W : Scope} (h : .est ∈ W.parts) (n : Fin 8) (s : State) : (State.restTrack n s).upTo W = s.upTo W := by
  unfold State.restTrack; simp [h]

@[simp] theorem State.keepSet_upTo {W : Scope} (h : [.est, .free] ⊆ W.parts) (s : State) : (State.keepSet s).upTo W = s.upTo W := by
  simp at h
  unfold State.keepSet; simp [h]

@[simp] theorem State.gapSet_upTo {W : Scope} (h : [.twin, .free] ⊆ W.parts) (s : State) : (State.gapSet s).upTo W = s.upTo W := by
  simp at h
  unfold State.gapSet; simp [h]

@[simp] theorem State.estResult_upTo {W : Scope} (h : .est ∈ W.parts) (c : Nat) (s : State) : (State.estResult c s).upTo W = s.upTo W := by
  unfold State.estResult; simp [h]

@[simp] theorem State.modNodeBal_upTo {W : Scope} (h : .est ∈ W.parts) (n : Fin 8) (k : Fin 24) (f : NodeBal → NodeBal) (s : State) :
    (State.modNodeBal n k f s).upTo W = s.upTo W := by
  unfold State.modNodeBal; simp [h]

@[simp] theorem State.balReply_upTo {W : Scope} (h : Part.withNotes [.est] ⊆ W.parts) (n : Fin 8) (k : Fin 24) (partialDone : Bool)
    (p : List Byte) (s : State) : (State.balReply n k partialDone p s).upTo W = s.upTo W := by
  simp at h
  unfold State.balReply; simp [h]

@[simp] theorem State.balFail_upTo {W : Scope} (h : Part.withNotes [.est] ⊆ W.parts) (n : Fin 8) (k : Fin 24) (s : State) :
    (State.balFail n k s).upTo W = s.upTo W := by
  simp at h
  unfold State.balFail; simp [h]

/-! ### Frames of the twin (chapter 09) -/

@[simp] theorem State.rekeyT0_upTo {W : Scope} (h : .twin ∈ W.parts) (s : State) : (State.rekeyT0 s).upTo W = s.upTo W := by
  unfold State.rekeyT0; simp [h]

@[simp] theorem State.refuseOutstanding_upTo {W : Scope}
    (h : Part.withAnswers [.img, .ring, .sense, .str, .bank, .hist, .ffr, .host, .jrn, .upd] ⊆ W.parts) (s : State) (hn : ∀ n, W.here n)
    (hi : ∀ i, W.sess i) : (State.refuseOutstanding s).upTo W = s.upTo W := by
  simp at h
  unfold State.refuseOutstanding; simp [h, hn, hi]

@[simp] theorem State.pairT0_upTo {W : Scope}
    (h : Part.withAnswers [.img, .ring, .sense, .str, .bank, .twin, .hist, .ffr, .host, .jrn, .upd] ⊆ W.parts) (s : State) (hn : ∀ n, W.here n)
    (hi : ∀ i, W.sess i) : (State.pairT0 s).upTo W = s.upTo W := by
  simp at h
  unfold State.pairT0; simp [h, hn, hi]

@[simp] theorem State.handT0_upTo {W : Scope} (h : .twin ∈ W.parts) (s : State) : (State.handT0 s).upTo W = s.upTo W := by
  unfold State.handT0; simp [h]

/-! ### Frames of plant logic (chapter 15) -/

@[simp] theorem State.scanT0_upTo {W : Scope} (h : .scan ∈ W.parts) (s : State) : (State.scanT0 s).upTo W = s.upTo W := by
  unfold State.scanT0; simp [h]

/-! ### Frames of power and heat (chapter 16) -/

@[simp] theorem State.bandSettings_upTo {W : Scope} (h : .thm ∈ W.parts) (s : State) : (State.bandSettings s).upTo W = s.upTo W := by
  unfold State.bandSettings; simp [h]

@[simp] theorem State.bandWindow_upTo {W : Scope} (h : Part.withNotes [.ring, .thm, .out] ⊆ W.parts) (s : State) (hn : ∀ n, W.here n) :
    (State.bandWindow s).upTo W = s.upTo W := by
  simp at h
  unfold State.bandWindow; split <;> simp [h, hn]

/-! ### Frames of firmware (chapter 17) -/

@[simp] theorem State.updResult_upTo {W : Scope} (h : .upd ∈ W.parts) (c : Nat) (d : Nat) (s : State) :
    (State.updResult c d s).upTo W = s.upTo W := by
  unfold State.updResult; simp [h]

@[simp] theorem State.partFail_upTo {W : Scope} (h : Part.withNotes [.upd] ⊆ W.parts) (c : Nat) (d : Nat) (s : State) :
    (State.partFail c d s).upTo W = s.upTo W := by
  simp at h
  unfold State.partFail; simp [h]

@[simp] theorem State.partSend_upTo {W : Scope} (h : Part.withNotes [.ring, .upd, .out] ⊆ W.parts) (x : PartXfer) (opcode : BitVec 16)
    (payload : List Byte) (s : State) (hn : W.here x.str) : (State.partSend x opcode payload s).upTo W = s.upTo W := by
  simp at h
  unfold State.partSend; split <;> simp [h, hn]

@[simp] theorem State.partBlock_upTo {W : Scope} (h : Part.withNotes [.ring, .upd, .out] ⊆ W.parts) (x : PartXfer) (data : List Byte) (s : State)
    (hn : W.here x.str) : (State.partBlock x data s).upTo W = s.upTo W := by
  simp at h
  unfold State.partBlock; simp [h, hn]

@[simp] theorem State.partNext_upTo {W : Scope} (h : Part.withNotes [.ring, .upd, .out] ⊆ W.parts) (x : PartXfer) (s : State) (hn : W.here x.str) :
    (State.partNext x s).upTo W = s.upTo W := by
  simp at h
  unfold State.partNext; split <;> simp [h, hn]

@[simp] theorem State.partActivated_upTo {W : Scope} (h : [.str, .upd] ⊆ W.parts) (x : PartXfer) (s : State) (hn : W.here x.str) :
    (State.partActivated x s).upTo W = s.upTo W := by
  simp at h
  unfold State.partActivated; dsimp only; (repeat' split) <;> simp [h, hn]

@[simp] theorem State.partReply_upTo {W : Scope} (h : Part.withNotes [.ring, .str, .upd, .out] ⊆ W.parts) (gd : Bool) (n : Fin 8) (pos : Nat)
    (opcode : BitVec 16) (ok : Bool) (s : State) (hn : W.here n) : (State.partReply gd n pos opcode ok s).upTo W = s.upTo W := by
  simp at h
  unfold State.partReply; split
  · rfl
  · split
    · rfl
    · rename_i x _ hx
      have hs : x.str = n := by simp at hx; exact hx.1.1.2
      simp [h, hs, hn]

@[simp] theorem State.partRead_upTo {W : Scope} (h : Part.withNotes [.upd] ⊆ W.parts) (gd : Bool) (n : Fin 8) (pos : Nat) (i : Option PartInfo)
    (s : State) : (State.partRead gd n pos i s).upTo W = s.upTo W := by
  simp at h
  unfold State.partRead; dsimp only; split <;> simp [h]

/-! ### Frames of held register writes (chapter 12) -/

@[simp] theorem State.applyReg_upTo {W : Scope} (h : [.str, .est] ⊆ W.parts) (a : Nat) (v : Word) (s : State) (hn : ∀ n, W.here n) :
    (State.applyReg a v s).upTo W = s.upTo W := by
  simp at h
  unfold State.applyReg; split <;> simp [h, hn]

@[simp] theorem State.applyHeld_upTo {W : Scope} (h : Part.withNotes [.str, .est] ⊆ W.parts) (a : Nat) (v : Word) (s : State) (hn : ∀ n, W.here n) :
    (State.applyHeld a v s).upTo W = s.upTo W := by
  simp at h
  unfold State.applyHeld; split <;> simp [h, hn]

@[simp] theorem State.applyRegs_upTo {W : Scope} (h : Part.withNotes [.str, .est, .host] ⊆ W.parts) (s : State) (hn : ∀ n, W.here n) :
    (State.applyRegs s).upTo W = s.upTo W := by
  simp at h
  unfold State.applyRegs; simp [h, hn]

/-! ### Frames of the bank cycle (chapter 01) -/

@[simp] theorem State.setSegment_upTo {W : Scope} (h : Part.withAnswers [.twin, .hist] ⊆ W.parts) (s : State) (hi : ∀ i, W.sess i) :
    (State.setSegment s).upTo W = s.upTo W := by
  simp at h
  unfold State.setSegment; simp [h, hi]

@[simp] theorem State.cellSet_upTo {W : Scope} (h : Part.withAnswers [.twin, .hist] ⊆ W.parts) (s : State) (hi : ∀ i, W.sess i) :
    (State.cellSet s).upTo W = s.upTo W := by
  simp at h
  unfold State.cellSet; simp [h, hi]

@[simp] theorem State.gapHistory_upTo {W : Scope} (h : .twin ∈ W.parts) (s : State) : (State.gapHistory s).upTo W = s.upTo W := by
  unfold State.gapHistory; simp [h]

@[simp] theorem State.tempSet_upTo {W : Scope} (h : Part.withAnswers [.twin, .hist] ⊆ W.parts) (s : State) (hi : ∀ i, W.sess i) :
    (State.tempSet s).upTo W = s.upTo W := by
  simp at h
  unfold State.tempSet; simp [h, hi]

@[simp] theorem State.stringSum_upTo {W : Scope} (h : Part.withAnswers [.twin, .hist] ⊆ W.parts) (s : State) (hi : ∀ i, W.sess i) :
    (State.stringSum s).upTo W = s.upTo W := by
  simp at h
  unfold State.stringSum; simp [h, hi]

@[simp] theorem State.estSummary_upTo {W : Scope} (h : Part.withAnswers [.twin, .hist] ⊆ W.parts) (s : State) (hi : ∀ i, W.sess i) :
    (State.estSummary s).upTo W = s.upTo W := by
  simp at h
  unfold State.estSummary; simp [h, hi]

@[simp] theorem State.nextT0_upTo {W : Scope} (h : .clk ∈ W.parts) (s : State) : (State.nextT0 s).upTo W = s.upTo W := by
  unfold State.nextT0; simp [h]

@[simp] theorem State.splitEntry_upTo {W : Scope} (h : [.ring, .sense] ⊆ W.parts) (n : Fin 8) (s : State) (hn : W.here n) :
    (State.splitEntry n s).upTo W = s.upTo W := by
  simp at h
  unfold State.splitEntry; simp [h, hn]

@[simp] theorem State.sendBeacon_upTo {W : Scope} (h : .out ∈ W.parts) (n : Fin 8) (endB : Bool) (s : State) :
    (State.sendBeacon n endB s).upTo W = s.upTo W := by
  unfold State.sendBeacon; simp [h]

@[simp] theorem State.launchBeacon_upTo {W : Scope} (h : [.ring, .out] ⊆ W.parts) (n : Fin 8) (s : State) (hn : W.here n) :
    (State.launchBeacon n s).upTo W = s.upTo W := by
  simp at h
  unfold State.launchBeacon; simp [h, hn]

@[simp] theorem State.ringT0_upTo {W : Scope} (h : [.ring, .sense, .out] ⊆ W.parts) (n : Fin 8) (s : State) (hn : W.here n) :
    (State.ringT0 n s).upTo W = s.upTo W := by
  simp at h
  unfold State.ringT0; simp [h, hn]

@[simp] theorem State.stringT0_upTo {W : Scope} (h : Part.withAnswers [.sweep, .str, .bank, .est, .saf, .twin, .hist] ⊆ W.parts) (n : Fin 8)
    (s : State) (hn : W.here n) (hi : ∀ i, W.sess i) : (State.stringT0 n s).upTo W = s.upTo W := by
  simp at h
  unfold State.stringT0; simp [h, hn, hi]

@[simp] theorem State.stretchT0_upTo {W : Scope} (h : Part.withNotes [.est, .pwr] ⊆ W.parts) (s : State) : (State.stretchT0 s).upTo W = s.upTo W := by
  simp at h
  unfold State.stretchT0; simp [h]

@[simp] theorem State.estimationT0_upTo {W : Scope} (h : Part.withNotes [.est, .pwr] ⊆ W.parts) (s : State) :
    (State.estimationT0 s).upTo W = s.upTo W := by
  simp at h
  unfold State.estimationT0; simp [h]

@[simp] theorem State.rawSecond_upTo {W : Scope} (h : .hist ∈ W.parts) (s : State) : (State.rawSecond s).upTo W = s.upTo W := by
  unfold State.rawSecond; simp [h]

@[simp] theorem State.gdDeadlines_upTo {W : Scope} (h : Part.withNotes [.str] ⊆ W.parts) (s : State) (hn : ∀ n, W.here n) :
    (State.gdDeadlines s).upTo W = s.upTo W := by
  simp at h
  unfold State.gdDeadlines; simp [h, hn]

@[simp] theorem State.bankT0_upTo {W : Scope}
    (h : Part.withAnswers [.clk, .img, .ring, .sense, .sweep, .str, .bank, .est, .saf, .twin, .hist, .ffr, .host, .jrn, .upd, .scan, .pwr] ⊆ W.parts)
    (s : State) (hn : ∀ n, W.here n) (hi : ∀ i, W.sess i) : (State.bankT0 s).upTo W = s.upTo W := by
  simp at h
  unfold State.bankT0; simp [h, hn, hi]

theorem execBankCycleStart_upTo {W : Scope}
    (h : Part.withAnswers [.clk, .img, .ring, .sense, .sweep, .str, .bank, .est, .saf, .twin, .hist, .ffr, .host, .jrn, .upd, .scan, .pwr] ⊆ W.parts)
    (s : State) (hn : ∀ n, W.here n) (hi : ∀ i, W.sess i) :
    ∃ t, execBankCycleStart s = .next t ∧ t.upTo W = s.upTo W := by
  simp at h
  refine ⟨_, rfl, ?_⟩
  simp [h, hn, hi]

@[simp] theorem State.loopSet_upTo {W : Scope} (h : .saf ∈ W.parts) (s : State) : (State.loopSet s).upTo W = s.upTo W := by
  unfold State.loopSet; simp [h]

theorem execGuardWindow_upTo {W : Scope} (h : Part.withNotes [.clk, .ring, .est, .thm, .out] ⊆ W.parts) (s : State) (hn : ∀ n, W.here n) :
    ∃ t, execGuardWindow s = .next t ∧ t.upTo W = s.upTo W := by
  simp at h
  refine ⟨_, rfl, ?_⟩
  simp [h, hn]

/-! ### Frames of exchanges with nodes (chapter 03) -/

@[simp] theorem State.compWaits_upTo {W : Scope} (h : .sense ∈ W.parts) (n : Fin 8) (s : State) (hn : W.here n) :
    (State.compWaits n s).upTo W = s.upTo W := by
  unfold State.compWaits; simp [h, hn]

@[simp] theorem State.compFail_upTo {W : Scope} (h : .sense ∈ W.parts) (n : Fin 8) (k : Fin 24) (s : State) (hn : W.here n) :
    (State.compFail n k s).upTo W = s.upTo W := by
  unfold State.compFail; simp [h, hn]

@[simp] theorem State.nodeInfo_upTo {W : Scope} (h : Part.withNotes [.est, .upd] ⊆ W.parts) (n : Fin 8) (k : Fin 24) (i : PartInfo) (s : State) :
    (State.nodeInfo n k i s).upTo W = s.upTo W := by
  simp at h
  unfold State.nodeInfo; simp [h]

@[simp] theorem State.replied_upTo {W : Scope} (h : Part.withNotes [.ring, .sense, .str, .est, .upd, .out] ⊆ W.parts) (n : Fin 8) (k : Fin 24)
    (sent : List Byte) (f : ReplyFrame) (s : State) (hn : W.here n) : (State.replied n k sent f s).upTo W = s.upTo W := by
  simp at h
  unfold State.replied; split <;> simp [h, hn]

@[simp] theorem State.unreplied_upTo {W : Scope} (h : Part.withNotes [.ring, .sense, .est, .upd, .out] ⊆ W.parts) (n : Fin 8) (k : Fin 24)
    (opcode : BitVec 16) (s : State) (hn : W.here n) : (State.unreplied n k opcode s).upTo W = s.upTo W := by
  simp at h
  unfold State.unreplied; (repeat' split) <;> simp [h, hn]

@[simp] theorem State.exchangeFail_upTo {W : Scope} (h : Part.withNotes [.ring, .sense, .est, .upd, .out] ⊆ W.parts) (n : Fin 8) (endB : Bool)
    (s : State) (hn : W.here n) : (State.exchangeFail n endB s).upTo W = s.upTo W := by
  simp at h
  unfold State.exchangeFail; dsimp only; (repeat' split) <;> simp [h, hn]

theorem execExchangeTimeout_upTo {W : Scope} (h : Part.withNotes [.clk, .ring, .sense, .est, .upd, .out] ⊆ W.parts) (n : Fin 8) (endB : Bool)
    (s : State) (hn : W.here n) :
    ∃ t, execExchangeTimeout n endB s = .next t ∧ t.upTo W = s.upTo W := by
  simp at h
  refine ⟨_, rfl, ?_⟩
  simp [h, hn]

@[simp] theorem State.ctrError_upTo {W : Scope} (h : Part.withNotes [.ring, .sense, .est, .upd, .out] ⊆ W.parts) (n : Fin 8) (endB : Bool)
    (k : Fin 24) (last : BitVec 8) (s : State) (hn : W.here n) : (State.ctrError n endB k last s).upTo W = s.upTo W := by
  simp at h
  unfold State.ctrError; simp [h, hn]

@[simp] theorem State.goodReply_upTo {W : Scope} (h : Part.withNotes [.ring, .sense, .str, .est, .upd, .out] ⊆ W.parts) (n : Fin 8) (endB : Bool)
    (k : Fin 24) (f : ReplyFrame) (s : State) (hn : W.here n) : (State.goodReply n endB k f s).upTo W = s.upTo W := by
  simp at h
  unfold State.goodReply; split <;> simp [h, hn]

theorem execReplyReceived_upTo {W : Scope} (h : Part.withNotes [.clk, .ring, .sense, .str, .est, .upd, .out] ⊆ W.parts) (n : Fin 8) (endB : Bool)
    (f : ReplyFrame) (s : State) (hn : W.here n) :
    ∃ t, execReplyReceived n endB f s = .next t ∧ t.upTo W = s.upTo W := by
  simp at h
  refine ⟨_, rfl, ?_⟩
  split <;> simp [h, hn]

@[simp] theorem State.dropIsolated_upTo {W : Scope} (h : Part.withNotes [.ring, .sense, .est, .upd, .out] ⊆ W.parts) (n : Fin 8) (s : State)
    (hn : W.here n) : (State.dropIsolated n s).upTo W = s.upTo W := by
  simp at h
  unfold State.dropIsolated; dsimp only; split
  · rfl
  · rw [State.upTo_forEach _ _ _ fun c u => ?_]
    · simp [h, hn]
    · split <;> simp [h, hn]

@[simp] theorem State.stampSet_upTo {W : Scope} (h : [.stamps, .ring, .sweep] ⊆ W.parts) (n : Fin 8) (s : State) (hn : W.here n) :
    (State.stampSet n s).upTo W = s.upTo W := by
  simp at h
  unfold State.stampSet; simp [h, hn]

theorem execSetClose_upTo {W : Scope}
    (h : Part.withAnswers [.clk, .ring, .sense, .sweep, .str, .bank, .est, .saf, .twin, .hist, .upd, .free] ⊆ W.parts) (noSig : BitVec 16) (s : State)
    (hn : ∀ n, W.here n) (hi : ∀ i, W.sess i) :
    ∃ t, execSetClose noSig s = .next t ∧ t.upTo W = s.upTo W := by
  simp at h
  refine ⟨_, rfl, ?_⟩
  simp [h, hn, hi]

/-! ### Frames as an obligation puts them -/

/-- The scope of a command without a string: whole parts. -/
abbrev Scope.whole (l : List Part) : Scope := ⟨l, fun _ => True, fun _ => True⟩

/-- The scope of a command of string `n`. -/
abbrev Scope.ofString (n : Fin 8) (l : List Part) : Scope := ⟨l, (· = n), fun _ => True⟩

/-- The scope of a host request on string `n`. -/
abbrev Scope.ofRequest (q : Req) (n : Fin 8) (l : List Part) : Scope := ⟨l, (· = n), (· = q.session)⟩

theorem State.Within.ring {W : Scope} {s t : State} (h : s.Within W t) (m : Fin 8) (hm : ¬ W.here m) : t.ring[m] = s.ring[m] :=
  (h.here m hm).1
theorem State.Within.sense {W : Scope} {s t : State} (h : s.Within W t) (m : Fin 8) (hm : ¬ W.here m) : t.sense[m] = s.sense[m] :=
  (h.here m hm).2.1
theorem State.Within.sweep {W : Scope} {s t : State} (h : s.Within W t) (m : Fin 8) (hm : ¬ W.here m) : t.sweep[m] = s.sweep[m] :=
  (h.here m hm).2.2.1
theorem State.Within.str {W : Scope} {s t : State} (h : s.Within W t) (m : Fin 8) (hm : ¬ W.here m) : t.str[m] = s.str[m] :=
  (h.here m hm).2.2.2.1

/-- The frame of a command, put as an obligation puts it. -/
theorem State.frame_of_upTo {W : Scope} {s : State} {o : Host.Outcome State Fault Refusal} {P : State → Prop}
    (h : ∃ t, o = .next t ∧ t.upTo W = s.upTo W) (hP : ∀ t, s.Within W t → P t) : ∃ t, o = .next t ∧ P t := by
  obtain ⟨t, ht, hw⟩ := h
  exact ⟨t, ht, hP t (State.within_of_upTo hw)⟩

end Sys2Proof.Machine

open Sys2Proof Sys2Proof.Machine

/-- Settles O52: every meaning of chapter 03 and of the bank cycle is a chain of operations of which each has its frame. -/
theorem ringFrames : Obligations.RingFrames :=
  ⟨fun s => State.frame_of_upTo (execBankCycleStart_upTo (W := .whole _) (List.Subset.refl _) s (fun _ => trivial) fun _ => trivial) fun _ w => w.parts,
    fun s raw => State.frame_of_upTo (execCommonSampleInstant_upTo (W := .whole _) (List.Subset.refl _) raw s fun _ => trivial) fun _ w => w.parts,
    fun s noSig => State.frame_of_upTo (execSetClose_upTo (W := .whole _) (List.Subset.refl _) noSig s (fun _ => trivial) fun _ => trivial) fun _ w => w.parts,
    fun s => State.frame_of_upTo (execGuardWindow_upTo (W := .whole _) (List.Subset.refl _) s fun _ => trivial) fun _ w => w.parts,
    fun s q n => State.frame_of_upTo (execRingEnumerate_upTo (W := .ofRequest q n _) (List.Subset.refl _) q n s rfl rfl) fun _ w => ⟨w.parts, w.ring, w.sess⟩,
    fun s q n => State.frame_of_upTo (execRingClose_upTo (W := .ofRequest q n _) (List.Subset.refl _) q n s rfl rfl) fun _ w => ⟨w.parts, w.ring, w.sess⟩,
    fun s n => State.frame_of_upTo (execEnumSilenceEnd_upTo (W := .ofString n _) (List.Subset.refl _) n s rfl) fun _ w => ⟨w.parts, w.ring⟩,
    fun s n crcOk ident => State.frame_of_upTo (execIdentityReceived_upTo (W := .ofString n _) (List.Subset.refl _) n crcOk ident s rfl) fun _ w => ⟨w.parts, w.ring⟩,
    fun s n => State.frame_of_upTo (execEnumTimeout_upTo (W := .ofString n _) (List.Subset.refl _) n s rfl) fun _ w => ⟨w.parts, w.ring⟩,
    fun s n => State.frame_of_upTo (execAssignAtEndB_upTo (W := .ofString n _) (List.Subset.refl _) n s rfl) fun _ w => ⟨w.parts, w.ring⟩,
    fun s n transit => State.frame_of_upTo (execTransitAtEndB_upTo (W := .ofString n _) (List.Subset.refl _) n transit s rfl) fun _ w => ⟨w.parts, w.ring⟩,
    fun s n f => State.frame_of_upTo (execRingSessionFrame_upTo (W := .ofString n _) (List.Subset.refl _) n f s rfl) fun _ w => ⟨w.parts, w.ring⟩,
    fun s n => State.frame_of_upTo (execSessionDeadline_upTo (W := .ofString n _) (List.Subset.refl _) n s rfl) fun _ w => ⟨w.parts, w.ring⟩,
    fun s n crcOk macOk elapsed turn => State.frame_of_upTo (execProbeReplyReceived_upTo (W := .ofString n _) (List.Subset.refl _) n crcOk macOk elapsed turn s rfl) fun _ w => ⟨w.parts, w.ring, w.sense, w.str⟩,
    fun s n k f => State.frame_of_upTo (execSampleReceived_upTo (W := .ofString n _) (List.Subset.refl _) n k f s rfl fun _ => trivial) fun _ w => ⟨w.parts, w.ring, w.sense, w.sweep⟩,
    fun s n endB f => State.frame_of_upTo (execReplyReceived_upTo (W := .ofString n _) (List.Subset.refl _) n endB f s rfl) fun _ w => ⟨w.parts, w.ring, w.sense, w.str⟩,
    fun s n c => State.frame_of_upTo (execRingCommandRequest_upTo (W := .ofString n _) (List.Subset.refl _) n c s rfl) fun _ w => ⟨w.parts, w.ring⟩,
    fun s n => State.frame_of_upTo (execCommandWindowOpen_upTo (W := .ofString n _) (List.Subset.refl _) n s rfl) fun _ w => ⟨w.parts, w.ring⟩,
    fun s n endB => State.frame_of_upTo (execExchangeTimeout_upTo (W := .ofString n _) (List.Subset.refl _) n endB s rfl) fun _ w => ⟨w.parts, w.ring, w.sense⟩,
    fun s n endB => State.frame_of_upTo (execRingLos_upTo (W := .ofString n _) (List.Subset.refl _) n endB s rfl) fun _ w => ⟨w.parts, w.ring⟩,
    fun s n endB => State.frame_of_upTo (execLosSilenceEnd_upTo (W := .ofString n _) (List.Subset.refl _) n endB s rfl) fun _ w => ⟨w.parts, w.ring⟩,
    fun s n endB transit => State.frame_of_upTo (execBeaconReturn_upTo (W := .ofString n _) (List.Subset.refl _) n endB transit s rfl) fun _ w => ⟨w.parts, w.ring, w.sense⟩,
    fun s n => State.frame_of_upTo (execMissedReturn_upTo (W := .ofString n _) (List.Subset.refl _) n s rfl) fun _ w => ⟨w.parts, w.ring⟩,
    fun s n => State.frame_of_upTo (execRingDelayDrift_upTo (W := .ofString n _) (List.Subset.refl _) n s rfl) fun _ w => ⟨w.parts, w.ring⟩,
    fun s n current => State.frame_of_upTo (execFaultLoopOpen_upTo (W := .ofString n _) (List.Subset.refl _) n current s rfl fun _ => trivial) fun _ w => ⟨w.parts, w.ring, w.sweep, w.str⟩,
    fun s n => State.frame_of_upTo (execFaultLoopAbnormal_upTo (W := .ofString n _) (List.Subset.refl _) n s rfl) fun _ w => ⟨w.parts, w.ring⟩,
    fun s n current => State.frame_of_upTo (execFaultLoopStateChange_upTo (W := .ofString n _) (List.Subset.refl _) n current s rfl) fun _ w => ⟨w.parts, w.ring⟩,
    fun s => State.frame_of_upTo (execTrackingUpdate_upTo (W := .whole _) (List.Subset.refl _) s fun _ => trivial) fun _ w => w.parts⟩

end

section
/-! PROOF. A frame that leaves one part alone. -/

-- One task at a time: the check limits memory, and each task has a stack of its own.
set_option Elab.async false

namespace Sys2Proof.Machine

/-- Every part of the state. -/
def Part.all : List Part :=
  [.clk, .stamps, .ident, .img, .ring, .sense, .sweep, .str, .rc, .bank, .est, .saf, .twin, .trust, .hist, .ffr, .queue, .host, .sessions, .jrn, .ptp,
    .can, .hk, .ctr, .ctrSat, .jctr, .upd, .io, .scan, .pwr, .thm, .hw, .free, .out, .pending]

@[simp] theorem Part.mem_all (p : Part) : p ∈ Part.all := by cases p <;> decide

/-- What leaves one part of the state as it was. -/
def Scope.off (p : Part) : Scope := ⟨Part.all.filter (· ≠ p), fun _ => True, fun _ => True⟩

@[simp] theorem Scope.mem_off (p q : Part) : q ∈ (Scope.off p).parts ↔ q ≠ p := by simp [Scope.off]
@[simp] theorem Scope.off_here (p : Part) (n : Fin 8) : (Scope.off p).here n := trivial
@[simp] theorem Scope.off_sess (p : Part) (i : Nat) : (Scope.off p).sess i := trivial

theorem State.same_of_upTo {p : Part} {s t : State} (h : t.upTo (.off p) = s.upTo (.off p)) : p.same s t :=
  (State.within_of_upTo h).parts p (by simp)

end Sys2Proof.Machine

end

section
/-! PROOF. The step and the state after reset. -/

-- One task at a time: the check limits memory, and each task has a stack of its own.
set_option Elab.async false

namespace Sys2Proof.Machine

/-- Every command answers a next state. -/
theorem exec_next (c : Instr) (s : State) : ∃ t, exec c s = .next t := by
  cases c <;> exact ⟨_, rfl⟩

/-- The part of a correction that one tick absorbs: at most 0.002 ns, in the correction's direction, and no more than it (01 R19). -/
theorem clampI_slew (r : Int) : -8589934 ≤ clampI (-8589934) 8589934 r ∧ clampI (-8589934) 8589934 r ≤ 8589934 ∧
    (0 ≤ r → 0 ≤ clampI (-8589934) 8589934 r ∧ clampI (-8589934) 8589934 r ≤ r) ∧
    (r ≤ 0 → r ≤ clampI (-8589934) 8589934 r ∧ clampI (-8589934) 8589934 r ≤ 0) := by
  unfold clampI
  omega

/-- A step takes the command at the front of the queue. -/
theorem step_cons {c : Instr} {rest : List Instr} {s : State} (h : s.pending = c :: rest) : step s = exec c (s.setPending rest) := by
  simp only [step, h]

/-- With nothing pending a tick passes. -/
theorem step_nil {s : State} (h : s.pending = []) : step s = .next (s.modClk Clock.tick) := by
  simp only [step, h]

/-! ### The elements of the state after reset -/

@[simp] theorem State.reset_ring (n : Fin 8) : State.reset.ring[n] = {} := Vector.getElem_replicate n.isLt
@[simp] theorem State.reset_sweep (n : Fin 8) : State.reset.sweep[n] = {} := Vector.getElem_replicate n.isLt
@[simp] theorem State.reset_str (n : Fin 8) : State.reset.str[n] = {} := Vector.getElem_replicate n.isLt
@[simp] theorem RingPort.init_nodes (k : Fin 24) : ({} : RingPort).nodes[k] = {} := Vector.getElem_replicate k.isLt
@[simp] theorem State.reset_meas (i : Fin 8) : State.reset.trust.meas[i] = 0 := Vector.getElem_replicate i.isLt

end Sys2Proof.Machine

open Sys2Proof Sys2Proof.Machine

/-- Settles O1: the step is a case split on the queue; a tick absorbs the correction held to 0.002 ns. -/
theorem stepRunsTheFrontCommand : Obligations.StepRunsTheFrontCommand := by
  refine ⟨fun c rest s h => step_cons h, fun s h => ?_, exec_next⟩
  obtain ⟨hlo, hhi, hpos, hneg⟩ := clampI_slew s.clk.slewRem
  exact ⟨clampI (-8589934) 8589934 s.clk.slewRem, hlo, hhi, hpos, hneg, step_nil h⟩

/-- Settles O2: the state after reset is a literal, and the statement reads its fields. -/
theorem resetState : Obligations.ResetState := by
  refine ⟨⟨rfl, rfl, State.reset_meas, rfl, rfl⟩, fun n => ?_, rfl, rfl, fun a => rfl, rfl, rfl, rfl⟩
  rw [State.reset_ring, State.reset_sweep, State.reset_str]
  exact ⟨rfl, rfl, rfl, fun k => by rw [RingPort.init_nodes]⟩

end

section
/-! PROOF. What a start keeps. -/

-- One task at a time: the check limits memory, and each task has a stack of its own.
set_option Elab.async false

namespace Sys2Proof.Machine

/-! ### Frames of history (chapter 11) -/

@[simp] theorem State.resumeHistory_upTo {W : Scope} (h : [.hist, .out] ⊆ W.parts) (takeover : Bool) (s : State) :
    (State.resumeHistory takeover s).upTo W = s.upTo W := by
  simp at h
  unfold State.resumeHistory; simp [h]

@[simp] theorem State.reserveCopy_upTo {W : Scope} (h : .out ∈ W.parts) (copyB : Bool) (s : State) :
    (State.reserveCopy copyB s).upTo W = s.upTo W := by
  unfold State.reserveCopy; simp [h]

@[simp] theorem State.reserveShelf_upTo {W : Scope} (h : .out ∈ W.parts) (s : State) : (State.reserveShelf s).upTo W = s.upTo W := by
  unfold State.reserveShelf; simp [h]

/-! ### Frames of gate-driver sessions and the trust core (chapter 10) -/

@[simp] theorem State.gdHello_upTo {W : Scope} (h : [.str, .free, .out] ⊆ W.parts) (n : Fin 8) (p : Fin 6) (s : State) (hn : W.here n) :
    (State.gdHello n p s).upTo W = s.upTo W := by
  simp at h
  unfold State.gdHello; simp [h, hn]

@[simp] theorem State.gdSessions_upTo {W : Scope} (h : [.str, .trust, .free, .out] ⊆ W.parts) (n : Fin 8) (s : State) (hn : W.here n) :
    (State.gdSessions n s).upTo W = s.upTo W := by
  simp at h
  unfold State.gdSessions; simp [h, hn]

/-! ### Frames of the structure image (chapter 02) -/

@[simp] theorem State.profileCrcsWith_upTo {W : Scope} (h : .saf ∈ W.parts) (bad : Option (Bool × List Byte)) (s : State) :
    (State.profileCrcsWith bad s).upTo W = s.upTo W := by
  unfold State.profileCrcsWith; split <;> simp [h]

@[simp] theorem State.profileCrcs_upTo {W : Scope} (h : .saf ∈ W.parts) (s : State) : (State.profileCrcs s).upTo W = s.upTo W := by
  unfold State.profileCrcs; simp [h]

@[simp] theorem State.selectProfile_upTo {W : Scope} (h : [.img, .saf] ⊆ W.parts) (p : BitVec 4) (s : State) :
    (State.selectProfile p s).upTo W = s.upTo W := by
  simp at h
  unfold State.selectProfile; simp [h]

/-! ### Frames of the estimation (chapter 07) -/

@[simp] theorem State.bootCell_upTo {W : Scope} (h : Part.withNotes [.est] ⊆ W.parts) (n : Fin 8) (k : Fin 24) (c : Nat) (s : State) :
    (State.bootCell n k c s).upTo W = s.upTo W := by
  simp at h
  unfold State.bootCell; simp [h]

@[simp] theorem State.bootCells_upTo {W : Scope} (h : Part.withNotes [.est] ⊆ W.parts) (s : State) : (State.bootCells s).upTo W = s.upTo W := by
  simp at h
  unfold State.bootCells
  have hc (n : Fin 8) (k : Fin 24 × Nat) (u : State) : (u.bootCell n k.1 k.2).upTo W = u.upTo W := by simp [h]
  have hs (n : Fin 8) (l : List (Fin 24 × Nat)) (u : State) : (State.forEach l (fun k => State.bootCell n k.1 k.2) u).upTo W = u.upTo W := by
    simp [hc]
  simp [h, hs]

/-! ### Frames of the twin (chapter 09) -/

@[simp] theorem State.formTrack_upTo {W : Scope} (h : .twin ∈ W.parts) (s : State) : (State.formTrack s).upTo W = s.upTo W := by
  unfold State.formTrack; simp [h]

/-! ### Frames of field IO (chapter 14) -/

@[simp] theorem State.modAo_upTo {W : Scope} (h : .io ∈ W.parts) (i : Fin 8) (f : AnaOut → AnaOut) (s : State) :
    (State.modAo i f s).upTo W = s.upTo W := by
  unfold State.modAo; simp [h]

@[simp] theorem State.aoActivate_upTo {W : Scope} (h : .io ∈ W.parts) (s : State) : (State.aoActivate s).upTo W = s.upTo W := by
  unfold State.aoActivate; simp [h]

/-! ### Frames of commits (chapter 02) -/

@[simp] theorem State.settingsCommit_upTo {W : Scope} (h : .ptp ∈ W.parts) (s : State) : (State.settingsCommit s).upTo W = s.upTo W := by
  unfold State.settingsCommit; simp [h]

/-! ### Frames of the start of the module (chapters 10 and 17) -/

@[simp] theorem State.measure_upTo {W : Scope} (h : .trust ∈ W.parts) (k : Fin 8) (d : BitVec 384) (s : State) :
    (State.measure k d s).upTo W = s.upTo W := by
  unfold State.measure; simp [h]

@[simp] theorem State.runBank_upTo {W : Scope} (h : [.ident, .trust, .upd] ⊆ W.parts) (b : Bool) (s : State) :
    (State.runBank b s).upTo W = s.upTo W := by
  simp at h
  unfold State.runBank; simp [h]

@[simp] theorem State.bootRecord_upTo {W : Scope} (h : Part.withNotes [.trust, .upd] ⊆ W.parts) (i : ResetIn) (s : State) :
    (State.bootRecord i s).upTo W = s.upTo W := by
  simp at h
  unfold State.bootRecord; simp [h]

@[simp] theorem State.bootDecided_upTo {W : Scope} (h : [.img, .jrn] ⊆ W.parts) (s : State) : (State.bootDecided s).upTo W = s.upTo W := by
  simp at h
  unfold State.bootDecided; split <;> simp [h]

@[simp] theorem State.checkFail_upTo {W : Scope} (h : Part.notes ⊆ W.parts) (check : Nat) (slot : Nat) (s : State) :
    (State.checkFail check slot s).upTo W = s.upTo W := by
  simp at h
  unfold State.checkFail; simp [h]

@[simp] theorem State.bootCurrent_upTo {W : Scope} (h : Part.withNotes [.img] ⊆ W.parts) (s : State) : (State.bootCurrent s).upTo W = s.upTo W := by
  simp at h
  unfold State.bootCurrent; simp [h]

@[simp] theorem State.bootStaged_upTo {W : Scope} (h : Part.withNotes [.img] ⊆ W.parts) (s : State) : (State.bootStaged s).upTo W = s.upTo W := by
  simp at h
  unfold State.bootStaged; simp [h]

@[simp] theorem State.bootPlan_upTo {W : Scope} (h : [.img, .jrn] ⊆ W.parts) (s : State) : (State.bootPlan s).upTo W = s.upTo W := by
  simp at h
  unfold State.bootPlan; simp [h]

@[simp] theorem State.bootCfg_upTo {W : Scope} (h : [.img, .trust] ⊆ W.parts) (s : State) : (State.bootCfg s).upTo W = s.upTo W := by
  simp at h
  unfold State.bootCfg; simp [h]

@[simp] theorem State.bootSwitches_upTo {W : Scope} (h : Part.withNotes [.img, .saf] ⊆ W.parts) (i : ResetIn) (s : State) :
    (State.bootSwitches i s).upTo W = s.upTo W := by
  simp at h
  unfold State.bootSwitches; simp [h]

@[simp] theorem State.bootImage_upTo {W : Scope} (h : Part.withNotes [.img, .saf, .trust, .jrn, .ptp] ⊆ W.parts) (i : ResetIn) (s : State) :
    (State.bootImage i s).upTo W = s.upTo W := by
  simp at h
  unfold State.bootImage; simp [h]

@[simp] theorem State.bootStrings_upTo {W : Scope} (h : [.str, .rc, .trust, .free, .out] ⊆ W.parts) (i : ResetIn) (s : State) (hn : ∀ n, W.here n) :
    (State.bootStrings i s).upTo W = s.upTo W := by
  simp at h
  unfold State.bootStrings; simp [h, hn]

@[simp] theorem State.bootInputs_upTo {W : Scope} (h : [.ring, .saf] ⊆ W.parts) (i : ResetIn) (s : State) (hn : ∀ n, W.here n) :
    (State.bootInputs i s).upTo W = s.upTo W := by
  simp at h
  unfold State.bootInputs; simp [h, hn]

@[simp] theorem State.bootTwin_upTo {W : Scope} (h : .twin ∈ W.parts) (i : ResetIn) (s : State) : (State.bootTwin i s).upTo W = s.upTo W := by
  unfold State.bootTwin; simp [h]

@[simp] theorem State.bootHistory_upTo {W : Scope} (h : [.hist, .out] ⊆ W.parts) (i : ResetIn) (s : State) :
    (State.bootHistory i s).upTo W = s.upTo W := by
  simp at h
  unfold State.bootHistory; simp [h]

@[simp] theorem State.bootScan_upTo {W : Scope} (h : .scan ∈ W.parts) (s : State) : (State.bootScan s).upTo W = s.upTo W := by
  unfold State.bootScan; simp [h]

@[simp] theorem State.bootHw_upTo {W : Scope} (h : [.host, .sessions, .upd, .io, .hw] ⊆ W.parts) (i : ResetIn) (s : State) (hi : ∀ i, W.sess i) :
    (State.bootHw i s).upTo W = s.upTo W := by
  simp at h
  unfold State.bootHw; simp [h, hi, State.modHost_upTo_sessions]

@[simp] theorem State.bootTamper_upTo {W : Scope} (h : Part.notes ⊆ W.parts) (s : State) : (State.bootTamper s).upTo W = s.upTo W := by
  simp at h
  unfold State.bootTamper; simp [h]

@[simp] theorem State.bootBank_upTo {W : Scope} (h : Part.withNotes [.bank] ⊆ W.parts) (s : State) : (State.bootBank s).upTo W = s.upTo W := by
  simp at h
  unfold State.bootBank; simp [h]

@[simp] theorem State.bootRole_upTo {W : Scope} (h : Part.notes ⊆ W.parts) (s : State) : (State.bootRole s).upTo W = s.upTo W := by
  simp at h
  unfold State.bootRole; simp [h]

end Sys2Proof.Machine

end

section
/-! PROOF. What a start keeps. -/

-- One task at a time: the check limits memory, and each task has a stack of its own.
set_option Elab.async false

namespace Sys2Proof.Machine

/-! ### What lasts through a start -/

/-- What a start keeps of the journal, the history write state, the firmware banks, the trust store and the queue, and what it leaves at its
reset value of the clock, the bank, the sweeps, the CAN ports and the nodes' keys (01 Table 1.8). The fields that a start may change (the plan's,
the lapse that is due) stand at one value. -/
structure Lasting where
  jrn : Journal
  hist : HistNv
  bank0 : FwInfo
  bank1 : FwInfo
  nv : TrustNv
  pending : List Instr
  tscValid : Bool
  bank : Bank
  sweep : Vector Sweep 8
  can : Vector CanPort 4
  keys : Vector (Vector (Option Nat) 24) 8

def State.lasting (s : State) : Lasting :=
  { jrn := { s.jrn with stepsDone := 0, planOpen := false, planPend := false, decided := none }, hist := s.hist.nv, bank0 := s.upd.bank0,
    bank1 := s.upd.bank1, nv := s.trust.nv, pending := s.pending, tscValid := s.clk.tscValid, bank := { s.bank with lapseDue := false },
    sweep := s.sweep, can := s.can, keys := s.ring.map fun r => r.nodes.map fun e => e.key }

/-- The parts that hold nothing of what lasts. -/
def Scope.passing : Scope :=
  .whole (Part.withAnswers [.ident, .img, .sense, .str, .rc, .est, .saf, .twin, .ffr, .host, .ptp, .hk, .jctr, .io, .scan, .pwr, .thm, .hw, .free])

theorem State.lasting_of_upTo {s t : State} (h : t.upTo .passing = s.upTo .passing) : t.lasting = s.lasting := by
  have hp (p : Part) (hn : p ∉ Scope.passing.parts) : p.same s t := (State.within_of_upTo h).parts p hn
  have hclk : { t.clk with lastStamp := s.clk.lastStamp } = s.clk := hp .clk (by simp [Scope.passing])
  have hring : t.ring = s.ring := hp .ring (by simp [Scope.passing])
  have hsweep : t.sweep = s.sweep := hp .sweep (by simp [Scope.passing])
  have hbank : t.bank = s.bank := hp .bank (by simp [Scope.passing])
  have htrust : t.trust = s.trust := hp .trust (by simp [Scope.passing])
  have hhist : t.hist = s.hist := hp .hist (by simp [Scope.passing])
  have hjrn : t.jrn = s.jrn := hp .jrn (by simp [Scope.passing])
  have hcan : t.can = s.can := hp .can (by simp [Scope.passing])
  have hupd : t.upd = s.upd := hp .upd (by simp [Scope.passing])
  have hpending : t.pending = s.pending := hp .pending (by simp [Scope.passing])
  have hvalid : t.clk.tscValid = s.clk.tscValid := (congrArg Clock.tscValid hclk : _)
  simp only [State.lasting, hring, hsweep, hbank, htrust, hhist, hjrn, hcan, hupd, hpending, hvalid]

theorem State.emit_lasting (c n : Nat) (b : List Int) (s : State) : (s.emit c n b).lasting = s.lasting :=
  State.lasting_of_upTo (by simp [Scope.passing])

theorem State.bump_lasting (a : Nat) (s : State) : (s.bump a).lasting = s.lasting :=
  State.lasting_of_upTo (by simp [Scope.passing])

theorem State.when_lasting {c : Bool} {f : State → State} {s : State} (h : (f s).lasting = s.lasting) : (s.when c f).lasting = s.lasting := by
  unfold State.when
  split
  · exact h
  · rfl

@[simp] theorem State.modHw_lasting (s : State) (f : Hw → Hw) : (s.modHw f).lasting = s.lasting := rfl
@[simp] theorem State.modHost_lasting (s : State) (f : HostIf → HostIf) : (s.modHost f).lasting = s.lasting := rfl
@[simp] theorem State.modIo_lasting (s : State) (f : Io → Io) : (s.modIo f).lasting = s.lasting := rfl

theorem State.modTrust_lasting {s : State} {f : Trust → Trust} (h : (f s.trust).nv = s.trust.nv) : (s.modTrust f).lasting = s.lasting := by
  simp only [State.lasting, State.modTrust, h]

theorem State.modHist_lasting {s : State} {f : Hist → Hist} (h : (f s.hist).nv = s.hist.nv) : (s.modHist f).lasting = s.lasting := by
  simp only [State.lasting, State.modHist, h]

theorem State.modUpd_lasting {s : State} {f : Upd → Upd} (h0 : (f s.upd).bank0 = s.upd.bank0) (h1 : (f s.upd).bank1 = s.upd.bank1) :
    (s.modUpd f).lasting = s.lasting := by
  simp only [State.lasting, State.modUpd, h0, h1]

theorem State.measure_lasting (k : Fin 8) (d : BitVec 384) (s : State) : (s.measure k d).lasting = s.lasting := rfl

theorem State.runBank_lasting (b : Bool) (s : State) : (s.runBank b).lasting = s.lasting := by
  unfold State.runBank
  rw [State.forEach_keeps State.lasting _ _ _ fun k u => State.measure_lasting k _ u, State.when_lasting rfl]
  rfl

theorem State.bootRecord_lasting (i : ResetIn) (s : State) : (s.bootRecord i).lasting = s.lasting := by
  unfold State.bootRecord; dsimp only; split
  · rw [State.emit_lasting]; rfl
  · rw [State.when_lasting (by rw [State.emit_lasting, State.bump_lasting])]; rfl

theorem State.bootDecided_lasting (s : State) : s.bootDecided.lasting = s.lasting := by
  unfold State.bootDecided; split <;> rfl

theorem State.bootPlan_lasting (s : State) : s.bootPlan.lasting = s.lasting := rfl

theorem State.bootCfg_lasting (s : State) : s.bootCfg.lasting = s.lasting := by
  unfold State.bootCfg State.when; split <;> rfl

theorem State.bootImage_lasting (i : ResetIn) (s : State) : (s.bootImage i).lasting = s.lasting := by
  unfold State.bootImage
  calc _ = (s.bootDecided.bootCurrent.bootStaged.bootPlan.bootCfg).lasting := State.lasting_of_upTo (by simp [Scope.passing])
    _ = (s.bootDecided.bootCurrent.bootStaged).lasting := by rw [State.bootCfg_lasting, State.bootPlan_lasting]
    _ = s.bootDecided.lasting := State.lasting_of_upTo (by simp [Scope.passing])
    _ = s.lasting := s.bootDecided_lasting

theorem State.bootInputs_lasting (i : ResetIn) (s : State) : (s.bootInputs i).lasting = s.lasting := by
  have hk : (s.bootInputs i).ring.map (fun r => r.nodes.map fun e => e.key) = s.ring.map fun r => r.nodes.map fun e => e.key := by
    ext; simp [State.bootInputs]
  unfold State.lasting
  rw [hk]
  rfl

theorem State.gdSessions_lasting (n : Fin 8) (s : State) : (s.gdSessions n).lasting = s.lasting := by
  unfold State.gdSessions
  rw [State.modTrust_lasting rfl]
  exact State.lasting_of_upTo (by simp [Scope.passing])

theorem State.bootStrings_lasting (i : ResetIn) (s : State) : (s.bootStrings i).lasting = s.lasting := by
  unfold State.bootStrings
  exact (State.when_lasting (State.forEach_keeps State.lasting _ _ _ State.gdSessions_lasting)).trans rfl

theorem State.bootFfr_lasting (i : ResetIn) (s : State) : (s.bootFfr i).lasting = s.lasting := by
  unfold State.bootFfr; (repeat' split)
  · rfl
  · rfl
  · rw [State.emit_lasting, State.bump_lasting]; rfl
  · rfl

theorem State.resumeHistory_lasting (b : Bool) (s : State) : (s.resumeHistory b).lasting = s.lasting := rfl

theorem State.reserveShelf_lasting (s : State) : s.reserveShelf.lasting = s.lasting :=
  State.lasting_of_upTo (by simp [Scope.passing])

theorem State.bootHistory_lasting (i : ResetIn) (s : State) : (s.bootHistory i).lasting = s.lasting := by
  unfold State.bootHistory
  extract_lets id s1 s2 h s3 s4
  have h3 : s3.lasting = s.lasting := by rw [State.modHist_lasting rfl, State.modHist_lasting rfl, State.modHist_lasting rfl]
  have h4 : s4.lasting = s.lasting := (State.reserveShelf_lasting s3).trans h3
  split
  · exact (State.when_lasting rfl).trans h3
  · split
    · exact h4
    · exact (State.when_lasting (State.resumeHistory_lasting false s4)).trans h4

theorem State.bootHw_lasting (i : ResetIn) (s : State) : (s.bootHw i).lasting = s.lasting := by
  unfold State.bootHw
  extract_lets s1 s2
  rw [State.lasting_of_upTo (State.aoActivate_upTo (by simp [Scope.passing]) _), State.modIo_lasting, State.modHost_lasting,
    State.modUpd_lasting rfl rfl, State.modHw_lasting]

theorem State.bootBank_lasting (s : State) : s.bootBank.lasting = s.lasting := by
  unfold State.bootBank; rw [State.emit_lasting]; rfl

theorem State.bootRun_lasting (i : ResetIn) (b : Bool) (s : State) : (s.bootRun i b).lasting = s.lasting := by
  unfold State.bootRun
  extract_lets s1 s2
  have h1 : s1.lasting = s.lasting := by rw [State.bootImage_lasting, State.bootRecord_lasting, State.runBank_lasting]
  have ht : ((s1.bootInputs i).bootTwin i).lasting = (s1.bootInputs i).lasting := State.lasting_of_upTo (by simp [Scope.passing])
  have h2 : s2.lasting = s1.lasting := by rw [State.bootStrings_lasting, ht, State.bootInputs_lasting]
  have hc (u : State) : u.bootCells.lasting = u.lasting := State.lasting_of_upTo (by simp [Scope.passing])
  have hs (u : State) : u.bootScan.lasting = u.lasting := State.lasting_of_upTo (by simp [Scope.passing])
  have hr (u : State) : u.bootTamper.bootRole.lasting = u.lasting := State.lasting_of_upTo (by simp [Scope.passing])
  rw [State.emit_lasting, State.bootBank_lasting, hr, State.bootHw_lasting, hs, State.bootHistory_lasting, State.bootFfr_lasting, hc, h2, h1]

/-! ### The first-fault records -/

theorem State.ffrNv_of_upTo {s t : State} (h : t.upTo (.off .ffr) = s.upTo (.off .ffr)) : t.ffr.nv = s.ffr.nv := by
  have hp : Part.ffr.same s t := State.same_of_upTo h
  exact (congrArg Ffr.nv hp : _)

/-- A start erases at most a record without COMMIT (11 R310). -/
theorem State.mem_bootFfr (i : ResetIn) (s : State) {e : FfrRec} (he : e ∈ s.ffr.nv.recs) (hc : e.committed = true) :
    e ∈ (s.bootFfr i).ffr.nv.recs := by
  unfold State.bootFfr
  split
  · exact he
  · rename_i r t hr
    rw [hr] at he
    have hmem (hn : ¬ r.committed = true) : e ∈ t := (List.mem_cons.1 he).resolve_left fun h => hn (h ▸ hc)
    split
    · rw [hr]; exact he
    · rename_i hn
      split
      · rw [State.ffrNv_of_upTo (State.emit_upTo (by simp) _ _ _ _), State.ffrNv_of_upTo (State.bump_upTo (by simp) _ _)]
        exact hmem hn
      · exact List.mem_cons_of_mem _ (hmem hn)

theorem State.mem_bootRun (i : ResetIn) (b : Bool) (s : State) {e : FfrRec} (he : e ∈ s.ffr.nv.recs) (hc : e.committed = true) :
    e ∈ (s.bootRun i b).ffr.nv.recs := by
  unfold State.bootRun
  extract_lets s1 s2
  have h2 : s2.bootCells.ffr.nv = s.ffr.nv := State.ffrNv_of_upTo (by simp [s2, s1])
  rw [State.ffrNv_of_upTo (s := s2.bootCells.bootFfr i) (by simp)]
  exact State.mem_bootFfr i _ (h2 ▸ he) hc

/-! ### The start -/

/-- What a start leaves of a module whose state before it was `s`, before any bank runs: what a reset keeps, with the trust store unwrapped where
the self-check passed. -/
def State.started (i : ResetIn) (s : State) : State :=
  (((s.kept i).bootClock i).measure 0 (Config.componentDigest 0 0)).when i.selfOk State.bootTrust

theorem State.kept_lasting (i : ResetIn) (s : State) :
    (s.kept i).lasting = { State.reset.lasting with jrn := s.lasting.jrn, hist := s.hist.nv, bank0 := s.upd.bank0, bank1 := s.upd.bank1, nv := s.trust.nv, pending := s.pending } := by
  unfold State.kept
  cases i.power <;> rfl

/-- The trust store unwrapped keeps the lock, COUNTER, the report sequence and the security version, and with its root key the roots and keys. -/
theorem State.bootTrust_nv (s : State) : s.bootTrust.trust.nv.lock = s.trust.nv.lock ∧ s.bootTrust.trust.nv.tokenCtr = s.trust.nv.tokenCtr ∧
    s.bootTrust.trust.nv.reportSeq = s.trust.nv.reportSeq ∧ s.bootTrust.trust.nv.secVersion = s.trust.nv.secVersion ∧
    (s.trust.nv.trk = true → s.bootTrust.trust.nv.roots = s.trust.nv.roots ∧ s.bootTrust.trust.nv.keys = s.trust.nv.keys) := by
  cases h : s.trust.nv.trk <;> simp [State.bootTrust, TrustNv.keyless, h]

/-- A start runs a bank, or stops in BOOT_HALT with the fabric armed. -/
theorem State.powerOn_cases (i : ResetIn) (s : State) : (∃ b, s.powerOn i = (s.started i).bootRun i b) ∨
    s.powerOn i = (((s.started i).modTrust fun t => { t with bootHalt := true }).modSaf fun t => { t with fab := { t.fab with armed := true } }).bootHw i := by
  cases h : (s.started i).startBank i with
  | some b => exact .inl ⟨b, by unfold State.started at h ⊢; simp only [State.powerOn, h]⟩
  | none => exact .inr (by unfold State.started at h ⊢; simp only [State.powerOn, h])

theorem State.powerOn_lasting (i : ResetIn) (s : State) : (s.powerOn i).lasting = (s.started i).lasting := by
  obtain ⟨b, h⟩ | h := State.powerOn_cases i s
  · rw [h, State.bootRun_lasting]
  · rw [h, State.bootHw_lasting]; rfl

theorem State.mem_powerOn (i : ResetIn) (s : State) {e : FfrRec} (he : e ∈ s.ffr.nv.recs) (hc : e.committed = true) :
    e ∈ (s.powerOn i).ffr.nv.recs := by
  have hs : (s.started i).ffr.nv = s.ffr.nv := by
    unfold State.started State.kept
    cases i.power <;> cases i.selfOk <;> rfl
  rw [← hs] at he
  obtain ⟨b, h⟩ | h := State.powerOn_cases i s
  · exact h ▸ State.mem_bootRun _ _ _ he hc
  · rw [h, State.ffrNv_of_upTo (State.bootHw_upTo (by simp) _ _ fun _ => trivial)]
    exact he

/-- The trust store at a start: the lock, COUNTER, the report sequence and the security version stay, and with the root key the roots and keys. -/
theorem State.started_nv (i : ResetIn) (s : State) : (s.started i).trust.nv.lock = s.trust.nv.lock ∧
    (s.started i).trust.nv.tokenCtr = s.trust.nv.tokenCtr ∧ (s.started i).trust.nv.reportSeq = s.trust.nv.reportSeq ∧
    (s.started i).trust.nv.secVersion = s.trust.nv.secVersion ∧
    (s.trust.nv.trk = true → (s.started i).trust.nv.roots = s.trust.nv.roots ∧ (s.started i).trust.nv.keys = s.trust.nv.keys) := by
  have hk : (((s.kept i).bootClock i).measure 0 (Config.componentDigest 0 0)).trust.nv = s.trust.nv := congrArg Lasting.nv (s.kept_lasting i)
  unfold State.started State.when
  split
  · have := State.bootTrust_nv (((s.kept i).bootClock i).measure 0 (Config.componentDigest 0 0))
    rwa [hk] at this
  · rw [hk]; exact ⟨rfl, rfl, rfl, rfl, fun _ => ⟨rfl, rfl⟩⟩

/-- What lasts of a start, but for the trust store. -/
theorem State.started_lasting (i : ResetIn) (s : State) : (s.started i).lasting =
    { State.reset.lasting with jrn := s.lasting.jrn, hist := s.hist.nv, bank0 := s.upd.bank0, bank1 := s.upd.bank1, nv := (s.started i).trust.nv, pending := s.pending } := by
  have h : (s.started i).lasting = { (s.kept i).lasting with nv := (s.started i).trust.nv } := by
    unfold State.started
    cases i.selfOk <;> rfl
  rw [h, State.kept_lasting]

/-- No node has a session key at reset. -/
theorem State.key_of_lasting {s : State} (h : s.lasting.keys = State.reset.lasting.keys) (n : Fin 8) (k : Fin 24) : s.ring[n].nodes[k].key = none := by
  have hn (u : State) : (u.lasting.keys[n])[k] = u.ring[n].nodes[k].key := by simp [State.lasting]
  rw [← hn, h, hn, State.reset_ring, RingPort.init_nodes]

/-- A bank that differs at most in the lapse that is due. -/
theorem Bank.eq_of_due {b r : Bank} (h : { b with lapseDue := false } = { r with lapseDue := false }) : b = { r with lapseDue := b.lapseDue } :=
  congrArg (fun x : Bank => { x with lapseDue := b.lapseDue }) h

/-- A journal that differs at most in the plan's fields. -/
theorem Journal.eq_of_plan {j k : Journal}
    (h : { j with stepsDone := 0, planOpen := false, planPend := false, decided := none } = { k with stepsDone := 0, planOpen := false, planPend := false, decided := none }) :
    { j with stepsDone := k.stepsDone, planOpen := k.planOpen, planPend := k.planPend, decided := k.decided } = k :=
  congrArg (fun x : Journal => { x with stepsDone := k.stepsDone, planOpen := k.planOpen, planPend := k.planPend, decided := k.decided }) h

end Sys2Proof.Machine

open Sys2Proof Sys2Proof.Machine

/-- Settles O10: every stage of a start keeps what lasts; the recorder alone gives up a record, and that one has no COMMIT. -/
theorem resetKeeps : Obligations.ResetKeeps := by
  refine ⟨fun s r hs => ⟨s.powerOn r, ?_, ?_⟩, fun s r hs => ⟨s, ?_, rfl⟩⟩
  · show execPowerOnReset r s = _
    simp [execPowerOnReset, hs]
  · have h : (s.powerOn r).lasting = _ := (State.powerOn_lasting r s).trans (State.started_lasting r s)
    have hj : { (s.powerOn r).jrn with stepsDone := 0, planOpen := false, planPend := false, decided := none } = s.lasting.jrn := congrArg Lasting.jrn h
    have hb : { (s.powerOn r).bank with lapseDue := false } = { State.reset.bank with lapseDue := false } := congrArg Lasting.bank h
    have hnv : (s.powerOn r).trust.nv = (s.started r).trust.nv := congrArg Lasting.nv h
    obtain ⟨hlock, hctr, hseq, hver, hkeys⟩ := State.started_nv r s
    rw [← hnv] at hlock hctr hseq hver hkeys
    refine ⟨?_, ?_, ?_, ?_, hkeys, hlock, hctr, hseq, hver, fun e he hc => State.mem_powerOn r s he hc, ?_, ?_, ?_, ?_, ?_, ?_⟩
    · exact Journal.eq_of_plan hj
    · exact congrArg Lasting.hist h
    · exact congrArg Lasting.bank0 h
    · exact congrArg Lasting.bank1 h
    · exact congrArg Lasting.pending h
    · exact congrArg Lasting.tscValid h
    · exact Bank.eq_of_due hb
    · exact congrArg Lasting.sweep h
    · exact congrArg Lasting.can h
    · exact State.key_of_lasting (s := s.powerOn r) (congrArg Lasting.keys h :)
  · show execPowerOnReset r s = _
    simp [execPowerOnReset, hs]

end

section
/-! PROOF. The fixed instants of a bank cycle. -/

-- One task at a time: the check limits memory, and each task has a stack of its own.
set_option Elab.async false

namespace Sys2Proof.Machine

/-! ### Loops over the strings -/

/-- What leaves the string `n` and the part `p` as they were. -/
def Scope.others (n : Fin 8) (p : Part) : Scope := ⟨(Scope.off p).parts, (· ≠ n), fun _ => True⟩

@[simp] theorem Scope.mem_others (n : Fin 8) (p q : Part) : q ∈ (Scope.others n p).parts ↔ q ≠ p := Scope.mem_off p q
@[simp] theorem Scope.others_here (n : Fin 8) (p : Part) (m : Fin 8) : (Scope.others n p).here m ↔ m ≠ n := Iff.rfl
@[simp] theorem Scope.others_sess (n : Fin 8) (p : Part) (i : Nat) : (Scope.others n p).sess i := trivial

theorem State.sameAt_of_upTo {n : Fin 8} {p : Part} {s t : State} (h : t.upTo (.others n p) = s.upTo (.others n p)) : State.sameAt n s t :=
  (State.within_of_upTo h).here n fun hn => hn rfl

theorem mem_strings (n : Fin 8) : n ∈ strings := by revert n; decide
theorem strings_nodup : strings.Nodup := by decide

/-- A loop over the strings is, for the string `n`, its own turn: the turns before it and those after it leave what is held for `n`. -/
theorem State.forEach_turn {W : Scope} {n : Fin 8} {f : Fin 8 → State → State} (h : ∀ m u, m ≠ n → (f m u).upTo W = u.upTo W) (s : State) :
    ∃ u, u.upTo W = s.upTo W ∧ (State.forEach strings f s).upTo W = (f n u).upTo W := by
  obtain ⟨l, r, hl⟩ := List.append_of_mem (mem_strings n)
  have hd : (l ++ n :: r).Nodup := hl ▸ strings_nodup
  have hn : n ∉ l ++ r := (List.nodup_middle.1 hd |> List.nodup_cons.1).1
  have keeps (k : List (Fin 8)) (hk : n ∉ k) (u : State) : (State.forEach k f u).upTo W = u.upTo W := by
    induction k generalizing u with
    | nil => rfl
    | cons m k ih =>
      obtain ⟨hm, hk⟩ := not_or.1 (mt List.mem_cons.2 hk)
      exact (ih hk (f m u)).trans (h m u (Ne.symm hm))
  obtain ⟨hl', hr'⟩ := not_or.1 (mt List.mem_append.2 hn)
  refine ⟨State.forEach l f s, keeps l hl' s, ?_⟩
  have : State.forEach strings f s = State.forEach r f (f n (State.forEach l f s)) := by
    rw [hl]; simp only [State.forEach, List.foldl_append, List.foldl_cons]
  rw [this, keeps r hr']

/-! ### Views of the Ring ports -/

/-- The same view of every port. -/
def State.rings {α : Type} (g : RingPort → α) (s : State) : Vector α 8 := s.ring.map g

section
variable {α : Type} {g : RingPort → α} {s t : State}

theorem State.rings_get (h : t.rings g = s.rings g) (n : Fin 8) : g t.ring[n] = g s.ring[n] := by
  have := congrArg (fun v : Vector α 8 => v[n]) h
  simpa [State.rings] using this

/-- What leaves the ports as they were. -/
theorem State.rings_of_upTo (h : t.upTo (.off .ring) = s.upTo (.off .ring)) : t.rings g = s.rings g := by
  have hr : t.ring = s.ring := State.same_of_upTo h
  rw [State.rings, hr, State.rings]

theorem State.rings_modRing {n : Fin 8} {f : RingPort → RingPort} (h : ∀ r, g (f r) = g r) : (s.modRing n f).rings g = s.rings g := by
  ext i hi
  simp only [State.rings, Vector.getElem_map, State.modRing_ring, Vec.upd_get]
  split
  · exact h _
  · rfl

theorem State.rings_when {c : Bool} {f : State → State} (h : (f s).rings g = s.rings g) : (s.when c f).rings g = s.rings g := by
  unfold State.when
  split
  · exact h
  · rfl

theorem State.rings_ite_snd {β : Type} {c : Prop} [Decidable c] {a b : β × State} (ha : a.2.rings g = s.rings g) (hb : b.2.rings g = s.rings g) :
    (if c then a else b).2.rings g = s.rings g := by
  split
  · exact ha
  · exact hb

theorem State.bump_rings (a : Nat) : (s.bump a).rings g = s.rings g := State.rings_of_upTo (by simp)
theorem State.emit_rings (c n : Nat) (b : List Int) : (s.emit c n b).rings g = s.rings g := State.rings_of_upTo (by simp)

end

/-- A port without its command exchanges, their results and the steps of a CLOSE (03 R84, R93). -/
def RingPort.quiet (r : RingPort) : RingPort :=
  { r with queue := [], outA := none, outB := none, cmdEndA := 0, cmdEndB := 0, resCode := 0, resDetail := 0, closeStep := .none, closeDone := 0, nodes := r.nodes.map fun e => { e with ctr := 0 } }

theorem RingPort.quiet_nodes {r : RingPort} {k : Fin 24} {f : NodeEntry → NodeEntry} (h : ∀ e, { f e with ctr := 0 } = { e with ctr := 0 }) :
    RingPort.quiet { r with nodes := Vec.upd r.nodes k f } = r.quiet := by
  have : (Vec.upd r.nodes k f).map (fun e => { e with ctr := 0 }) = r.nodes.map fun e => { e with ctr := 0 } := by
    ext1 i hi
    simp only [Vector.getElem_map, Vec.upd_get]
    split
    · exact h _
    · rfl
  simp only [RingPort.quiet, this]

/-- A view that does not see the exchanges. -/
theorem State.rings_of_quiet {α : Type} {g : RingPort → α} {s t : State} (hg : ∀ r : RingPort, g r.quiet = g r)
    (h : t.rings RingPort.quiet = s.rings RingPort.quiet) : t.rings g = s.rings g := by
  ext1 i hi
  have := State.rings_get h ⟨i, hi⟩
  simp only [State.rings, Vector.getElem_map]
  exact (hg _).symm.trans ((congrArg g this).trans (hg _))

theorem State.ringResult_quiet (n : Fin 8) (c d : Nat) (s : State) : (s.ringResult n c d).rings RingPort.quiet = s.rings RingPort.quiet :=
  State.rings_modRing fun _ => rfl

theorem State.launch_quiet (n : Fin 8) (b : Bool) (c : RingCmdReq) (s : State) : (s.launch n b c).rings RingPort.quiet = s.rings RingPort.quiet := by
  unfold State.launch
  split
  · rfl
  · extract_lets s1 c done s2
    have h1 : s1.rings RingPort.quiet = s.rings RingPort.quiet := by
      refine State.rings_when ((State.rings_when (State.rings_of_upTo (by simp))).trans ?_)
      exact State.rings_modRing fun r => RingPort.quiet_nodes fun _ => rfl
    have h2 : s2.rings RingPort.quiet = s1.rings RingPort.quiet :=
      (State.rings_modRing fun r => by cases b <;> rfl).trans (State.rings_modRing fun r => by cases b <;> rfl)
    exact (State.rings_of_upTo (by simp)).trans (h2.trans h1)

theorem State.pump_quiet (n : Fin 8) (b : Bool) (s : State) : (s.pump n b).rings RingPort.quiet = s.rings RingPort.quiet := by
  unfold State.pump
  dsimp only
  split
  · rfl
  · split
    · exact (State.launch_quiet _ _ _ _).trans (State.rings_modRing fun _ => rfl)
    · rfl

theorem State.ringRequest_quiet (n : Fin 8) (c : RingCmdReq) (s : State) : (s.ringRequest n c).2.rings RingPort.quiet = s.rings RingPort.quiet := by
  unfold State.ringRequest
  refine State.rings_ite_snd rfl (State.rings_ite_snd ?_ ?_)
  · exact (State.pump_quiet _ _ _).trans (State.rings_modRing fun _ => rfl)
  · dsimp only
    rw [State.bump_rings, State.ringResult_quiet]

theorem State.ringAsk_quiet (n : Fin 8) (c : RingCmdReq) (s : State) : (s.ringAsk n c).rings RingPort.quiet = s.rings RingPort.quiet :=
  State.ringRequest_quiet n c s

theorem State.wrapOne_quiet (n : Fin 8) (k : Nat) (s : State) : (s.wrapOne n k).rings RingPort.quiet = s.rings RingPort.quiet := by
  unfold State.wrapOne
  exact State.ringAsk_quiet _ _ _

theorem State.unwrapFail_quiet (n : Fin 8) (s : State) : (s.unwrapFail n).rings RingPort.quiet = s.rings RingPort.quiet := by
  unfold State.unwrapFail
  dsimp only
  split
  · rfl
  · rw [State.rings_when (State.wrapOne_quiet _ _ _), State.rings_when (State.wrapOne_quiet _ _ _), State.ringResult_quiet]
    exact State.rings_modRing fun _ => rfl

/-- What the instants of a cycle write of a port and its command exchanges do not: the ends, the set, the window, the entries' validity. -/
structure RingMarks where
  losA : Bool
  losB : Bool
  setClosed : Bool
  windowOpen : Bool
  valid : Vector Bool 24

def RingPort.marks (r : RingPort) : RingMarks :=
  { losA := r.losA, losB := r.losB, setClosed := r.setClosed, windowOpen := r.windowOpen, valid := r.nodes.map fun e => e.valid }

theorem RingPort.marks_quiet (r : RingPort) : r.quiet.marks = r.marks := by
  simp [RingPort.marks, RingPort.quiet, Function.comp_def]

theorem State.marks_of_quiet {s t : State} (h : t.rings RingPort.quiet = s.rings RingPort.quiet) : t.rings RingPort.marks = s.rings RingPort.marks :=
  State.rings_of_quiet RingPort.marks_quiet h

theorem State.enumFail_marks (n : Fin 8) (c p : Nat) (s : State) : (s.enumFail n c p).rings RingPort.marks = s.rings RingPort.marks := by
  unfold State.enumFail
  rw [State.emit_rings, State.bump_rings]
  refine (State.marks_of_quiet (State.ringResult_quiet _ _ _ _)).trans (State.rings_modRing fun r => ?_)
  simp only [RingPort.marks, RingPort.dropKeys, RingMarks.mk.injEq, true_and]
  ext1 i hi
  simp

theorem State.unreplied_marks (n : Fin 8) (k : Fin 24) (o : BitVec 16) (s : State) : (s.unreplied n k o).rings RingPort.marks = s.rings RingPort.marks := by
  unfold State.unreplied
  split
  · split
    · exact State.enumFail_marks _ _ _ _
    · rfl
  · exact State.marks_of_quiet (State.unwrapFail_quiet _ _)
  all_goals exact State.rings_of_upTo (by (repeat' split) <;> simp)

theorem State.dropIsolated_marks (n : Fin 8) (s : State) : (s.dropIsolated n).rings RingPort.marks = s.rings RingPort.marks := by
  unfold State.dropIsolated
  dsimp only
  split
  · rfl
  · refine (State.forEach_keeps _ _ _ _ fun c u => ?_).trans (State.rings_modRing fun _ => rfl)
    split
    · exact State.unreplied_marks _ _ _ _
    · rfl

/-! ### The common sample instant and a SAMPLE -/

/-- A string after the common sample instant. -/
theorem execCommonSampleInstant_str {raw : Vector AlignedRaw 8} {s : State} (h : s.pwr.shelf = false) :
    ∃ t, execCommonSampleInstant raw s = .next t ∧ ∀ n : Fin 8, t.str[n] = s.str[n].chorusSample (s.topo n) raw[n] := by
  refine ⟨_, rfl, fun n => ?_⟩
  simp [h, State.topo]

/-- A SAMPLE in time of a node that is served. -/
theorem execSampleReceived_taken {n : Fin 8} {k : Fin 24} {f : SampleFrame} {s : State} (hcrc : f.crcOk = true) (hmac : f.macOk = true)
    (hserved : s.ring[n].served = true) (hiso : s.ring[n].nodes[k].isolated = false) (hlate : s.sampleLate n k f = false)
    (hext : bit f.status.toNat 30 = false) (hack : s.sweep[n].ackDue = none) : execSampleReceived n k f s = .next (s.takeSample n k f) := by
  have hw : (s.takeSample n k f).sweep[n].ackDue = none := by
    have : (s.takeSample n k f).sweep = s.sweep := State.same_of_upTo (p := .sweep) (by simp)
    rw [this, hack]
  unfold execSampleReceived
  simp only [hcrc, hmac, hserved, hiso, hlate, hext, Bool.and_self, Bool.not_true, Bool.or_self, Bool.false_eq_true, if_false, Bool.false_and, State.when]
  rw [hw]

theorem State.takeSample_node {n : Fin 8} {k : Fin 24} {f : SampleFrame} {s : State} (h : s.cellsMatch n f = true) :
    (s.takeSample n k f).ring[n].nodes[k].got = true ∧ (s.takeSample n k f).ring[n].nodes[k].status = f.status ∧
      (s.takeSample n k f).ring[n].nodes[k].pri = f.pri ∧ (s.takeSample n k f).ring[n].nodes[k].sec = f.sec := by
  simp [State.takeSample, State.modNode, h]

/-! ### The close of a set -/

/-- A loop whose turns set `P` for their element and keep it for the others, as long as `Q` stands. -/
theorem State.forEach_each {α : Type} {P : α → State → Prop} {Q : State → Prop} {f : α → State → State} (hQ : ∀ a s, Q s → Q (f a s))
    (hset : ∀ a s, Q s → P a (f a s)) (hkeep : ∀ a b s, Q s → P b s → P b (f a s)) (l : List α) {s : State} (hs : Q s) {a : α} (ha : a ∈ l) :
    P a (State.forEach l f s) := by
  have hafter (l : List α) (b : α) (u : State) (hq : Q u) (hp : P b u) : P b (State.forEach l f u) := by
    induction l generalizing u with
    | nil => exact hp
    | cons c l ih => exact ih (f c u) (hQ c u hq) (hkeep c b u hq hp)
  induction l generalizing s with
  | nil => exact absurd ha List.not_mem_nil
  | cons c l ih =>
    rcases List.mem_cons.1 ha with rfl | ha
    · exact hafter l a _ (hQ a s hs) (hset a s hs)
    · exact ih (hQ c s hs) ha

/-- Does the close of the set find a valid entry of a node (01 R28; 03 R92, R93). -/
def RingPort.inSet (r : RingPort) (k : Fin 24) : Bool :=
  r.nodes[k].got && !r.nodes[k].isolated && !((r.ignoreAbove.map fun p => decide ((k : Nat) + 1 > p)).getD false)

/-- A port with the entry of one node judged. -/
def RingPort.judge (k : Fin 24) (r : RingPort) : RingPort :=
  { r with nodes := Vec.upd r.nodes k fun e => { e with valid := r.inSet k, missRun := if r.inSet k then 0 else min 3 (e.missRun + 1) }, nodesMiss := setBit r.nodesMiss k (!r.inSet k) }

theorem RingPort.judge_inSet (k : Fin 24) (r : RingPort) : (r.judge k).inSet = r.inSet := by
  funext j
  simp only [RingPort.inSet, RingPort.judge, Fin.getElem_fin, Vec.upd_get]
  split <;> rfl

theorem RingPort.judge_valid (k j : Fin 24) (r : RingPort) : (r.judge k).nodes[j].valid = if k = j then r.inSet k else r.nodes[j].valid := by
  simp only [RingPort.judge, Fin.getElem_fin, Vec.upd_get, Fin.ext_iff]
  split <;> rfl

theorem State.closeEntry_ring (n : Fin 8) (k : Fin 24) (s : State) : (s.closeEntry n k).ring[n] = s.ring[n].judge k := by
  unfold State.closeEntry
  dsimp only
  simp [State.modNode, RingPort.judge, RingPort.inSet]

/-- The entries judged: the ends and what was judged stand, and each entry is valid as it was judged. -/
theorem State.closeEntries_ring (n : Fin 8) (l : List (Fin 24)) (s : State) :
    (State.forEach l (State.closeEntry n) s).ring[n].losA = s.ring[n].losA ∧ (State.forEach l (State.closeEntry n) s).ring[n].losB = s.ring[n].losB ∧
    ∀ k ∈ l, (State.forEach l (State.closeEntry n) s).ring[n].nodes[k].valid = s.ring[n].inSet k := by
  refine ⟨State.forEach_keeps (fun s => s.ring[n].losA) l _ s fun k u => ?_, State.forEach_keeps (fun s => s.ring[n].losB) l _ s fun k u => ?_, fun k hk => ?_⟩
  · rw [State.closeEntry_ring]; rfl
  · rw [State.closeEntry_ring]; rfl
  · refine State.forEach_each (P := fun k u => u.ring[n].nodes[k].valid = s.ring[n].inSet k) (Q := fun u => u.ring[n].inSet = s.ring[n].inSet)
      (fun j u hu => ?_) (fun j u hu => ?_) (fun j i u hu hi => ?_) l rfl hk
    · rw [State.closeEntry_ring, RingPort.judge_inSet, hu]
    · rw [State.closeEntry_ring, RingPort.judge_valid, if_pos rfl, hu]
    · rw [State.closeEntry_ring, RingPort.judge_valid, hu, hi]
      split
      · next h => rw [h]
      · rfl

theorem State.ringLoss_marks (n : Fin 8) (s : State) : (s.ringLoss n).rings RingPort.marks = s.rings RingPort.marks := by
  unfold State.ringLoss
  extract_lets r gone s1 s2
  split
  · rfl
  · have h2 : s2.rings RingPort.marks = s1.rings RingPort.marks := State.rings_modRing fun r => by
      simp only [RingPort.marks, RingMarks.mk.injEq, true_and]
      ext1 i hi
      simp only [Vector.getElem_map, Vec.updAll_get]
      split <;> rfl
    rw [State.rings_of_upTo (s := s2.emit 0xC211 (Src.ring n) [s2.ring[n].nodesMiss.toNat]) (by simp), State.emit_rings, h2]
    exact State.marks_of_quiet (State.unwrapFail_quiet n s)

theorem State.nodeViews_marks (n : Fin 8) (s : State) : (s.nodeViews n).rings RingPort.marks = s.rings RingPort.marks := by
  unfold State.nodeViews
  extract_lets r data mgmt s1 run s2
  have h1 : s1.rings RingPort.marks = s.rings RingPort.marks := State.rings_when (State.rings_modRing fun _ => rfl)
  exact (State.rings_of_upTo (s := s1) (by simp [s2])).trans h1

theorem RingPort.valid_of_marks {r r' : RingPort} (h : r.marks = r'.marks) (k : Fin 24) : r.nodes[k].valid = r'.nodes[k].valid := by
  have := congrArg (fun m : RingMarks => m.valid[k]) h
  simpa [RingPort.marks] using this

/-- A set closed: the wraps noted, of entries that are judged. -/
theorem State.closeSet_ring {n : Fin 8} {s : State} (hserved : s.ring[n].served = true) (hstate : s.str[n].state ≠ .disabled) :
    ∃ u : State, u.rings RingPort.marks =
        (State.forEach ((List.finRange 24).filter fun k => s.ring[n].nodes[k].enumerated) (State.closeEntry n) s).rings RingPort.marks ∧
      (s.closeSet n).ring[n] = { u.ring[n].closeWraps with setClosed := true } := by
  have hc : ¬ (!s.ring[n].served || s.str[n].state == .disabled) = true := by
    rw [hserved, beq_eq_false_iff_ne.2 hstate]
    decide
  unfold State.closeSet
  extract_lets r nodes s1 s2 s3 s4 s5 s6 s7 s8
  rw [if_neg hc]
  have h3 : s3.rings RingPort.marks = s2.rings RingPort.marks :=
    State.rings_of_upTo (State.upTo_forEach _ _ _ fun k u => State.upTo_forEach _ _ _ fun c v => by simp)
  have h5 : s5.rings RingPort.marks = s2.rings RingPort.marks := by
    rw [State.rings_when (State.bump_rings _), State.rings_when (State.bump_rings _), h3]
  have h7 : s7.rings RingPort.marks = s6.rings RingPort.marks := State.rings_of_upTo (State.modSweep_upTo (by simp) _ _ (by simp) _)
  have h8 : s8.rings RingPort.marks = s7.rings RingPort.marks := by
    refine State.rings_of_upTo ?_
    simp only [s8]
    split <;> exact State.modStr_upTo (by simp) _ _ (by simp) _
  refine ⟨s8, ?_, ?_⟩
  · rw [h8, h7, State.nodeViews_marks, h5, State.ringLoss_marks]
  · clear_value s8
    simp only [State.modSweep_ring, State.modRing_ring, Fin.getElem_fin, Vec.upd_get, if_true]

theorem State.closeSet_served_los {n : Fin 8} {s : State} (hserved : s.ring[n].served = true) (hstate : s.str[n].state ≠ .disabled) :
    (s.closeSet n).ring[n].losA = s.ring[n].losA ∧ (s.closeSet n).ring[n].losB = s.ring[n].losB := by
  obtain ⟨u, hu, ht⟩ := State.closeSet_ring hserved hstate
  obtain ⟨hA, hB, -⟩ := State.closeEntries_ring n ((List.finRange 24).filter fun k => s.ring[n].nodes[k].enumerated) s
  have hn := State.rings_get hu n
  rw [ht]
  exact ⟨(congrArg RingMarks.losA hn).trans hA, (congrArg RingMarks.losB hn).trans hB⟩

theorem State.closeSet_setClosed {n : Fin 8} {s : State} (hserved : s.ring[n].served = true) (hstate : s.str[n].state ≠ .disabled) :
    (s.closeSet n).ring[n].setClosed = true := by
  obtain ⟨u, -, ht⟩ := State.closeSet_ring hserved hstate
  rw [ht]

theorem State.closeSet_valid {n : Fin 8} {k : Fin 24} {s : State} (hserved : s.ring[n].served = true) (hstate : s.str[n].state ≠ .disabled)
    (henum : s.ring[n].nodes[k].enumerated = true) : (s.closeSet n).ring[n].nodes[k].valid = s.ring[n].inSet k := by
  obtain ⟨u, hu, ht⟩ := State.closeSet_ring hserved hstate
  obtain ⟨-, -, hv⟩ := State.closeEntries_ring n ((List.finRange 24).filter fun k => s.ring[n].nodes[k].enumerated) s
  rw [ht]
  exact (RingPort.valid_of_marks (State.rings_get hu n) k).trans (hv k (List.mem_filter.2 ⟨List.mem_finRange k, henum⟩))

/-- The set of a Ring that is not served, or of a string that is DISABLED. -/
theorem State.closeSet_unserved {n : Fin 8} {s : State} (h : s.ring[n].served = false ∨ s.str[n].state = .disabled) :
    (s.closeSet n).ring[n] = { s.ring[n] with nodes := Vec.updAll s.ring[n].nodes fun _ e => { e with valid := false } } := by
  have hc : (!s.ring[n].served || s.str[n].state == .disabled) = true := by simpa using h
  unfold State.closeSet
  extract_lets r
  rw [if_pos hc]
  simp only [State.modRing_ring, State.modStr_ring, Fin.getElem_fin, Vec.upd_get, if_true]
  rfl

theorem State.closeSet_unserved_valid {n : Fin 8} {s : State} (h : s.ring[n].served = false ∨ s.str[n].state = .disabled) (k : Fin 24) :
    (s.closeSet n).ring[n].nodes[k].valid = false := by
  rw [State.closeSet_unserved h]
  simp only [Fin.getElem_fin, Vec.updAll_get]

theorem State.closeSet_los (n : Fin 8) (s : State) : (s.closeSet n).ring[n].losA = s.ring[n].losA ∧ (s.closeSet n).ring[n].losB = s.ring[n].losB := by
  by_cases h : s.ring[n].served = false ∨ s.str[n].state = .disabled
  · rw [State.closeSet_unserved h]
    exact ⟨rfl, rfl⟩
  · obtain ⟨hserved, hstate⟩ := not_or.1 h
    exact State.closeSet_served_los (Bool.eq_true_of_not_eq_false hserved) hstate

/-- A port but for the stamp of its set. -/
def RingPort.unstamped (r : RingPort) : RingPort := { r with setTsc := 0 }

theorem State.stampSet_unstamped (n : Fin 8) (s : State) : (s.stampSet n).rings RingPort.unstamped = s.rings RingPort.unstamped := by
  unfold State.stampSet
  extract_lets t
  have h : (s.stampedAt (Src.ring n) (s.clk.cycleT0 + 25000)).rings RingPort.unstamped = s.rings RingPort.unstamped := State.rings_of_upTo (by simp)
  rw [← h]
  exact (State.rings_of_upTo (State.modSweep_upTo (by simp) _ _ (by simp) _)).trans (State.rings_modRing fun _ => rfl)

/-- The sets of all Rings closed: the set of one is closed in its turn, with its port and its string as they were before the first. -/
theorem State.closeSets_turn (n : Fin 8) (s : State) : ∃ u : State, (State.forEach strings State.closeSet s).ring[n] = (u.closeSet n).ring[n] ∧
    u.ring[n] = s.ring[n] ∧ u.str[n] = s.str[n] := by
  obtain ⟨u, hu, hl⟩ := State.forEach_turn (W := .others n .ident) (f := State.closeSet) (n := n)
    (fun m u hm => State.closeSet_upTo (by simp) m u hm fun _ => trivial) s
  obtain ⟨hring, -, -, hstr, -⟩ := State.sameAt_of_upTo hu
  exact ⟨u, (State.sameAt_of_upTo hl).1, hring, hstr⟩

theorem State.dropsIsolated_marks (s : State) : (State.forEach strings State.dropIsolated s).rings RingPort.marks = s.rings RingPort.marks :=
  State.forEach_keeps _ _ _ _ State.dropIsolated_marks

theorem State.stampSets_unstamped (l : List (Fin 8)) (s : State) : (State.forEach l State.stampSet s).rings RingPort.unstamped = s.rings RingPort.unstamped :=
  State.forEach_keeps _ _ _ _ State.stampSet_unstamped

/-! What takes the closed sets leaves the ports as they were. -/

theorem State.setTaken_off (s : State) : ((State.forEach s.declared State.anchorCheck s.loopSet).when s.leads State.keepSet).upTo (.off .ring) = s.upTo (.off .ring) := by
  simp
theorem State.gapRecords_off (s : State) : s.gapSet.gapHistory.upTo (.off .ring) = s.upTo (.off .ring) := by simp
theorem State.setRecords_off (s : State) : s.stringSum.cellSet.tempSet.upTo (.off .ring) = s.upTo (.off .ring) := by simp

/-- What SET_CLOSE leaves of the marks of a port: those that the close of its own set leaves, of a port and a string as they were but for the ends
and the stamp. -/
theorem execSetClose_marks (noSig : BitVec 16) {s : State} (hs : s.pwr.shelf = false) :
    ∃ t, execSetClose noSig s = .next t ∧ ∀ n : Fin 8, ∃ u : State, t.ring[n].marks = (u.closeSet n).ring[n].marks ∧ u.str[n] = s.str[n] ∧
      u.ring[n].unstamped = { s.ring[n].unstamped with losA := bit noSig.toNat (2 * n), losB := bit noSig.toNat (2 * n + 1) } := by
  unfold execSetClose
  rw [hs, if_neg Bool.false_ne_true]
  extract_lets s1 s2 s3 s4 s5
  refine ⟨_, rfl, fun n => ?_⟩
  have h1 : s1.ring[n] = { s.ring[n] with losA := bit noSig.toNat (2 * n), losB := bit noSig.toNat (2 * n + 1) } := by
    simp only [s1, State.mapAllRing_ring, State.atCycle_ring, Fin.getElem_fin, Vec.updAll_get]
  have h2 : s2.rings RingPort.unstamped = s1.rings RingPort.unstamped := State.stampSets_unstamped _ _
  have hstr : s2.str = s.str := State.same_of_upTo (p := .str) (by simp [s2, s1])
  have h3 : s3.rings RingPort.marks = (State.forEach strings State.closeSet s2).rings RingPort.marks := State.dropsIsolated_marks _
  have ht : s5.stringSum.cellSet.tempSet.rings RingPort.marks = s3.rings RingPort.marks :=
    (State.rings_of_upTo (State.setRecords_off _)).trans ((State.rings_when (State.rings_of_upTo (State.gapRecords_off _))).trans (State.rings_of_upTo (State.setTaken_off _)))
  clear_value s1 s2 s3 s5
  obtain ⟨u, hu, hring, hus⟩ := State.closeSets_turn n s2
  refine ⟨u, ?_, by rw [hus, hstr], ?_⟩
  · rw [← hu, State.rings_get ht n, State.rings_get h3 n]
  · rw [hring, State.rings_get h2 n, h1]
    rfl

/-! ### The tracking update -/

/-- What a tracking update of a closed Ring writes and the frames it sends do not. -/
def State.tracked (n : Fin 8) (s : State) : Int × Nat × Int := (s.sense[n].sumNow, s.sense[n].cntNow, s.sense[n].deltaA)

theorem State.tracked_of_upTo {n : Fin 8} {s t : State} (h : t.upTo (.off .sense) = s.upTo (.off .sense)) : t.tracked n = s.tracked n := by
  have hs : t.sense = s.sense := State.same_of_upTo h
  rw [State.tracked, hs, State.tracked]

theorem State.modSense_tracked {n : Fin 8} {f : RingSense → RingSense} (s : State)
    (h : ∀ c, (f c).sumNow = c.sumNow ∧ (f c).cntNow = c.cntNow ∧ (f c).deltaA = c.deltaA) : (s.modSense n f).tracked n = s.tracked n := by
  obtain ⟨hs, hc, hd⟩ := h s.sense[n]
  simp only [Fin.getElem_fin] at hs hc hd
  simp only [State.tracked, State.modSense_sense, Fin.getElem_fin, Vec.upd_get, if_true, hs, hc, hd]

theorem State.setComp_tracked (n : Fin 8) (k : Fin 24) (s : State) : (s.setComp n k).tracked n = s.tracked n := by
  unfold State.setComp
  extract_lets e c a b p q
  have hq : q.2.tracked n = s.tracked n := State.tracked_of_upTo (State.ringRequest_upTo (by simp) _ _ _ (by simp))
  split
  · rw [← hq]
    exact State.modSense_tracked _ fun _ => ⟨rfl, rfl, rfl⟩
  · exact hq

theorem State.sendComps_tracked (n : Fin 8) (s : State) : (s.sendComps n).tracked n = s.tracked n := by
  unfold State.sendComps
  exact State.forEach_keeps _ _ _ _ fun k u => State.setComp_tracked n k u

theorem State.alignCheck_tracked (n : Fin 8) (s : State) : (s.alignCheck n).tracked n = s.tracked n := by
  unfold State.alignCheck
  extract_lets c
  split
  · exact (State.tracked_of_upTo (State.emit_upTo (by simp) _ _ _ _)).trans (State.modSense_tracked _ fun _ => ⟨rfl, rfl, rfl⟩)
  · rfl

theorem State.trackLoop_tracked {n : Fin 8} {s : State} (h : s.sense[n].cntNow ≠ 0) :
    (s.trackLoop n).tracked n = (0, 0, roundQ (4 * ((s.sense[n].sumNow : Rat) / s.sense[n].cntNow / 4))) := by
  unfold State.trackLoop
  extract_lets c dL l
  rw [if_neg h]
  simp only [State.tracked, State.modSense_sense, Fin.getElem_fin, Vec.upd_get, if_true]
  rfl

theorem State.track_closed {n : Fin 8} {s : State} (hmode : s.ring[n].mode = .closed) (hboth : s.ring[n].both = false) (hlease : s.ringLease n = true)
    (hcnt : s.sense[n].cntNow ≠ 0) : (s.track n).tracked n = (0, 0, roundQ (4 * ((s.sense[n].sumNow : Rat) / s.sense[n].cntNow / 4))) := by
  have h : s.track n = ((s.trackLoop n).alignCheck n).sendComps n := by
    unfold State.track
    simp only [RingPort.served, hmode, hboth, hlease, beq_self_eq_true, Bool.true_or, Bool.not_true, Bool.or_self, Bool.false_eq_true, if_false, if_true]
  rw [h, State.sendComps_tracked, State.alignCheck_tracked, State.trackLoop_tracked hcnt]

/-- TRACKING_UPDATE of a Ring in CLOSED under its lease that has had returns. -/
theorem execTrackingUpdate_closed (s : State) : ∃ t, execTrackingUpdate s = .next t ∧ ∀ n : Fin 8, s.ring[n].mode = .closed → s.ring[n].both = false →
    s.ringLease n = true → s.sense[n].cntNow ≠ 0 → t.tracked n = (0, 0, roundQ (4 * ((s.sense[n].sumNow : Rat) / s.sense[n].cntNow / 4))) := by
  refine ⟨_, rfl, fun n hmode hboth hlease hcnt => ?_⟩
  obtain ⟨u, hu, hl⟩ := State.forEach_turn (W := .others n .twin) (f := State.track) (n := n) (fun m u hm => State.track_upTo (by simp) m u hm) s
  obtain ⟨hring, hsense, -⟩ := State.sameAt_of_upTo hu
  obtain ⟨-, hlast, -⟩ := State.sameAt_of_upTo hl
  have htwin : u.twin = s.twin := (State.within_of_upTo hu).parts .twin (by simp)
  have hlease' : u.ringLease n = true := by rw [State.ringLease, htwin]; exact hlease
  have := State.track_closed (hring ▸ hmode) (hring ▸ hboth) hlease' (hsense ▸ hcnt)
  rw [State.tracked, hlast]
  rwa [hsense] at this

/-! ### The guard window -/

/-- But for command exchanges the guard window does nothing to a port but shut its command window. -/
theorem State.guardRing_quiet (n : Fin 8) (s : State) :
    (s.guardRing n).rings RingPort.quiet = (s.modRing n fun r => { r with windowOpen := false }).rings RingPort.quiet := by
  unfold State.guardRing
  extract_lets s1 r packs p again
  have hagain (i a side : Nat) (u : State) : (again i a side u).rings RingPort.quiet = u.rings RingPort.quiet := by
    simp only [again]
    split
    · exact State.ringAsk_quiet _ _ _
    · rfl
  have hdone (u : State) : (u.modRing n fun r => { r with closeDone := r.endsDone packs }).rings RingPort.quiet = u.rings RingPort.quiet :=
    State.rings_modRing fun _ => rfl
  clear_value again
  split
  · split
    · exact State.rings_modRing fun _ => rfl
    · rw [hdone, hagain, hagain]
  · exact State.rings_modRing fun _ => rfl
  · rfl

theorem State.guardRing_runs (n : Fin 8) (s : State) : (s.guardRing n).rings RingPort.enumRun = s.rings RingPort.enumRun :=
  (State.rings_of_quiet (fun _ => rfl) (State.guardRing_quiet n s)).trans (State.rings_modRing fun _ => rfl)

theorem State.guardRing_window (n : Fin 8) (s : State) : (s.guardRing n).ring[n].windowOpen = false := by
  have h := State.rings_get (State.guardRing_quiet n s) n
  simp only [State.modRing_ring, Fin.getElem_fin, Vec.upd_get, if_true] at h
  exact congrArg RingPort.windowOpen h

theorem State.guardWindow_runs (s : State) : s.guardWindow.rings RingPort.enumRun = s.rings RingPort.enumRun :=
  (State.forEach_keeps _ _ _ _ State.guardRing_runs).trans (State.rings_of_upTo (State.atCycle_upTo (by simp) _ _))

theorem State.guardWindow_window (n : Fin 8) (s : State) : s.guardWindow.ring[n].windowOpen = false := by
  obtain ⟨u, -, hl⟩ := State.forEach_turn (W := .others n .ident) (f := State.guardRing) (n := n)
    (fun m u hm => State.guardRing_upTo (by simp) m u hm) (s.atCycle 985000)
  have h : s.guardWindow.ring[n] = (u.guardRing n).ring[n] := (State.sameAt_of_upTo hl).1
  rw [h, State.guardRing_window]

theorem RingPort.window_of_marks {r r' : RingPort} (h : r.marks = r'.marks) : r.windowOpen = r'.windowOpen := congrArg RingMarks.windowOpen h

theorem State.stepGo_marks (n : Fin 8) (s : State) : (s.stepGo n).rings RingPort.marks = s.rings RingPort.marks := by
  have hm (f : EnumRun → EnumRun) (u : State) : (u.modEnum n f).rings RingPort.marks = u.rings RingPort.marks := State.rings_modRing fun _ => rfl
  have ha (u : State) : (u.sendAssign n).rings RingPort.marks = u.rings RingPort.marks := by
    unfold State.sendAssign
    extract_lets k
    rw [State.rings_of_upTo (State.sendRing_upTo (by simp) _ _ _ _ _ _ _ _ _ _ _), hm]
  have hp (b : Bool) (u : State) : (u.sendProbe n b).rings RingPort.marks = u.rings RingPort.marks := State.rings_of_upTo (State.sendProbe_upTo (by simp) _ _ _)
  unfold State.stepGo
  split
  · rfl
  · extract_lets s1
    split
    · rw [ha, hm]
    · rw [hp, hm]
    · rw [hp, hm]
    · rw [hm]

/-- The band change waits while a Ring is inside a node step. -/
theorem State.bandWindow_waits {s : State} (h : s.ring.toList.any RingPort.measuring = true) : s.bandWindow = s := by
  unfold State.bandWindow
  rw [if_pos h]

/-- The pending band takes effect. -/
theorem State.bandWindow_band {s : State} {b : Band} (h : ¬ s.ring.toList.any RingPort.measuring = true) (hb : s.thm.pend = some b) :
    s.bandWindow.thm.band = b := by
  unfold State.bandWindow
  split
  next hnone =>
    rw [if_neg h, hb] at hnone
    cases hnone
  next c hc =>
    rw [if_neg h, hb] at hc
    obtain rfl := Option.some.inj hc
    extract_lets old s1 s2
    have h2 : s2.thm = s1.thm := State.same_of_upTo (p := .thm) (by simp [s2])
    have hgo : (State.forEach (strings.filter fun n => (s2.ring[n].enumRun.map (·.held)).getD false) State.stepGo s2).thm = s2.thm :=
      State.same_of_upTo (p := .thm) (State.upTo_forEach _ _ _ fun m u => State.stepGo_upTo (by simp) m u (by simp))
    rw [hgo, h2]
    rfl

theorem State.bandWindow_marks (s : State) : s.bandWindow.rings RingPort.marks = s.rings RingPort.marks := by
  unfold State.bandWindow
  split
  · rfl
  · extract_lets old s1 s2
    have h2 : s2.rings RingPort.marks = s.rings RingPort.marks := by
      rw [State.emit_rings, State.bump_rings]
      rfl
    exact (State.forEach_keeps _ _ _ _ State.stepGo_marks).trans h2

theorem State.guardWindow_measuring (s : State) : s.guardWindow.ring.toList.any RingPort.measuring = true ↔ ∃ m : Fin 8, s.ring[m].measuring = true := by
  have h (m : Fin 8) : s.guardWindow.ring[m].measuring = s.ring[m].measuring := by
    unfold RingPort.measuring
    rw [State.rings_get s.guardWindow_runs m]
  simp only [← h, List.any_eq_true, Vector.mem_toList_iff]
  constructor
  · rintro ⟨r, hr, hm⟩
    obtain ⟨i, hi, rfl⟩ := Vector.getElem_of_mem hr
    exact ⟨⟨i, hi⟩, hm⟩
  · rintro ⟨m, hm⟩
    exact ⟨_, Vector.getElem_mem m.isLt, hm⟩

/-- The stretch of the estimation follows the band; the ports, the band and the pending one stay. -/
theorem State.stretch_follows (u : State) : ∃ t, u.bandSettings.modEst (fun e => { e with stretchNext := u.bandSettings.thm.band.stretch }) = t ∧
    t.est.stretchNext = t.thm.band.stretch ∧ t.ring = u.ring ∧ t.thm.band = u.thm.band ∧ t.thm.pend = u.thm.pend :=
  ⟨_, rfl, rfl, rfl, rfl, rfl⟩

/-- GUARD_WINDOW outside the shelf state. -/
theorem execGuardWindow_runs {s : State} (hs : s.pwr.shelf = false) : ∃ t, execGuardWindow s = .next t ∧ t.est.stretchNext = t.thm.band.stretch ∧
    (∀ n : Fin 8, t.ring[n].windowOpen = false) ∧ t.thm.band = s.guardWindow.bandWindow.thm.band ∧ t.thm.pend = s.guardWindow.bandWindow.thm.pend := by
  obtain ⟨t, ht, hstretch, hring, hband, hpend⟩ := s.guardWindow.bandWindow.stretch_follows
  refine ⟨t, ?_, hstretch, fun n => ?_, hband, hpend⟩
  · unfold execGuardWindow
    rw [hs, if_neg Bool.false_ne_true, ← ht]
  · rw [hring, RingPort.window_of_marks (State.rings_get s.guardWindow.bandWindow_marks n), State.guardWindow_window]

theorem State.guardWindow_thm (s : State) : s.guardWindow.thm = s.thm := State.same_of_upTo (p := .thm) (State.guardWindow_upTo (by simp) s (by simp))

/-! ### T0 -/

theorem State.atCycle_cycleT0 (ofs : Nat) (s : State) : (s.atCycle ofs).clk.cycleT0 = s.clk.cycleT0 := by
  unfold State.atCycle
  split <;> rfl

theorem State.nextT0_clk (s : State) : s.nextT0.clk.cycleT0 = s.clk.cycleT0 + 1000000 ∧ s.nextT0.clk.cycleNo = (s.clk.cycleT0 + 1000000) / 1000000 := by
  have h := s.atCycle_cycleT0 1000000
  unfold State.nextT0
  generalize s.atCycle 1000000 = u at h ⊢
  rw [State.modClk_clk, ← h]
  exact ⟨rfl, rfl⟩

/-- No commit is due where no change waits. -/
theorem State.commitDue_none {s : State} (hpend : s.img.pend = none) (hpeer : s.img.peer = none) : s.commitDue = false := by
  simp [State.commitDue, hpend, hpeer]

theorem State.applyRegs_regWrites (s : State) : s.applyRegs.host.regWrites = [] := by
  unfold State.applyRegs
  rw [State.modHost_host]

theorem State.launchBeacon_marks (n : Fin 8) (s : State) : (s.launchBeacon n).rings RingPort.marks = s.rings RingPort.marks := by
  unfold State.launchBeacon
  split
  · rfl
  · extract_lets b
    have h : ((s.sendBeacon n false).when b (State.sendBeacon n true)).rings RingPort.marks = s.rings RingPort.marks := State.rings_of_upTo (by simp)
    rw [← h]
    exact State.rings_modRing fun _ => rfl

theorem RingPort.setClosed_of_marks {r r' : RingPort} (h : r.marks = r'.marks) : r.setClosed = r'.setClosed := congrArg RingMarks.setClosed h

theorem State.ringT0_setClosed (n : Fin 8) (s : State) : (s.ringT0 n).ring[n].setClosed = false := by
  unfold State.ringT0
  rw [RingPort.setClosed_of_marks (State.rings_get (State.launchBeacon_marks n _) n)]
  simp only [State.modRing_ring, Fin.getElem_fin, Vec.upd_get, if_true]

/-- The sets of all Rings are open once each Ring has had its T0. -/
theorem State.ringsT0_setClosed (n : Fin 8) (s : State) : (State.forEach strings State.ringT0 s).ring[n].setClosed = false := by
  obtain ⟨u, -, hl⟩ := State.forEach_turn (W := .others n .ident) (f := State.ringT0) (n := n) (fun m u hm => State.ringT0_upTo (by simp) m u hm) s
  rw [(State.sameAt_of_upTo hl).1, State.ringT0_setClosed]

/-- What follows the Rings' T0 leaves the ports as they were. -/
theorem State.afterT0_off (s : State) : s.settleStrobes.standbyStrobes.adoptThr.estSummary.estimationT0.upTo (.off .ring) = s.upTo (.off .ring) := by
  simp

/-- A T0 ends with the Rings' and with what follows them. -/
theorem State.bankT0_rings (s : State) :
    ∃ u, s.bankT0 = (State.forEach strings State.ringT0 u).settleStrobes.standbyStrobes.adoptThr.estSummary.estimationT0 := by
  unfold State.bankT0
  generalize s.nextT0 = v
  exact ⟨_, rfl⟩

theorem State.bankT0_setClosed (n : Fin 8) (s : State) : s.bankT0.ring[n].setClosed = false := by
  obtain ⟨u, hu⟩ := s.bankT0_rings
  have h : s.bankT0.rings RingPort.setClosed = (State.forEach strings State.ringT0 u).rings RingPort.setClosed :=
    hu ▸ State.rings_of_upTo (State.afterT0_off _)
  exact (State.rings_get h n).trans (State.ringsT0_setClosed n u)

/-- What follows the module's T0 leaves the clock as it was. -/
theorem State.bankT0_clk (s : State) : Part.clk.same s.nextT0 s.bankT0 := by
  refine State.same_of_upTo ?_
  unfold State.bankT0
  generalize s.nextT0 = u
  simp

/-- What follows the writes held leaves the host's registers as they were. -/
theorem State.heldT0_off (s : State) : (State.forEach strings State.ringT0 (State.forEach strings State.stringT0
    s.rawSecond.scanT0.gdDeadlines)).settleStrobes.standbyStrobes.adoptThr.estSummary.estimationT0.upTo (.off .host) = s.upTo (.off .host) := by
  simp

theorem State.regWrites_of_upTo {s t : State} (h : t.upTo (.off .host) = s.upTo (.off .host)) : t.host.regWrites = s.host.regWrites := by
  have hh : Part.host.same s t := State.same_of_upTo h
  exact (congrArg HostIf.regWrites hh : _)

theorem State.nextT0_img (s : State) : s.nextT0.img = s.img := State.same_of_upTo (p := .img) (State.nextT0_upTo (by simp) s)

theorem State.bankT0_regWrites {s : State} (hpend : s.img.pend = none) (hpeer : s.img.peer = none) : s.bankT0.host.regWrites = [] := by
  rw [← State.nextT0_img] at hpend hpeer
  unfold State.bankT0
  generalize s.nextT0 = u at hpend hpeer ⊢
  extract_lets s1 s2 s3 s4 s5
  have himg : s2.img = u.img := State.same_of_upTo (p := .img) (by simp [s2, s1])
  have hdue : s2.commitDue = false := State.commitDue_none (himg ▸ hpend) (himg ▸ hpeer)
  have hregs : (s2.rekeyT0.pairT0.handT0.when (!s2.commitDue) State.applyRegs).host.regWrites = [] := by
    rw [hdue]
    exact State.applyRegs_regWrites _
  rw [← hregs]
  exact State.regWrites_of_upTo (State.heldT0_off _)

/-- BANK_CYCLE_START of a module whose update is not armed. -/
theorem execBankCycleStart_runs {s : State} (hshelf : s.pwr.shelf = false) (harmed : s.upd.armed = false) :
    execBankCycleStart s = .next s.bankT0 := by
  unfold execBankCycleStart
  rw [hshelf, harmed, if_neg Bool.false_ne_true, if_neg Bool.false_ne_true]

theorem Part.cycle_of_same {s t : State} (h : Part.clk.same s t) : t.clk.cycleT0 = s.clk.cycleT0 ∧ t.clk.cycleNo = s.clk.cycleNo := by
  have hc : { t.clk with lastStamp := s.clk.lastStamp } = s.clk := h
  exact ⟨(congrArg Clock.cycleT0 hc :), (congrArg Clock.cycleNo hc :)⟩

theorem State.bankT0_cycle (s : State) : s.bankT0.clk.cycleT0 = s.clk.cycleT0 + 1000000 ∧ s.bankT0.clk.cycleNo = (s.clk.cycleT0 + 1000000) / 1000000 := by
  obtain ⟨hkeptT0, hkeptNo⟩ := Part.cycle_of_same s.bankT0_clk
  obtain ⟨hT0, hNo⟩ := s.nextT0_clk
  exact ⟨hkeptT0.trans hT0, hkeptNo.trans hNo⟩

theorem RingPort.los_of_marks {r r' : RingPort} (h : r.marks = r'.marks) : r.losA = r'.losA ∧ r.losB = r'.losB :=
  ⟨congrArg RingMarks.losA h, congrArg RingMarks.losB h⟩

/-- What a close reads of a port that is as it was but for its ends and its stamp. -/
theorem RingPort.reads_of_unstamped {r r' : RingPort} {a b : Bool} (h : r.unstamped = { r'.unstamped with losA := a, losB := b }) :
    r.losA = a ∧ r.losB = b ∧ r.served = r'.served ∧ r.inSet = r'.inSet ∧ r.nodes = r'.nodes :=
  ⟨congrArg RingPort.losA h, congrArg RingPort.losB h, (congrArg RingPort.served h :), (congrArg RingPort.inSet h :), (congrArg RingPort.nodes h :)⟩

theorem RingPort.inSet_got {r : RingPort} {k : Fin 24} (hiso : r.nodes[k].isolated = false) (hign : r.ignoreAbove = none) : r.inSet k = r.nodes[k].got := by
  simp only [RingPort.inSet, hiso, hign, Option.map_none, Option.getD_none, Bool.not_false, Bool.and_true]

end Sys2Proof.Machine

open Sys2Proof Sys2Proof.Machine

/-- Settles O21: each instant is followed through its loops over the Rings, of which the turn of one Ring sets what is asked of it and the others'
turns and what comes after leave it. -/
theorem cycleInstantsComplete : Obligations.CycleInstantsComplete := by
  refine ⟨fun s hshelf harmed => ?_, fun s raw hshelf => ?_, fun s n k f hcrc hmac hserved hiso hlate hcells hext hack => ?_, fun s noSig hshelf => ?_, fun s => ?_,
    fun s hshelf => ?_⟩
  case _ =>
    obtain ⟨hT0, hNo⟩ := s.bankT0_cycle
    exact ⟨s.bankT0, execBankCycleStart_runs hshelf harmed, hT0, hNo, fun hpend hpeer => State.bankT0_regWrites hpend hpeer, fun n => s.bankT0_setClosed n⟩
  case _ =>
    obtain ⟨t, ht, hstr⟩ := execCommonSampleInstant_str (raw := raw) hshelf
    refine ⟨t, ht, fun n => ?_⟩
    rw [hstr]
    exact ⟨rfl, rfl, rfl, rfl⟩
  case _ => exact ⟨_, execSampleReceived_taken hcrc hmac hserved hiso hlate hext hack, State.takeSample_node hcells⟩
  case _ =>
    obtain ⟨t, ht, hmarks⟩ := execSetClose_marks noSig hshelf
    refine ⟨t, ht, fun n => ?_, fun n hserved hstate => ?_, fun n k hserved hstate henum hiso hign => ?_, fun n k hnot => ?_⟩
    all_goals
      obtain ⟨u, hm, hstr, hu⟩ := hmarks n
      obtain ⟨hA, hB, hsrv, hin, hnodes⟩ := RingPort.reads_of_unstamped hu
    · obtain ⟨htA, htB⟩ := RingPort.los_of_marks hm
      rw [htA, htB]
      obtain ⟨hcA, hcB⟩ := u.closeSet_los n
      exact ⟨hcA.trans hA, hcB.trans hB⟩
    · rw [RingPort.setClosed_of_marks hm]
      exact State.closeSet_setClosed (hsrv.trans hserved) (hstr ▸ hstate)
    · rw [RingPort.valid_of_marks hm k, ← RingPort.inSet_got hiso hign, ← hin]
      exact State.closeSet_valid (hsrv.trans hserved) (hstr ▸ hstate) (hnodes ▸ henum)
    · rw [RingPort.valid_of_marks hm k]
      exact State.closeSet_unserved_valid (hsrv ▸ hstr ▸ hnot) k
  case _ =>
    obtain ⟨t, ht, htrack⟩ := execTrackingUpdate_closed s
    refine ⟨t, ht, fun n hmode hboth hlease hcnt => ?_⟩
    obtain ⟨hsum, hrest⟩ := Prod.mk.inj (htrack n hmode hboth hlease hcnt)
    obtain ⟨hcnt', hdelta⟩ := Prod.mk.inj hrest
    exact ⟨hsum, hcnt', hdelta⟩
  case _ =>
    obtain ⟨t, ht, hstretch, hwindow, hband, hpend⟩ := execGuardWindow_runs hshelf
    refine ⟨t, ht, ⟨hstretch, hwindow⟩, fun b hb hnone => ?_, fun hsome => ?_⟩
    · have hn : ¬ s.guardWindow.ring.toList.any RingPort.measuring = true := fun h => by
        obtain ⟨m, hm⟩ := s.guardWindow_measuring.1 h
        exact Bool.false_ne_true ((hnone m).symm.trans hm)
      rw [hband, State.bandWindow_band hn (by rw [State.guardWindow_thm, hb])]
    · rw [hband, hpend, State.bandWindow_waits (s.guardWindow_measuring.2 hsome), State.guardWindow_thm]
      exact ⟨rfl, rfl⟩

end

section
/-! PROOF. Time and PTP. -/

-- One task at a time: the check limits memory, and each task has a stack of its own.
set_option Elab.async false

namespace Sys2Proof.Machine

/-! ### Phase corrections and the single set -/

theorem State.correct_ok {ns : Int} {s : State} (h : s.tooLarge ns = false) :
    s.correct ns = (0, s.modClk fun c => { c with slewRem := c.slewRem + Clock.fix ns }) := by
  simp [State.correct, h]

@[simp] theorem State.correct_ptp (ns : Int) (s : State) : (s.correct ns).2.ptp = s.ptp := by
  unfold State.correct; split <;> simp

@[simp] theorem State.requestSet_ptp (r : TimeReport) (s : State) : (s.requestSet r).ptp = s.ptp := by
  unfold State.requestSet; dsimp only; (repeat' split) <;> rfl

theorem State.requestSet_first {r : TimeReport} {s : State} (h : s.clk.setReq = none) :
    s.requestSet r = s.modClk fun c => { c with setReq := some r } := by
  simp only [State.requestSet, h]

/-- What of the clock a set fixes and no note or correction changes. -/
def Clock.atSet (c : Clock) : Nat × Bool × Option TimeReport := (c.tscFix, c.tscValid, c.setReq)

theorem State.emit_atSet (c n : Nat) (b : List Int) (s : State) : (s.emit c n b).clk.atSet = s.clk.atSet := by
  simp [Clock.atSet]

theorem State.bump_atSet (a : Nat) (s : State) : (s.bump a).clk.atSet = s.clk.atSet := by
  simp [Clock.atSet]

theorem State.refuseReq_atSet (q : Req) (c : Nat) (s : State) : (s.refuseReq q c).clk.atSet = s.clk.atSet := by
  simp [Clock.atSet]

theorem State.correct_atSet (ns : Int) (s : State) : (s.correct ns).2.clk.atSet = s.clk.atSet := by
  unfold State.correct
  split
  · rw [State.emit_atSet, State.bump_atSet]
  · rfl

theorem State.chorusTimeStep_atSet (o n : Nat) (s : State) : (s.chorusTimeStep o n).clk.atSet = s.clk.atSet := by
  have hr (k : Fin 8) (u : State) : (u.stepRing o n k).clk.atSet = u.clk.atSet := by unfold State.stepRing; rw [State.emit_atSet]; rfl
  unfold State.chorusTimeStep
  dsimp only
  split
  · rfl
  · split
    · exact State.emit_atSet _ _ _ _
    · exact State.forEach_keeps (fun u => u.clk.atSet) _ _ _ hr

theorem State.waitedSet_atSet (r : TimeReport) (s : State) : (s.waitedSet r).clk.atSet = s.clk.atSet := by
  unfold State.waitedSet
  dsimp only
  split
  · exact State.correct_atSet _ _
  · split
    · rw [State.reply_clk, State.correct_atSet]
    · rw [State.refuseReq_atSet, State.correct_atSet]

theorem State.closeWhere_clk (p : Session → Bool) (s : State) : (s.closeWhere p).clk = s.clk :=
  State.forEach_clk _ _ _ fun id u => by simp

/-- The end of the single set: the TIME_SETs that waited become corrections. -/
theorem State.waited_atSet (s : State) :
    ((State.forEach s.clk.setWait State.waitedSet s).modClk fun c => { c with setWait := [] }).clk.atSet = s.clk.atSet :=
  State.forEach_keeps (fun u => u.clk.atSet) _ _ _ State.waitedSet_atSet

/-- The single set (01 R20): the TSC takes the first report carried to the present. -/
theorem execTscSet_atSet {s : State} {r : TimeReport} (hr : s.clk.setReq = some r) (hv : s.clk.tscValid = false) :
    ∃ t, execTscSet s = .next t ∧ t.clk.atSet = ((r.value + (s.since r.atUp : Int)).toNat * 2 ^ 32, true, none) ∧ t.clk.setWait = [] := by
  have hset (o n m : Nat) (b : List Int) (u : State) (p : Session → Bool) (g : HostIf → HostIf) (h : u.clk.tscFix = m ∧ u.clk.setReq = none) :
      ((((((u.emit 0x0C31 0x090 b).modClk fun c => { c with tscValid := true }).chorusTimeStep o n).closeWhere p).modHost g)).clk.atSet =
        (m, true, none) := by
    rw [State.modHost_clk, State.closeWhere_clk, State.chorusTimeStep_atSet]
    simp [Clock.atSet, h]
  unfold execTscSet
  simp only [hr, hv]
  cases hq : r.req with
  | none => exact ⟨_, rfl, (State.waited_atSet _).trans (hset _ _ _ _ _ _ _ ⟨rfl, rfl⟩), rfl⟩
  | some q =>
    refine ⟨_, rfl, (State.waited_atSet _).trans ?_, rfl⟩
    rw [State.reply_clk]
    exact hset _ _ _ _ _ _ _ ⟨rfl, rfl⟩

/-! ### The servo -/

/-- What a Sync leaves of its measurement: the offset, and the origin that is awaited. -/
def Ptp.measured (p : Ptp) : Int × Option Int := (p.masterOfs, p.twoStep)

theorem State.lockUpdate_measured (o : Int) (s : State) : (s.lockUpdate o).ptp.measured = s.ptp.measured := by
  unfold State.lockUpdate
  extract_lets good s1 can
  have h1 : s1.ptp.measured = s.ptp.measured := by simp only [s1, State.modPtp_ptp]; split <;> rfl
  split
  · rw [State.emit_ptp]; exact h1
  · split <;> exact h1

@[simp] theorem State.steer_ptp (o : Int) (s : State) : (s.steer o).ptp = s.ptp := by
  unfold State.steer; dsimp only; split <;> simp

theorem State.judgeMaster_measured (o : Int) (s : State) : (s.judgeMaster o).ptp.measured = s.ptp.measured := by
  unfold State.judgeMaster; dsimp only; split <;> simp [Ptp.measured]

theorem State.syncMeasured_measured (t1 t2 : Int) (s : State) :
    (s.syncMeasured t1 t2).ptp.measured = (satInt 32 (t2 - t1 - s.ptp.pathDelay), s.ptp.twoStep) := by
  unfold State.syncMeasured
  extract_lets ofs s1 full s2
  have h1 : s1.ptp.measured = (satInt 32 (t2 - t1 - s.ptp.pathDelay), s.ptp.twoStep) := rfl
  have h2 : s2.ptp.measured = s1.ptp.measured := by simp only [s2, State.when]; (repeat' split) <;> rfl
  rw [← h1]
  split
  · rfl
  split
  · rfl
  split
  · unfold State.when; split
    · rw [State.requestSet_ptp]
    · rfl
  split
  · split
    · rw [State.lockUpdate_measured, State.judgeMaster_measured]
    · rfl
  split
  · rfl
  split
  · exact h2
  · rw [State.lockUpdate_measured, State.steer_ptp, h2]

/-- After 16 Syncs with the servo on a report is held for the set (12 R336). -/
theorem State.syncMeasured_setReq {t1 t2 : Int} {s : State} (hs : s.ptp.servo = true) (hl : s.leads = true) (hv : s.clk.tscValid = false)
    (hn : 16 ≤ s.ptp.syncs.length) (hr : s.clk.setReq = none) :
    (s.syncMeasured t1 t2).clk.setReq = some { kind := .ptp, value := (s.now : Int) - (t2 - t1 - s.ptp.pathDelay) / 4, atUp := s.clk.upNs } := by
  unfold State.syncMeasured
  extract_lets ofs s1 full s2
  have hs1 : s1.ptp.servo = true := hs
  have hl1 : s1.leads = true := hl
  have hv1 : s1.clk.tscValid = false := hv
  have hfull : full := by simp only [full, s1, State.modPtp_ptp, List.length_drop, List.length_append, List.length_singleton]; omega
  simp only [hs1, hl1, hv1, hfull, State.when, Bool.not_true, Bool.not_false, Bool.false_eq_true, if_false, if_true, decide_true]
  rw [State.requestSet_first (s := s1) hr]
  rfl

/-! ### Writes -/

theorem Ptp.accept_ok (x : Session) {s : State} (hm : s.ptp.masterPending = true) (hc : s.tooLarge (-(s.ptp.pendOfs / 4)) = false) :
    Ptp.accept x s = (0, (((s.modClk fun c => { c with slewRem := c.slewRem + Clock.fix (-(s.ptp.pendOfs / 4)) }).ptpResult 0).modPtp fun p =>
      { p with masterPending := false, holdover := false })) := by
  simp [Ptp.accept, hm, State.correct_ok hc]

theorem Ptp.incrLo_ok (x : Session) {v : Word} {s : State} (hs : s.ptp.servo = false)
    (hlo : 19 * 2 ^ 32 ≤ (s.ptp.incrHiHeld.toNat * 2 ^ 32 + v.toNat) * 10) (hhi : (s.ptp.incrHiHeld.toNat * 2 ^ 32 + v.toNat) * 10 ≤ 21 * 2 ^ 32) :
    Ptp.incrLo v x s = (0, (s.ptpResult 0).modClk fun k => { k with incr := BitVec.ofNat 40 (s.ptp.incrHiHeld.toNat * 2 ^ 32 + v.toNat) }) := by
  have h1 : ¬ (s.ptp.incrHiHeld.toNat * 2 ^ 32 + v.toNat) * 10 < 19 * 2 ^ 32 := by omega
  have h2 : ¬ (s.ptp.incrHiHeld.toNat * 2 ^ 32 + v.toNat) * 10 > 21 * 2 ^ 32 := by omega
  unfold Ptp.incrLo
  simp only [firstCode, hs, h1, h2, decide_false, Bool.or_false, Bool.false_eq_true, if_false, if_true]

theorem Ptp.offset_ok (x : Session) {v : Word} {s : State} (hs : s.ptp.servo = false) (hv : s.clk.tscValid = true)
    (hc : s.tooLarge (signed 32 v.toNat) = false) :
    Ptp.offset v x s = (0, (s.modClk fun c => { c with slewRem := c.slewRem + Clock.fix (signed 32 v.toNat) }).ptpResult 0) := by
  simp [Ptp.offset, firstCode, hs, hv, State.correct_ok hc]

/-! ### PTP messages -/

/-- A Sync of the adopted master on the port in SLAVE. -/
theorem execPtpSyncReceived_adopted {m : PtpMsg} {s : State} (hm : s.ptpMine m.transportOk m.domain = true) (hp : m.port = s.ptp.slavePort)
    (hg : m.source = s.ptp.gmId) (hg0 : s.ptp.gmId ≠ 0) : execPtpSyncReceived m s =
    .next (if m.twoStep then s.modPtp fun p => { p with twoStep := some (s.ingress m.port m.raw) } else (s.syncMeasured m.t1 (s.ingress m.port m.raw)).ptpPorts) := by
  have hz : (s.ptp.gmId == 0) = false := beq_eq_false_iff_ne.2 hg0
  unfold execPtpSyncReceived
  simp only [hm, hp, hg, hz, bne_self_eq_false, Bool.not_true, Bool.or_false, Bool.false_eq_true, if_false]

/-- The Follow_Up of a two-step Sync of the adopted master. -/
theorem execPtpFollowUp_adopted {m : PtpMsg} {s : State} {t2 : Int} (hm : s.ptpMine m.transportOk m.domain = true) (hg : m.source = s.ptp.gmId)
    (ht : s.ptp.twoStep = some t2) : execPtpFollowUp m s = .next (((s.modPtp fun p => { p with twoStep := none }).syncMeasured m.t1 t2).ptpPorts) := by
  unfold execPtpFollowUp
  simp only [hm, hg, ht, bne_self_eq_false, Bool.not_true, Bool.or_false, Bool.false_eq_true, if_false]

@[simp] theorem State.ptpPorts_ptp (s : State) : s.ptpPorts.ptp = s.ptp := rfl
@[simp] theorem State.ptpPorts_clk (s : State) : s.ptpPorts.clk = s.clk := rfl
@[simp] theorem State.ptpPorts_ffr (s : State) : s.ptpPorts.ffr = s.ffr := rfl
@[simp] theorem State.ptpPorts_ctr (s : State) : s.ptpPorts.ctr = s.ctr := rfl

/-- The PTP state of a servo that has lost its master (12 R339). -/
def Ptp.lost (p : Ptp) : Ptp :=
  { p with holdover := true, locked := false, syncs := [], goodRun := 0, twoStep := none, annA := if p.portB then p.annA else none, annB := if p.portB then none else p.annB }

/-- PTP_MASTER_LOST marks the PTP state, counts, records and shows the ports' states. -/
theorem execPtpMasterLost_lost (s : State) :
    execPtpMasterLost s = .next (((s.modPtp Ptp.lost).bump 0x020100).emit 0x4C33 0x090 [s.ptp.gmId.toNat]).ptpPorts := rfl

/-- With room for it, what is counted and then recorded is both, whatever of the other parts is written before and after. -/
theorem State.noted_bump_emit {a c n : Nat} {b : List Int} {s u t : State} (h : s.room) (hclk : u.clk = s.clk) (hffr : u.ffr = s.ffr)
    (hctr : u.ctr = s.ctr) (htffr : t.ffr = ((u.bump a).emit c n b).ffr) (htctr : t.ctr = ((u.bump a).emit c n b).ctr) :
    State.recorded c n b s t ∧ State.counted a s t := by
  have hlen : u.ffr.queue.length < Ffr.capacity := by rw [hffr]; omega
  have hlen' : (u.bump a).ffr.queue.length < Ffr.capacity := by
    have := State.bump_length (a := a) (s := u)
    rw [hffr] at this
    omega
  have hlast : Sparse.get s.clk.lastStamp n 0 ≤ Sparse.get (u.bump a).clk.lastStamp n 0 := hclk ▸ State.bump_last n
  refine ⟨State.recorded_ffr (State.recorded_since (State.emit_recorded hlen') hlast) htffr, ?_⟩
  have hc : State.counted a u (u.bump a) := State.bump_counted hlen
  unfold State.counted State.counter at hc ⊢
  rw [htctr, State.emit_ctr hlen', hc, hctr]

/-- The announces after one of a port has come. -/
theorem Ptp.announced (m : PtpAnn) (p : Ptp) : (if m.port == .b then { p with annB := some m } else { p with annA := some m } : Ptp) =
    if m.port = HostPort.b then ({ p with annB := some m } : Ptp) else ({ p with annA := some m } : Ptp) := by
  cases m.port <;> rfl

end Sys2Proof.Machine

open Sys2Proof Sys2Proof.Machine

/-- Settles O41: a served command reaches its meaning, whose effect on the clock and the PTP state is read off. -/
theorem timeCommandsComplete : Obligations.TimeCommandsComplete := by
  refine ⟨fun s q x tai h hs hl hv hr => ?_, fun s q x tai h hs hl hv hc => ?_, fun s r hr hv => ?_, fun s q x h hm hc => ?_, fun s q x v h => ?_,
    fun s q x v h hs hlo hhi => ?_, fun s q x v h hs hv hc => ?_, fun s m hm hp hg hg0 ht => ?_, fun s m hm hp hg hg0 ht => ?_, fun s m t2 hm hg ht => ?_,
    fun s raw => ⟨_, rfl, rfl, rfl⟩, fun s m t3 hm ht hp => ?_, fun s m t1 t2 t3 hm ht hp hl => ?_, fun s m hm hp => ?_, fun s m b hm hb hg hc => ?_, fun s hroom => ?_⟩
  case _ =>
    refine ⟨_, rfl, ?_⟩
    rw [State.withReq_heard h.1 _ _ _ h.2]
    have hs' : ((s.enter q 9).ptp.servo && (s.enter q 9).ptp.locked) = false := hs
    have hl' : (s.enter q 9).leads = true := hl
    have hv' : (s.enter q 9).clk.tscValid = false := hv
    simp only [hs', hl', hv', Bool.not_true, Bool.not_false, Bool.false_eq_true, if_false, if_true]
    rw [State.requestSet_first (s := s.enter q 9) hr]
    exact ⟨rfl, rfl⟩
  case _ =>
    refine ⟨_, rfl, ?_⟩
    rw [State.withReq_heard h.1 _ _ _ h.2]
    have hs' : ((s.enter q 9).ptp.servo && (s.enter q 9).ptp.locked) = false := hs
    have hl' : (s.enter q 9).leads = true := hl
    have hv' : (s.enter q 9).clk.tscValid = true := hv
    have hc' : (s.enter q 9).tooLarge ((tai : Int) - (s.enter q 9).now) = false := hc
    simp only [hs', hl', hv', State.correct_ok hc', Bool.not_true, Bool.false_eq_true, if_false, if_true, State.reply_clk]
    exact ⟨rfl, rfl⟩
  case _ =>
    obtain ⟨t, ht, ha, hw⟩ := execTscSet_atSet hr hv
    simp only [Clock.atSet, Prod.mk.injEq] at ha
    obtain ⟨hfix, hvalid, hreq⟩ := ha
    exact ⟨t, ht, hfix, hvalid, hreq, hw⟩
  case _ =>
    refine ⟨_, rfl, ?_⟩
    have hw := Ptp.accept_ok x (s := s.enter q 2) hm hc
    rw [State.hostWrite_ok h _ (by rw [hw]), hw, State.reply_ptp, State.reply_clk]
    exact ⟨rfl, rfl, rfl⟩
  case _ =>
    refine ⟨_, rfl, ?_⟩
    rw [State.hostWrite_ok h _ rfl, State.reply_ptp, State.reply_clk]
    exact ⟨rfl, rfl⟩
  case _ =>
    refine ⟨_, rfl, ?_⟩
    have hw := Ptp.incrLo_ok x (s := s.enter q 2) hs hlo hhi
    rw [State.hostWrite_ok h _ (by rw [hw]), hw, State.reply_clk]
    rfl
  case _ =>
    refine ⟨_, rfl, ?_⟩
    have hw := Ptp.offset_ok x (s := s.enter q 2) hs hv hc
    rw [State.hostWrite_ok h _ (by rw [hw]), hw, State.reply_ptp, State.reply_clk]
    exact ⟨rfl, rfl⟩
  case _ => exact ⟨_, execPtpSyncReceived_adopted hm hp hg hg0, by rw [if_pos ht]; rfl⟩
  case _ =>
    refine ⟨_, execPtpSyncReceived_adopted hm hp hg hg0, ?_⟩
    have ho := State.syncMeasured_measured m.t1 (s.ingress m.port m.raw) s
    rw [if_neg (by simp [ht]), State.ptpPorts_ptp, State.ptpPorts_clk]
    exact ⟨congrArg Prod.fst ho, fun ⟨hs, hl, hv, hn, hr⟩ => ⟨_, State.syncMeasured_setReq hs hl hv hn hr, rfl⟩⟩
  case _ =>
    refine ⟨_, execPtpFollowUp_adopted hm hg ht, ?_⟩
    have ho := State.syncMeasured_measured m.t1 t2 (s.modPtp fun p => { p with twoStep := none })
    exact ⟨congrArg Prod.snd ho, congrArg Prod.fst ho⟩
  case _ =>
    refine ⟨_, rfl, ?_⟩
    simp only [hm, ht, hp, Bool.not_true, Bool.false_eq_true, if_false, State.modPtp_img, beq_self_eq_true, if_true]
    rfl
  case _ =>
    refine ⟨_, rfl, ?_⟩
    have hp' : (s.img.cfg.io.ptpProfile == .power) = false := beq_eq_false_iff_ne.2 hp
    simp only [hm, ht, hp', hl, Bool.not_true, Bool.false_eq_true, if_false, State.modPtp_img, State.modPtp_ptp]
  case _ =>
    refine ⟨_, rfl, ?_⟩
    rw [if_pos (by simp [hm, hp])]
    rfl
  case _ =>
    refine ⟨_, rfl, ?_⟩
    rw [← Ptp.announced] at hb
    have hg' : (b.gm == s.ptp.gmId) = false := beq_eq_false_iff_ne.2 hg
    have hkeep : (if m.port == .b then { s.ptp with annB := some m } else { s.ptp with annA := some m } : Ptp).gmId = s.ptp.gmId := by split <;> rfl
    simp only [hm, Bool.not_true, Bool.false_eq_true, if_false, State.modPtp_ptp, hb, hkeep, hg', State.modPtp_img, not_lt.2 hc, State.ptpPorts_ptp]
    exact ⟨trivial, trivial, trivial, trivial, trivial⟩
  case _ =>
    refine ⟨_, execPtpMasterLost_lost s, ?_, ?_, State.noted_bump_emit (u := s.modPtp Ptp.lost) hroom rfl rfl rfl (State.ptpPorts_ffr _) (State.ptpPorts_ctr _)⟩ <;>
      rw [State.ptpPorts_ptp, State.emit_ptp, State.bump_ptp, State.modPtp_ptp] <;> rfl

end

section
/-! PROOF. What is counted, whether the first-fault queue has room or not. -/

-- One task at a time: the check limits memory, and each task has a stack of its own.
set_option Elab.async false

namespace Sys2Proof.Machine

/-- Recording raises no counter but that of the events dropped. -/
theorem State.emit_counter {a c n : Nat} {b : List Int} {s : State} (ha : a ≠ 0x2C0100) : (s.emit c n b).counter a = s.counter a := by
  unfold State.counter State.emit State.deliver
  split
  · rfl
  · simp [State.stamped, State.countOnly, State.dropEvent, Sparse.get_set, ha]

theorem State.noteSaturated_counter {a b : Nat} {s : State} (ha : a ≠ 0x2C0100) : (s.noteSaturated b).counter a = s.counter a := by
  unfold State.noteSaturated
  split
  · exact State.emit_counter ha
  · rfl

/-- A count raises its own counter, and no other but that of the events dropped. -/
theorem State.bump_counter {a b : Nat} {s : State} (ha : a ≠ 0x2C0100) :
    (s.bump b).counter a = if a = b then min (Counter.max b) (s.counter b + 1) else s.counter a := by
  rw [State.bump, State.noteSaturated_counter ha]
  simp only [State.counter, State.countOnly, State.setCtr_ctr, Sparse.get_set]

theorem State.bump_counted_full {a : Nat} {s : State} (ha : a ≠ 0x2C0100) : State.counted a s (s.bump a) := by
  rw [State.counted, State.bump_counter ha, if_pos rfl]

/-- What counted since a state with the same counters. -/
theorem State.counted_of_ctr {a : Nat} {s u t : State} (h : State.counted a u t) (hu : u.ctr = s.ctr) : State.counted a s t := by
  unfold State.counted State.counter at h ⊢
  rwa [hu] at h

theorem State.refuseReq_counted {q : Req} {c : Nat} {s u : State} (hu : u.ctr = s.ctr) : State.counted 0x030200 s (u.refuseReq q c) :=
  State.counted_of_ctr (State.bump_counted_full (by decide)) (by rw [State.reply_ctr, hu])

end Sys2Proof.Machine

end

section
/-! PROOF. Commands refused by their owner. -/

-- One task at a time: the check limits memory, and each task has a stack of its own.
set_option Elab.async false

namespace Sys2Proof.Machine

/-- A command register's write that its checks refuse. -/
theorem Write.cmd_refused {check : Session → State → Nat} {result : Nat → State → State} {x : Session} {s : State} {c : Nat}
    (h : check x s = c) (hc : c ≠ 0) (effect : State → State) : Write.cmd check result effect x s = (c, result c s) := by
  subst h
  exact if_neg hc

/-- The first check of a list that fails gives its code. -/
theorem firstCode_head {c : Bool} (h : c = true) (k : Nat) (l : List (Bool × Nat)) : firstCode ((c, k) :: l) = k := if_pos h

section
variable {q : Req} {x : Session} {s : State} {n : Fin 8}

/-- A served write that its checks refuse answers with its code, the RESULT written. -/
theorem State.hostWrite_refuses (h : s.serves q x) {w : Write} {c : Nat} {t : State} (hw : w x (s.enter q 2) = (c, t)) (hc : c ≠ 0) :
    s.hostWrite q w = t.refuseReq q c := by
  rw [State.hostWrite_refused h w (by rwa [hw]), hw]

/-- A command of a Ring port without its lease (03 R96). -/
theorem ringCmd_noLease {check : Session → State → Nat} {effect : State → State} (h : s.serves q x) (hc : check x (s.enter q 2) = 0x020B) :
    ∃ t, Host.Outcome.next (s.hostWrite q (Write.cmd check (fun c s => s.ringResult n c 0) effect)) = (.next t : Host.Outcome State Fault Refusal) ∧
      t.ring[n].resCode = 0x020B ∧ t.ring[n].mode = s.ring[n].mode ∧ t.ring[n].enumRun = s.ring[n].enumRun ∧ t.ring[n].nodes = s.ring[n].nodes ∧
      State.counted 0x030200 s t := by
  rw [State.hostWrite_refuses h (Write.cmd_refused hc (by decide) _) (by decide)]
  refine ⟨_, rfl, ?_, ?_, ?_, ?_, State.refuseReq_counted rfl⟩ <;> simp [State.ringResult]

/-- A command of a string without its lease (05 R157). -/
theorem stringCmd_noLease (check : Session → State → Nat × Nat) (effect : State → State) (h : s.serves q x) (hl : s.strLease n = false) :
    ∃ t, Host.Outcome.next (s.hostWrite q (StrEng.cmd n check effect)) = (.next t : Host.Outcome State Fault Refusal) ∧
      t.str[n].resCode = 0x0508 ∧ t.str[n].state = s.str[n].state ∧ t.str[n].drives = s.str[n].drives ∧ t.str[n].loop = s.str[n].loop ∧
      State.counted 0x030200 s t := by
  have hw : StrEng.cmd n check effect x (s.enter q 2) = (0x0508, (s.enter q 2).strResult n 0x0508 0) := by
    have hl' : (s.enter q 2).strLease n = false := hl
    simp [StrEng.cmd, hl']
  rw [State.hostWrite_refuses h hw (by decide)]
  refine ⟨_, rfl, ?_, ?_, ?_, ?_, State.refuseReq_counted rfl⟩ <;> simp [State.strResult]

/-- A command of plant logic on a member that does not lead (15 R397). -/
theorem scanCmd_noRole (service : Bool) (states : List ScanState) (more : State → Nat) (effect : State → State) (h : s.serves q x) (hl : s.leads = false) :
    ∃ t, Host.Outcome.next (s.hostWrite q (Scan.cmd service states more effect)) = (.next t : Host.Outcome State Fault Refusal) ∧
      t.scan.resCode = 0x0F02 ∧ t.scan.state = s.scan.state ∧ t.scan.pend = s.scan.pend ∧ t.scan.stepPend = s.scan.stepPend ∧
      State.counted 0x030200 s t := by
  have hl' : (!(s.enter q 2).leads) = true := congrArg not hl
  unfold Scan.cmd
  rw [State.hostWrite_refuses h (Write.cmd_refused (firstCode_head hl' _ _) (by decide) _) (by decide)]
  refine ⟨_, rfl, ?_, ?_, ?_, ?_, State.refuseReq_counted rfl⟩ <;> simp [State.scanResult]

/-- A command of a pulse input on a member that does not lead (14 R383). -/
theorem qinCmd_noRole (effect : State → State) (h : s.serves q x) (hl : s.leads = false) :
    ∃ t, Host.Outcome.next (s.hostWrite q (Write.cmd (fun _ s => if s.leads then 0 else 0x0E01) (State.qinResult n) effect)) =
        (.next t : Host.Outcome State Fault Refusal) ∧
      t.io.qin[n].resCode = 0x0E01 ∧ t.io.qin[n].count = s.io.qin[n].count ∧ t.io.qin[n].uncertain = s.io.qin[n].uncertain ∧
      State.counted 0x030200 s t := by
  have hl' : ¬ (s.enter q 2).leads = true := Bool.eq_false_iff.1 hl
  rw [State.hostWrite_refuses h (Write.cmd_refused (if_neg hl') (by decide) _) (by decide)]
  refine ⟨_, rfl, ?_, ?_, ?_, State.refuseReq_counted rfl⟩ <;> simp [State.qinResult, State.modQin]

/-- CAPTURE_REF on a member that does not lead (14 R383). -/
theorem execCaptureRef_noRole (h : s.serves q x) (hl : s.leads = false) :
    ∃ t, execCaptureRef q n s = .next t ∧ t.io.usf[n].resCode = 0x0E01 ∧ t.io.usf[n].capture = s.io.usf[n].capture ∧ State.counted 0x030200 s t := by
  have hl' : (!(s.enter q 2).leads) = true := congrArg not hl
  unfold execCaptureRef Usf.captureCmd
  rw [State.hostWrite_refuses h (Write.cmd_refused (firstCode_head hl' _ _) (by decide) _) (by decide)]
  refine ⟨_, rfl, ?_, ?_, State.refuseReq_counted rfl⟩ <;> simp [State.usfResult, State.modUsf]

/-- A command of the history store on a member that does not write it (11 R316). -/
theorem histCmd_noRole {check : Session → State → Nat} {effect : State → State} (h : s.serves q x) (hc : check x (s.enter q 2) = 0x0B04) :
    ∃ t, Host.Outcome.next (s.hostWrite q (Write.cmd check State.histResult effect)) = (.next t : Host.Outcome State Fault Refusal) ∧
      t.hist.resCode = 0x0B04 ∧ t.hist.nv = s.hist.nv ∧ t.hist.a = s.hist.a ∧ t.hist.b = s.hist.b ∧ State.counted 0x030200 s t := by
  rw [State.hostWrite_refuses h (Write.cmd_refused hc (by decide) _) (by decide)]
  refine ⟨_, rfl, ?_, ?_, ?_, ?_, State.refuseReq_counted rfl⟩ <;> simp [State.histResult]

/-- TIME_SET on a member that does not lead (12 R340). -/
theorem execTimeSet_noRole {tai : Nat} (h : s.prompt q x) (hm : (s.roleOf x).mayWrite = true) (hp : (s.ptp.servo && s.ptp.locked) = false)
    (hl : s.leads = false) :
    ∃ t, execTimeSet q tai s = .next t ∧ s.onlyRefused q 9 0x0C08 t := by
  have hp' : ((s.enter q 9).ptp.servo && (s.enter q 9).ptp.locked) = false := hp
  have hl' : (s.enter q 9).leads = false := hl
  unfold execTimeSet
  rw [State.withReq_heard h.1 _ _ _ hm]
  simp only [hp', hl', Bool.not_false, Bool.false_eq_true, if_false, if_true]
  refine ⟨_, rfl, ?_, State.refuseReq_counted rfl, ?_⟩
  · rw [State.refuseReq, State.bump_out]
    exact State.reply_prompt h (by decide) rfl h.2.2.2.2 _ _
  · exact (State.within_of_upTo (W := .whole Part.answers) (by simp)).parts

/-- A command of the bank that its FAULT does not permit (06 R166). -/
theorem bankCmd_state {w : Write} (h : s.serves q x) (hw : w x (s.enter q 2) = (0x0610, (s.enter q 2).bankResult 0x0610 0)) (hf : s.bank.state = .fault) :
    ∃ t, Host.Outcome.next (s.hostWrite q w) = (.next t : Host.Outcome State Fault Refusal) ∧
      t.bank.resCode = 0x0610 ∧ t.bank.state = .fault ∧ t.str = s.str ∧ State.counted 0x030200 s t := by
  rw [State.hostWrite_refuses h hw (by decide)]
  refine ⟨_, rfl, ?_, ?_, ?_, State.refuseReq_counted rfl⟩ <;> simp [State.bankResult, hf]

/-- A row of Table 6.1 that does not start from FAULT. -/
theorem State.bankRow_fault {states : List BankState} (conds : List Bool) (hf : s.bank.state = .fault) (hs : .fault ∉ states) :
    s.bankRow states conds = (0x0610, 0) := if_pos (hf ▸ hs)

theorem Bank.cmd_refused {check : Session → State → Nat × Nat} {c d : Nat} (h : check x s = (c, d)) (hc : c ≠ 0) (effect : State → State) :
    Bank.cmd check effect x s = (c, s.bankResult c d) := by
  simp [Bank.cmd, h, hc]

/-- PRECHARGE from FAULT is refused before its test. -/
theorem Bank.prechargeCmd_refused (failed : Option (Fin 8)) (hf : s.bank.state = .fault) :
    Bank.prechargeCmd failed x (s.enter q 2) = (0x0610, (s.enter q 2).bankResult 0x0610 0) := by
  unfold Bank.prechargeCmd
  rw [Bank.cmd_refused (State.bankRow_fault _ hf (by decide)) (by decide)]
  rfl

/-- SERVICE from FAULT is refused whatever the role. -/
theorem Bank.serviceCmd_refused (hf : s.bank.state = .fault) :
    Bank.serviceCmd x (s.enter q 2) = (0x0610, (s.enter q 2).bankResult 0x0610 0) := by
  refine Bank.cmd_refused ?_ (by decide) _
  rw [State.bankRow_fault (s := s.enter q 2) _ hf (by decide)]
  rfl

end

end Sys2Proof.Machine

open Sys2Proof Sys2Proof.Machine

/-- Settles O16: the first check of each command is its owner's, and a refusal writes the RESULT register alone. -/
theorem commandsRefusedByTheirOwner : Obligations.CommandsRefusedByTheirOwner := by
  have lease {s : State} {n : Fin 8} (hl : s.ringLease n = false) (q : Req) : (!(s.enter q 2).ringLease n) = true := congrArg not hl
  have writes {s : State} (hl : s.writes = false) (q : Req) : (!(s.enter q 2).writes) = true := congrArg not hl
  have row {s : State} (q : Req) {states : List BankState} (conds : List Bool) (hf : s.bank.state = .fault) (hs : .fault ∉ states) :
      (s.enter q 2).bankRow states conds = (0x0610, 0) := State.bankRow_fault conds hf hs
  exact ⟨
    fun s q x n h hl => ringCmd_noLease h (firstCode_head (lease hl q) _ _),
    fun s q x n h hl => ringCmd_noLease h (firstCode_head (lease hl q) _ _),
    fun s q x n h hl => stringCmd_noLease _ _ h hl,
    fun s q x n h hl => stringCmd_noLease _ _ h hl,
    fun s q x n h hl => stringCmd_noLease _ _ h hl,
    fun s q x n h hl => stringCmd_noLease _ _ h hl,
    fun s q x n h hl => stringCmd_noLease _ _ h hl,
    fun s q x n h hl => stringCmd_noLease _ _ h hl,
    fun s q x n h hl => stringCmd_noLease _ _ h hl,
    fun s q x n h hl => stringCmd_noLease _ _ h hl,
    fun s q x n h hl => stringCmd_noLease _ _ h hl,
    fun s q x h hl => scanCmd_noRole _ _ _ _ h hl,
    fun s q x h hl => scanCmd_noRole _ _ _ _ h hl,
    fun s q x h hl => scanCmd_noRole _ _ _ _ h hl,
    fun s q x h hl => scanCmd_noRole _ _ _ _ h hl,
    fun s q x h hl => scanCmd_noRole _ _ _ _ h hl,
    fun s q x n h hl => qinCmd_noRole _ h hl,
    fun s q x n h hl => qinCmd_noRole _ h hl,
    fun s q x n h hl => execCaptureRef_noRole h hl,
    fun s q x force ns h hl => histCmd_noRole h (firstCode_head (writes hl q) _ _),
    fun s q x force ns h hl => histCmd_noRole h (firstCode_head (writes hl q) _ _),
    fun s q x h hl => histCmd_noRole h (firstCode_head (writes hl q) _ _),
    fun s q x h hl => histCmd_noRole h (firstCode_head (writes hl q) _ _),
    fun s q x p h hl => histCmd_noRole h (firstCode_head (writes hl q) _ _),
    fun s q x tai h hm hp hl => execTimeSet_noRole h hm hp hl,
    fun s q x h hf => bankCmd_state h (Bank.cmd_refused (row q _ hf (by decide)) (by decide) _) hf,
    fun s q x failed h hf => bankCmd_state h (Bank.prechargeCmd_refused failed hf) hf,
    fun s q x h hf => bankCmd_state h (Bank.cmd_refused (row q _ hf (by decide)) (by decide) _) hf,
    fun s q x h hf => bankCmd_state h (Bank.cmd_refused (row q _ hf (by decide)) (by decide) _) hf,
    fun s q x h hf => bankCmd_state h (Bank.cmd_refused (row q _ hf (by decide)) (by decide) _) hf,
    fun s q x h hf => bankCmd_state h (Bank.serviceCmd_refused hf) hf,
    fun s q x h hf => bankCmd_state h (Bank.cmd_refused (row q _ hf (by decide)) (by decide) _) hf⟩

end

section
/-! PROOF. Enumeration and CLOSE of a Ring. -/

-- One task at a time: the check limits memory, and each task has a stack of its own.
set_option Elab.async false

namespace Sys2Proof.Machine

/-! ### The running enumeration -/

/-- An enumeration at a phase runs, in that phase, and does not wait between two node steps. -/
theorem RingPort.at_eq {r : RingPort} {p : EnumPhase} {e : EnumRun} (h : r.at p = some e) : r.enumRun = some e ∧ e.phase = p ∧ e.held = false := by
  simpa [RingPort.at, Option.filter_eq_some_iff] using h

theorem State.modRing_get (s : State) (n : Fin 8) (f : RingPort → RingPort) : (s.modRing n f).ring[n] = f s.ring[n] := by simp

@[simp] theorem State.sendRing_ring (n : Fin 8) (b : Bool) (w : String) (x t a c o : Nat) (p : List Byte) (k : Option Nat) (s : State) :
    (s.sendRing n b w x t a c o p k).ring = s.ring := by
  unfold State.sendRing
  split <;> rfl

@[simp] theorem State.sendProbe_ring (n : Fin 8) (b : Bool) (s : State) : (s.sendProbe n b).ring = s.ring := by
  unfold State.sendProbe
  split
  · rfl
  · exact State.sendRing_ring _ _ _ _ _ _ _ _ _ _ _

/-- What a frame put on the lane adds depends on the lease, the silence, the cycle and whose run it is alone. -/
theorem State.sendRing_out {n : Fin 8} {b : Bool} {w : String} {x t a c o : Nat} {p : List Byte} {k : Option Nat} {s u : State}
    (hm : u.mayLaunch n b = s.mayLaunch n b) (hc : u.cycle = s.cycle) (ho : u.out = s.out) :
    (u.sendRing n b w x t a c o p k).out = (s.sendRing n b w x t a c o p k).out := by
  unfold State.sendRing
  rw [hm, hc]
  split
  · simp only [State.send, State.setOut_out, ho]
  · exact ho

theorem State.mayLaunch_modRing {n : Fin 8} {b : Bool} {f : RingPort → RingPort} (s : State)
    (hf : ∀ r, (f r).enumRun.map (·.peer) = r.enumRun.map (·.peer) ∧ (f r).silent b = r.silent b) :
    (s.modRing n f).mayLaunch n b = s.mayLaunch n b := by
  obtain ⟨hp, hs⟩ := hf s.ring[n]
  unfold State.mayLaunch
  rw [State.modRing_get, hp, hs]
  rfl

theorem State.mayLaunch_modEnum {n : Fin 8} {b : Bool} {f : EnumRun → EnumRun} (s : State) (hf : ∀ e, (f e).peer = e.peer) :
    (s.modEnum n f).mayLaunch n b = s.mayLaunch n b :=
  State.mayLaunch_modRing s fun r => ⟨by cases r.enumRun <;> simp [hf], rfl⟩

theorem State.modEnum_run {n : Fin 8} {f : EnumRun → EnumRun} {s : State} {e : EnumRun} (h : s.ring[n].enumRun = some e) :
    (s.modEnum n f).ring[n] = { s.ring[n] with enumRun := some (f e) } := by
  rw [State.modEnum, State.modRing_get, h]
  rfl

/-- ASSIGN of the next address (03 R77; log 71). -/
theorem State.sendAssign_port {n : Fin 8} {s : State} {e : EnumRun} (h : s.ring[n].enumRun = some e) :
    (s.sendAssign n).ring[n] = { s.ring[n] with enumRun := some { e with phase := .assign, sess := none, probes := [] } } := by
  unfold State.sendAssign
  rw [State.sendRing_ring, State.modEnum_run h]

theorem State.sendAssign_out {n : Fin 8} {s : State} {e : EnumRun} (h : s.ring[n].enumRun = some e) :
    (s.sendAssign n).out = (s.sendRing n false "ASSIGN" 0 0x05 0 0 0 (leBytes 1 (e.k + 1)) none).out := by
  unfold State.sendAssign
  rw [h]
  exact State.sendRing_out (State.mayLaunch_modEnum s fun _ => rfl) rfl rfl

/-- The transit frame (03 R77; log 71). -/
theorem State.sendTransit_port {n : Fin 8} {s : State} {e : EnumRun} (h : s.ring[n].enumRun = some e) :
    (s.sendTransit n).ring[n] = { s.ring[n] with enumRun := some { e with phase := .transit } } := by
  unfold State.sendTransit
  rw [State.sendRing_ring, State.modEnum_run h]

theorem State.sendTransit_out (n : Fin 8) (s : State) :
    (s.sendTransit n).out = (s.sendRing n false "TRANSIT" 0 0x05 0 0 0 (leBytes 1 ((s.topo n).packs + 1)) none).out :=
  State.sendRing_out (State.mayLaunch_modEnum s fun _ => rfl) rfl rfl

theorem State.launch_enumRun (n : Fin 8) (b : Bool) (c : RingCmdReq) (s : State) : (s.launch n b c).ring[n].enumRun = s.ring[n].enumRun :=
  State.rings_get (State.rings_of_quiet (g := RingPort.enumRun) (fun _ => rfl) (State.launch_quiet n b c s)) n

/-- An enumeration that fails ends, with its code and position in RESULT (03 R79). -/
theorem State.enumFail_port (n : Fin 8) (c p : Nat) (s : State) : (s.enumFail n c p).ring[n].mode = .enumFailed ∧ (s.enumFail n c p).ring[n].enumRun = none ∧
    (s.enumFail n c p).ring[n].resCode = BitVec.ofNat 16 c ∧ (s.enumFail n c p).ring[n].resDetail = BitVec.ofNat 16 p := by
  unfold State.enumFail
  rw [State.emit_ring, State.bump_ring, State.ringResult, State.modRing_get, State.modRing_get]
  exact ⟨rfl, rfl, rfl, rfl⟩

/-- A failed SESSION ends the enumeration with ENUM_AUTH (10 R276). -/
theorem State.nodeAuthFail_port (n : Fin 8) (k : Nat) (s : State) : (s.nodeAuthFail n k).ring[n].mode = .enumFailed ∧
    (s.nodeAuthFail n k).ring[n].enumRun = none ∧ (s.nodeAuthFail n k).ring[n].resCode = 0x0205 := by
  obtain ⟨u, hu⟩ : ∃ u : State, s.nodeAuthFail n k = u.enumFail n 0x0205 k := ⟨_, rfl⟩
  obtain ⟨hmode, hrun, hcode, -⟩ := State.enumFail_port n 0x0205 k u
  rw [hu]
  exact ⟨hmode, hrun, hcode⟩

/-- Room for what one command records is room for one event. -/
theorem State.room_length {s : State} (h : s.room) : s.ffr.queue.length < Ffr.capacity := by omega

theorem State.enumFail_recorded {n : Fin 8} {c p : Nat} {s : State} (h : s.room) :
    State.recorded 0x821B (Src.ring n) [(c : Int), (p : Int)] s (s.enumFail n c p) :=
  (State.noted_bump_emit (u := (s.modRing n fun r => { r.dropKeys with mode := .enumFailed, enumRun := none, outA := none, outB := none, nodeCount := 0 }).ringResult n c p)
    h rfl rfl rfl rfl rfl).1

/-! ### Commands accepted -/

/-- A served command that its checks accept. -/
theorem State.hostWrite_accepts {q : Req} {x : Session} {s : State} (h : s.serves q x) {check : Session → State → Nat} {result : Nat → State → State}
    {effect : State → State} (hc : check x (s.enter q 2) = 0) :
    s.hostWrite q (Write.cmd check result effect) = (effect (result 0 (s.enter q 2))).reply q 0 [] := by
  have hw : Write.cmd check result effect x (s.enter q 2) = (0, effect (result 0 (s.enter q 2))) := if_pos hc
  rw [State.hostWrite_ok h _ (by rw [hw]), hw]

/-- ENUMERATE under the lease, with nothing running and the string idle with open contactors, is accepted. -/
theorem State.enumCode_ok {n : Fin 8} {s : State} (hl : s.ringLease n = true) (hb : s.ring[n].busy = false) (ha : s.str[n].state.active = false)
    (ho : s.str[n].auxOpen = true) : s.enumCode n = 0 := by
  simp [State.enumCode, firstCode, hl, hb, ha, ho, -Fin.getElem_fin]

theorem State.enumBegin_ring (n : Fin 8) (s : State) : (s.enumBegin n).ring = (s.enumStart n).ring := by
  unfold State.enumBegin State.when
  split
  · rw [State.twinRecord_ring]
  · rfl

/-- CLOSE of a split Ring whose break shows signal, under the lease, with nothing running and not blocked, is accepted. -/
theorem State.closeCode_ok {n : Fin 8} {s : State} (hl : s.ringLease n = true) (hb : s.ring[n].busy = false) (hm : s.ring[n].mode = .split)
    (hc : s.ring[n].closeBlocked = false) (hs : s.ring[n].signalOk (s.topo n).packs = true) : s.closeCode n = 0 := by
  simp [State.closeCode, firstCode, hl, hb, hm, hc, hs, -Fin.getElem_fin]

/-! ### The beginning of a CLOSE -/

/-- What a CLOSE tells of a port: its mode, its step and its RESULT. -/
def RingPort.steps (r : RingPort) : RingMode × CloseStep × BitVec 16 := (r.mode, r.closeStep, r.resCode)

theorem State.launch_steps (n : Fin 8) (b : Bool) (c : RingCmdReq) (s : State) : (s.launch n b c).rings RingPort.steps = s.rings RingPort.steps := by
  unfold State.launch
  split
  · rfl
  · extract_lets s1 c done s2
    have h1 : s1.rings RingPort.steps = s.rings RingPort.steps :=
      State.rings_when ((State.rings_when (State.bump_rings _)).trans (State.rings_modRing fun _ => rfl))
    have h2 : s2.rings RingPort.steps = s1.rings RingPort.steps :=
      (State.rings_modRing fun r => by cases b <;> rfl).trans (State.rings_modRing fun r => by cases b <;> rfl)
    exact (State.rings_of_upTo (by simp)).trans (h2.trans h1)

theorem State.pump_steps (n : Fin 8) (b : Bool) (s : State) : (s.pump n b).rings RingPort.steps = s.rings RingPort.steps := by
  unfold State.pump
  dsimp only
  split
  · rfl
  · split
    · exact (State.launch_steps _ _ _ _).trans (State.rings_modRing fun _ => rfl)
    · rfl

/-- An urgent request is never refused with RING_CMD_FULL. -/
theorem State.ringAsk_steps {n : Fin 8} {c : RingCmdReq} (h : c.urgent = true) (s : State) : (s.ringAsk n c).rings RingPort.steps = s.rings RingPort.steps := by
  unfold State.ringAsk State.ringRequest
  rw [h, Bool.or_true, if_pos rfl]
  exact State.rings_ite_snd rfl ((State.pump_steps _ _ _).trans (State.rings_modRing fun _ => rfl))

theorem State.wrapCmds_steps (n : Fin 8) (o : BitVec 16) (s : State) : (s.wrapCmds n o).rings RingPort.steps = s.rings RingPort.steps := by
  unfold State.wrapCmds
  extract_lets p cmd
  have hcmd (a side : Nat) (u : State) : (cmd a side u).rings RingPort.steps = u.rings RingPort.steps := by
    simp only [cmd]
    split
    · exact State.ringAsk_steps rfl u
    · rfl
  rw [hcmd, hcmd]

/-- Whether both exchanges of an UNWRAP still fit depends on the window and the exchanges of the ends alone. -/
theorem State.unwrapFits_modRing {n : Fin 8} {b : Bool} {f : RingPort → RingPort} (s : State)
    (hf : ∀ r, (f r).windowOpen = r.windowOpen ∧ (f r).outAt b = r.outAt b ∧ (f r).cmdEnd b = r.cmdEnd b) :
    (s.modRing n f).unwrapFits n b = s.unwrapFits n b := by
  obtain ⟨hw, ho, he⟩ := hf s.ring[n]
  unfold State.unwrapFits
  rw [State.modRing_get, hw, ho, he]
  rfl

/-- A CLOSE that waits begins where both exchanges fit; nothing of its answer changes. -/
theorem State.tryUnwrap_steps {n : Fin 8} {s : State} (h : s.ring[n].closeStep = .wait) : (s.tryUnwrap n).ring[n].steps =
    (s.ring[n].mode, if s.unwrapFits n false && s.unwrapFits n true then .unwrap else .wait, s.ring[n].resCode) := by
  unfold State.tryUnwrap
  rw [h, beq_self_eq_true, Bool.true_and]
  split
  · rw [State.rings_get (State.wrapCmds_steps n _ _) n, State.modRing_get]
    rfl
  · rw [RingPort.steps, h]

/-! ### The commands -/

/-- ENUMERATE accepted (03 R76). -/
theorem execRingEnumerate_begins {q : Req} {x : Session} {n : Fin 8} {s : State} (h : s.serves q x) (hc : s.enumCode n = 0) :
    ∃ t, execRingEnumerate q n s = .next t ∧ t.ring = ((s.ringResult n 0 0).enumStart n).ring := by
  refine ⟨_, congrArg Host.Outcome.next (State.hostWrite_accepts h hc), ?_⟩
  rw [State.reply_ring, State.enumBegin_ring]
  rfl

/-- CLOSE accepted (03 R93 step 1). -/
theorem execRingClose_begins {q : Req} {x : Session} {n : Fin 8} {s : State} (h : s.serves q x) (hc : s.closeCode n = 0) :
    ∃ t, execRingClose q n s = .next t ∧
      t.ring[n].steps = (s.ring[n].mode, if s.unwrapFits n false && s.unwrapFits n true then .unwrap else .wait, 0) := by
  refine ⟨_, congrArg Host.Outcome.next (State.hostWrite_accepts h hc), ?_⟩
  rw [State.reply_ring, State.tryUnwrap_steps (by rw [State.modRing_get])]
  have hfit (b : Bool) {f : RingPort → RingPort} (hf : ∀ r, (f r).windowOpen = r.windowOpen ∧ (f r).outAt b = r.outAt b ∧ (f r).cmdEnd b = r.cmdEnd b) :
      (((s.enter q 2).ringResult n 0 0).modRing n f).unwrapFits n b = s.unwrapFits n b :=
    (State.unwrapFits_modRing _ hf).trans (State.unwrapFits_modRing (s.enter q 2) fun _ => ⟨rfl, rfl, rfl⟩)
  rw [hfit false, hfit true, State.modRing_get, State.ringResult, State.modRing_get]
  · rfl
  all_goals exact fun _ => ⟨rfl, rfl, rfl⟩

/-- The state at the end of the silence, idle symbols leaving both ends (03 R76). -/
def State.silenceOver (n : Fin 8) (s : State) : State :=
  ((s.modRing n fun r => { r with mode := .enum, bcastKey := if s.trust.keysErased then none else some s.freshNat }).tick.send .ring n "IDLE" [0]).send
    .ring n "IDLE" [1]

theorem State.silenceOver_port (n : Fin 8) (s : State) : (s.silenceOver n).ring[n].mode = .enum ∧ (s.silenceOver n).ring[n].enumRun = s.ring[n].enumRun := by
  simp [State.silenceOver]

theorem State.silenceOver_mayLaunch (n : Fin 8) (s : State) : (s.silenceOver n).mayLaunch n false = s.mayLaunch n false :=
  State.mayLaunch_modRing s fun _ => ⟨rfl, rfl⟩

theorem execEnumSilenceEnd_assigns {n : Fin 8} {s : State} {e : EnumRun} (h : s.ring[n].at .silence = some e) :
    execEnumSilenceEnd n s = .next ((s.silenceOver n).sendAssign n) := by
  unfold execEnumSilenceEnd
  rw [h]
  rfl

theorem State.sendSession_ring (n : Fin 8) (k : Nat) (m : List Byte) (s : State) : (s.sendSession n k m).ring = s.ring :=
  State.sendRing_ring _ _ _ _ _ _ _ _ _ _ _

/-- A frame that fails its check is counted (03 R67). -/
theorem execIdentityReceived_bad (n : Fin 8) (ident : BitVec 128) (s : State) :
    execIdentityReceived n false ident s = .next (s.bump (Reg.ring n 0x044)) := by
  simp only [execIdentityReceived, State.frameBad, Bool.not_false, if_true]

/-- The IDENTITY of the node expected next opens its SESSION (03 R77; 10 R276). -/
theorem execIdentityReceived_hello {n : Fin 8} {ident : BitVec 128} {s : State} {e : EnumRun} {i : Fin 24} (hk : s.trust.keysErased = false)
    (h : s.ring[n].at .assign = some e) (hp : e.k + 1 ≤ (s.topo n).packs) (hn : nodeAt (e.k + 1) = some i) (hi : ident = s.img.cfg.nodeIdent n i) :
    execIdentityReceived n true ident s = .next ((s.tick.tick.modEnum n fun r =>
      { r with phase := .session, k := e.k + 1, sess := some (s.newSess r.bind) }).sendSession n (e.k + 1) (s.helloMsg e.bind)) := by
  subst hi
  simp only [execIdentityReceived, h, gt_iff_lt, not_lt.2 hp, hn, hk, bne_self_eq_false, Bool.not_true, Bool.false_eq_true, if_false]

/-- No IDENTITY in time ends the enumeration with ENUM_TIMEOUT (03 R77). -/
theorem execEnumTimeout_assign {n : Fin 8} {s : State} {e : EnumRun} (h : s.ring[n].at .assign = some e) :
    execEnumTimeout n s = .next (s.enumFail n 0x0202 (e.k + 1)) := by
  obtain ⟨hrun, hphase, hheld⟩ := RingPort.at_eq h
  simp only [execEnumTimeout, hrun, hphase, hheld]

/-- ASSIGN reaches end B once every node is open (03 R77). -/
theorem execAssignAtEndB_transit {n : Fin 8} {s : State} {e : EnumRun} (h : s.ring[n].at .assign = some e) (hp : (s.topo n).packs ≤ e.k) :
    execAssignAtEndB n s = .next (s.sendTransit n) := by
  simp only [execAssignAtEndB, h, not_lt.2 hp, if_false]

/-- The transit frame within the last hop's limit (03 R77). -/
theorem execTransitAtEndB_measures {n : Fin 8} {d : Nat} {s : State} {e : EnumRun} (h : s.ring[n].at .transit = some e)
    (hd : d ≤ (e.dA.getLast?).getD 0 + 1800 * s.hops n ((s.topo n).packs + 1)) :
    execTransitAtEndB n d s = .next ((s.modEnum n fun e =>
      { e with phase := .measureB, transit := d, k := (s.topo n).packs, probes := [] }).sendProbe n true) := by
  simp only [execTransitAtEndB, h, gt_iff_lt, not_lt.2 hd, if_false]

section
variable {n : Fin 8} {f : SessFrame} {s : State} {e : EnumRun} {i : Fin 24} {r : SessRun}

/-- The node's proof of the key, which completes its SESSION (10 R276). -/
theorem execRingSessionFrame_done (h : s.ring[n].at .session = some e) (hn : nodeAt e.k = some i) (hs : e.sess = some r) (hcrc : f.crcOk = true)
    (hmac : f.macOk = true) (hr : r.step = 5) (hf : f.step = 6) (hm : f.mac = r.doneMac) :
    execRingSessionFrame n f s = .next (((s.modNode n i fun d => { d with key := some r.key, ctr := 0 }).modEnum n fun e =>
      { e with phase := .measureA, sess := none, probes := [] }).sendProbe n false) := by
  simp [execRingSessionFrame, h, hn, hs, hcrc, hmac, hr, hf, hm, -Fin.getElem_fin]

/-- The node's identity and signature: both messages of the module go out, or the SESSION fails (10 R276). -/
theorem execRingSessionFrame_identity (h : s.ring[n].at .session = some e) (hn : nodeAt e.k = some i) (hs : e.sess = some r) (hcrc : f.crcOk = true)
    (hmac : f.macOk = true) (hr : r.step = 1) (hf : f.step = 2) :
    ∃ t, execRingSessionFrame n f s = .next t ∧
      (s.partnerOk (s.img.cfg.nodeIdent n i) r f = true → t.ring[n].enumRun.map (fun e => e.sess.map (·.step)) = some (some 5)) ∧
      (s.partnerOk (s.img.cfg.nodeIdent n i) r f = false → t = s.nodeAuthFail n e.k) := by
  obtain ⟨hrun, -, -⟩ := RingPort.at_eq h
  unfold execRingSessionFrame
  simp only [h, hn, hs, hcrc, hmac, hr, hf, Bool.and_true, Bool.not_true, Bool.false_eq_true, if_false, and_self, if_true]
  split
  next hok =>
    refine ⟨_, rfl, fun _ => ?_, fun hno => absurd (hok.symm.trans hno) (by decide)⟩
    rw [State.sendSession_ring, State.sendSession_ring, State.modEnum_run hrun]
    rfl
  next hno => exact ⟨_, rfl, fun hok => absurd hok hno, fun _ => rfl⟩

end

theorem execSessionDeadline_fails {n : Fin 8} {s : State} {e : EnumRun} (h : s.ring[n].at .session = some e) :
    execSessionDeadline n s = .next (s.nodeAuthFail n e.k) := by
  simp only [execSessionDeadline, h]

section
variable {n : Fin 8} {elapsed turn : Nat} {s : State} {e : EnumRun}

/-- A PROBE_REPLY that is not the last of its MEASURE run: the next PROBE (03 R78). -/
theorem execProbeReplyReceived_more (h : s.ring[n].enumRun = some e) (hheld : e.held = false) (hp : e.phase = .measureA ∨ e.phase = .measureB)
    (hlen : e.probes.length < 63) : execProbeReplyReceived n true true elapsed turn s =
      .next ((s.modEnum n fun e' => { e' with probes := e.probes ++ [(elapsed : Int) - 2 * turn] }).sendProbe n (e.phase == .measureB)) := by
  have hl : (e.probes ++ [(elapsed : Int) - 2 * turn]).length < 64 := by
    rw [List.length_append, List.length_singleton]
    omega
  have hphase : (e.phase == .measureA || e.phase == .measureB) = true := by
    rcases hp with hp | hp <;> rw [hp] <;> rfl
  simp only [execProbeReplyReceived, h, hheld, hphase, hl, Bool.and_true, Bool.not_true, Bool.or_self, Bool.false_eq_true, if_false, if_true]

/-- The last PROBE_REPLY of a MEASURE run from end A within the hop's limit: OPEN to the node (03 R77, R78). -/
theorem execProbeReplyReceived_measured (h : s.ring[n].enumRun = some e) (hheld : e.held = false) (hpeer : e.peer = false) (hp : e.phase = .measureA)
    (hlen : e.probes.length = 63) (hd : EnumRun.mean (e.probes ++ [(elapsed : Int) - 2 * turn]) ≤ (e.dA.getLast?).getD 0 + 1800 * s.hops n e.k) :
    execProbeReplyReceived n true true elapsed turn s = .next ((s.modEnum n fun e' =>
      { e' with phase := .openCmd, dA := e'.dA ++ [EnumRun.mean (e.probes ++ [(elapsed : Int) - 2 * turn])], probes := [] }).launch n false
        { node := e.k, opcode := 0x0001, source := Src.ring n }) := by
  have hl : ¬ (e.probes ++ [(elapsed : Int) - 2 * turn]).length < 64 := by
    rw [List.length_append, List.length_singleton, hlen]
    omega
  simp only [execProbeReplyReceived, h, hheld, hp, hl, beq_self_eq_true, Bool.and_true, Bool.true_or, Bool.not_true, Bool.or_self, Bool.false_eq_true,
    if_false, if_true, State.measuredA, gt_iff_lt, not_lt.2 hd, hpeer, Bool.not_false]

end

end Sys2Proof.Machine

open Sys2Proof Sys2Proof.Machine

/-- Settles O19: each step of the enumeration is one branch of its command, of which the port's run and what is sent are read off. -/
theorem ringEnumerationComplete : Obligations.RingEnumerationComplete := by
  refine ⟨fun s q x n h hl hb ha ho => ?_, fun s q x n h hl hb hm hc hs => ?_, fun s n e h => ?_, fun s n ident hroom => ?_,
    fun s n ident e i hk h hp hn hi => ?_, fun s n e hroom h => ?_, fun s n e h hp => ?_, fun s n d e h hd => ?_,
    fun s n f e i r h hn hs hcrc hmac hr hf hm => ?_, fun s n f e i r h hn hs hcrc hmac hr hf => ?_, fun s n e h => ?_,
    fun s n elapsed turn e h hheld hp hlen => ?_, fun s n elapsed turn e h hheld hpeer hp hlen hd => ?_⟩
  case _ =>
    obtain ⟨t, ht, hring⟩ := execRingEnumerate_begins h (State.enumCode_ok hl hb ha ho)
    refine ⟨t, ht, ?_⟩
    rw [hring, State.enumStart, State.modRing_get]
    refine ⟨rfl, rfl, ?_, fun k => ?_⟩
    · rw [State.modTrust_ring, State.ringResult, State.modRing_get]
      rfl
    · simp
  case _ =>
    obtain ⟨t, ht, hsteps⟩ := execRingClose_begins h (State.closeCode_ok hl hb hm hc hs)
    simp only [RingPort.steps, Prod.mk.injEq] at hsteps
    obtain ⟨hmode, hstep, hcode⟩ := hsteps
    exact ⟨t, ht, hstep, hmode.trans hm, hcode⟩
  case _ =>
    obtain ⟨hrun, -, -⟩ := RingPort.at_eq h
    obtain ⟨hmode, hsame⟩ := s.silenceOver_port n
    rw [hrun] at hsame
    refine ⟨_, execEnumSilenceEnd_assigns h, ?_, ?_, ?_⟩
    · rw [State.sendAssign_port hsame, hmode]
    · rw [State.sendAssign_port hsame]
      rfl
    · rw [State.sendAssign_out hsame]
      exact State.sendRing_out (s.silenceOver_mayLaunch n) rfl rfl
  case _ => exact ⟨_, execIdentityReceived_bad n ident s, State.bump_counted (State.room_length hroom), State.bump_ring _ _⟩
  case _ =>
    obtain ⟨hrun, -, -⟩ := RingPort.at_eq h
    exact ⟨_, execIdentityReceived_hello hk h hp hn hi, by rw [State.sendSession_ring, State.modEnum_run (s := s.tick.tick) hrun]; rfl⟩
  case _ =>
    obtain ⟨hmode, hrun, hcode, hdetail⟩ := State.enumFail_port n 0x0202 (e.k + 1) s
    have hrec : State.recorded 0x821B (Src.ring n) [((0x0202 : Nat) : Int), ((e.k + 1 : Nat) : Int)] s (s.enumFail n 0x0202 (e.k + 1)) := State.enumFail_recorded hroom
    rw [Nat.cast_succ] at hrec
    exact ⟨_, execEnumTimeout_assign h, hmode, hrun, hcode, hdetail, hrec⟩
  case _ =>
    obtain ⟨hrun, -, -⟩ := RingPort.at_eq h
    refine ⟨_, execAssignAtEndB_transit h hp, ?_, s.sendTransit_out n⟩
    rw [State.sendTransit_port hrun]
    rfl
  case _ =>
    obtain ⟨hrun, -, -⟩ := RingPort.at_eq h
    refine ⟨_, execTransitAtEndB_measures h hd, ?_⟩
    rw [State.sendProbe_ring, State.modEnum_run hrun]
    rfl
  case _ =>
    obtain ⟨hrun, -, -⟩ := RingPort.at_eq h
    refine ⟨_, execRingSessionFrame_done h hn hs hcrc hmac hr hf hm, ?_⟩
    rw [State.sendProbe_ring, State.modEnum_run (e := e) (by rw [State.modNode, State.modRing_get, hrun]), State.modNode, State.modRing_get]
    simp
  case _ =>
    obtain ⟨hrun, -, -⟩ := RingPort.at_eq h
    obtain ⟨t, ht, hok, hbad⟩ := execRingSessionFrame_identity h hn hs hcrc hmac hr hf
    refine ⟨t, ht, hok, fun hno => ?_⟩
    obtain ⟨hmode, -, hcode⟩ := State.nodeAuthFail_port n e.k s
    rw [hbad hno]
    exact ⟨hmode, hcode⟩
  case _ => exact ⟨_, execSessionDeadline_fails h, State.nodeAuthFail_port n e.k s⟩
  case _ =>
    refine ⟨_, execProbeReplyReceived_more h hheld hp hlen, ?_⟩
    rw [State.sendProbe_ring, State.modEnum_run h]
  case _ =>
    refine ⟨_, execProbeReplyReceived_measured h hheld hpeer hp hlen hd, ?_⟩
    rw [State.launch_enumRun, State.modEnum_run h]

end

section
/-! PROOF. Command exchanges of the Ring ports. -/

-- One task at a time: the check limits memory, and each task has a stack of its own.
set_option Elab.async false

namespace Sys2Proof.Machine

/-! ### What only adds to the notes -/

/-- What leaves the first-fault queue and the counters as they were. -/
def Scope.unnoted : Scope := ⟨Part.all.filter fun p => p ≠ .queue ∧ p ≠ .ctr, fun _ => True, fun _ => True⟩

@[simp] theorem Scope.mem_unnoted (p : Part) : p ∈ Scope.unnoted.parts ↔ p ≠ .queue ∧ p ≠ .ctr := by simp [Scope.unnoted]
@[simp] theorem Scope.unnoted_here (n : Fin 8) : Scope.unnoted.here n := trivial
@[simp] theorem Scope.unnoted_sess (i : Nat) : Scope.unnoted.sess i := trivial

/-- Between `s` and `t` no event left the first-fault queue, and no counter changed but those of `C`. -/
structure State.Adds (C : Nat → Prop) (s t : State) : Prop where
  events : s.ffr.queue ⊆ t.ffr.queue
  counts : ∀ a, ¬ C a → t.counter a = s.counter a

section
variable {C : Nat → Prop} {s t u : State}

theorem State.Adds.refl (s : State) : s.Adds C s := ⟨List.Subset.refl _, fun _ _ => rfl⟩

theorem State.Adds.trans (h : s.Adds C t) (k : t.Adds C u) : s.Adds C u :=
  ⟨List.Subset.trans h.events k.events, fun a ha => (k.counts a ha).trans (h.counts a ha)⟩

/-- What leaves the queue and the counters as they were. -/
theorem State.Adds.off (h : s.Adds C u) (hu : t.upTo .unnoted = u.upTo .unnoted) : s.Adds C t := by
  have hw := (State.within_of_upTo hu).parts
  have hq : Part.queue.same u t := hw .queue (by simp)
  have hc : t.ctr = u.ctr := hw .ctr (by simp)
  exact h.trans ⟨hq.1 ▸ List.Subset.refl _, fun a _ => by rw [State.counter, hc, State.counter]⟩

theorem State.Adds.emit (h : s.Adds C u) (hd : C 0x2C0100) (c n : Nat) (b : List Int) : s.Adds C (u.emit c n b) :=
  h.trans ⟨fun _ => State.emit_keeps, fun _ ha => State.emit_counter fun e => ha (e ▸ hd)⟩

theorem State.Adds.bump (h : s.Adds C u) (hd : C 0x2C0100) {b : Nat} (hb : C b) : s.Adds C (u.bump b) :=
  h.trans ⟨fun _ => State.bump_keeps, fun a ha => by
    rw [State.bump_counter (a := a) fun e => ha (e ▸ hd), if_neg fun e : a = b => ha (e ▸ hb)]⟩

theorem State.Adds.ite {c : Prop} [Decidable c] {a b : State} (ha : s.Adds C a) (hb : s.Adds C b) : s.Adds C (if c then a else b) := by
  split
  · exact ha
  · exact hb

theorem State.Adds.when (h : s.Adds C u) {f : State → State} (hf : u.Adds C (f u)) (c : Bool) : s.Adds C (u.when c f) := (h.trans hf).ite h

theorem State.Adds.forEach {α : Type} (h : s.Adds C u) (l : List α) {f : α → State → State} (hf : ∀ a (v : State), v.Adds C (f a v)) :
    s.Adds C (State.forEach l f u) := by
  unfold State.forEach
  induction l generalizing u with
  | nil => exact h
  | cons a l ih => exact ih (h.trans (hf a u))

/-- What was recorded stays recorded. -/
theorem State.recorded_of_adds {c n : Nat} {b : List Int} (h : State.recorded c n b s u) (k : u.Adds C t) : State.recorded c n b s t := by
  obtain ⟨e, he, hrest⟩ := h
  exact ⟨e, k.events he, hrest⟩

/-- What was counted stays counted. -/
theorem State.counted_of_adds {a : Nat} (h : State.counted a s u) (k : u.Adds C t) (ha : ¬ C a) : State.counted a s t :=
  (k.counts a ha).trans h

end

/-! ### A command launched -/

/-- A port after a command left an end for node `k`, with the node's next counter where it is new (03 R71, R84). -/
def RingPort.launched (endB : Bool) (k : Fin 24) (fresh : Bool) (c : RingCmdReq) (done : Nat) (r : RingPort) : RingPort :=
  let r := if fresh then { r with nodes := Vec.upd r.nodes k fun e => { e with ctr := e.ctr + 1 } } else r
  if endB then { r with outB := some c, cmdEndB := done } else { r with outA := some c, cmdEndA := done }

section
variable {endB fresh : Bool} {k : Fin 24} {c : RingCmdReq} {done : Nat} {r : RingPort}

theorem RingPort.launched_outAt : (r.launched endB k fresh c done).outAt endB = some c := by cases endB <;> rfl
theorem RingPort.launched_queue : (r.launched endB k fresh c done).queue = r.queue := by cases endB <;> cases fresh <;> rfl
theorem RingPort.launched_windowOpen : (r.launched endB k fresh c done).windowOpen = r.windowOpen := by cases endB <;> cases fresh <;> rfl

theorem RingPort.launched_ctr : (r.launched endB k fresh c done).nodes[k].ctr = if fresh then r.nodes[k].ctr + 1 else r.nodes[k].ctr := by
  cases endB <;> cases fresh <;> simp [RingPort.launched]

end

section
variable {n : Fin 8} {b : Bool} {c : RingCmdReq} {k : Fin 24} {s u : State}

/-- The times that a command carries follow the cycle alone. -/
theorem State.timed_of_cycle (h : u.clk.cycleT0 = s.clk.cycleT0) (c : RingCmdReq) : u.timed c = s.timed c := by
  simp only [State.timed, h]

theorem State.fits_of_cycle (h : u.clk.cycleT0 = s.clk.cycleT0) (c : RingCmdReq) (t : Nat) : u.fits c t = s.fits c t := by
  simp only [State.fits, State.timed_of_cycle h, h]

theorem State.mayLaunch_of (hr : u.ring[n] = s.ring[n]) (ht : u.twin = s.twin) : u.mayLaunch n b = s.mayLaunch n b := by
  simp only [State.mayLaunch, State.ringLease, hr, ht]

theorem State.atTsc_cycleT0 (t : Nat) (s : State) : (s.atTsc t).clk.cycleT0 = s.clk.cycleT0 := by
  unfold State.atTsc
  split <;> rfl

/-- Launching a command does to the port what `launched` says. -/
theorem State.launch_ring (hk : nodeAt c.node = some k) :
    (s.launch n b c).ring[n] = s.ring[n].launched b k (decide (c.fails = 0)) (s.timed c) (s.now + Lane.frameNs (s.timed c).payload.length) := by
  unfold State.launch
  split
  next hnone =>
    rw [hk] at hnone
    cases hnone
  next k' hk' =>
    obtain rfl := Option.some.inj (hk.symm.trans hk')
    extract_lets s1 c1 done s2
    have h1 : s1.ring[n] = (if c.fails = 0 then { s.ring[n] with nodes := Vec.upd s.ring[n].nodes k fun e => { e with ctr := e.ctr + 1 } } else s.ring[n]) ∧
        s1.now = s.now ∧ s1.clk.cycleT0 = s.clk.cycleT0 := by
      simp only [s1, State.when, decide_eq_true_eq]
      (repeat' split) <;> simp [State.modNode, State.now]
    obtain ⟨hring, hnow, hcycle⟩ := h1
    have hc : c1 = s.timed c := State.timed_of_cycle hcycle c
    have hdone : done = s.now + Lane.frameNs (s.timed c).payload.length := by simp only [done, hnow, hc]
    rw [State.sendRing_ring, State.modRing_get, State.setExchange, State.modRing_get, hring, hc, hdone]
    simp only [RingPort.launched, decide_eq_true_eq]
    cases b <;> rfl

theorem State.launch_outAt (hk : nodeAt c.node = some k) : (s.launch n b c).ring[n].outAt b = some (s.timed c) := by
  rw [State.launch_ring hk, RingPort.launched_outAt]

theorem State.launch_queue (hk : nodeAt c.node = some k) : (s.launch n b c).ring[n].queue = s.ring[n].queue := by
  rw [State.launch_ring hk, RingPort.launched_queue]

theorem State.launch_windowOpen (hk : nodeAt c.node = some k) : (s.launch n b c).ring[n].windowOpen = s.ring[n].windowOpen := by
  rw [State.launch_ring hk, RingPort.launched_windowOpen]

theorem State.launch_ctr (hk : nodeAt c.node = some k) :
    (s.launch n b c).ring[n].nodes[k].ctr = if c.fails = 0 then s.ring[n].nodes[k].ctr + 1 else s.ring[n].nodes[k].ctr := by
  simp only [State.launch_ring hk, RingPort.launched_ctr, decide_eq_true_eq]

/-! ### The queue of an end -/

theorem RingPort.nextFor_nil {r : RingPort} (h : r.queue = []) (b : Bool) : r.nextFor b = none := by
  rw [RingPort.nextFor, h]
  rfl

theorem RingPort.nextFor_single {r : RingPort} (hq : r.queue = [c]) (hb : r.fromB c.node = b) (hr : r.reachable c.node = true) : r.nextFor b = some c := by
  rw [RingPort.nextFor, hq, List.find?_cons_of_pos]
  rw [hb, hr, beq_self_eq_true]
  rfl

theorem State.pump_idle (h : s.ring[n].nextFor b = none) : s.pump n b = s := by
  simp only [State.pump, h]

/-- Nothing leaves an end while the command window is shut (03 R84). -/
theorem State.pump_shut (h : s.ring[n].windowOpen = false) : s.pump n b = s := by
  unfold State.pump
  dsimp only
  split
  · rfl
  · rw [h]
    rfl

/-- An idle end launches its next queued command, which still fits, in an open window (03 R84). -/
theorem State.pump_sends (hn : s.ring[n].nextFor b = some c) (hw : s.ring[n].windowOpen = true) (ho : s.ring[n].outAt b = none)
    (hm : s.mayLaunch n b = true) (hf : s.fits c s.now = true) :
    s.pump n b = (s.modRing n fun r => { r with queue := r.queue.erase c }).launch n b c := by
  simp only [State.pump, hn, hw, ho, hm, hf, Option.isNone_none, Bool.and_self, if_true]

/-- The one command that waits leaves its end. -/
theorem State.pump_only (hq : s.ring[n].queue = [c]) (hb : s.ring[n].fromB c.node = b) (hr : s.ring[n].reachable c.node = true)
    (hw : s.ring[n].windowOpen = true) (ho : s.ring[n].outAt b = none) (hm : s.mayLaunch n b = true) (hf : s.fits c s.now = true)
    (hk : nodeAt c.node = some k) :
    (s.pump n b).ring[n].outAt b = some (s.timed c) ∧ (s.pump n b).ring[n].queue = [] ∧ (s.pump n b).ring[n].windowOpen = true ∧
      (s.pump n b).ring[n].nodes[k].ctr = if c.fails = 0 then s.ring[n].nodes[k].ctr + 1 else s.ring[n].nodes[k].ctr := by
  rw [State.pump_sends (RingPort.nextFor_single hq hb hr) hw ho hm hf, State.launch_outAt hk, State.launch_queue hk, State.launch_windowOpen hk,
    State.launch_ctr hk, State.modRing_get, hq, List.erase_cons_head]
  exact ⟨rfl, rfl, hw, rfl⟩

theorem State.sendRing_keeps {w : String} {x t a d o : Nat} {p : List Byte} {y : Option Nat} : s.out ⊆ (s.sendRing n b w x t a d o p y).out := by
  unfold State.sendRing
  split
  · exact List.subset_cons_self _ _
  · exact List.Subset.refl _

theorem State.launch_keeps : s.out ⊆ (s.launch n b c).out := by
  unfold State.launch
  split
  · exact List.Subset.refl _
  · extract_lets s1 c1 done s2
    have hcounted : s1.out = s.out := by
      simp only [s1, State.when]
      (repeat' split) <;> simp [State.modNode]
    have hout : s2.out = s.out := by
      rw [← hcounted]
      rfl
    rw [← hout]
    exact State.sendRing_keeps

/-- What was sent stays sent when a queued command leaves. -/
theorem State.pump_keeps : s.out ⊆ (s.pump n b).out := by
  unfold State.pump
  dsimp only
  split
  · exact List.Subset.refl _
  · split
    · exact State.launch_keeps (s := s.modRing n _)
    · exact List.Subset.refl _

/-! ### Requests of commands -/

theorem RingCmdReq.mem_insert (l : List RingCmdReq) (c : RingCmdReq) : c ∈ RingCmdReq.insert l c := by
  induction l with
  | nil => exact List.mem_singleton_self _
  | cons x l ih =>
    rw [RingCmdReq.insert]
    split
    · exact List.mem_cons_self
    · exact List.mem_cons_of_mem _ ih

theorem RingCmdReq.insert_length (l : List RingCmdReq) (c : RingCmdReq) : (RingCmdReq.insert l c).length = l.length + 1 := by
  induction l with
  | nil => rfl
  | cons x l ih =>
    rw [RingCmdReq.insert]
    split
    · rfl
    · rw [List.length_cons, ih, List.length_cons]

section
variable (hp : c.payload.length ≤ 256) (hi : ∀ k, nodeAt c.node = some k → s.ring[n].nodes[k].isolated = false)
include hp hi

/-- A request of a node in service is not turned away before the queue is looked at (03 R84, R92). -/
theorem State.ringRequest_served : s.ringRequest n c =
    if s.ring[n].queue.length < 64 || c.urgent
    then (true, (s.modRing n fun r => { r with queue := RingCmdReq.insert r.queue { c with stamp := s.now, fails := 0 } }).pump n (s.ring[n].fromB c.node))
    else (false, (s.ringResult n 0x020D 0).bump (Reg.ring n 0x05C)) := by
  unfold State.ringRequest
  refine if_neg ?_
  rw [decide_eq_false (by omega : ¬ c.payload.length > 256), Bool.or_false]
  split
  next k hk => rw [hi k hk]; exact Bool.false_ne_true
  next => exact Bool.false_ne_true

theorem State.ringAsk_queued (hq : s.ring[n].queue.length < 64) : s.ringAsk n c =
    (s.modRing n fun r => { r with queue := RingCmdReq.insert r.queue { c with stamp := s.now, fails := 0 } }).pump n (s.ring[n].fromB c.node) := by
  rw [State.ringAsk, State.ringRequest_served hp hi, decide_eq_true hq, Bool.true_or, if_pos rfl]

theorem State.ringAsk_full (hq : 64 ≤ s.ring[n].queue.length) (hu : c.urgent = false) :
    s.ringAsk n c = (s.ringResult n 0x020D 0).bump (Reg.ring n 0x05C) := by
  rw [State.ringAsk, State.ringRequest_served hp hi, decide_eq_false (not_lt.2 hq), hu, Bool.or_false, if_neg Bool.false_ne_true]

end

/-- A request that waits for its window. -/
theorem execRingCommandRequest_waits (hq : s.ring[n].queue.length < 64) (hp : c.payload.length ≤ 256)
    (hi : ∀ k, nodeAt c.node = some k → s.ring[n].nodes[k].isolated = false) (hw : s.ring[n].windowOpen = false) :
    ∃ t, execRingCommandRequest n c s = .next t ∧ t.ring[n].queue = RingCmdReq.insert s.ring[n].queue { c with stamp := s.now, fails := 0 } := by
  refine ⟨_, rfl, ?_⟩
  rw [State.ringAsk_queued hp hi hq, State.pump_shut (by rw [State.modRing_get, hw]), State.modRing_get]

/-- A reachable node is in service. -/
theorem RingPort.inService_of_reachable {r : RingPort} {a : Nat} (h : r.reachable a = true) (k : Fin 24) (hk : nodeAt a = some k) : r.nodes[k].isolated = false := by
  rw [RingPort.reachable, hk] at h
  exact (Bool.not_eq_true' _).mp (Bool.and_eq_true_iff.1 h).1

/-- A request whose end is idle in an open window in which it fits leaves at once (03 R84; log 67). -/
theorem execRingCommandRequest_launched (hk : nodeAt c.node = some k) (hr : s.ring[n].reachable c.node = true) (hq : s.ring[n].queue = [])
    (hp : c.payload.length ≤ 256) (hw : s.ring[n].windowOpen = true) (ho : s.ring[n].outAt (s.ring[n].fromB c.node) = none)
    (hm : s.mayLaunch n (s.ring[n].fromB c.node) = true) (hf : s.fits { c with stamp := s.now, fails := 0 } s.now = true) :
    ∃ t, execRingCommandRequest n c s = .next t ∧ t.ring[n].outAt (s.ring[n].fromB c.node) = some (s.timed { c with stamp := s.now, fails := 0 }) ∧
      t.ring[n].queue = [] ∧ t.ring[n].nodes[k].ctr = s.ring[n].nodes[k].ctr + 1 := by
  have hlen : s.ring[n].queue.length < 64 := by rw [hq]; decide
  refine ⟨_, rfl, ?_⟩
  rw [State.ringAsk_queued hp (RingPort.inService_of_reachable hr) hlen]
  generalize hu : (s.modRing n fun r => { r with queue := RingCmdReq.insert r.queue { c with stamp := s.now, fails := 0 } }) = u
  have hport : u.ring[n] = { s.ring[n] with queue := [{ c with stamp := s.now, fails := 0 }] } := by
    rw [← hu, State.modRing_get, hq]
    rfl
  have hmay : u.mayLaunch n (s.ring[n].fromB c.node) = true := by
    rw [← hu]
    exact (State.mayLaunch_modRing (f := fun r => { r with queue := RingCmdReq.insert r.queue { c with stamp := s.now, fails := 0 } }) s fun _ => ⟨rfl, rfl⟩).trans hm
  have hfit : u.fits { c with stamp := s.now, fails := 0 } u.now = true := by rw [← hu]; exact hf
  obtain ⟨hout, hqueue, -, hctr⟩ := State.pump_only (c := { c with stamp := s.now, fails := 0 }) (b := s.ring[n].fromB c.node)
    (by rw [hport]) (by rw [hport]; rfl) (by rw [hport]; exact hr) (by rw [hport]; exact hw) (by rw [hport]; exact ho) hmay hfit hk
  refine ⟨hout.trans ?_, hqueue, hctr.trans ?_⟩
  · rw [← hu]; rfl
  · rw [hport]; rfl

/-- COMMAND_WINDOW_OPEN launches the one command that waits at end A of a CLOSED Ring (03 R82, R84). -/
theorem execCommandWindowOpen_launches (hl : s.ringLease n = true) (hs : s.ring[n].silentA = false) (hm : s.ring[n].mode = .closed)
    (hc : s.ring[n].closeStep = .none) (hb : s.ring[n].both = false) (hq : s.ring[n].queue = [c]) (ho : s.ring[n].outA = none)
    (hk : nodeAt c.node = some k) (hr : s.ring[n].reachable c.node = true) (hf : s.fits c (s.atCycle 665000).now = true) :
    ∃ t, execCommandWindowOpen n s = .next t ∧ t.ring[n].windowOpen = true ∧ t.ring[n].outA = some (s.timed c) ∧ t.ring[n].queue = [] := by
  obtain ⟨u, hu, hexec⟩ : ∃ u, ((s.atCycle 665000).modRing n fun r => { r with windowOpen := s.ring[n].mode == .closed || s.ring[n].mode == .split || s.ring[n].mode == .lost }) = u ∧
      execCommandWindowOpen n s = .next (((u.tryUnwrap n).pump n false).pump n true) := ⟨_, rfl, rfl⟩
  refine ⟨_, hexec, ?_⟩
  have hport : u.ring[n] = { s.ring[n] with windowOpen := true } := by
    have hon : (s.ring[n].mode == .closed || s.ring[n].mode == .split || s.ring[n].mode == .lost) = true := by rw [hm]; rfl
    rw [← hu, State.modRing_get, State.atCycle_ring, hon]
  have hwait : u.tryUnwrap n = u := by
    unfold State.tryUnwrap
    rw [hport, hc]
    rfl
  have hmay : u.mayLaunch n false = true := by
    have hlease : u.ringLease n = true := by rw [← hu, State.ringLease, State.modRing_twin, State.atCycle_twin]; exact hl
    simp only [State.mayLaunch, hlease, hport, RingPort.silent, hs]
    rfl
  have hcycle : u.clk.cycleT0 = s.clk.cycleT0 := by rw [← hu, State.modRing_clk, State.atCycle_cycleT0]
  have hnow : u.now = (s.atCycle 665000).now := by rw [State.now, ← hu, State.modRing_clk, State.now]
  have hfit : u.fits c u.now = true := by rw [State.fits_of_cycle hcycle, hnow, hf]
  obtain ⟨hout, hqueue, hwin, -⟩ := State.pump_only (s := u) (n := n) (c := c) (b := false)
    (by rw [hport]; exact hq) (by rw [hport, RingPort.fromB, hb]; rfl) (by rw [hport]; exact hr) (by rw [hport]) (by rw [hport]; exact ho) hmay hfit hk
  rw [hwait, State.pump_idle (s := u.pump n false) (RingPort.nextFor_nil hqueue _)]
  exact ⟨hwin, hout.trans (congrArg some (State.timed_of_cycle hcycle c)), hqueue⟩

/-! ### The end of an exchange -/

/-- A failed exchange that may still fit goes again, with the same counter (03 R84). -/
theorem State.exchangeFail_again (ho : s.ring[n].outAt b = some c) (hc : c.fails < 2) (hr : s.ring[n].reachable c.node = true)
    (hw : s.ring[n].windowOpen = true) (hm : s.mayLaunch n b = true) (hf : s.fits { c with fails := c.fails + 1 } s.now = true) :
    s.exchangeFail n b = s.launch n b { c with fails := c.fails + 1 } := by
  have hlt : c.fails + 1 < 3 := by omega
  simp only [State.exchangeFail, ho, hlt, hr, hw, hm, hf, decide_true, Bool.true_or, Bool.and_self, Bool.or_true, if_true]

/-- The third failure of an exchange is counted, recorded and reported (03 R84). -/
theorem State.exchangeFail_third (ho : s.ring[n].outAt b = some c) (hc : c.fails = 2) (hk : nodeAt c.node = some k) : s.exchangeFail n b =
    (((((s.setExchange n b none).bump (Reg.ring n 0x058)).emit 0x8217 (Src.node n k) (ints [n, c.node])).unreplied n k c.opcode).pump n b) := by
  simp only [State.exchangeFail, ho, hc, hk]
  rfl

/-- EXCHANGE_TIMEOUT of an exchange that is outstanding, at least 30 us after its command (03 R84; log 70). -/
theorem execExchangeTimeout_late (ho : s.ring[n].outAt b = some c) :
    execExchangeTimeout n b s = .next ((s.atTsc (s.ring[n].cmdEnd b + 30000)).exchangeFail n b) := by
  simp only [execExchangeTimeout, ho, Option.isNone_some, Bool.false_eq_true, if_false]

/-- A good reply to the command outstanding at an end, not before its frame's time (03 R71, R84; log 70). -/
theorem execReplyReceived_good {f : ReplyFrame} (hcrc : f.crcOk = true) (hmac : f.macOk = true) (hlen : f.payload.length ≤ 112)
    (hk : nodeAt f.node = some k) (ho : s.ring[n].outAt b = some c) (hn : c.node = k.val + 1) (hop : c.opcode = f.opcode)
    (hi : s.ring[n].nodes[k].isolated = false) (hs : f.status = .ok) (hctr : f.ctr = s.ring[n].nodes[k].ctr) :
    execReplyReceived n b f s = .next (((((s.atTsc (s.ring[n].cmdEnd b + Lane.frameNs f.payload.length)).setExchange n b none).replied n k c.payload f).pump n b)) := by
  have hring (t : Nat) : (s.atTsc t).ring = s.ring := State.atTsc_ring _ _
  simp only [execReplyReceived, hcrc, hmac, decide_eq_true hlen, Bool.and_self, Bool.not_true, Bool.false_eq_true, if_false, hk, ho, Option.isNone_some,
    State.goodReply, hring, hn, hop, hi, hs, hctr, ne_eq, not_true_eq_false, or_self]
  rfl

/-- A good reply to SET_COMP confirms the values that its command carried (04 R101). -/
theorem State.replied_setComp {f : ReplyFrame} {p : List Byte} (hop : f.opcode = 0x0010) (hs : f.status = .ok) : s.replied n k p f =
    (s.modSenseNode n k fun d => { d with compA := BitVec.ofNat 16 (field p 0 2), compB := BitVec.ofNat 16 (field p 2 2) }).compWaits n := by
  unfold State.replied
  rw [hop, hs]
  rfl

theorem State.compWaits_comp : (s.compWaits n).ring = s.ring ∧ (s.compWaits n).sense[n].nodes = s.sense[n].nodes := by
  simp [State.compWaits]

end

/-! ### What a failed exchange notes besides its failure -/

/-- Every counter but that of the exchanges of Ring `n` that failed (03 R84). -/
def Reg.butFailed (n : Fin 8) (a : Nat) : Prop := a ≠ Reg.ring n 0x058

section
variable {n : Fin 8} {s u : State}

theorem Reg.butFailed_drops : Reg.butFailed n 0x2C0100 := by unfold Reg.butFailed Reg.ring; omega

theorem Reg.butFailed_ring {o : Nat} (h : o ≠ 0x058) : Reg.butFailed n (Reg.ring n o) := by unfold Reg.butFailed Reg.ring; omega

theorem Reg.butFailed_high {a : Nat} (h : 0x180000 ≤ a) : Reg.butFailed n a := by unfold Reg.butFailed Reg.ring; omega

theorem State.Adds.bumpRing (h : s.Adds (Reg.butFailed n) u) {o : Nat} (ho : o ≠ 0x058) : s.Adds (Reg.butFailed n) (u.bump (Reg.ring n o)) :=
  h.bump Reg.butFailed_drops (Reg.butFailed_ring ho)

theorem State.Adds.bumpHigh (h : s.Adds (Reg.butFailed n) u) {a : Nat} (ha : 0x180000 ≤ a) : s.Adds (Reg.butFailed n) (u.bump a) :=
  h.bump Reg.butFailed_drops (Reg.butFailed_high ha)

theorem State.Adds.launch (h : s.Adds (Reg.butFailed n) u) (b : Bool) (c : RingCmdReq) : s.Adds (Reg.butFailed n) (u.launch n b c) := by
  unfold State.launch
  split
  · exact h
  next k _ =>
    extract_lets v c' done w
    have hv : s.Adds (Reg.butFailed n) v := by
      have hb (w : State) : w.Adds (Reg.butFailed n) (w.bump (Reg.ring n 0x384)) := (State.Adds.refl w).bumpRing (by decide)
      have hm : s.Adds (Reg.butFailed n) (u.modNode n k fun e => { e with ctr := e.ctr + 1 }) := h.off (by simp)
      exact .ite (.ite (hm.trans (hb _)) hm) h
    exact hv.off (by simp [w])

theorem State.Adds.pump (h : s.Adds (Reg.butFailed n) u) (b : Bool) : s.Adds (Reg.butFailed n) (u.pump n b) := by
  unfold State.pump
  dsimp only
  split
  · exact h
  · exact .ite (.launch (h.off (by simp)) b _) h

theorem State.Adds.ringAsk (h : s.Adds (Reg.butFailed n) u) (c : RingCmdReq) : s.Adds (Reg.butFailed n) (u.ringAsk n c) := by
  unfold State.ringAsk State.ringRequest
  simp only [apply_ite Prod.snd]
  exact .ite h (.ite (.pump (h.off (by simp)) _) (.bumpRing (h.off (by simp)) (by decide)))

theorem State.Adds.wrapOne (h : s.Adds (Reg.butFailed n) u) (k : Nat) : s.Adds (Reg.butFailed n) (u.wrapOne n k) := h.ringAsk _

theorem State.Adds.unwrapFail (h : s.Adds (Reg.butFailed n) u) : s.Adds (Reg.butFailed n) (u.unwrapFail n) := by
  unfold State.unwrapFail
  exact .ite h (.when (.when (h.off (by simp)) (.wrapOne (.refl _) _) _) (.wrapOne (.refl _) _) _)

theorem State.Adds.enumFail (h : s.Adds (Reg.butFailed n) u) (code pos : Nat) : s.Adds (Reg.butFailed n) (u.enumFail n code pos) :=
  .emit (.bumpRing (h.off (by simp)) (by decide)) Reg.butFailed_drops _ _ _

theorem State.Adds.dropAnchor (h : s.Adds (Reg.butFailed n) u) (b : Nat) : s.Adds (Reg.butFailed n) (u.dropAnchor b) :=
  .ite (.bumpHigh (h.off (State.modCell_upTo (W := .unnoted) (by simp) ..)) (by decide)) h

theorem State.Adds.balFail (h : s.Adds (Reg.butFailed n) u) (k : Fin 24) : s.Adds (Reg.butFailed n) (u.balFail n k) := by
  unfold State.balFail
  exact .forEach (.emit (.bumpHigh (h.off (by simp)) (by decide)) Reg.butFailed_drops _ _ _) _ fun _ _ => .dropAnchor (.refl _) _

theorem State.Adds.partRead (h : s.Adds (Reg.butFailed n) u) (gd : Bool) (pos : Nat) (i : Option PartInfo) : s.Adds (Reg.butFailed n) (u.partRead gd n pos i) := by
  have hd := Reg.butFailed_drops (n := n)
  unfold State.partRead
  extract_lets src bad v
  have hv : s.Adds (Reg.butFailed n) v := h.when (.emit (.refl u) hd _ _ _) _
  split
  next => exact hv
  next w _ e _ =>
    have hw : s.Adds (Reg.butFailed n) w := hv.off (by simp [w])
    exact .ite (hw.emit hd _ _ _) (.bumpHigh (hw.emit hd _ _ _) (by decide))

theorem State.Adds.partFail (h : s.Adds (Reg.butFailed n) u) (c d : Nat) : s.Adds (Reg.butFailed n) (u.partFail c d) := by
  unfold State.partFail
  exact .bumpHigh (h.off (by simp)) (by decide)

/-- What the block that asked does about a failed command notes nothing as a failed exchange. -/
theorem State.Adds.unreplied (h : s.Adds (Reg.butFailed n) u) (k : Fin 24) (op : BitVec 16) : s.Adds (Reg.butFailed n) (u.unreplied n k op) := by
  unfold State.unreplied
  split
  · exact .ite (h.enumFail _ _) h
  · exact h.unwrapFail
  · exact h.off (by simp)
  · exact h.balFail k
  · exact h.off (by simp)
  · exact h.partRead _ _ _
  iterate 2
    split
    · exact .ite (h.partFail _ _) h
    · exact h
  · exact h

end

section
variable {n : Fin 8} {b : Bool} {c : RingCmdReq} {k : Fin 24} {s : State}

/-- A completion time moves no stamp. -/
theorem State.atTsc_lastStamp (t : Nat) (s : State) : (s.atTsc t).clk.lastStamp = s.clk.lastStamp := by
  unfold State.atTsc
  split <;> simp

/-- The third missed reply is counted and recorded (03 R84). -/
theorem execExchangeTimeout_third (hroom : s.room) (ho : s.ring[n].outAt b = some c) (hc : c.fails = 2) (hk : nodeAt c.node = some k) :
    ∃ t, execExchangeTimeout n b s = .next t ∧ State.counted (Reg.ring n 0x058) s t ∧ State.recorded 0x8217 (Src.node n k) (ints [n, c.node]) s t := by
  refine ⟨_, execExchangeTimeout_late ho, ?_⟩
  generalize hu : s.atTsc _ = u
  have huo : u.ring[n].outAt b = some c := by rw [← hu, State.atTsc_ring, ho]
  rw [State.exchangeFail_third huo hc hk]
  generalize hv : u.setExchange n b none = v
  have hffr : v.ffr = s.ffr := by rw [← hv, ← hu]; exact State.atTsc_ffr _ _
  have hctr : v.ctr = s.ctr := by rw [← hv, ← hu]; exact State.atTsc_ctr _ _
  have hlast : v.clk.lastStamp = s.clk.lastStamp := by
    rw [← hv, ← hu]
    exact State.atTsc_lastStamp _ _
  obtain ⟨hrec, hcnt⟩ := State.noted_bump_emit (s := v) (u := v) (a := Reg.ring n 0x058) (c := 0x8217) (n := Src.node n k) (b := ints [n, c.node])
    (by rw [State.room, hffr]; exact hroom) rfl rfl rfl rfl rfl
  have hadds := ((State.Adds.refl (C := Reg.butFailed n) ((v.bump (Reg.ring n 0x058)).emit 0x8217 (Src.node n k) (ints [n, c.node]))).unreplied k c.opcode).pump b
  exact ⟨State.counted_of_adds (State.counted_of_ctr hcnt hctr) hadds fun h => h rfl,
    State.recorded_of_adds (State.recorded_since hrec (by rw [hlast])) hadds⟩

end

/-! ### Requests, replies and missed replies -/

section
variable {n : Fin 8} {b : Bool} {c : RingCmdReq} {k : Fin 24} {s : State}

/-- A good reply to a SET_COMP ends the exchange and confirms the values that the command carried (03 R84; 04 R101). -/
theorem execReplyReceived_setComp {f : ReplyFrame} (hcrc : f.crcOk = true) (hmac : f.macOk = true) (hlen : f.payload.length ≤ 112)
    (hk : nodeAt f.node = some k) (ho : s.ring[n].outAt b = some c) (hn : c.node = k.val + 1) (hc : c.opcode = 0x0010) (hf : f.opcode = 0x0010)
    (hi : s.ring[n].nodes[k].isolated = false) (hs : f.status = .ok) (hctr : f.ctr = s.ring[n].nodes[k].ctr) (hq : s.ring[n].queue = []) :
    ∃ t, execReplyReceived n b f s = .next t ∧ t.sense[n].nodes[k].compA = BitVec.ofNat 16 (field c.payload 0 2) ∧
      t.sense[n].nodes[k].compB = BitVec.ofNat 16 (field c.payload 2 2) ∧ t.ring[n].outAt b = none := by
  refine ⟨_, execReplyReceived_good hcrc hmac hlen hk ho hn (hc.trans hf.symm) hi hs hctr, ?_⟩
  generalize hu : s.atTsc _ = u
  have hur : u.ring[n] = s.ring[n] := by rw [← hu, State.atTsc_ring]
  rw [State.replied_setComp hf hs]
  generalize hv : ((u.setExchange n b none).modSenseNode n k fun d =>
    { d with compA := BitVec.ofNat 16 (field c.payload 0 2), compB := BitVec.ofNat 16 (field c.payload 2 2) }) = v
  obtain ⟨hring, hnodes⟩ := State.compWaits_comp (n := n) (s := v)
  have hport : (v.compWaits n).ring[n].outAt b = none ∧ (v.compWaits n).ring[n].queue = [] := by
    have hvr : v.ring = (u.setExchange n b none).ring := by rw [← hv]; rfl
    rw [hring, hvr, State.setExchange, State.modRing_get, hur]
    cases b <;> exact ⟨rfl, hq⟩
  obtain ⟨hout, hqueue⟩ := hport
  have hnode : v.sense[n].nodes[k] = { (u.setExchange n b none).sense[n].nodes[k] with
      compA := BitVec.ofNat 16 (field c.payload 0 2), compB := BitVec.ofNat 16 (field c.payload 2 2) } := by
    rw [← hv]
    simp [State.modSenseNode]
  rw [State.pump_idle (RingPort.nextFor_nil hqueue b), hnodes, hnode]
  exact ⟨rfl, rfl, hout⟩

/-- A missed reply sends the command again with the same counter (03 R84). -/
theorem execExchangeTimeout_again (ho : s.ring[n].outAt b = some c) (hc : c.fails < 2) (hk : nodeAt c.node = some k)
    (hr : s.ring[n].reachable c.node = true) (hw : s.ring[n].windowOpen = true) (hm : s.mayLaunch n b = true)
    (hf : s.fits { c with fails := c.fails + 1 } (s.atTsc (s.ring[n].cmdEnd b + 30000)).now = true) :
    ∃ t, execExchangeTimeout n b s = .next t ∧ t.ring[n].outAt b = some (s.timed { c with fails := c.fails + 1 }) ∧
      t.ring[n].nodes[k].ctr = s.ring[n].nodes[k].ctr := by
  refine ⟨_, execExchangeTimeout_late ho, ?_⟩
  generalize hu : s.atTsc _ = u at hf ⊢
  have hring : u.ring[n] = s.ring[n] := by rw [← hu, State.atTsc_ring]
  have htwin : u.twin = s.twin := by rw [← hu, State.atTsc_twin]
  have hcycle : u.clk.cycleT0 = s.clk.cycleT0 := by rw [← hu, State.atTsc_cycleT0]
  have hretry := State.exchangeFail_again (s := u) (n := n) (b := b) (c := c) (by rw [hring, ho]) hc (by rw [hring, hr]) (by rw [hring, hw])
    ((State.mayLaunch_of hring htwin).trans hm) ((State.fits_of_cycle hcycle _ _).trans hf)
  rw [hretry, State.launch_outAt (c := { c with fails := c.fails + 1 }) hk, State.launch_ctr (c := { c with fails := c.fails + 1 }) hk, State.timed_of_cycle hcycle, if_neg (Nat.succ_ne_zero _), hring]
  exact ⟨rfl, rfl⟩

/-- Where 64 commands wait, a request that is not the port's own is refused with RING_CMD_FULL and counted (03 R84). -/
theorem execRingCommandRequest_full (hq : 64 ≤ s.ring[n].queue.length) (hc : c.urgent = false) (hp : c.payload.length ≤ 256)
    (hi : ∀ k, nodeAt c.node = some k → s.ring[n].nodes[k].isolated = false) :
    ∃ t, execRingCommandRequest n c s = .next t ∧ t.ring[n].queue = s.ring[n].queue ∧ t.ring[n].resCode = 0x020D ∧ State.counted (Reg.ring n 0x05C) s t := by
  refine ⟨_, rfl, ?_⟩
  have hdrops : Reg.ring n 0x05C ≠ 0x2C0100 := by unfold Reg.ring; omega
  rw [State.ringAsk_full hp hi hq hc, State.bump_ring, State.ringResult, State.modRing_get]
  exact ⟨rfl, rfl, State.counted_of_ctr (State.bump_counted_full hdrops) rfl⟩

end

end Sys2Proof.Machine

end

section
/-! PROOF. Loss of signal, BEACON returns and the fault loop of the Ring ports; their traffic. -/

-- One task at a time: the check limits memory, and each task has a stack of its own.
set_option Elab.async false

namespace Sys2Proof.Machine

/-! ### Loss of signal -/

/-- An end that has lost signal stops driving, and the loss belongs to the current set (03 R88; log 132). -/
def RingPort.signalLost (endB : Bool) (r : RingPort) : RingPort :=
  if endB then { r with losB := true, silentB := true, losSetB := true } else { r with losA := true, silentA := true, losSetA := true }

/-- An end at the end of its silence (03 R88). -/
def RingPort.spoken (endB : Bool) (r : RingPort) : RingPort := if endB then { r with silentB := false } else { r with silentA := false }

section
variable {n : Fin 8} {b : Bool} {s : State}

theorem execRingLos_noted (hroom : s.room) : ∃ t, execRingLos n b s = .next t ∧ t.ring[n] = s.ring[n].signalLost b ∧
    State.recorded 0x421A (Src.ring n) [b2n b] s t ∧ State.counted (Reg.ring n 0x06C) s t := by
  have hexec : execRingLos n b s = .next (((s.modRing n (RingPort.signalLost b)).bump (Reg.ring n 0x06C)).emit 0x421A (Src.ring n) [b2n b]) := rfl
  refine ⟨_, hexec, ?_, State.noted_bump_emit (u := s.modRing n (RingPort.signalLost b)) hroom rfl rfl rfl rfl rfl⟩
  rw [State.emit_ring, State.bump_ring, State.modRing_get]

theorem execLosSilenceEnd_eq : execLosSilenceEnd n b s =
    .next (((s.modRing n (RingPort.spoken b)).when (!s.enumSilence n) (State.send .ring n "IDLE" [b2n b])).pump n b) := rfl

/-- Sending changes no port. -/
theorem State.when_send_ring {c : Bool} {l : OutChan} {i : Nat} {w : String} {a : List Int} : (s.when c (State.send l i w a)).ring = s.ring := by
  cases c <;> rfl

/-- The silence of an end is over, whatever leaves the end then. -/
theorem execLosSilenceEnd_spoken : ∃ t, execLosSilenceEnd n b s = .next t ∧ t.ring[n].silent b = false := by
  refine ⟨_, execLosSilenceEnd_eq, ?_⟩
  have hq := State.rings_get (State.pump_quiet n b ((s.modRing n (RingPort.spoken b)).when (!s.enumSilence n) (State.send .ring n "IDLE" [b2n b]))) n
  have hsilent := congrArg (fun r => RingPort.silent r b) hq
  rw [State.when_send_ring, State.modRing_get] at hsilent
  exact hsilent.trans (by cases b <;> rfl)

/-- Idle symbols leave the end where no enumeration is silent. -/
theorem execLosSilenceEnd_idle (h : s.enumSilence n = false) :
    ∃ t, execLosSilenceEnd n b s = .next t ∧ Out.mk .ring n "IDLE" [(b2n b : Int)] .plain ∈ t.out := by
  refine ⟨_, execLosSilenceEnd_eq, ?_⟩
  rw [h]
  exact State.pump_keeps List.mem_cons_self

/-- Nothing leaves the end where an enumeration is silent and no command waits. -/
theorem execLosSilenceEnd_silent (h : s.enumSilence n = true) (hq : s.ring[n].queue = []) : ∃ t, execLosSilenceEnd n b s = .next t ∧ t.out = s.out := by
  refine ⟨_, execLosSilenceEnd_eq, ?_⟩
  rw [h, State.pump_idle]
  · rfl
  · refine RingPort.nextFor_nil ?_ b
    rw [State.when_send_ring, State.modRing_get, ← hq]
    cases b <;> rfl

/-! ### BEACON returns -/

/-- The drift's condition touches neither LOOP_NOW nor what tells a break (03 R94). -/
theorem State.driftCheck_port : (s.driftCheck n).ring[n].loopNow = s.ring[n].loopNow ∧ (s.driftCheck n).ring[n].missedRet = s.ring[n].missedRet ∧
    (s.driftCheck n).ring[n].mode = s.ring[n].mode := by
  rw [State.driftCheck, State.modRing_get]
  split <;> exact ⟨rfl, rfl, rfl⟩

section
variable {d : Nat}

/-- A return in time at end B of a CLOSED Ring is the new LOOP_NOW (03 R89, R94). -/
theorem execBeaconReturn_timely (hl : s.ringLease n = true) (hc : s.ring[n].closeStep ≠ .awaitReturn) (hm : s.ring[n].mode = .closed)
    (hd : d ≤ s.ring[n].loopNow.toNat + 800) :
    ∃ t, execBeaconReturn n true d s = .next t ∧ t.ring[n].loopNow = BitVec.ofNat 32 d ∧ t.ring[n].missedRet = 0 ∧ t.ring[n].mode = .closed := by
  have hexec : execBeaconReturn n true d s =
      .next (((s.modRing n fun r => { r with loopNow := BitVec.ofNat 32 d, missedRet := 0 }).modSense n fun c =>
        { c with sumNow := c.sumNow + (d - s.ring[n].loopEnum.toNat), cntNow := c.cntNow + 1 }).driftCheck n) := by
    simp only [execBeaconReturn, beq_eq_false_iff_ne.2 hc, hl, hm, decide_eq_false (not_lt.2 hd), Bool.not_true, Bool.or_self, Bool.false_eq_true, if_false, beq_self_eq_true, if_true]
  obtain ⟨hnow, hmiss, hmode⟩ := State.driftCheck_port (n := n) (s := (s.modRing n fun r => { r with loopNow := BitVec.ofNat 32 d, missedRet := 0 }).modSense n fun c =>
    { c with sumNow := c.sumNow + (d - s.ring[n].loopEnum.toNat), cntNow := c.cntNow + 1 })
  rw [State.modSense_ring, State.modRing_get] at hnow hmiss hmode
  exact ⟨_, hexec, hnow, hmiss, hmode.trans hm⟩

/-- A return at end A of a CLOSED Ring, or one that is late, changes nothing (03 R89). -/
theorem execBeaconReturn_ignored (hc : s.ring[n].closeStep ≠ .awaitReturn) (hm : s.ring[n].mode = .closed)
    (hd : b = false ∨ s.ring[n].loopNow.toNat + 800 < d) : execBeaconReturn n b d s = .next s := by
  have hbad : (!b || decide (d > s.ring[n].loopNow.toNat + 800)) = true := by
    obtain rfl | hlt := hd
    · rfl
    · rw [decide_eq_true hlt, Bool.or_true]
  simp only [execBeaconReturn, beq_eq_false_iff_ne.2 hc, hm, hbad, Bool.false_eq_true, if_false, beq_self_eq_true, if_true, ite_self]

/-- The test launch of a CLOSE that returns within 6 ns closes the Ring (03 R93). -/
theorem execBeaconReturn_closes (hc : s.ring[n].closeStep = .awaitReturn) (hd : ((d : Int) - s.ring[n].loopEnum.toNat).natAbs ≤ 24) :
    ∃ t, execBeaconReturn n true d s = .next t ∧ t.ring[n] =
      { s.ring[n] with mode := .closed, both := false, closeStep := .none, pos := 0xFF, loopNow := BitVec.ofNat 32 d, missedRet := 0, resCode := 0, resDetail := 0 } := by
  simp only [execBeaconReturn, hc, beq_self_eq_true, if_true, decide_eq_true hd, Bool.and_self]
  refine ⟨_, rfl, ?_⟩
  rw [State.modSense_ring, State.ringResult, State.modRing_get, State.modRing_get]
  rfl

end

/-! ### Missed returns and breaks -/

/-- The first missed return of a CLOSED Ring where no wrap was seen is only counted (03 R89). -/
theorem execMissedReturn_first (hl : s.ringLease n = true) (hc : s.ring[n].closeStep ≠ .awaitReturn) (hm : s.ring[n].mode = .closed)
    (hw : s.ring[n].wrapSeen = false) (h0 : s.ring[n].missedRet = 0) :
    execMissedReturn n s = .next (s.modRing n fun r => { r with missedRet := 1 }) := by
  simp only [execMissedReturn, beq_eq_false_iff_ne.2 hc, hm, hl, hw, h0]
  rfl

/-- The second missed return, or one where a wrap was seen, declares the break (03 R89). -/
theorem execMissedReturn_breaks (hl : s.ringLease n = true) (hc : s.ring[n].closeStep ≠ .awaitReturn) (hm : s.ring[n].mode = .closed)
    (h : s.ring[n].missedRet = 1 ∨ s.ring[n].wrapSeen = true) : execMissedReturn n s = .next (s.declareBreak n) := by
  have hbreak : (s.ring[n].wrapSeen || decide (s.ring[n].missedRet ≥ 1)) = true := by
    obtain h1 | hw := h
    · rw [h1]; exact Bool.or_true _
    · rw [hw]; rfl
  simp only [execMissedReturn, beq_eq_false_iff_ne.2 hc, hm, hl, hbreak]
  rfl

/-- A declared break stands in POS, takes effect at the next T0 and is counted (03 R89). -/
theorem State.declareBreak_noted (hroom : s.room) : (s.declareBreak n).ring[n].splitNext = true ∧
    (s.declareBreak n).ring[n].pos = BitVec.ofNat 8 (s.ring[n].breakPos (s.topo n).packs) ∧ State.counted (Reg.ring n 0x040) s (s.declareBreak n) := by
  have hring : (s.declareBreak n).ring[n] = { s.ring[n] with pos := BitVec.ofNat 8 (s.ring[n].breakPos (s.topo n).packs), splitNext := true, missedRet := 0 } := by
    rw [State.declareBreak, State.emit_ring, State.bump_ring, State.modRing_get]
  refine ⟨by rw [hring], by rw [hring], ?_⟩
  exact (State.noted_bump_emit (u := s.modRing n fun r => { r with pos := BitVec.ofNat 8 (s.ring[n].breakPos (s.topo n).packs), splitNext := true, missedRet := 0 })
    (a := Reg.ring n 0x040) (c := 0x4210) (n := Src.ring n) (b := [s.ring[n].breakPos (s.topo n).packs]) hroom rfl rfl rfl rfl rfl).2

/-- A drift is recorded once (03 R94). -/
theorem execRingDelayDrift_noted (hroom : s.room) (hl : s.ringLease n = true) (hd : s.ring[n].drift = false) :
    ∃ t, execRingDelayDrift n s = .next t ∧ t.ring[n].drift = true ∧
      State.recorded 0x4215 (Src.ring n) [(s.ring[n].loopNow.toNat : Int), (s.ring[n].loopEnum.toNat : Int)] s t := by
  have hexec : execRingDelayDrift n s =
      .next ((s.modRing n fun r => { r with drift := true }).emit 0x4215 (Src.ring n) [(s.ring[n].loopNow.toNat : Int), (s.ring[n].loopEnum.toNat : Int)]) := by
    simp only [execRingDelayDrift, hd, hl]
    rfl
  refine ⟨_, hexec, ?_, State.recorded_since (State.emit_recorded (s := s.modRing n _) (State.room_length hroom)) le_rfl⟩
  rw [State.emit_ring, State.modRing_get]

/-! ### The fault loop -/

/-- What a reading of the loop current leaves of the port and of the fabric's input (03 R86, R87). -/
theorem State.loopReads_port {ua : BitVec 16} : (s.loopReads n ua).ring[n].floop = LoopState.ofCurrent ua.toNat ∧ (s.loopReads n ua).ring[n].floopUa = ua ∧
    (s.loopReads n ua).saf.fab.inLoop[n].active = (LoopState.ofCurrent ua.toNat == .opened) ∧ (s.loopReads n ua).saf.fab.latchLoop = s.saf.fab.latchLoop := by
  unfold State.loopReads
  extract_lets old new u v
  have hnoted : (v.when (old != new && new != .closed) (State.bump (Reg.ring n 0x060))).ring = v.ring ∧
      (v.when (old != new && new != .closed) (State.bump (Reg.ring n 0x060))).saf = v.saf := by
    unfold State.when
    split
    · exact ⟨State.bump_ring _ _, State.bump_saf _ _⟩
    · exact ⟨rfl, rfl⟩
  obtain ⟨hring, hsaf⟩ := hnoted
  rw [hring, hsaf]
  have hport : v.ring[n] = u.ring[n] := rfl
  rw [hport, State.modRing_get]
  refine ⟨rfl, rfl, ?_, rfl⟩
  have hinput : v.saf.fab.inLoop[n] = if new == .opened then { u.saf.fab.inLoop[n] with active := true }
      else if u.saf.fab.inLoop[n].active then { active := false, inactiveUp := u.clk.upNs } else u.saf.fab.inLoop[n] := by
    simp [v]
  rw [hinput]
  change _ = (new == .opened)
  cases new == .opened
  · cases h : u.saf.fab.inLoop[n].active
    · exact h
    · rfl
  · rfl

/-- A loop that stays abnormal is recorded (03 R86). -/
theorem execFaultLoopAbnormal_noted (hroom : s.room) (hf : s.ring[n].floop = .abnLow ∨ s.ring[n].floop = .abnHigh) (ha : s.ring[n].floopAbn = false) :
    ∃ t, execFaultLoopAbnormal n s = .next t ∧ t.ring[n].floopAbn = true ∧ State.recorded 0xC219 (Src.ring n) [(s.ring[n].floopUa.toNat : Int)] s t := by
  have hexec : execFaultLoopAbnormal n s = .next ((s.modRing n fun r => { r with floopAbn := true }).emit 0xC219 (Src.ring n) [(s.ring[n].floopUa.toNat : Int)]) := by
    obtain h | h := hf <;> simp only [execFaultLoopAbnormal, h, ha] <;> rfl
  refine ⟨_, hexec, ?_, State.recorded_since (State.emit_recorded (s := s.modRing n _) (State.room_length hroom)) le_rfl⟩
  rw [State.emit_ring, State.modRing_get]

end

/-! ### A string's trip keeps what was recorded -/

/-- Every counter. -/
def Reg.every (_ : Nat) : Prop := True

section
variable {n : Fin 8} {s u : State}

theorem State.Adds.note (h : s.Adds Reg.every u) (c i : Nat) (b : List Int) : s.Adds Reg.every (u.emit c i b) := h.emit trivial c i b

theorem State.Adds.count (h : s.Adds Reg.every u) (a : Nat) : s.Adds Reg.every (u.bump a) := h.bump trivial trivial

theorem State.Adds.refuseRecord (h : s.Adds Reg.every u) (kind : BitVec 16) (busy : Bool) : s.Adds Reg.every (u.refuseRecord kind busy) :=
  .when (.count (h.off (by simp)) _) (.note (.refl _) _ _ _) _

theorem State.Adds.payWithheld (h : s.Adds Reg.every u) : s.Adds Reg.every u.payWithheld := h.off (by simp)

theorem State.Adds.gapRecord (h : s.Adds Reg.every u) : s.Adds Reg.every u.gapRecord := by
  unfold State.gapRecord
  exact .ite (.payWithheld (.count (h.off (by simp)) _)) h

theorem State.Adds.spaceWarn (h : s.Adds Reg.every u) : s.Adds Reg.every u.spaceWarn :=
  .when (h.off (by simp)) (.note (.refl _) _ _ _) _

theorem State.Adds.stepDowns (h : s.Adds Reg.every u) : s.Adds Reg.every u.stepDowns := by
  unfold State.stepDowns
  extract_lets l auto below v w
  have hv : s.Adds Reg.every v := h.forEach _ fun _ _ => .note (.refl _) _ _ _
  have hw : s.Adds Reg.every w := hv.off (by simp [w])
  split
  · exact hw
  · exact .count (hw.off (by simp)) _

theorem State.Adds.fullCheck (h : s.Adds Reg.every u) : s.Adds Reg.every u.fullCheck := by
  unfold State.fullCheck
  exact .ite (.note (.off h.gapRecord (by simp)) _ _ _) h

theorem State.Adds.intoHistory (h : s.Adds Reg.every u) (kind : BitVec 16) (src : Nat) (body : List Byte) : s.Adds Reg.every (u.intoHistory kind src body) := by
  unfold State.intoHistory State.admitAt State.admitOf
  simp only [apply_ite Prod.snd]
  refine .ite h (.ite ?_ (h.refuseRecord _ _))
  exact State.Adds.fullCheck (.stepDowns (.spaceWarn (.off h.gapRecord (by simp))))

theorem State.Adds.resistances (h : s.Adds Reg.every u) (k : Nat) : s.Adds Reg.every (u.resistances n k) := by
  unfold State.resistances
  dsimp only
  split
  · exact h
  · exact .ite h (.when (h.off (by simp)) (.note (.refl _) _ _ _) _)

theorem State.Adds.deriveSweep (h : s.Adds Reg.every u) : s.Adds Reg.every (u.deriveSweep n) :=
  .intoHistory (.forEach h _ fun _ _ => .resistances (.refl _) _) _ _ _

theorem State.Adds.abortSweep (h : s.Adds Reg.every u) (reason : Nat) : s.Adds Reg.every (u.abortSweep n reason) := by
  unfold State.abortSweep
  extract_lets w own v
  have hd : s.Adds Reg.every (u.when own (State.deriveSweep n)) := .when h (.deriveSweep (.refl u)) own
  have hv : s.Adds Reg.every v := .ite (.note (hd.off (by simp)) _ _ _) h
  split
  · exact hv
  · exact .note (hv.off (by simp)) _ _ _

theorem State.Adds.strTo (h : s.Adds Reg.every u) (new : StrState) (cause : Nat) : s.Adds Reg.every (u.strTo n new cause) :=
  .ite h (.when (.note (h.off (by simp)) _ _ _) (.abortSweep (.refl _) _) _)

theorem State.Adds.stringTrip (h : s.Adds Reg.every u) (code : Nat) : s.Adds Reg.every (u.stringTrip n code) := by
  unfold State.stringTrip
  extract_lets v w
  have hv : s.Adds Reg.every v := .abortSweep (.note (h.off (by simp)) _ _ _) _
  have hf : s.Adds Reg.every (v.strTo n .fault code) := hv.strTo _ _
  have hw : s.Adds Reg.every w := hf.off (by simp [w])
  exact .ite (hw.off (by simp)) hv

end

section
variable {n : Fin 8} {s u : State}

/-- A trip of a string leaves the loop latches as they were. -/
theorem State.stringTrip_latchLoop (code : Nat) : (u.stringTrip n code).saf.fab.latchLoop = u.saf.fab.latchLoop := by
  have habort (v : State) : (v.abortSweep n 2).saf = v.saf := State.same_of_upTo (p := .saf) (by simp)
  have hto (v : State) : (v.strTo n .fault code).saf = v.saf := State.same_of_upTo (p := .saf) (by simp)
  have hopen (v : State) : (v.tripOpen n).saf = v.saf := State.same_of_upTo (p := .saf) (by simp)
  have hpcs (v : State) : v.pcsOpen.saf.fab.latchLoop = v.saf.fab.latchLoop := by
    unfold State.pcsOpen
    split <;> rfl
  have hcause : (((u.noteCause n code).emit 0xC813 (Src.str n) [code]).abortSweep n 2).saf.fab.latchLoop = u.saf.fab.latchLoop := by
    rw [habort, State.emit_saf]
    rfl
  unfold State.stringTrip
  dsimp only
  split
  · rw [State.when, apply_ite (fun v : State => v.saf.fab.latchLoop), hpcs, ite_self, hopen, State.modStr_saf, hto, hcause]
  · exact hcause

theorem State.withOutputs_saf (f : State → State) : (u.withOutputs f).saf = (f u).saf := by
  refine State.same_of_upTo (p := .saf) ?_
  unfold State.withOutputs
  simp

/-- A fabric trip sets its latch. -/
theorem State.fabricTrip_latchLoop (i code : Nat) (f : Fabric → Fabric) : (u.fabricTrip n i code f).saf.fab.latchLoop = (f u.saf.fab).latchLoop := by
  have hout : (u.withOutputs fun s => s.modSaf fun t => { t with fab := f t.fab }).saf = (u.modSaf fun t => { t with fab := f t.fab }).saf :=
    State.withOutputs_saf _
  unfold State.fabricTrip
  rw [State.stringTrip_latchLoop, State.bump_saf, State.emit_saf, hout]
  rfl

theorem State.Adds.fabricTrip (h : s.Adds Reg.every u) (i code : Nat) (f : Fabric → Fabric) : s.Adds Reg.every (u.fabricTrip n i code f) := by
  have hout : s.Adds Reg.every (u.withOutputs fun s => s.modSaf fun t => { t with fab := f t.fab }) := h.off (by simp)
  unfold State.fabricTrip
  exact .stringTrip ((hout.note _ _ _).count _) _

/-- A reading of the loop current adds at most one event, and no stamp goes back. -/
theorem State.loopReads_notes {ua : BitVec 16} : (s.loopReads n ua).ffr.queue.length ≤ s.ffr.queue.length + 1 ∧
    ∀ src, Sparse.get s.clk.lastStamp src 0 ≤ Sparse.get (s.loopReads n ua).clk.lastStamp src 0 := by
  unfold State.loopReads
  extract_lets old new u v
  unfold State.when
  split
  · exact ⟨State.bump_length (s := v), fun src => State.bump_last (s := v) src⟩
  · exact ⟨Nat.le_succ _, fun _ => le_rfl⟩

/-- The string's current at the last boundary before the latch, kept for the classification of a pack removal (08 R222). -/
def Safety.keepCurrent (n : Fin 8) (high : Bool) (t : Safety) : Safety :=
  { t with fab := { t.fab with loopCurr := setBit t.fab.loopCurr n high, loopPend := setBit t.fab.loopPend n true } }

/-- The loop's latch is set, its reading kept and the opening recorded (03 R86). -/
theorem execFaultLoopOpen_latched {ua : BitVec 16} (hroom : s.room) : ∃ t, execFaultLoopOpen n ua s = .next t ∧
    t.saf.fab.latchLoop = setBit s.saf.fab.latchLoop n true ∧ t.ring[n].floop = LoopState.ofCurrent ua.toNat ∧
    State.recorded 0xC214 (Src.ring n) [(ua.toNat : Int)] s t := by
  obtain ⟨v, w, hv, hw, hexec⟩ : ∃ v w, (s.loopReads n ua).emit 0xC214 (Src.ring n) [(ua.toNat : Int)] = v ∧
      v.when (!bit s.saf.fab.latchLoop.toNat n) (fun u => u.modSaf (Safety.keepCurrent n (decide (max s.str[n].smp.istrA.natAbs s.str[n].smp.istrB.natAbs ≥ 2000)))) = w ∧
      execFaultLoopOpen n ua s = .next (w.fabricTrip n 0 0xC214 fun f => { f with latchLoop := setBit f.latchLoop n true }) := ⟨_, _, rfl, rfl, rfl⟩
  refine ⟨_, hexec, ?_⟩
  obtain ⟨hfloop, -, -, hlatch⟩ := State.loopReads_port (n := n) (s := s) (ua := ua)
  obtain ⟨hlen, hlast⟩ := State.loopReads_notes (n := n) (s := s) (ua := ua)
  have hrec : State.recorded 0xC214 (Src.ring n) [(ua.toNat : Int)] s v :=
    hv ▸ State.recorded_since (State.emit_recorded (by omega)) (hlast _)
  have hvring : v.ring[n].floop = LoopState.ofCurrent ua.toNat := by rw [← hv, State.emit_ring, hfloop]
  have hvlatch : v.saf.fab.latchLoop = s.saf.fab.latchLoop := by rw [← hv, State.emit_saf, hlatch]
  have hwring : w.ring = v.ring := by rw [← hw, State.when]; split <;> rfl
  have hwlatch : w.saf.fab.latchLoop = v.saf.fab.latchLoop := by rw [← hw, State.when]; split <;> rfl
  have hwadds : v.Adds Reg.every w := by rw [← hw]; exact State.Adds.off (.refl v) (by simp)
  have htrip : (w.fabricTrip n 0 0xC214 fun f => { f with latchLoop := setBit f.latchLoop n true }).ring = w.ring := State.same_of_upTo (p := .ring) (by simp)
  refine ⟨?_, ?_, State.recorded_of_adds hrec (hwadds.fabricTrip _ _ _)⟩
  · rw [State.fabricTrip_latchLoop, hwlatch, hvlatch]
  · rw [htrip, hwring, hvring]

end

end Sys2Proof.Machine

open Sys2Proof Sys2Proof.Machine

/-- Settles O20: each command's effect is a lemma above; what it noted stands through what its step does after. -/
theorem ringTrafficComplete : Obligations.RingTrafficComplete := by
  refine ⟨fun s n b f k c hcrc hmac hk ho hn hc hf hs hctr hlen hi hq => execReplyReceived_setComp hcrc hmac hlen hk ho hn hc hf hi hs hctr hq,
    fun s n c hq hp hi hw => ?_,
    fun s n c k hk hr hq hp hw ho hm hf => execRingCommandRequest_launched hk hr hq hp hw ho hm hf,
    fun s n c _ hq hc hp hi => execRingCommandRequest_full hq hc hp hi,
    fun s n c k hl hs hm hc hb hq ho hk hr hf => execCommandWindowOpen_launches hl hs hm hc hb hq ho hk hr hf,
    fun s n b c k ho hc hk hr hw hm hf => execExchangeTimeout_again ho hc hk hr hw hm hf,
    fun s n b c k hroom ho hc hk => execExchangeTimeout_third hroom ho hc hk,
    fun s n b hroom => ?_, fun s n b => ?_,
    fun s n b h => execLosSilenceEnd_idle h,
    fun s n b h hq => execLosSilenceEnd_silent h hq,
    fun s n d hl hc hm hd => execBeaconReturn_timely hl hc hm hd,
    fun s n b d hc hm hd => ⟨s, execBeaconReturn_ignored hc hm hd, rfl, rfl⟩,
    fun s n d hc hd => ?_, fun s n hl hc hm hw h0 => ?_,
    fun s n hroom hl hc hm h => ⟨_, execMissedReturn_breaks hl hc hm h, State.declareBreak_noted hroom⟩,
    fun s n hroom hl hd => execRingDelayDrift_noted hroom hl hd,
    fun s n ua hroom => execFaultLoopOpen_latched hroom,
    fun s n hroom hf ha => execFaultLoopAbnormal_noted hroom hf ha, fun s n ua => ?_⟩
  · obtain ⟨t, hexec, hqueue⟩ := execRingCommandRequest_waits hq hp hi hw
    exact ⟨t, hexec, hqueue ▸ RingCmdReq.mem_insert _ _, hqueue ▸ RingCmdReq.insert_length _ _⟩
  · obtain ⟨t, hexec, hport, hrec, hcnt⟩ := execRingLos_noted (b := b) hroom
    refine ⟨t, hexec, hrec, hcnt, fun hb => ?_, fun hb => ?_⟩ <;> subst hb <;> rw [hport] <;> exact ⟨rfl, rfl⟩
  · obtain ⟨t, hexec, hsilent⟩ := execLosSilenceEnd_spoken (n := n) (b := b) (s := s)
    exact ⟨t, hexec, fun hb => by subst hb; exact hsilent, fun hb => by subst hb; exact hsilent⟩
  · obtain ⟨t, hexec, hport⟩ := execBeaconReturn_closes hc hd
    exact ⟨t, hexec, by rw [hport], by rw [hport], by rw [hport], by rw [hport]⟩
  · refine ⟨_, execMissedReturn_first hl hc hm hw h0, ?_⟩
    rw [State.modRing_get]
    exact ⟨rfl, hm, rfl⟩
  · obtain ⟨hfloop, hua, hinput, -⟩ := State.loopReads_port (n := n) (s := s) (ua := ua)
    exact ⟨s.loopReads n ua, rfl, hfloop, hua, hinput⟩

end

section
/-! PROOF. What an aborted sweep does to a session that did not ask for it. -/

-- One task at a time: the check limits memory, and each task has a stack of its own.
set_option Elab.async false

namespace Sys2Proof.Machine

/-- An operate session in slot 0. -/
def Session.asking : Session := { id := 0, role := .operate }

/-- Its request. -/
def Req.asked : Req := { session := 0, msg := 1 }

/-- A state in which string 2 runs a sweep, a run of refused records waits for its GAP record, for which ring space has returned, and session 1 has
one credit withheld meanwhile. -/
def State.owing : State :=
  ((State.reset.modHost fun h => { h with sessions := [Session.asking, { id := 1, credits := 15, withheld := 1 }] }).modHist
    fun h => { h with refusing := true, gapDue := true, freed := true }).modSweep 2 fun w => { w with running := some {} }

theorem State.owing_serves : State.owing.serves Req.asked Session.asking := by decide

theorem Sweep.abort_owing : (Sweep.abort 2 Session.asking (State.owing.enter Req.asked 2)).1 = 0 := by decide

/-- The record of the aborted sweep ends the run of refusals, and the withheld credit of session 1 goes back (11 R301; 12 R327). -/
theorem Sweep.abort_owing_pays : ((Sweep.abort 2 Session.asking (State.owing.enter Req.asked 2)).2.session 1).map (·.credits) = some 16 := by decide

/-- An answer leaves every other session alone. -/
theorem State.reply_session {q : Req} {i : Nat} (hi : i ≠ q.session) (c : Nat) (b : List Byte) (s : State) :
    (s.reply q c b).session i = s.session i :=
  (State.within_of_upTo (W := ⟨[.sessions, .out], fun _ => False, (· = q.session)⟩) (State.reply_upTo (by simp) q rfl c b s)).sess i hi

/-- SWEEP_ABORT of session 0 changes session 1. -/
theorem execSweepAbort_owing : ∃ t, execSweepAbort Req.asked 2 State.owing = .next t ∧ t.session 1 ≠ State.owing.session 1 := by
  refine ⟨_, rfl, fun hkept => ?_⟩
  rw [State.hostWrite_ok State.owing_serves _ Sweep.abort_owing, State.reply_session (by decide)] at hkept
  have hpaid := Sweep.abort_owing_pays
  rw [hkept] at hpaid
  exact absurd hpaid (by decide)

end Sys2Proof.Machine

open Sys2Proof Sys2Proof.Machine

/-- Refutes O53: the record that an aborted sweep leaves in history may end a run of refused records, and the credits withheld meanwhile then go back to
every session (11 R301; 12 R327), not to that of the request alone. -/
theorem not_sweepAndStringFrames : ¬ Obligations.SweepAndStringFrames := by
  intro h
  obtain ⟨-, -, -, habort, -⟩ := h
  obtain ⟨t, ht, -, -, hother⟩ := habort State.owing Req.asked 2
  obtain ⟨u, hu, hchanged⟩ := execSweepAbort_owing
  have hsame : Host.Outcome.next t = Host.Outcome.next u := ht.symm.trans hu
  obtain rfl : t = u := by injection hsame
  exact hchanged (hother 1 (by decide))

end

section
/-! PROOF. A sweep whose first point was refused at its acceptance. -/

-- One task at a time: the check limits memory, and each task has a stack of its own.
set_option Elab.async false

namespace Sys2Proof.Machine

/-- A request of two points, accepted when R112 refused the first of them alone. -/
def SweepReq.firstRefused : SweepReq := { points := 2, freqs := [101500, 75000], refused := 1 }

/-- A state in which string 2 starts that request, with no harmonic learned any more. -/
def State.refusedFirst : State := State.reset.modSweep 2 fun w => { w with running := some SweepReq.firstRefused, startNext := true }

/-- Point 0 is skipped though its frequency is near no harmonic now: the sweep begins with point 1 (04 R112). -/
theorem State.refusedFirst_point : (State.refusedFirst.pointStart 2).sweep[(2 : Fin 8)].point = 1 := by decide

end Sys2Proof.Machine

open Sys2Proof Sys2Proof.Machine

/-- Refutes O22: SWEEP_POINT_START begins with point 0 only where the request was accepted with that point. One refused at acceptance is skipped, though
its frequency is near no harmonic at its T0 (04 R112). -/
theorem not_sweepAndRippleComplete : ¬ Obligations.SweepAndRippleComplete := by
  intro h
  obtain ⟨-, -, -, -, -, hstart, -⟩ := h
  obtain ⟨t, ht, hpoint, -⟩ := hstart State.refusedFirst 2 SweepReq.firstRefused (by decide) (by decide) (by decide) (by decide) (by decide) (by decide)
  have hexec : Host.Outcome.next (State.refusedFirst.pointStart 2) = Host.Outcome.next t := ht
  obtain rfl : State.refusedFirst.pointStart 2 = t := by injection hexec
  exact absurd (State.refusedFirst_point.symm.trans hpoint) (by decide)

end

section
/-! PROOF. A CW write at the T0 of a commit. -/

-- One task at a time: the check limits memory, and each task has a stack of its own.
set_option Elab.async false

namespace Sys2Proof.Machine

/-- A CW write that its checks refuse leaves nothing to take effect at the next boundary (05 R139). -/
theorem execCwWrite_refused {q : Req} {x : Session} {n : Fin 8} {reg : Fin 7} {v : Word} {s : State} {c : Nat} (h : s.serves q x)
    (hcode : (s.enter q 2).cwCode n reg v = c) (hc : c ≠ 0) : ∃ t, execCwWrite q n reg v s = .next t ∧ t.str[n].coefNext = s.str[n].coefNext := by
  have hw : StrEng.cwWrite n reg v x (s.enter q 2) = (c, (s.enter q 2).tuneResult n (0x40 + 4 * reg) c) := Write.cmd_refused hcode hc _
  refine ⟨_, rfl, ?_⟩
  rw [State.hostWrite_refuses h hw hc, State.tuneResult, if_neg hc]
  simp [State.refuseReq, State.strResult]

/-- KI_PH of string 2 bounded to 1 to 2, in the configuration of a change. -/
def Cfg.bounded : Cfg := { strs := Vec.upd ({} : Cfg).strs 2 fun c => { c with bounds := [(0x44, 1, 2)] } }

/-- A state whose T0 is that of a passed change to that configuration, with an operate session in slot 0. -/
def State.committing : State :=
  (State.reset.modHost fun h => { h with sessions := [Session.asking] }).modImg fun i => { i with pend := some { cfg := Cfg.bounded, passed := true } }

theorem State.committing_serves : State.committing.serves Req.asked Session.asking := by decide

/-- A word of 0 is the number 0. -/
theorem f32_zero : f32 0 = some 0 := by decide +kernel

/-- KI_PH of 0 is outside the bounds that the commit puts in force, and inside those before it (02 R51). -/
theorem State.committing_cwCode : (State.committing.enter Req.asked 2).cwCode 2 (1 : Fin 7) 0 = 0x0503 := by decide +kernel

end Sys2Proof.Machine

open Sys2Proof Sys2Proof.Machine

/-- Refutes O23: at the T0 of a commit a CW write meets the bounds of the configuration committed there (02 R51), so one inside the bounds of the
configuration before it may be refused. -/
theorem not_stringCommandsComplete : ¬ Obligations.StringCommandsComplete := by
  intro h
  obtain ⟨-, -, -, -, -, -, -, -, -, -, -, hcw, -⟩ := h
  obtain ⟨t, ht, hnext, -⟩ := hcw State.committing Req.asked Session.asking 2 1 0 0 State.committing_serves (by decide) f32_zero (by decide +kernel)
    (by decide +kernel) (by decide) (by decide)
  obtain ⟨u, hu, hkept⟩ := execCwWrite_refused State.committing_serves State.committing_cwCode (by decide)
  have hsame : Host.Outcome.next t = Host.Outcome.next u := ht.symm.trans hu
  obtain rfl : t = u := by injection hsame
  exact absurd (hkept.symm.trans hnext) (by decide)

end

section
/-! PROOF. Precharge, contactors and trips of a string. -/

-- One task at a time: the check limits memory, and each task has a stack of its own.
set_option Elab.async false

namespace Sys2Proof.Machine

/-! ### A change of state counts nothing of the string engines

The lemmas about the fault loop's trip say what stays recorded; a count of a string engine stays too, since a change of state and the sweep that it
aborts count in history alone. -/

/-- A counter beyond the registers of the string engines (01 Table 1.9). -/
def Reg.beyondStr (a : Nat) : Prop := 0x088000 ≤ a

theorem Reg.not_beyondStr {n : Fin 8} {o : Nat} (h : o < 0x1000) : ¬ Reg.beyondStr (Reg.str n o) := by
  unfold Reg.beyondStr Reg.str
  omega

section
variable {n : Fin 8} {s u : State}

theorem State.Adds.emitBeyond (h : s.Adds Reg.beyondStr u) (c i : Nat) (b : List Int) : s.Adds Reg.beyondStr (u.emit c i b) :=
  h.emit (show 0x088000 ≤ 0x2C0100 by decide) c i b

theorem State.Adds.bumpBeyond (h : s.Adds Reg.beyondStr u) {a : Nat} (ha : 0x088000 ≤ a) : s.Adds Reg.beyondStr (u.bump a) :=
  h.bump (show 0x088000 ≤ 0x2C0100 by decide) ha

theorem State.Adds.refuseRecordBeyond (h : s.Adds Reg.beyondStr u) (kind : BitVec 16) (busy : Bool) : s.Adds Reg.beyondStr (u.refuseRecord kind busy) :=
  .when (.bumpBeyond (h.off (by simp)) (by decide)) (.emitBeyond (.refl _) _ _ _) _

theorem State.Adds.gapRecordBeyond (h : s.Adds Reg.beyondStr u) : s.Adds Reg.beyondStr u.gapRecord := by
  have hpaid {v : State} (hv : s.Adds Reg.beyondStr v) : s.Adds Reg.beyondStr v.payWithheld := hv.off (by simp)
  unfold State.gapRecord
  exact .ite (hpaid (.bumpBeyond (h.off (by simp)) (by decide))) h

theorem State.Adds.spaceCheckBeyond (h : s.Adds Reg.beyondStr u) : s.Adds Reg.beyondStr u.spaceCheck := by
  have hwarn : s.Adds Reg.beyondStr u.spaceWarn := .when (h.off (by simp)) (.emitBeyond (.refl _) _ _ _) _
  have hsteps : s.Adds Reg.beyondStr u.spaceWarn.stepDowns := by
    unfold State.stepDowns
    extract_lets l auto below v w
    have hv : s.Adds Reg.beyondStr v := hwarn.forEach _ fun _ _ => .emitBeyond (.refl _) _ _ _
    have hw : s.Adds Reg.beyondStr w := hv.off (by simp [w])
    split
    · exact hw
    · exact .bumpBeyond (hw.off (by simp)) (by decide)
  unfold State.spaceCheck State.fullCheck
  exact .ite (.emitBeyond (.off hsteps.gapRecordBeyond (by simp)) _ _ _) hsteps

theorem State.Adds.intoHistoryBeyond (h : s.Adds Reg.beyondStr u) (kind : BitVec 16) (src : Nat) (body : List Byte) :
    s.Adds Reg.beyondStr (u.intoHistory kind src body) := by
  unfold State.intoHistory State.admitAt State.admitOf
  simp only [apply_ite Prod.snd]
  exact .ite h (.ite (.spaceCheckBeyond (.off h.gapRecordBeyond (by simp))) (h.refuseRecordBeyond _ _))

theorem State.Adds.resistancesBeyond (h : s.Adds Reg.beyondStr u) (k : Nat) : s.Adds Reg.beyondStr (u.resistances n k) := by
  unfold State.resistances
  dsimp only
  split
  · exact h
  · exact .ite h (.when (h.off (by simp)) (.emitBeyond (.refl _) _ _ _) _)

theorem State.Adds.abortSweepBeyond (h : s.Adds Reg.beyondStr u) (reason : Nat) : s.Adds Reg.beyondStr (u.abortSweep n reason) := by
  unfold State.abortSweep
  extract_lets w own v
  have hderive : u.Adds Reg.beyondStr (u.deriveSweep n) := .intoHistoryBeyond (.forEach (.refl u) _ fun _ _ => .resistancesBeyond (.refl _) _) _ _ _
  have hown : s.Adds Reg.beyondStr (u.when own (State.deriveSweep n)) := h.when hderive own
  have hv : s.Adds Reg.beyondStr v := .ite (.emitBeyond (hown.off (by simp)) _ _ _) h
  split
  · exact hv
  · exact .emitBeyond (hv.off (by simp)) _ _ _

theorem State.Adds.strToBeyond (h : s.Adds Reg.beyondStr u) (new : StrState) (cause : Nat) : s.Adds Reg.beyondStr (u.strTo n new cause) :=
  .ite h (.when (.emitBeyond (h.off (by simp)) _ _ _) (.abortSweepBeyond (.refl _) _) _)

theorem State.Adds.stringTripBeyond (h : s.Adds Reg.beyondStr u) (code : Nat) : s.Adds Reg.beyondStr (u.stringTrip n code) := by
  unfold State.stringTrip
  extract_lets v w
  have hv : s.Adds Reg.beyondStr v := .abortSweepBeyond (.emitBeyond (h.off (by simp)) _ _ _) _
  have hw : s.Adds Reg.beyondStr w := .off (hv.strToBeyond .fault code : s.Adds Reg.beyondStr (v.strTo n .fault code)) (by simp [w])
  exact .ite (hw.off (by simp)) hv

theorem State.Adds.openDoneBeyond (h : s.Adds Reg.beyondStr u) : s.Adds Reg.beyondStr (u.openDone n) := by
  unfold State.openDone
  exact .ite (.when (h.off (by simp)) (.strToBeyond (.refl _) _ _) _) h

theorem State.Adds.openAllBeyond (h : s.Adds Reg.beyondStr u) : s.Adds Reg.beyondStr (u.openAll n) :=
  .openDoneBeyond (h.off (by simp))

end

/-! ### The string after each operation -/

section
variable {n : Fin 8} {s : State}

theorem State.modStr_get (s : State) (n : Fin 8) (f : StrEng → StrEng) : (s.modStr n f).str[n] = f s.str[n] := by simp

theorem State.withOutputs_str (f : State → State) : (s.withOutputs f).str = (f s).str := by
  refine State.same_of_upTo (p := .str) ?_
  unfold State.withOutputs
  simp

theorem State.coilHalves_str (v : Bool) : (s.coilHalves n v).str = s.str := State.withOutputs_str _

theorem State.abortSweep_str (reason : Nat) : (s.abortSweep n reason).str = s.str := State.same_of_upTo (p := .str) (by simp)

/-- Setting the drives does to the string what `drive` says. -/
theorem State.driveCoils_str (d : BitVec 3) : (s.driveCoils n d).str[n] = if s.str[n].drives = d then s.str[n] else s.str[n].drive d := by
  by_cases h : s.str[n].drives = d
  · rw [State.driveCoils, if_pos (beq_iff_eq.2 h), if_pos h]
  · rw [State.driveCoils, if_neg (mt beq_iff_eq.1 h), if_neg h, State.withOutputs_str, State.modStr_get]

theorem State.driveCoils_drives (d : BitVec 3) : (s.driveCoils n d).str[n].drives = d := by
  rw [State.driveCoils_str]
  split
  · assumption
  · rfl

/-- What `drive` leaves alone, setting the drives leaves alone. -/
theorem State.driveCoils_keeps {β : Type} (v : StrEng → β) (d : BitVec 3) (hv : ∀ e : StrEng, v (e.drive d) = v e) :
    v (s.driveCoils n d).str[n] = v s.str[n] := by
  rw [State.driveCoils_str, apply_ite v, hv, ite_self]

/-- A string after a transition of Table 5.11. -/
def StrEng.entered (new : StrState) (e : StrEng) : StrEng :=
  { e with state := new, okRun := if new == .off then Vector.replicate 10 0 else e.okRun }

theorem State.strTo_str (new : StrState) (cause : Nat) :
    (s.strTo n new cause).str[n] = if s.str[n].state = new then s.str[n] else s.str[n].entered new := by
  by_cases h : s.str[n].state = new
  · rw [State.strTo, if_pos (beq_iff_eq.2 h), if_pos h]
  · rw [State.strTo, if_neg (mt beq_iff_eq.1 h), if_neg h, State.when, apply_ite (fun u : State => u.str[n]), State.abortSweep_str, ite_self,
      State.emit_str, State.modStr_get]
    rfl

theorem State.strTo_state (new : StrState) (cause : Nat) : (s.strTo n new cause).str[n].state = new := by
  rw [State.strTo_str]
  split
  · assumption
  · rfl

/-- What entering a state leaves alone, a transition leaves alone. -/
theorem State.strTo_keeps {β : Type} (v : StrEng → β) (new : StrState) (cause : Nat) (hv : ∀ e : StrEng, v (e.entered new) = v e) :
    v (s.strTo n new cause).str[n] = v s.str[n] := by
  rw [State.strTo_str, apply_ite v, hv, ite_self]

/-- What neither the end of an opening nor a state that it enters writes stays as it was. -/
theorem State.openDone_keeps {β : Type} (v : StrEng → β) (hclosed : ∀ e : StrEng, v { e with opening := .none, prech := .idle, lowEnable := false } = v e)
    (hstate : ∀ (e : StrEng) (new : StrState), v (e.entered new) = v e) : v (s.openDone n).str[n] = v s.str[n] := by
  unfold State.openDone
  dsimp only
  split
  · rw [State.when, apply_ite (fun u : State => v u.str[n]), State.strTo_keeps v _ _ fun e => hstate e _, ite_self, State.coilHalves_str, State.modStr_get, hclosed]
  · rfl

/-- An opening that has not come to wait for the auxiliary inputs does not end. -/
theorem State.openDone_none (h : s.str[n].opening = .none) : s.openDone n = s := by
  have hwait : (s.str[n].opening == .waitAux) = false := by rw [h]; rfl
  simp only [State.openDone, hwait, Bool.false_and, Bool.false_eq_true, if_false]

theorem State.openAll_resCode : (s.openAll n).str[n].resCode = s.str[n].resCode := by
  unfold State.openAll
  rw [State.openDone_keeps StrEng.resCode (fun _ => rfl) (fun _ _ => rfl), State.modStr_get]
  dsimp only
  rw [State.coilHalves_str, State.driveCoils_keeps StrEng.resCode 0 fun _ => rfl]

theorem State.openAll_drives : (s.openAll n).str[n].drives = 0 := by
  unfold State.openAll
  rw [State.openDone_keeps StrEng.drives (fun _ => rfl) (fun _ _ => rfl), State.modStr_get]
  dsimp only
  rw [State.coilHalves_str, State.driveCoils_drives]

theorem State.tripOpen_kept : (s.tripOpen n).str[n].state = s.str[n].state ∧ (s.tripOpen n).str[n].contReq = s.str[n].contReq := by
  unfold State.tripOpen
  split <;> rw [State.modStr_get] <;> exact ⟨rfl, rfl⟩

/-- A string with the cause of its trip kept, its ramps over (05 R155). -/
def StrEng.tripped (code : Nat) (e : StrEng) : StrEng := { e with tripCause := code, loop := { e.loop with ramping := false, rampZero := false } }

/-- A trip takes an active string to FAULT, and leaves its request of the contactors as it was (05 R155). -/
theorem State.stringTrip_str (code : Nat) : (s.stringTrip n code).str[n].state = (if s.str[n].state.active then .fault else s.str[n].state) ∧
    (s.stringTrip n code).str[n].contReq = s.str[n].contReq := by
  obtain ⟨v, w, hv, hw, htrip⟩ : ∃ v w : State, ((s.noteCause n code).emit 0xC813 (Src.str n) [code]).abortSweep n 2 = v ∧
      ((v.strTo n .fault code).modStr n (StrEng.tripped code)).tripOpen n = w ∧
      s.stringTrip n code = if v.str[n].state.active then w.when (w.saf.anyFlag 3) State.pcsOpen else v := ⟨_, _, rfl, rfl, rfl⟩
  have hvstr : v.str = s.str := by
    rw [← hv, State.abortSweep_str, State.emit_str]
    rfl
  have hpcs : (w.when (w.saf.anyFlag 3) State.pcsOpen).str = w.str := State.same_of_upTo (p := .str) (by simp)
  obtain ⟨hstate, hreq⟩ := State.tripOpen_kept (n := n) (s := (v.strTo n .fault code).modStr n (StrEng.tripped code))
  rw [hw, State.modStr_get] at hstate hreq
  rw [htrip, ← hvstr]
  by_cases hact : v.str[n].state.active = true
  · rw [if_pos hact, if_pos hact, hpcs]
    exact ⟨hstate.trans (State.strTo_state _ _), hreq.trans (State.strTo_keeps StrEng.contReq _ _ fun _ => rfl)⟩
  · rw [if_neg hact, if_neg hact]
    exact ⟨rfl, rfl⟩

end

/-! ### The coil enable halves -/

theorem bit_eq_testBit (w i : Nat) : bit w i = w.testBit i := by
  simp [bit, Nat.testBit_eq_decide_div_mod_eq, beq_eq_decide]

theorem bit_setBit_false {w : Nat} (m : BitVec w) (i : Nat) : bit (setBit m i false).toNat i = false := by
  rw [bit_eq_testBit, BitVec.testBit_toNat]
  simpa [setBit] using fun _ (h : i < w) => ⟨h, Nat.zero_lt_of_lt h⟩

/-- Both channels withhold the coil enable half of a string. -/
def Safety.coilOff (n : Fin 8) (t : Safety) : Prop := bit t.a.coil.toNat n = false ∧ bit t.b.coil.toNat n = false

section
variable {n : Fin 8} {s : State}

theorem State.coilHalves_coilOff : (s.coilHalves n false).saf.coilOff n := by
  unfold State.coilHalves
  rw [State.withOutputs_saf]
  exact ⟨bit_setBit_false _ _, bit_setBit_false _ _⟩

theorem State.openDone_coilOff (h : s.saf.coilOff n) : (s.openDone n).saf.coilOff n := by
  have hto (u : State) (c : Bool) (new : StrState) (cause : Nat) : (u.when c (State.strTo n new cause)).saf = u.saf :=
    State.same_of_upTo (p := .saf) (by simp)
  unfold State.openDone
  dsimp only
  split
  · rw [hto]
    exact State.coilHalves_coilOff
  · exact h

theorem State.openAll_coilOff : (s.openAll n).saf.coilOff n := by
  refine State.openDone_coilOff ?_
  rw [State.modStr_saf]
  exact State.coilHalves_coilOff

end

/-! ### The auxiliary inputs -/

/-- A string with a change of its auxiliary inputs accepted (05 R151). -/
def StrEng.sees (aux : BitVec 3) (e : StrEng) : StrEng := { e with aux := aux, auxDue := e.drives ^^^ aux }

section
variable {n : Fin 8} {s : State} {aux : BitVec 3}

/-- K_NEG confirmed: K_PRE closes at the next T0 (05 R153). -/
theorem execAuxInputChange_kNeg (hs : s.str[n].state = .precharge) (ho : s.str[n].opening = .none) (hp : s.str[n].prech = .kNeg)
    (ha : bit aux.toNat 0 = true) :
    ∃ t, execAuxInputChange n aux s = .next t ∧ t.str[n].aux = aux ∧ t.str[n].prech = .kPreT0 ∧ t.str[n].state = .precharge := by
  have hexec : execAuxInputChange n aux s = .next (((s.modStr n (StrEng.sees aux)).modStr n fun e => { e with prech := .kPreT0 }).openDone n) := by
    simp only [execAuxInputChange, State.modStr_get, hs, ho, hp, ha]
    rfl
  refine ⟨_, hexec, ?_⟩
  rw [State.openDone_none (by simp only [State.modStr_get, StrEng.sees, ho])]
  simp only [State.modStr_get, StrEng.sees, hs, and_self]

/-- K_POS confirmed: K_PRE opens (05 R153). -/
theorem execAuxInputChange_kPos (hs : s.str[n].state = .precharge) (ho : s.str[n].opening = .none) (hp : s.str[n].prech = .kPos)
    (ha : bit aux.toNat 2 = true) :
    ∃ t, execAuxInputChange n aux s = .next t ∧ t.str[n].aux = aux ∧ t.str[n].prech = .kPreOpen ∧ t.str[n].drives = 5 := by
  have hexec : execAuxInputChange n aux s =
      .next ((((s.modStr n (StrEng.sees aux)).driveCoils n 5).modStr n fun e => { e with prech := .kPreOpen }).openDone n) := by
    simp only [execAuxInputChange, State.modStr_get, hs, ho, hp, ha]
    rfl
  have hkept {β : Type} (v : StrEng → β) (hv : ∀ e : StrEng, v (e.drive 5) = v e) : v ((s.modStr n (StrEng.sees aux)).driveCoils n 5).str[n] = v (s.str[n].sees aux) := by
    rw [State.driveCoils_keeps v 5 hv, State.modStr_get]
  have hopening := (hkept StrEng.opening fun _ => rfl).trans ho
  refine ⟨_, hexec, ?_⟩
  rw [State.openDone_none (by rw [State.modStr_get]; exact hopening), State.modStr_get]
  exact ⟨hkept StrEng.aux fun _ => rfl, rfl, State.driveCoils_drives 5⟩

/-- A precharge that is done starts the loops from zero, and the string follows the bank (05 R143, R153). -/
theorem State.prechargeDone_str : (s.prechargeDone n).str[n].aux = s.str[n].aux ∧
    (s.prechargeDone n).str[n].opening = s.str[n].opening ∧ (s.prechargeDone n).str[n].prech = .idle ∧
    (s.prechargeDone n).str[n].state = (if s.bank.state = .run then .run else .hold) ∧ (s.prechargeDone n).str[n].loop.xStr = 0 := by
  unfold State.prechargeDone
  extract_lets run c ff u
  have hu : (s.when (s.str[n].smp.vbus = 0) State.tick).str = s.str := State.same_of_upTo (p := .str) (by simp)
  refine ⟨?_, ?_, ?_, ?_, ?_⟩
  · rw [State.strTo_keeps StrEng.aux _ _ fun _ => rfl, State.modStr_get, hu]
  · rw [State.strTo_keeps StrEng.opening _ _ fun _ => rfl, State.modStr_get, hu]
  · rw [State.strTo_keeps StrEng.prech _ _ fun _ => rfl, State.modStr_get]
  · simp only [State.strTo_state, run, beq_iff_eq]
  · rw [State.strTo_keeps (fun e => e.loop.xStr) _ _ fun _ => rfl, State.modStr_get]

/-- K_PRE confirmed open: precharge is done (05 R153). -/
theorem execAuxInputChange_kPreOpen (hs : s.str[n].state = .precharge) (ho : s.str[n].opening = .none) (hp : s.str[n].prech = .kPreOpen)
    (ha : bit aux.toNat 1 = false) :
    ∃ t, execAuxInputChange n aux s = .next t ∧ t.str[n].aux = aux ∧ t.str[n].prech = .idle ∧
      t.str[n].state = (if s.bank.state = .run then .run else .hold) ∧ t.str[n].loop.xStr = 0 := by
  have hexec : execAuxInputChange n aux s = .next (((s.modStr n (StrEng.sees aux)).prechargeDone n).openDone n) := by
    simp only [execAuxInputChange, State.modStr_get, hs, ho, hp, ha]
    rfl
  obtain ⟨haux, hopening, hprech, hstate, hloop⟩ := State.prechargeDone_str (s := s.modStr n (StrEng.sees aux)) (n := n)
  rw [State.modStr_get] at haux hopening
  refine ⟨_, hexec, ?_⟩
  rw [State.openDone_none (hopening.trans ho)]
  exact ⟨haux, hprech, hstate, hloop⟩

end

/-! ### What ends a precharge or an opening -/

section
variable {n : Fin 8} {s : State}

/-- A precharge that fails drops every coil, with PRECHARGE_FAIL in STRn_RESULT (05 R153). -/
theorem State.prechargeFail_noted (hroom : s.room) : (s.prechargeFail n).str[n].drives = 0 ∧ (s.prechargeFail n).str[n].resCode = 0x0507 ∧
    State.counted (Reg.str n 0x228) s (s.prechargeFail n) ∧ State.recorded 0x8518 (Src.str n) [s.str[n].smp.vstr, (s.str[n].packSum : Int)] s (s.prechargeFail n) := by
  unfold State.prechargeFail
  extract_lets e u
  have hopen : (u.emit 0x8518 (Src.str n) [e.smp.vstr, (e.packSum : Int)]).Adds Reg.beyondStr ((u.emit 0x8518 (Src.str n) [e.smp.vstr, (e.packSum : Int)]).openAll n) :=
    .openAllBeyond (.refl _)
  obtain ⟨hrec, hcnt⟩ := State.noted_bump_emit (a := Reg.str n 0x228) (c := 0x8518) (n := Src.str n) (b := [e.smp.vstr, (e.packSum : Int)])
    (u := (s.modStr n fun e => { e with evt := setBit e.evt 6 true, target := .off, tripCause := 0x8518 }).strResult n 0x0507 0)
    (t := u.emit 0x8518 (Src.str n) [e.smp.vstr, (e.packSum : Int)]) hroom rfl rfl rfl rfl rfl
  refine ⟨State.openAll_drives, ?_, State.counted_of_adds hcnt hopen (Reg.not_beyondStr (by decide)), State.recorded_of_adds hrec hopen⟩
  rw [State.openAll_resCode, State.emit_str, State.bump_str, State.strResult, State.modStr_get]
  rfl

theorem execPrechargeTimeout_fails (hs : s.str[n].state = .precharge) (hp : s.str[n].prech = .kNeg ∨ s.str[n].prech = .kPreT0 ∨ s.str[n].prech = .kPre) :
    execPrechargeTimeout n s = .next (s.prechargeFail n) := by
  obtain h | h | h := hp <;> simp only [execPrechargeTimeout, h, hs, beq_self_eq_true, if_true]

/-- A contactor that disagrees requests a trip, which takes an active string to FAULT (05 R151). -/
theorem execContactorMismatch_noted (i : Fin 3) (hroom : s.room) : ∃ t, execContactorMismatch n i s = .next t ∧ t.str[n].contReq = true ∧
    t.str[n].state = (if s.str[n].state.active then .fault else s.str[n].state) ∧ State.counted (Reg.str n 0x224) s t ∧
    State.recorded 0x8517 (Src.str n) [((i : Nat) : Int), b2n (bit s.str[n].drives.toNat i), b2n (bit s.str[n].aux.toNat i)] s t := by
  obtain ⟨u, v, hu, hv, hexec⟩ : ∃ u v : State, s.modStr n (fun e => { e with evt := setBit e.evt 5 true, contReq := true }) = u ∧
      (u.bump (Reg.str n 0x224)).emit 0x8517 (Src.str n) [((i : Nat) : Int), b2n (bit s.str[n].drives.toNat i), b2n (bit s.str[n].aux.toNat i)] = v ∧
      execContactorMismatch n i s = .next (v.stringTrip n 0x8517) := ⟨_, _, rfl, rfl, rfl⟩
  have hstr : v.str = u.str := by rw [← hv, State.emit_str, State.bump_str]
  have htrip : v.Adds Reg.beyondStr (v.stringTrip n 0x8517) := .stringTripBeyond (.refl v) _
  obtain ⟨hrec, hcnt⟩ := State.noted_bump_emit (s := s) (u := u) (t := v) hroom (by rw [← hu]; rfl) (by rw [← hu]; rfl) (by rw [← hu]; rfl) (by rw [hv]) (by rw [hv])
  obtain ⟨hstate, hreq⟩ := State.stringTrip_str (n := n) (s := v) 0x8517
  rw [hstr, ← hu, State.modStr_get] at hstate hreq
  exact ⟨_, hexec, hreq, hstate, State.counted_of_adds hcnt htrip (Reg.not_beyondStr (by decide)), State.recorded_of_adds hrec htrip⟩

/-- The drive of a coil that has pulled in passes to its economiser duty (05 R152). -/
theorem execCoilPullinEnd_economiser {i : Fin 3} (h : bit s.str[n].pullin.toNat i = true) : ∃ t, execCoilPullinEnd n i s = .next t ∧
    t.str[n].pullin = setBit s.str[n].pullin i false ∧ t.str[n].drives = s.str[n].drives ∧
    t.out = Out.mk .line (n * 3 + i) "ECONOMISER" [((s.topo n).economiser : Int)] .plain :: s.out := by
  refine ⟨_, congrArg Host.Outcome.next (if_pos h), ?_, ?_, rfl⟩ <;> rw [State.send_str, State.modStr_get]

theorem execKNegReleaseDelay_opens (h : s.str[n].opening = .kNegDelay) : execKNegReleaseDelay n s = .next (s.openAll n) :=
  congrArg Host.Outcome.next (if_pos (beq_iff_eq.2 h))

/-- A trip opens after 20 ms whatever the current, recorded where it is 2 A or more (05 R154). -/
theorem execTripOpenTimeout_opens (hroom : s.room) (h : s.str[n].opening = .tripWait)
    (hi : 2000 ≤ max s.str[n].smp.istrA.natAbs s.str[n].smp.istrB.natAbs) : ∃ t, execTripOpenTimeout n s = .next t ∧ t.str[n].drives = 0 ∧
    State.recorded 0xC51A (Src.str n) [((max s.str[n].smp.istrA.natAbs s.str[n].smp.istrB.natAbs : Nat) : Int)] s t := by
  have hexec : execTripOpenTimeout n s =
      .next ((s.emit 0xC51A (Src.str n) [((max s.str[n].smp.istrA.natAbs s.str[n].smp.istrB.natAbs : Nat) : Int)]).openAll n) := by
    simp only [execTripOpenTimeout, h, State.when, decide_eq_true (ge_iff_le.2 hi), beq_self_eq_true, if_true]
  exact ⟨_, hexec, State.openAll_drives, State.recorded_of_adds (State.emit_recorded (State.room_length hroom)) (.openAllBeyond (.refl _))⟩

end

end Sys2Proof.Machine

open Sys2Proof Sys2Proof.Machine

/-- Settles O24: each command's effect is a lemma above; what it noted stands through the opening or the trip that follows. -/
theorem contactorsComplete : Obligations.ContactorsComplete :=
  ⟨fun _ _ _ hs ho hp ha => execAuxInputChange_kNeg hs ho hp ha,
    fun _ _ _ hs ho hp ha => execAuxInputChange_kPos hs ho hp ha,
    fun _ _ _ hs ho hp ha => execAuxInputChange_kPreOpen hs ho hp ha,
    fun _ _ hroom hs hp => ⟨_, execPrechargeTimeout_fails hs hp, State.prechargeFail_noted hroom⟩,
    fun _ _ i hroom => execContactorMismatch_noted i hroom,
    fun _ _ _ h => execCoilPullinEnd_economiser h,
    fun _ _ h => ⟨_, execKNegReleaseDelay_opens h, State.openAll_drives, State.openAll_coilOff⟩,
    fun _ _ hroom h hi => execTripOpenTimeout_opens hroom h hi⟩

end

section
/-! PROOF. A SYNC_IN edge after a coasted boundary. -/

-- One task at a time: the check limits memory, and each task has a stack of its own.
set_option Elab.async false

namespace Sys2Proof.Machine

/-- A state in which string 2, in SYNC mode at 10 kHz, has coasted once, one step after the edge that it missed. -/
def State.coasted : State :=
  (State.reset.modImg fun i => { i with cfg := { i.cfg with strs := Vec.upd i.cfg.strs 2 fun c => { c with sync := true, fc := 10000 } } }).modStr 2 fun e =>
    { e with state := .off, coastRun := 1, syncSince := 1 }

/-- The edge that comes one nominal period after the edge before it enters the average with that interval (05 R129, R130). -/
theorem State.coasted_edge : (State.forEach strings (State.syncEdge 1280000) State.coasted).str[(2 : Fin 8)].syncIvals = [1280000] := by decide

end Sys2Proof.Machine

open Sys2Proof Sys2Proof.Machine

/-- Refutes O25: after a coast the interval that enters the average is the one between the two edges, not the time since the last accepted one, from which
the coasts were taken off (05 R129, R130; log 123). -/
theorem not_controlCycleComplete : ¬ Obligations.ControlCycleComplete := by
  intro h
  obtain ⟨-, -, -, hedge, -⟩ := h
  obtain ⟨t, ht, -, -, hivals⟩ := hedge State.coasted 2 1280000 (by decide) (by decide) (by decide)
  have hexec : Host.Outcome.next (State.forEach strings (State.syncEdge 1280000) State.coasted) = Host.Outcome.next t := ht
  obtain rfl : State.forEach strings (State.syncEdge 1280000) State.coasted = t := by injection hexec
  exact absurd (State.coasted_edge.symm.trans hivals) (by decide)

end

section
/-! PROOF. The bank's states and the strings that follow them. -/

-- One task at a time: the check limits memory, and each task has a stack of its own.
set_option Elab.async false

namespace Sys2Proof.Machine

/-! ### Frames of the bank's states (chapter 06) -/

@[simp] theorem State.bankResult_upTo {W : Scope} (h : .bank ∈ W.parts) (c d : Nat) (s : State) : (s.bankResult c d).upTo W = s.upTo W := by
  unfold State.bankResult; simp [h]

@[simp] theorem State.lapseAll_upTo {W : Scope} (h : Part.withNotes [.bank, .jrn] ⊆ W.parts) (s : State) : s.lapseAll.upTo W = s.upTo W := by
  simp at h
  unfold State.lapseAll; simp [h]

@[simp] theorem State.bankTo_upTo {W : Scope} (h : Part.withNotes [.bank, .jrn] ⊆ W.parts) (new : BankState) (cause : Nat) (s : State) :
    (s.bankTo new cause).upTo W = s.upTo W := by
  simp at h
  unfold State.bankTo; simp [h]

@[simp] theorem State.adoptProfile_upTo {W : Scope} (h : [.img, .saf] ⊆ W.parts) (s : State) : s.adoptProfile.upTo W = s.upTo W := by
  simp at h
  unfold State.adoptProfile; simp [h]

@[simp] theorem State.outputTest_upTo {W : Scope} (h : Part.withNotes [.saf] ⊆ W.parts) (failed : Option (Fin 8)) (s : State) :
    (s.outputTest failed).upTo W = s.upTo W := by
  simp at h
  unfold State.outputTest; split <;> simp [h]

@[simp] theorem State.learnStart_upTo {W : Scope} (h : [.est, .twin, .jrn, .out] ⊆ W.parts) (seq trig : Nat) (s : State) :
    (s.learnStart seq trig).upTo W = s.upTo W := by
  simp at h
  unfold State.learnStart; simp [h]

@[simp] theorem State.learnTrigger_upTo {W : Scope} (h : [.est, .twin, .jrn, .out] ⊆ W.parts) (bit : Nat) (s : State) :
    (s.learnTrigger bit).upTo W = s.upTo W := by
  simp at h
  unfold State.learnTrigger; simp [h]

/-! ### The bank after a transition of Table 6.1 -/

/-- The bank without a command in force (06 R169). -/
def Bank.lapsed (b : Bank) : Bank :=
  { b with inForce := none, target := 0, short := 0, limited := false, ramping := false, eligible := 0, lead := 0xF }

section
variable {s : State} {new : BankState} {cause : Nat}

theorem State.lapseAll_bank : s.lapseAll.bank = s.bank.lapsed := by
  have hwaiting : s.lapseWaiting.bank = s.bank := State.same_of_upTo (p := .bank) (by simp)
  rw [State.lapseAll, State.modBank_bank, hwaiting]
  rfl

/-- A transition writes the state, and one out of RUN and HOLD clears the command in force. -/
theorem State.bankTo_bank (h : s.bank.state ≠ new) : (s.bankTo new cause).bank =
    if s.bank.state.flowing && !new.flowing then ({ s.bank with state := new } : Bank).lapsed else { s.bank with state := new } := by
  rw [State.bankTo, if_neg (mt beq_iff_eq.1 h), State.when_bank, State.lapseAll_bank, State.emit_bank]
  rfl

theorem State.bankTo_state : (s.bankTo new cause).bank.state = new := by
  by_cases h : s.bank.state = new
  · rwa [State.bankTo, if_pos (beq_iff_eq.2 h)]
  · rw [State.bankTo_bank h]
    split <;> rfl

/-- What neither the state nor the command in force holds, a transition leaves alone. -/
theorem State.bankTo_keeps {β : Type} (v : Bank → β) (hstate : ∀ b : Bank, v { b with state := new } = v b) (hlapsed : ∀ b : Bank, v b.lapsed = v b) :
    v (s.bankTo new cause).bank = v s.bank := by
  by_cases h : s.bank.state = new
  · rw [State.bankTo, if_pos (beq_iff_eq.2 h)]
  · rw [State.bankTo_bank h, apply_ite v, hlapsed, hstate, ite_self]

theorem State.bankTo_resCode : (s.bankTo new cause).bank.resCode = s.bank.resCode :=
  State.bankTo_keeps Bank.resCode (fun _ => rfl) fun _ => rfl

/-- A bank that leaves RUN and HOLD has no command in force. -/
theorem State.bankTo_lapses (hold : s.bank.state.flowing = true) (hnew : new.flowing = false) :
    (s.bankTo new cause).bank.inForce = none ∧ (s.bankTo new cause).bank.target = 0 := by
  have h : s.bank.state ≠ new := by
    rintro rfl
    rw [hold] at hnew
    cases hnew
  rw [State.bankTo_bank h, hold, hnew]
  exact ⟨rfl, rfl⟩

end

/-! ### The causes of the bank's FAULT -/

/-- No cause of SF20 stands, and no channel demands the bank's FAULT. -/
def Safety.freed (t : Safety) : Prop := t.sf20 = false ∧ t.a.bankDem = false ∧ t.b.bankDem = false

theorem State.pcsClose_freed {s : State} (h : s.saf.freed) : s.pcsClose.saf.freed := by
  unfold State.pcsClose
  split
  · exact h
  · exact h

/-- A channel that reads the profile anew keeps its demands (02 R60). -/
theorem State.profileCrcsWith_freed {s : State} (h : s.saf.freed) (bad : Option (Bool × List Byte)) : (s.profileCrcsWith bad).saf.freed := by
  unfold State.profileCrcsWith
  cases s.img.profActive <;> exact h

theorem State.adoptProfile_freed {s : State} (h : s.saf.freed) : s.adoptProfile.saf.freed := by
  unfold State.adoptProfile State.when
  split
  · exact State.profileCrcsWith_freed (s := s.modImg _) h none
  · exact h

/-! ### What a transition of the bank notes -/

section
variable {s u : State}

theorem State.Adds.terminate (h : s.Adds Reg.every u) (e : DispEntry) (st : TermStatus) : s.Adds Reg.every (u.terminate e st) := by
  unfold State.terminate
  extract_lets v
  have hv : s.Adds Reg.every v := h.off (by simp [v])
  cases st
  case waiting | executed => exact hv
  case expired | lapsed => exact hv.count _

theorem State.Adds.lapseAll (h : s.Adds Reg.every u) : s.Adds Reg.every u.lapseAll :=
  .off (h.forEach u.waitingDisp fun e v => .terminate (.refl v) e .lapsed) (State.modBank_upTo (by simp) u.lapseWaiting _)

theorem State.Adds.bankTo (h : s.Adds Reg.every u) (new : BankState) (cause : Nat) : s.Adds Reg.every (u.bankTo new cause) :=
  .ite h (.when (.note (h.off (by simp)) _ _ _) (.lapseAll (.refl _)) _)

end

/-! ### Bank commands that their row permits -/

section
variable {q : Req} {x : Session} {s : State}

/-- A row of Table 6.1 that starts from the bank's state, with its conditions met. -/
theorem State.bankRow_permits {states : List BankState} {conds : List Bool} (hs : s.bank.state ∈ states) (hc : ∀ c ∈ conds, c = true) :
    s.bankRow states conds = (0, 0) := by
  have hnone : (conds.zipIdx 1).find? (fun c => !c.1) = none :=
    List.find?_eq_none.2 fun c hmem => by simp [hc c.1 (List.fst_mem_of_mem_zipIdx hmem)]
  rw [State.bankRow, if_neg (not_not_intro hs), hnone]

/-- A served bank command that its row permits. -/
theorem State.hostWrite_bankCmd (h : s.serves q x) {check : Session → State → Nat × Nat} {effect : State → State}
    (hc : check x (s.enter q 2) = (0, 0)) :
    s.hostWrite q (Bank.cmd check effect) = (effect ((s.enter q 2).bankResult 0 0)).reply q 0 [] := by
  have hw : Bank.cmd check effect x (s.enter q 2) = (0, effect ((s.enter q 2).bankResult 0 0)) := if_pos (congrArg Prod.fst hc)
  rw [State.hostWrite_ok h _ (by rw [hw]), hw]

/-- A profile that is adopted leaves the bank alone. -/
theorem State.adoptProfile_bank : s.adoptProfile.bank = s.bank := State.same_of_upTo (p := .bank) (by simp)

/-- STANDBY enters STANDBY; the strobes and PCS_TRIP leave the bank alone (08 R221). -/
theorem execBankStandby_enters (h : s.serves q x) (hs : s.bank.state = .off ∨ s.bank.state = .stop) (hc : ∀ c ∈ s.standbyConds, c = true) :
    ∃ t, execBankStandby q s = .next t ∧ t.bank.state = .standby ∧ t.bank.resCode = 0 := by
  have hrow : (s.enter q 2).bankRow [.off, .stop] (s.enter q 2).standbyConds = (0, 0) :=
    State.bankRow_permits (by simpa using hs) hc
  have hbank (u : State) : (u.toStandby 1).bank = (u.bankTo .standby 1).bank :=
    State.same_of_upTo (p := .bank) (by unfold State.toStandby; simp)
  refine ⟨_, congrArg Host.Outcome.next (State.hostWrite_bankCmd h hrow), ?_⟩
  rw [State.reply_bank, hbank]
  exact ⟨State.bankTo_state, State.bankTo_resCode⟩

/-- A passed output-stage test is noted with its instant (08 R228). -/
theorem State.outputTest_saf : (s.outputTest none).saf = { s.saf with testUp := some s.clk.upNs, testDue := false } := by
  simp only [State.outputTest, State.emit_saf, State.modSaf_saf]

theorem State.outputTest_bank : (s.outputTest none).bank = s.bank := State.same_of_upTo (p := .bank) (by simp)

/-- PRECHARGE with a passed output-stage test enters PRECHARGE, the test noted (08 R228). -/
theorem execBankPrecharge_enters (hroom : s.room) (h : s.serves q x) (hs : s.bank.state = .standby) (hp : s.bankPermits = true)
    (hi : s.img.profPending = false) : ∃ t, execBankPrecharge q none s = .next t ∧ t.bank.state = .precharge ∧ t.bank.resCode = 0 ∧
    t.saf.testUp = some s.clk.upNs ∧ t.saf.testDue = false ∧ State.recorded 0x0820 0x000 [] s t := by
  obtain ⟨u, hu⟩ : ∃ u, (s.enter q 2).bankResult 0 0 = u := ⟨_, rfl⟩
  have hrow : (s.enter q 2).bankRow [.standby] [(s.enter q 2).bankPermits, !(s.enter q 2).img.profPending] = (0, 0) :=
    State.bankRow_permits (by simpa using hs) (by simpa using ⟨hp, hi⟩)
  have hw : Bank.prechargeCmd none x (s.enter q 2) = (0, (u.outputTest none).bankTo .precharge 2) := by
    rw [← hu]
    simp only [Bank.prechargeCmd, Bank.cmd, hrow, if_true, ne_eq, not_true_eq_false, if_false]
  have hexec : execBankPrecharge q none s = .next (((u.outputTest none).bankTo .precharge 2).reply q 0 []) := by
    rw [execBankPrecharge, State.hostWrite_ok h _ (by rw [hw]), hw]
  have hsaf : ((u.outputTest none).bankTo .precharge 2).saf = (u.outputTest none).saf := State.same_of_upTo (p := .saf) (by simp)
  have htest : State.recorded 0x0820 0x000 [] s (u.outputTest none) := by
    rw [← hu]
    exact State.emit_recorded (s := ((s.enter q 2).bankResult 0 0).modSaf _) (State.room_length hroom)
  refine ⟨_, hexec, ?_, ?_, ?_, ?_, ?_⟩
  · rw [State.reply_bank, State.bankTo_state]
  · rw [State.reply_bank, State.bankTo_resCode, State.outputTest_bank, ← hu]
    rfl
  · rw [State.reply_saf, hsaf, State.outputTest_saf, ← hu]
    rfl
  · rw [State.reply_saf, hsaf, State.outputTest_saf]
  · exact State.recorded_of_adds htest (.off (.bankTo (.refl _) _ _) (State.reply_upTo (by simp) _ trivial _ _ _))

/-- SERVICE enters SERVICE from STOP, or from OFF where the bank may leave it. -/
theorem execBankService_enters (h : s.serves q x) (hm : s.bank.state = .stop ∨ s.mayLeaveOff = true) (hs : s.bank.state = .off ∨ s.bank.state = .stop)
    (hr : s.roleOf x = .service) : ∃ t, execBankService q s = .next t ∧ t.bank.state = .service ∧ t.bank.resCode = 0 := by
  have hrow : (s.enter q 2).bankRow [.off, .stop] [(s.enter q 2).roleOf x == .service] = (0, 0) :=
    State.bankRow_permits (by simpa using hs) (by simpa using hr)
  have hleave : ((s.enter q 2).bank.state == .off && !(s.enter q 2).mayLeaveOff) = false := by
    obtain hstop | hmay := hm
    · rw [State.enter_bank, hstop]
      rfl
    · have hmay' : (s.enter q 2).mayLeaveOff = true := hmay
      rw [hmay', Bool.not_true, Bool.and_false]
  refine ⟨_, congrArg Host.Outcome.next (State.hostWrite_bankCmd h ?_), ?_⟩
  · simp only [hrow, decide_true, Bool.true_and, hleave, Bool.false_eq_true, if_false]
  · rw [State.reply_bank]
    exact ⟨State.bankTo_state, State.bankTo_resCode⟩

/-- A bank that must stay OFF refuses SERVICE (02 R42, R59; 01 R20; the model's reading, log 64). -/
theorem execBankService_staysOff (h : s.serves q x) (hs : s.bank.state = .off) (hm : s.mayLeaveOff = false) (hr : s.roleOf x = .service) :
    ∃ t, execBankService q s = .next t ∧ t.bank.state = .off ∧ t.bank.resCode = 0x0611 := by
  have hrow : (s.enter q 2).bankRow [.off, .stop] [(s.enter q 2).roleOf x == .service] = (0, 0) :=
    State.bankRow_permits (by simp [hs]) (by simpa using hr)
  have hstay : ((s.enter q 2).bank.state == .off && !(s.enter q 2).mayLeaveOff) = true := by
    have hm' : (s.enter q 2).mayLeaveOff = false := hm
    rw [State.enter_bank, hs, hm']
    rfl
  have hw : Bank.serviceCmd x (s.enter q 2) = (0x0611, (s.enter q 2).bankResult 0x0611 0) := by
    refine Bank.cmd_refused ?_ (by decide) _
    simp only [hrow, decide_true, Bool.true_and, hstay, if_true]
  refine ⟨_, congrArg Host.Outcome.next (State.hostWrite_refuses h hw (by decide)), ?_⟩
  rw [State.refuseReq_bank]
  exact ⟨hs, rfl⟩

/-- OFF enters OFF; the profile that it may adopt leaves the bank alone (02 R59). -/
theorem execBankOff_enters (h : s.serves q x) (hs : s.bank.state = .standby ∨ s.bank.state = .stop ∨ s.bank.state = .service) :
    ∃ t, execBankOff q s = .next t ∧ t.bank.state = .off ∧ t.bank.resCode = 0 := by
  have hrow : (s.enter q 2).bankRow [.standby, .stop, .service] [] = (0, 0) := State.bankRow_permits (by simpa using hs) (by simp)
  refine ⟨_, congrArg Host.Outcome.next (State.hostWrite_bankCmd h hrow), ?_⟩
  rw [State.reply_bank, State.adoptProfile_bank]
  exact ⟨State.bankTo_state, State.bankTo_resCode⟩

/-- CLEAR ends the causes of the bank's FAULT and the channels' bank-level demands, and enters STOP (06 Table 6.1). -/
theorem execBankClear_clears (h : s.serves q x) (hs : s.bank.state = .fault) (hg : s.bankCauseGone = true)
    (ho : s.str.toList.all StrEng.auxOpen = true) (ha : s.channelsAgree = true) : ∃ t, execBankClear q s = .next t ∧ t.bank.state = .stop ∧
    t.bank.faultCauses = [] ∧ t.saf.sf20 = false ∧ t.saf.a.bankDem = false ∧ t.saf.b.bankDem = false := by
  have hrow : (s.enter q 2).bankRow [.fault] [(s.enter q 2).bankCauseGone, (s.enter q 2).str.toList.all StrEng.auxOpen, (s.enter q 2).channelsAgree] = (0, 0) :=
    State.bankRow_permits (by simpa using hs) (by
      intro c hc
      simp only [List.mem_cons, List.not_mem_nil, or_false] at hc
      obtain rfl | rfl | rfl := hc
      exacts [hg, ho, ha])
  obtain ⟨v, hv⟩ : ∃ v, ((s.enter q 2).bankResult 0 0).strobeAll.modSaf (fun t => { t with sf20 := false, a := { t.a with bankDem := false }, b := { t.b with bankDem := false } }) = v := ⟨_, rfl⟩
  obtain ⟨w, hw⟩ : ∃ w, (v.modBank fun b => { b with faultCauses := [] }).bankTo .stop 6 = w := ⟨_, rfl⟩
  have hexec : execBankClear q s = .next (w.pcsClose.adoptProfile.reply q 0 []) := by
    rw [← hw, ← hv]
    exact congrArg Host.Outcome.next (State.hostWrite_bankCmd h hrow)
  have hclose : w.pcsClose.bank = w.bank := State.same_of_upTo (p := .bank) (by simp)
  have hsaf : w.saf = v.saf := hw ▸ State.same_of_upTo (p := .saf) (by simp)
  have hfreed : w.saf.freed := hsaf ▸ hv ▸ ⟨rfl, rfl, rfl⟩
  refine ⟨_, hexec, ?_, ?_, ?_⟩
  · rw [State.reply_bank, State.adoptProfile_bank, hclose, ← hw]
    exact State.bankTo_state
  · rw [State.reply_bank, State.adoptProfile_bank, hclose, ← hw]
    exact State.bankTo_keeps Bank.faultCauses (fun _ => rfl) fun _ => rfl
  · rw [State.reply_saf]
    exact State.adoptProfile_freed (State.pcsClose_freed hfreed)

end

/-! ### Strings that follow the bank -/

/-- The string in a state of Table 5.11, entered anew where it was in another. -/
def StrEng.moved (new : StrState) (e : StrEng) : StrEng := if e.state = new then e else e.entered new

/-- The string in HOLD, its reference ramping to zero (05 R144). -/
def StrEng.held (e : StrEng) : StrEng :=
  { (e.moved .hold).recall with loop := { (e.moved .hold).loop with ramping := false, rampZero := true } }

/-- The string in RUN, ramping (05 R143). -/
def StrEng.resumed (e : StrEng) : StrEng :=
  { (e.moved .run).recall with loop := { (e.moved .run).loop with ramping := true, rampZero := false } }

/-- The string on its way to a state: its ramp begins, or an opening under way takes the new target (05 R144, R154). -/
def StrEng.stopped (target : StrState) (cause : Nat) (e : StrEng) : StrEng :=
  if e.opening = .none then
    { e with opening := .rampDown, target := target, tripCause := cause, lowRun := 0, prech := .idle, loop := { e.loop with ramping := false, rampZero := true } }
  else { e with target := target, tripCause := cause }

section
variable {n : Fin 8} {s : State}

theorem Vec.upd_upd {α : Type} {k : Nat} (v : Vector α k) (i : Fin k) (f g : α → α) : Vec.upd (Vec.upd v i f) i g = Vec.upd v i fun a => g (f a) := by
  ext j hj
  simp only [Vec.upd_get]
  split <;> rfl

theorem Vec.upd_same {α : Type} {k : Nat} {v : Vector α k} {i : Fin k} {f : α → α} (h : f v[i] = v[i]) : Vec.upd v i f = v := by
  ext j hj
  simp only [Vec.upd_get]
  split
  · next hij => subst hij; exact h
  · rfl

theorem State.strTo_strs (new : StrState) (cause : Nat) : (s.strTo n new cause).str = Vec.upd s.str n (StrEng.moved new) := by
  by_cases h : s.str[n].state = new
  · rw [State.strTo, if_pos (beq_iff_eq.2 h), Vec.upd_same (f := StrEng.moved new) (if_pos h)]
  · have hmoved : Vec.upd s.str n (StrEng.moved new) = Vec.upd s.str n (StrEng.entered new) := by
      simp only [Vec.upd, StrEng.moved, if_neg h]
    rw [hmoved, State.strTo, if_neg (mt beq_iff_eq.1 h), State.when_str, State.abortSweep_str, ite_self, State.emit_str]
    rfl

theorem State.toHold_strs (cause : Nat) : (s.toHold n cause).str = Vec.upd s.str n StrEng.held := by
  rw [State.toHold, State.modStr_str, State.strTo_strs, Vec.upd_upd]
  rfl

theorem State.toRun_strs (cause : Nat) : (s.toRun n cause).str = Vec.upd s.str n StrEng.resumed := by
  rw [State.toRun, State.modStr_str, State.strTo_strs, Vec.upd_upd]
  rfl

theorem State.stopString_strs (target : StrState) (cause : Nat) : (s.stopString n target cause).str = Vec.upd s.str n (StrEng.stopped target cause) := by
  obtain ⟨u, hu⟩ : ∃ u, s.when (s.str[n].state == .run) (State.abortSweep n 1) = u := ⟨_, rfl⟩
  have hstr : u.str = s.str := by rw [← hu, State.when_str, State.abortSweep_str, ite_self]
  have hstop : s.stopString n target cause = if u.str[n].opening == .none then u.rampDown n target cause
      else u.modStr n fun e => { e with target := target, tripCause := cause } := by
    rw [← hu]
    rfl
  rw [hstop, ← hstr]
  by_cases h : u.str[n].opening = .none
  · rw [if_pos (beq_iff_eq.2 h), State.rampDown, State.modStr_str]
    simp only [Vec.upd, StrEng.stopped, if_pos h]
  · rw [if_neg (mt beq_iff_eq.1 h), State.modStr_str]
    simp only [Vec.upd, StrEng.stopped, if_neg h]

/-- A loop over distinct strings of which each turn changes its own string alone. -/
theorem State.forEach_strs {f : Fin 8 → State → State} {g : StrEng → StrEng} (hf : ∀ m u, (f m u).str = Vec.upd u.str m g) {l : List (Fin 8)}
    (hl : l.Nodup) (s : State) (n : Fin 8) : (State.forEach l f s).str[n] = if n ∈ l then g s.str[n] else s.str[n] := by
  induction l generalizing s with
  | nil => rfl
  | cons m l ih =>
    obtain ⟨hm, hl'⟩ := List.nodup_cons.1 hl
    have hturn : (f m s).str[n] = if m = n then g s.str[n] else s.str[n] := by
      rw [hf]
      by_cases h : m = n
      · subst h; simp
      · rw [if_neg h, Vec.upd_ne _ _ _ _ (Ne.symm h)]
    have hrest : (State.forEach (m :: l) f s).str[n] = if n ∈ l then g (f m s).str[n] else (f m s).str[n] := ih hl' (f m s)
    rw [hrest, hturn]
    by_cases h : m = n
    · subst h
      simp [hm]
    · simp [h, Ne.symm h]

/-- The same over the strings that a condition names. -/
theorem State.forEach_filter_strs {f : Fin 8 → State → State} {g : StrEng → StrEng} (hf : ∀ m u, (f m u).str = Vec.upd u.str m g)
    {p : Fin 8 → Bool} (hp : p n = true) (s : State) : (State.forEach (strings.filter p) f s).str[n] = g s.str[n] := by
  rw [State.forEach_strs hf (strings_nodup.filter p), if_pos (List.mem_filter.2 ⟨mem_strings n, hp⟩)]

end

/-! ### RUN, HOLD and STOP -/

section
variable {q : Req} {x : Session} {s : State}

/-- What a bank holds beside the shares of the split. -/
def Bank.beside (b : Bank) : Bank := { b with shares := Vector.replicate 8 {} }

/-- An aborted sweep frees held shares, and leaves the rest of the bank (06 R174). -/
theorem State.abortSweep_beside (n : Fin 8) (reason : Nat) : (s.abortSweep n reason).bank.beside = s.bank.beside := by
  have hderive (u : State) : (u.deriveSweep n).bank = u.bank := State.same_of_upTo (p := .bank) (by simp)
  unfold State.abortSweep
  extract_lets w own u
  have hu : u.bank.beside = s.bank.beside := by
    simp only [u, State.when_bank, State.emit_bank, State.modBank_bank, State.modSweep_bank, hderive, ite_self]
    split <;> rfl
  split
  · exact hu
  · rwa [State.emit_bank, State.modSweep_bank]

theorem State.strTo_beside (n : Fin 8) (new : StrState) (cause : Nat) : (s.strTo n new cause).bank.beside = s.bank.beside := by
  unfold State.strTo
  dsimp only
  split
  · rfl
  · rw [State.when_bank, apply_ite Bank.beside, State.abortSweep_beside, ite_self, State.emit_bank, State.modStr_bank]

theorem State.stopString_beside (n : Fin 8) (target : StrState) (cause : Nat) : (s.stopString n target cause).bank.beside = s.bank.beside := by
  have habort : (s.when (s.str[n].state == .run) (State.abortSweep n 1)).bank.beside = s.bank.beside := by
    rw [State.when_bank, apply_ite Bank.beside, State.abortSweep_beside, ite_self]
  unfold State.stopString
  dsimp only
  split <;> exact habort

/-- RUN resumes every string in HOLD. -/
theorem execBankRun_resumes (h : s.serves q x) (hs : s.bank.state = .precharge ∨ s.bank.state = .hold)
    (hr : (s.str.toList.any fun e => e.state.running) = true) : ∃ t, execBankRun q s = .next t ∧ t.bank.state = .run ∧ t.bank.resCode = 0 ∧
    ∀ n : Fin 8, s.str[n].state = .hold → t.str[n] = s.str[n].resumed := by
  have hrow : (s.enter q 2).bankRow [.precharge, .hold] [(s.enter q 2).str.toList.any fun e => e.state.running] = (0, 0) :=
    State.bankRow_permits (by simpa using hs) (by simpa using hr)
  obtain ⟨u, hu⟩ : ∃ u, ((s.enter q 2).bankResult 0 0).bankTo .run 3 = u := ⟨_, rfl⟩
  have hustr : u.str = s.str := hu ▸ State.same_of_upTo (p := .str) (by simp)
  obtain ⟨w, hw⟩ : ∃ w, State.forEach (strings.filter fun n => s.str[n].state == .hold) (fun n => State.toRun n 5) u = w := ⟨_, rfl⟩
  have hbank : w.bank.beside = u.bank.beside := hw ▸ State.forEach_keeps (fun v => v.bank.beside) _ _ _ fun n _ => State.strTo_beside n .run 5
  have hexec : execBankRun q s = .next (w.reply q 0 []) := by
    rw [← hw, ← hu]
    exact congrArg Host.Outcome.next (State.hostWrite_bankCmd h hrow)
  refine ⟨_, hexec, ?_, ?_, fun n hn => ?_⟩
  · rw [State.reply_bank]
    exact (congrArg Bank.state hbank).trans (hu ▸ State.bankTo_state)
  · rw [State.reply_bank]
    exact (congrArg Bank.resCode hbank).trans (hu ▸ State.bankTo_resCode)
  · rw [State.reply_str, ← hw, State.forEach_filter_strs (p := fun n => s.str[n].state == .hold) (fun _ _ => State.toRun_strs 5) (beq_iff_eq.2 hn), hustr]

/-- HOLD holds every string in RUN. -/
theorem execBankHold_holds (h : s.serves q x) (hs : s.bank.state = .run) : ∃ t, execBankHold q s = .next t ∧ t.bank.state = .hold ∧
    t.bank.resCode = 0 ∧ ∀ n : Fin 8, s.str[n].state = .run → t.str[n] = s.str[n].held := by
  have hrow : (s.enter q 2).bankRow [.run] [] = (0, 0) := State.bankRow_permits (by simpa using hs) (by simp)
  obtain ⟨u, hu⟩ : ∃ u, ((s.enter q 2).bankResult 0 0).bankTo .hold 4 = u := ⟨_, rfl⟩
  have hustr : u.str = s.str := hu ▸ State.same_of_upTo (p := .str) (by simp)
  obtain ⟨w, hw⟩ : ∃ w, State.forEach (strings.filter fun n => s.str[n].state == .run) (fun n => State.toHold n 4) u = w := ⟨_, rfl⟩
  have hbank : w.bank.beside = u.bank.beside := hw ▸ State.forEach_keeps (fun v => v.bank.beside) _ _ _ fun n _ => State.strTo_beside n .hold 4
  have hexec : execBankHold q s = .next (w.reply q 0 []) := by
    rw [← hw, ← hu]
    exact congrArg Host.Outcome.next (State.hostWrite_bankCmd h hrow)
  refine ⟨_, hexec, ?_, ?_, fun n hn => ?_⟩
  · rw [State.reply_bank]
    exact (congrArg Bank.state hbank).trans (hu ▸ State.bankTo_state)
  · rw [State.reply_bank]
    exact (congrArg Bank.resCode hbank).trans (hu ▸ State.bankTo_resCode)
  · rw [State.reply_str, ← hw, State.forEach_filter_strs (p := fun n => s.str[n].state == .run) (fun _ _ => State.toHold_strs 4) (beq_iff_eq.2 hn), hustr]

/-- After a trigger a write of the learned values runs (07 R193). -/
theorem State.learnTrigger_busy (bit : Nat) : (s.learnTrigger bit).est.learnBusy = true := by
  unfold State.learnTrigger
  split
  · assumption
  · unfold State.learnStart
    simp

/-- STOP stops every active string, clears the command in force and triggers the learned-values write. -/
theorem execBankStop_stops (h : s.serves q x) (hs : s.bank.state = .run ∨ s.bank.state = .hold) : ∃ t, execBankStop q s = .next t ∧
    t.bank.state = .stop ∧ t.bank.inForce = none ∧ t.bank.target = 0 ∧ t.est.learnBusy = true ∧
    ∀ n : Fin 8, s.str[n].state.active = true → t.str[n] = s.str[n].stopped .off 6 := by
  have hrow : (s.enter q 2).bankRow [.precharge, .run, .hold] [] = (0, 0) :=
    State.bankRow_permits (by obtain h | h := hs <;> simp [h]) (by simp)
  have hflow : ((s.enter q 2).bankResult 0 0).bank.state.flowing = true := by
    have hstate : ((s.enter q 2).bankResult 0 0).bank.state = s.bank.state := rfl
    obtain h | h := hs <;> rw [hstate, h] <;> rfl
  obtain ⟨u, hu⟩ : ∃ u, ((s.enter q 2).bankResult 0 0).bankTo .stop 5 = u := ⟨_, rfl⟩
  obtain ⟨w, hw⟩ : ∃ w, State.forEach (strings.filter fun n => s.str[n].state.active) (fun n => State.stopString n .off 6) u = w := ⟨_, rfl⟩
  have hustr : u.str = s.str := hu ▸ State.same_of_upTo (p := .str) (by simp)
  have hexec : execBankStop q s = .next ((w.learnTrigger 3).adoptProfile.reply q 0 []) := by
    rw [← hw, ← hu]
    exact congrArg Host.Outcome.next (State.hostWrite_bankCmd h hrow)
  have hbank : w.bank.beside = u.bank.beside := hw ▸ State.forEach_keeps (fun v => v.bank.beside) _ _ _ fun n _ => State.stopString_beside n .off 6
  have hlearnt : ((w.learnTrigger 3).adoptProfile.reply q 0 []).bank = w.bank := by
    rw [State.reply_bank, State.adoptProfile_bank]
    exact State.same_of_upTo (p := .bank) (by simp)
  have hstr : ((w.learnTrigger 3).adoptProfile.reply q 0 []).str = w.str := by
    rw [State.reply_str]
    exact State.same_of_upTo (p := .str) (by simp)
  have hest : ((w.learnTrigger 3).adoptProfile.reply q 0 []).est = (w.learnTrigger 3).est := by
    rw [State.reply_est]
    exact State.same_of_upTo (p := .est) (by simp)
  obtain ⟨hforce, htarget⟩ := State.bankTo_lapses (cause := 5) hflow (show BankState.stop.flowing = false from rfl)
  rw [hu] at hforce htarget
  refine ⟨_, hexec, ?_, ?_, ?_, ?_, fun n hn => ?_⟩
  · rw [hlearnt]
    exact (congrArg Bank.state hbank).trans (hu ▸ State.bankTo_state)
  · rw [hlearnt]
    exact (congrArg Bank.inForce hbank).trans hforce
  · rw [hlearnt]
    exact (congrArg Bank.target hbank).trans htarget
  · rw [hest, State.learnTrigger_busy]
  · rw [hstr, ← hw, State.forEach_filter_strs (p := fun n => s.str[n].state.active) (fun _ _ => State.stopString_strs .off 6) hn, hustr]

end

/-! ### The string after RUN, HOLD and STOP -/

section
variable {e : StrEng}

theorem StrEng.moved_state (new : StrState) (e : StrEng) : (e.moved new).state = new := by
  unfold StrEng.moved
  split
  · assumption
  · rfl

theorem StrEng.recall_state (e : StrEng) : e.recall.state = e.state := by
  unfold StrEng.recall
  split <;> rfl

theorem StrEng.held_state (e : StrEng) : e.held.state = .hold := (StrEng.recall_state _).trans (StrEng.moved_state _ _)

theorem StrEng.resumed_state (e : StrEng) : e.resumed.state = .run := (StrEng.recall_state _).trans (StrEng.moved_state _ _)

theorem StrEng.stopped_normal (h : e.opening = .none) (target : StrState) (cause : Nat) : (e.stopped target cause).opening = .rampDown ∧
    (e.stopped target cause).target = target ∧ (e.stopped target cause).loop.rampZero = true := by
  rw [StrEng.stopped, if_pos h]
  exact ⟨rfl, rfl, rfl⟩

end

end Sys2Proof.Machine

open Sys2Proof Sys2Proof.Machine

/-- Settles O26: the row of each command permits it, and the strings follow in a loop of which each turn changes its own string alone. -/
theorem bankCommandsComplete : Obligations.BankCommandsComplete := by
  refine ⟨fun s q x h hs hi ht hp hl hq => ?_, fun s q x hroom h hs hp hi => execBankPrecharge_enters hroom h hs hp hi, fun s q x h hs hr => ?_,
    fun s q x h hs => ?_, fun s q x h hs => ?_, fun s q x h hs hg ho ha => execBankClear_clears h hs hg ho ha,
    fun s q x h hm hs hr => execBankService_enters h hm hs hr, fun s q x h hs hm hr => execBankService_staysOff h hs hm hr,
    fun s q x h hs => execBankOff_enters h hs⟩
  · exact execBankStandby_enters h hs (by simp [State.standbyConds, hi, ht, hp, hl, hq])
  · obtain ⟨t, hexec, hstate, hcode, hstr⟩ := execBankRun_resumes h hs hr
    exact ⟨t, hexec, hstate, hcode, fun n hn _ => by rw [hstr n hn]; exact ⟨StrEng.resumed_state _, rfl⟩⟩
  · obtain ⟨t, hexec, hstate, hcode, hstr⟩ := execBankHold_holds h hs
    exact ⟨t, hexec, hstate, hcode, fun n hn => by rw [hstr n hn]; exact ⟨StrEng.held_state _, rfl⟩⟩
  · obtain ⟨t, hexec, hstate, hforce, htarget, hbusy, hstr⟩ := execBankStop_stops h hs
    exact ⟨t, hexec, hstate, hforce, htarget, hbusy, fun n hn ho => by rw [hstr n hn]; exact StrEng.stopped_normal ho _ _⟩

end

section
/-! PROOF. Dispatch commands: their acknowledgement, the split and the publication. -/

-- One task at a time: the check limits memory, and each task has a stack of its own.
set_option Elab.async false

namespace Sys2Proof.Machine

/-! ### The entry of a host identity -/

/-- The entry of an identity after a change that keeps identities: changed, or made with the lowest free index (12 R320). -/
theorem Journal.identOf_modIdent {ident : Nat} {f : HostIdent → HostIdent} (hf : ∀ h, (f h).ident = h.ident) (j : Journal) :
    (j.modIdent ident f).identOf ident = some (f ((j.identOf ident).getD { ident := ident, slot := j.freeIdent })) := by
  have hpred : ((fun h : HostIdent => h.ident == ident) ∘ fun h => if h.ident == ident then f h else h) = fun h => h.ident == ident := by
    funext h
    simp only [Function.comp, apply_ite HostIdent.ident, hf, ite_self]
  unfold Journal.modIdent
  cases hj : j.identOf ident with
  | none =>
    have hnone : j.idents.find? (fun h => h.ident == ident) = none := hj
    simp [Journal.identOf, List.find?_append, hnone, hf]
  | some h =>
    have hsome : j.idents.find? (fun h => h.ident == ident) = some h := hj
    have hid : h.ident = ident := by simpa using List.find?_some hsome
    simp only [Option.isSome_some, if_true, Journal.identOf, List.find?_map, hpred, hsome, Option.map_some, Option.getD_some, hid, beq_self_eq_true]

/-! ### A dispatch command that passes Table 6.3 -/

section
variable {q : Req} {x : Session} {body : DispBody} {s : State}

theorem State.dispEarly_passes (hp : x.port ≠ .console) (hl : s.leads = true) (hr : s.twin.releasing = false)
    (hb : s.bank.state = .run ∨ s.bank.state = .hold) (hi : s.identRoom x.ident = true) : s.dispEarly x = 0 := by
  have hflow : s.bank.state.flowing = true := by obtain h | h := hb <;> rw [h] <;> rfl
  simp [State.dispEarly, firstCode, hp, hl, hr, hflow, hi]

theorem State.dispLate_passes (ho : s.dispOld x.ident body = false) (hz : body.zero = 0) (hf : body.flags.toNat ≤ 1)
    (hv : s.img.cfg.disp.inRange body = true) (hu : body.validUntil = 0) (ha : s.bank.acceptedThisCycle ≤ 64)
    (hw : s.waitingDisp.length + s.bank.wait.length < 256) : s.dispLate x body = 0 := by
  simp [State.dispLate, firstCode, ho, hz, hv, hu, Nat.not_lt.2 hf, Nat.not_lt.2 ha, Nat.not_le.2 hw]

/-- A command that awaits its acknowledgement under the next number (06 R168; log 87). -/
def State.newWait (q : Req) (x : Session) (body : DispBody) (s : State) : DispWait :=
  { session := q.session, msgId := q.msg, ident := x.ident, body := body, seq := s.jrn.nextSeq, alone := !s.paired }

/-- A command that passes its checks takes the next number and waits; what is copied to the twin changes neither the bank nor the journal. -/
theorem execDispatch_waits (h : s.serves q x) (he : s.dispEarly x = 0) (hr : s.dispRepeat x.ident body = none) (hl : s.dispLate x body = 0) :
    ∃ t, execDispatch q body s = .next t ∧ t.bank.wait = s.bank.wait ++ [s.newWait q x body] ∧
      t.bank.acceptedThisCycle = s.bank.acceptedThisCycle ∧ t.jrn = { s.jrn with nextSeq := s.jrn.nextSeq + 1 } := by
  have he' : (s.enter q 6).dispEarly x = 0 := he
  have hr' : (s.enter q 6).dispRepeat x.ident body = none := hr
  have hl' : (s.enter q 6).dispLate x body = 0 := hl
  unfold execDispatch
  rw [State.withReq_heard h.1 _ _ _ h.2]
  simp only [he', hr', hl', ne_eq, not_true_eq_false, if_false]
  refine ⟨_, rfl, ?_, ?_, ?_⟩ <;> simp [State.newWait, State.paired]

end

/-! ### Acknowledgements -/

/-- The command held by the twin (06 R168). -/
def DispWait.held (w : DispWait) : DispWait := { w with confirmed := true }

/-- A host identity whose last accepted command is the one that waited (06 R168). -/
def HostIdent.accepts (w : DispWait) (h : HostIdent) : HostIdent := { h with tag := w.body.tag, seq := w.seq }

/-- The journal with a command accepted (06 R168). -/
def Journal.accepts (w : DispWait) (cycle tsc : Nat) (j : Journal) : Journal :=
  { j.modIdent w.ident (HostIdent.accepts w) with
    accSeq := w.seq, disp := j.disp ++ [{ seq := w.seq, ident := w.ident, body := w.body, accCycle := cycle, tsc := tsc }] }

/-- An accepted command stands at the end of the dispatch commands, its tag and number in the entry of its identity; no number is given. -/
theorem Journal.accepts_entries (j : Journal) (w : DispWait) (cycle tsc : Nat) : (j.accepts w cycle tsc).nextSeq = j.nextSeq ∧
    (j.accepts w cycle tsc).disp = j.disp ++ [{ seq := w.seq, ident := w.ident, body := w.body, accCycle := cycle, tsc := tsc }] ∧
    ((j.accepts w cycle tsc).identOf w.ident).map (fun h => (h.tag, h.seq)) = some (w.body.tag, w.seq) := by
  have hident : (j.accepts w cycle tsc).identOf w.ident = (j.modIdent w.ident (HostIdent.accepts w)).identOf w.ident := rfl
  refine ⟨?_, rfl, ?_⟩
  · unfold Journal.accepts Journal.modIdent
    split <;> rfl
  · rw [hident, Journal.identOf_modIdent (f := HostIdent.accepts w) fun _ => rfl]
    rfl

section
variable {s : State} {f : TwinFrame} {w v : DispWait}

/-- The module with a good frame of the twin taken (09 R235). -/
def State.received (f : TwinFrame) (s : State) : State := s.modTwin fun w => { w.take f.seq with framesIn := w.framesIn + 1 }

/-- A good frame not yet taken reaches its body. -/
theorem State.withFrame_taken (hok : s.frameOk f = true) (ht : s.twin.taken f.seq = false) (body : State → State) :
    s.withFrame f body = body (s.received f) := by
  have hkey : s.twin.peerKey.isNone = false := by
    simp only [State.frameOk, Bool.and_eq_true] at hok
    rw [← Option.not_isSome, hok.2]
    rfl
  simp only [State.withFrame, hkey, hok, ht, Bool.not_true, Bool.false_eq_true, if_false]
  rfl

/-- The confirmation of a command that waits for it. -/
theorem execDispatchConfirm_held (hok : s.frameOk f = true) (ht : s.twin.taken f.seq = false) (hw : s.dispWaiting w.seq = some w)
    (ha : w.alone = false) : execDispatchConfirm f w.seq s = .next ((s.received f).dispHeld w.seq) := by
  have hw' : (s.received f).dispWaiting w.seq = some w := hw
  unfold execDispatchConfirm
  rw [State.withFrame_taken hok ht]
  simp only [hw', ha, Bool.false_eq_true, if_false]

theorem State.dispWaiting_only (hw : s.bank.wait = [w]) : s.dispWaiting w.seq = some w := by
  simp [State.dispWaiting, hw]

/-- The only waiting command is acknowledged once it is held. -/
theorem State.dispHeld_only (hw : s.bank.wait = [w]) :
    s.dispHeld w.seq = (s.modBank fun b => { b with wait := [w.held] }).dispAck w.held := by
  simp [State.dispHeld, State.dispRelease, State.modBank, hw, DispWait.held]

/-- A command behind one that is not held yet stays, held. -/
theorem State.dispHeld_behind (hw : s.bank.wait = [w, v]) (hc : w.confirmed = false) (hlt : w.seq < v.seq) :
    s.dispHeld v.seq = s.modBank fun b => { b with wait := [w, v.held] } := by
  have hne : w.seq ≠ v.seq := Nat.ne_of_lt hlt
  simp [State.dispHeld, State.dispRelease, State.modBank, hw, hne, hc, DispWait.held]

/-- A command whose tag is new is accepted: journaled, stamped and answered with its number. -/
theorem State.dispAck_accepts (hr : s.dispRepeat w.ident w.body = none) (ho : s.dispOld w.ident w.body = false) :
    s.dispAck w = ((((s.dispDrop w).modJrn (Journal.accepts w s.cycle (s.stampOf 0x080))).stamped 0x080).modBank fun b =>
      { b with acceptedThisCycle := b.acceptedThisCycle + 1 }).reply { session := w.session, msg := w.msgId } 0 (leBytes 8 w.seq) := by
  have hr' : (s.dispDrop w).dispRepeat w.ident w.body = none := hr
  have ho' : (s.dispDrop w).dispOld w.ident w.body = false := ho
  simp only [State.dispAck, hr', ho', Bool.false_eq_true, if_false]
  rfl

/-- A command whose tag has been accepted meanwhile is answered with the number given then. -/
theorem State.dispAck_repeats {k : Nat} (hr : s.dispRepeat w.ident w.body = some k) :
    s.dispAck w = ((s.dispDrop w).reply { session := w.session, msg := w.msgId } 0 (leBytes 8 k)).bump 0x190110 := by
  have hr' : (s.dispDrop w).dispRepeat w.ident w.body = some k := hr
  simp only [State.dispAck, hr']

theorem State.dispDrop_only (hw : s.bank.wait = [w]) : (s.dispDrop w).bank.wait = [] := by
  simp [State.dispDrop, hw]

/-- The confirmation of the only waiting command journals it (06 R168). -/
theorem execDispatchConfirm_accepts (hok : s.frameOk f = true) (ht : s.twin.taken f.seq = false) (hw : s.bank.wait = [w]) (ha : w.alone = false)
    (hr : s.dispRepeat w.ident w.body = none) (ho : s.dispOld w.ident w.body = false) :
    ∃ t, execDispatchConfirm f w.seq s = .next t ∧ t.jrn = s.jrn.accepts w s.cycle (s.stampOf 0x080) ∧ t.bank.wait = [] ∧
      t.bank.acceptedThisCycle = s.bank.acceptedThisCycle + 1 := by
  have hexec := execDispatchConfirm_held hok ht (State.dispWaiting_only hw) ha
  obtain ⟨u, hu⟩ : ∃ u, (s.received f).modBank (fun b => { b with wait := [w.held] }) = u := ⟨_, rfl⟩
  have hr' : u.dispRepeat w.held.ident w.held.body = none := hu ▸ hr
  have ho' : u.dispOld w.held.ident w.held.body = false := hu ▸ ho
  rw [State.dispHeld_only (s := s.received f) hw, hu, State.dispAck_accepts hr' ho'] at hexec
  refine ⟨_, hexec, ?_, ?_, ?_⟩
  · have hclk : u.clk = s.clk := by simp only [← hu, State.received, State.modBank_clk, State.modTwin_clk]
    have hjrn : u.jrn = s.jrn := by simp only [← hu, State.received, State.modBank_jrn, State.modTwin_jrn]
    simp only [State.reply_jrn, State.modBank_jrn, State.stamped_jrn, State.modJrn_jrn, State.dispDrop, hjrn, State.cycle, State.stampOf, State.now, hclk]
    rfl
  · rw [State.reply_bank, State.modBank_bank]
    exact State.dispDrop_only (s := u) (hu ▸ rfl)
  · rw [State.reply_bank, ← hu]
    rfl

/-- The confirmation of a command that has become a repeat changes the journal no more (06 R168). -/
theorem execDispatchConfirm_repeats {k : Nat} (hok : s.frameOk f = true) (ht : s.twin.taken f.seq = false) (hw : s.bank.wait = [w])
    (ha : w.alone = false) (hr : s.dispRepeat w.ident w.body = some k) :
    ∃ t, execDispatchConfirm f w.seq s = .next t ∧ t.jrn = s.jrn ∧ t.bank.wait = [] ∧ State.counted 0x190110 s t := by
  have hexec := execDispatchConfirm_held hok ht (State.dispWaiting_only hw) ha
  obtain ⟨u, hu⟩ : ∃ u, (s.received f).modBank (fun b => { b with wait := [w.held] }) = u := ⟨_, rfl⟩
  have hr' : u.dispRepeat w.held.ident w.held.body = some k := hu ▸ hr
  rw [State.dispHeld_only (s := s.received f) hw, hu, State.dispAck_repeats hr'] at hexec
  refine ⟨_, hexec, ?_, ?_, State.counted_of_ctr (State.bump_counted_full (by decide)) ?_⟩
  · rw [State.bump_jrn, State.reply_jrn, ← hu]
    rfl
  · rw [State.bump_bank, State.reply_bank]
    exact State.dispDrop_only (s := u) (hu ▸ rfl)
  · rw [State.reply_ctr, ← hu]
    rfl

/-- The confirmation of a command behind one without its own (06 R168, R169). -/
theorem execDispatchConfirm_behind (hok : s.frameOk f = true) (ht : s.twin.taken f.seq = false) (hw : s.bank.wait = [w, v])
    (hc : w.confirmed = false) (ha : v.alone = false) (hlt : w.seq < v.seq) :
    ∃ t, execDispatchConfirm f v.seq s = .next t ∧ t.jrn = s.jrn ∧ t.bank.wait = [w, v.held] := by
  have hwaits : s.dispWaiting v.seq = some v := by
    have hne : w.seq ≠ v.seq := Nat.ne_of_lt hlt
    simp [State.dispWaiting, hw, hne]
  have hexec := execDispatchConfirm_held hok ht hwaits ha
  rw [State.dispHeld_behind (s := s.received f) hw hc hlt] at hexec
  exact ⟨_, hexec, rfl, rfl⟩

/-- The only waiting command whose confirmation does not come is counted and dropped (06 Table 6.3 check 9). -/
theorem execDispatchPeerTimeout_drops (hw : s.bank.wait = [w]) (ha : w.alone = false) (hc : w.confirmed = false) :
    ∃ t, execDispatchPeerTimeout w.seq s = .next t ∧ t.bank.wait = [] ∧ t.jrn = s.jrn ∧ State.counted 0x190100 s t ∧ State.counted 0x200114 s t := by
  have hdropped : (s.dispTimeout w).bank.wait = [] := by
    simp only [State.dispTimeout, State.dispRefuse, State.bump_bank, State.refuseReq_bank, State.dispDrop_only hw]
  have hexec : execDispatchPeerTimeout w.seq s = .next (s.dispTimeout w) := by
    simp only [execDispatchPeerTimeout, State.dispWaiting_only hw, ha, hc, Bool.or_self, Bool.false_eq_true, if_false]
    simp only [hw, List.length_singleton, State.dispRelease, hdropped]
  have hcounter (a : Nat) : ((s.dispDrop w).reply { session := w.session, msg := w.msgId } 0x0609 []).counter a = s.counter a := by
    rw [State.counter, State.reply_ctr]
    rfl
  refine ⟨_, hexec, hdropped, ?_, ?_, ?_⟩
  · simp only [State.dispTimeout, State.dispRefuse, State.bump_jrn, State.refuseReq_jrn]
    rfl
  · simp only [State.counted, State.dispTimeout, State.dispRefuse, State.refuseReq]
    rw [State.bump_counter (by decide), if_neg (by decide), State.bump_counter (by decide), if_pos rfl, State.bump_counter (by decide), if_neg (by decide), hcounter]
  · simp only [State.counted, State.dispTimeout, State.dispRefuse, State.refuseReq]
    rw [State.bump_counter (by decide), if_pos rfl, State.bump_counter (by decide), if_neg (by decide), State.bump_counter (by decide), if_neg (by decide), hcounter]

/-- The query of a served write of EST_DISP_QSEL_HI (06 Table 6.6). -/
theorem execDispatchQuery_answers {q : Req} {x : Session} (h : s.serves q x) (value : Word) : ∃ t, execDispatchQuery q value s = .next t ∧
    t.bank.qstat = s.qstat (BitVec.ofNat 64 (value.toNat * 2 ^ 32 + s.bank.qsel.toNat % 2 ^ 32)).toNat := by
  refine ⟨_, congrArg Host.Outcome.next (State.hostWrite_ok h _ rfl), ?_⟩
  rw [State.reply_bank]
  rfl

end

/-! ### Commands that wait for a terminal status -/

theorem mem_insertBy {α : Type} {le : α → α → Bool} {a b : α} {l : List α} : b ∈ insertBy le a l ↔ b = a ∨ b ∈ l := by
  induction l with
  | nil => simp [insertBy]
  | cons x t ih =>
    rw [insertBy]
    split
    · rw [List.mem_cons]
    · rw [List.mem_cons, ih, List.mem_cons]; tauto

theorem mem_sortBy {α : Type} {le : α → α → Bool} {b : α} {l : List α} : b ∈ sortBy le l ↔ b ∈ l := by
  induction l with
  | nil => rfl
  | cons x t ih => rw [sortBy, List.foldr_cons, mem_insertBy, ← sortBy, ih, List.mem_cons]

/-- An entry given a terminal status where it is the one with the number (06 R169). -/
def DispEntry.terminated (seq : Nat) (st : TermStatus) (cycle : Nat) (d : DispEntry) : DispEntry :=
  if d.seq == seq then { d with status := st, cycle := cycle } else d

section
variable {s : State} {e : DispEntry}

theorem State.terminate_disp (st : TermStatus) : (s.terminate e st).jrn.disp = s.jrn.disp.map (DispEntry.terminated e.seq st s.cycle) := by
  unfold State.terminate
  cases st <;> simp only [State.bump_jrn, State.modJrn_jrn] <;> rfl

/-- What still waits after commands have lapsed waited before, and is none of them. -/
theorem State.lapse_waiting (l : List DispEntry) {d : DispEntry}
    (hd : d ∈ (State.forEach l (fun e => State.terminate e .lapsed) s).jrn.disp) (hw : d.status = .waiting) :
    d ∈ s.jrn.disp ∧ ∀ e ∈ l, d.seq ≠ e.seq := by
  induction l generalizing s with
  | nil => exact ⟨hd, fun _ h => nomatch h⟩
  | cons e l ih =>
    obtain ⟨hmem, hrest⟩ := ih (s := s.terminate e .lapsed) hd
    rw [State.terminate_disp] at hmem
    obtain ⟨d₀, hd₀, rfl⟩ := List.mem_map.1 hmem
    by_cases hseq : d₀.seq = e.seq
    · simp [DispEntry.terminated, hseq] at hw
    · have hsame : d₀.terminated e.seq .lapsed s.cycle = d₀ := if_neg (mt beq_iff_eq.1 hseq)
      rw [hsame] at hrest ⊢
      exact ⟨hd₀, List.forall_mem_cons.2 ⟨hseq, hrest⟩⟩

/-- No command waits after every waiting one has lapsed (06 R169). -/
theorem State.lapseWaiting_disp : ∀ d ∈ s.lapseWaiting.jrn.disp, d.status ≠ .waiting := by
  intro d hd hw
  obtain ⟨hmem, hnone⟩ := State.lapse_waiting _ hd hw
  exact hnone d (mem_sortBy.2 (List.mem_filter.2 ⟨hmem, beq_iff_eq.2 hw⟩)) rfl

end

/-! ### Frames of the split (chapter 06) -/

@[simp] theorem State.conclude_upTo {W : Scope} (h : Part.withNotes [.bank, .jrn] ⊆ W.parts) (d : DispEntry) (s : State) :
    (s.conclude d).upTo W = s.upTo W := by
  simp at h
  unfold State.conclude; simp [h]

@[simp] theorem State.concludeAll_upTo {W : Scope} (h : Part.withNotes [.bank, .jrn] ⊆ W.parts) (s : State) : s.concludeAll.upTo W = s.upTo W := by
  simp at h
  unfold State.concludeAll; simp [h]

@[simp] theorem State.overrunCheck_upTo {W : Scope} (h : Part.withNotes [.bank] ⊆ W.parts) (s : State) : s.overrunCheck.upTo W = s.upTo W := by
  simp at h
  unfold State.overrunCheck; simp [h]

@[simp] theorem State.rampTarget_upTo {W : Scope} (h : .bank ∈ W.parts) (d : DispEntry) (s : State) : (s.rampTarget d).upTo W = s.upTo W := by
  unfold State.rampTarget; simp [h]

@[simp] theorem State.storeShares_upTo {W : Scope} (h : .bank ∈ W.parts) (l : List (Fin 8 × Int)) (s : State) :
    (s.storeShares l).upTo W = s.upTo W := by
  unfold State.storeShares; simp [h]

@[simp] theorem State.storeRamps_upTo {W : Scope} (h : .bank ∈ W.parts) (ramps aim : List (Fin 8 × Int)) (s : State) :
    (s.storeRamps ramps aim).upTo W = s.upTo W := by
  unfold State.storeRamps; simp [h]

@[simp] theorem State.noteLimited_upTo {W : Scope} (h : Part.withNotes [.bank] ⊆ W.parts) (short : Option Nat) (seq : Nat) (s : State) :
    (s.noteLimited short seq).upTo W = s.upTo W := by
  simp at h
  unfold State.noteLimited; split <;> simp [h]

@[simp] theorem State.chooseLead_upTo {W : Scope} (h : Part.withNotes [.bank] ⊆ W.parts) (elig : List (Fin 8)) (s : State) :
    (s.chooseLead elig).upTo W = s.upTo W := by
  simp at h
  unfold State.chooseLead; simp [h]

@[simp] theorem State.openWeights_upTo {W : Scope} (h : .free ∈ W.parts) (l : List SplitIn) (s : State) : (s.openWeights l).upTo W = s.upTo W := by
  unfold State.openWeights; simp [h]

@[simp] theorem State.shareOut_upTo {W : Scope} (h : Part.withNotes [.bank, .free] ⊆ W.parts) (p : Int) (l : List (Fin 8)) (s : State) :
    (s.shareOut p l).2.2.upTo W = s.upTo W := by
  simp at h
  unfold State.shareOut; dsimp only; split <;> simp [h]

@[simp] theorem State.splitFor_upTo {W : Scope} (h : Part.withNotes [.bank, .free] ⊆ W.parts) (d : DispEntry) (s : State) :
    (s.splitFor d).upTo W = s.upTo W := by
  have hbank : .bank ∈ W.parts := h (by simp)
  have hnotes : Part.withNotes [.bank] ⊆ W.parts := List.Subset.trans (by decide) h
  unfold State.splitFor
  extract_lets u all elig slow v w p aim ramps r
  have hv : v.upTo W = s.upTo W := (State.modBank_upTo hbank u _).trans (State.rampTarget_upTo hbank d s)
  have hw : w.upTo W = s.upTo W := (State.chooseLead_upTo hnotes elig v).trans hv
  rw [State.noteLimited_upTo hnotes, State.storeRamps_upTo hbank, State.storeShares_upTo hbank]
  exact (State.shareOut_upTo h _ _ _).trans hw

@[simp] theorem State.splitNow_upTo {W : Scope} (h : Part.withNotes [.bank, .free] ⊆ W.parts) (s : State) : s.splitNow.upTo W = s.upTo W := by
  simp at h
  unfold State.splitNow; dsimp only; (repeat' split) <;> simp [h]

@[simp] theorem State.splitReady_upTo {W : Scope} (h : Part.withNotes [.bank, .free] ⊆ W.parts) (s : State) : s.splitReady.upTo W = s.upTo W := by
  simp at h
  unfold State.splitReady; simp [h]

@[simp] theorem State.sendEst_upTo {W : Scope} (h : [.est, .twin, .out] ⊆ W.parts) (s : State) : s.sendEst.upTo W = s.upTo W := by
  simp at h
  unfold State.sendEst; simp [h]

/-! ### What a split leaves of the command in force -/

/-- The command in force with its MODE, and the target that ramps towards it. -/
def Bank.order (b : Bank) : Option DispEntry × Bool × Int := (b.inForce, b.mode, b.target)

section
variable {s : State} {d : DispEntry}

theorem State.chooseLead_order (elig : List (Fin 8)) : (s.chooseLead elig).bank.order = s.bank.order := by
  unfold State.chooseLead
  simp only [State.when_bank, State.emit_bank, State.modBank_bank, ite_self]
  rfl

theorem State.shareOut_order (p : Int) (l : List (Fin 8)) : (s.shareOut p l).2.2.bank.order = s.bank.order := by
  have hopen (ins : List SplitIn) : (s.openWeights ins).bank = s.bank := State.same_of_upTo (p := .bank) (by simp)
  unfold State.shareOut
  dsimp only
  split
  · rw [State.forEach_keeps (fun u => u.bank.order) _ _ _ fun h u => by rw [State.emit_bank]; rfl, hopen]
  · rw [hopen]

theorem State.storeShares_order (l : List (Fin 8 × Int)) : (s.storeShares l).bank.order = s.bank.order := rfl

theorem State.storeRamps_order (ramps aim : List (Fin 8 × Int)) : (s.storeRamps ramps aim).bank.order = s.bank.order :=
  State.forEach_keeps (fun u => u.bank.order) _ _ _ fun _ _ => rfl

theorem State.noteLimited_order (short : Option Nat) (seq : Nat) : (s.noteLimited short seq).bank.order = s.bank.order := by
  unfold State.noteLimited
  cases short
  · rfl
  · simp only [State.when_bank, State.emit_bank, State.bump_bank, State.modBank_bank, ite_self]
    rfl

/-- The split moves the target, and leaves the command in force. -/
theorem State.splitFor_order : (s.splitFor d).bank.order = (s.rampTarget d).bank.order := by
  unfold State.splitFor
  extract_lets u all elig slow v w p aim ramps r
  have hv : v.bank.order = u.bank.order := by simp only [v, State.modBank_bank, Bank.order]
  have hw : w.bank.order = u.bank.order := (State.chooseLead_order (s := v) elig).trans hv
  rw [State.noteLimited_order, State.storeRamps_order, State.storeShares_order]
  exact (State.shareOut_order _ _).trans hw

/-- The target moves from where it stands, by the settings of the image. -/
theorem State.rampTarget_target {u : State} (ht : u.bank.target = s.bank.target) (hi : u.img = s.img) :
    (u.rampTarget d).bank.target = (s.rampTarget d).bank.target := by
  simp only [State.rampTarget, State.modBank_bank, ht, hi]

theorem State.splitNow_inForce (hf : s.bank.state.flowing = true) (hd : s.bank.inForce = some d) :
    s.splitNow = (s.modBank fun b => { b with splitDue := false }).splitFor d := by
  simp only [State.splitNow, State.modBank_bank, hd, hf, if_true]

/-- A split with no command in force leaves every share 0. -/
theorem State.splitNow_none (hd : s.bank.inForce = none) :
    s.splitNow = ((s.modBank fun b => { b with splitDue := false }).storeShares []).modBank fun b => { b with eligible := 0, limited := false, short := 0 } := by
  simp only [State.splitNow, State.modBank_bank, hd]

theorem StrShare.store_zero (v : Rat) (h : StrShare) : (h.store 0 v).p = 0 ∧ (h.store 0 v).i = 0 := by
  refine ⟨rfl, ?_⟩
  have hzero : roundQ (1000 * ((0 : Int) : Rat) / v) = 0 := by
    rw [Int.cast_zero, mul_zero, zero_div]
    decide +kernel
  simp only [StrShare.store, hzero, ite_self]

theorem State.storeShares_nil (n : Fin 8) : (s.storeShares []).bank.shares[n].p = 0 ∧ (s.storeShares []).bank.shares[n].i = 0 := by
  have hshare : (s.storeShares []).bank.shares[n] = s.bank.shares[n].store 0 s.str[n].vMean := by simp [State.storeShares]
  rw [hshare]
  exact StrShare.store_zero _ _

/-- With no string in RUN a due split is made at once (01 R17). -/
theorem State.splitReady_idle (hdue : s.bank.splitDue = true) (hn : ∀ n : Fin 8, s.str[n].state ≠ .run) : s.splitReady = s.splitNow := by
  have hnone : (s.str.toList.any fun e => e.handDue && e.state == .run) = false := by
    refine List.any_eq_false.2 fun e he => ?_
    obtain ⟨i, hi, rfl⟩ := Vector.mem_iff_getElem.1 (Vector.mem_toList_iff.1 he)
    simpa using fun _ => hn ⟨i, hi⟩
  rw [State.splitReady, hdue, hnone]
  rfl

/-- Whether the split is made or waits, the command in force stays. -/
theorem State.splitReady_inForce (hf : s.bank.state.flowing = true) (hd : s.bank.inForce = some d) :
    s.splitReady.bank.inForce = some d ∧ s.splitReady.bank.mode = s.bank.mode := by
  have hramp (u : State) : (u.rampTarget d).bank.inForce = u.bank.inForce ∧ (u.rampTarget d).bank.mode = u.bank.mode := ⟨rfl, rfl⟩
  have hsplit : s.splitNow.bank.order = ((s.modBank fun b => { b with splitDue := false }).rampTarget d).bank.order := by
    rw [State.splitNow_inForce hf hd, State.splitFor_order]
  unfold State.splitReady State.when
  split
  · exact ⟨(congrArg Prod.fst hsplit).trans hd, congrArg (fun o => o.2.1) hsplit⟩
  · exact ⟨hd, rfl⟩

end

/-! ### DISPATCH_SPLIT -/

/-- The module after the terminal statuses of a cycle, waiting for the ramp values of the strings in RUN (01 R17; 06 R169). -/
def State.splitAwaits (s : State) : State :=
  (s.overrunCheck.concludeAll.mapAllStr fun _ e => { e with handDue := e.state == .run, handed := none }).modBank fun b => { b with splitDue := true }

section
variable {s : State} {d : DispEntry}

theorem State.atCycle_cycle (ofs : Nat) (s : State) : (s.atCycle ofs).cycle = s.cycle := by
  unfold State.atCycle
  split <;> rfl

theorem State.overrunCheck_cycle : s.overrunCheck.cycle = s.cycle := by
  have hclk : { s.overrunCheck.clk with lastStamp := s.clk.lastStamp } = s.clk := State.same_of_upTo (p := .clk) (by simp)
  have hcycle := congrArg Clock.cycleNo hclk
  exact hcycle

theorem execDispatchSplit_leads (hl : s.leads = true) : execDispatchSplit s = .next (s.atCycle 800000).splitAwaits.splitReady := by
  have hl' : (s.atCycle 800000).leads = true := by simpa [State.leads] using hl
  simp only [execDispatchSplit, hl', Bool.not_true, Bool.false_eq_true, if_false]
  rfl

theorem State.overrunCheck_bank : s.overrunCheck.bank.state = s.bank.state ∧ s.overrunCheck.bank.order = s.bank.order := by
  have hbank : s.overrunCheck.bank = { s.bank with staleEst := s.est.stepRun && s.est.stepDue } := by
    simp only [State.overrunCheck, State.when_bank, State.emit_bank, State.bump_bank, State.modBank_bank, ite_self]
  rw [hbank]
  exact ⟨rfl, rfl⟩

/-- The only waiting command, accepted in an earlier cycle and without an expiry, is executed and in force (06 R169). -/
theorem State.concludeAll_executes (hf : s.bank.state.flowing = true) (hw : s.waitingDisp = [d]) (ha : d.accCycle < s.cycle)
    (hv : d.body.validUntil = 0) : s.concludeAll = (s.terminate d .executed).modBank fun b =>
      { b with inForce := some d, mode := d.body.busMode, limitedRec := false } := by
  simp [State.concludeAll, hf, hw, ha, State.forEach, State.conclude, hv]

/-- Outside RUN and HOLD every waiting command lapses (06 R169). -/
theorem State.concludeAll_lapses (hf : s.bank.state.flowing = false) : s.concludeAll = s.lapseWaiting := by
  rw [State.concludeAll, hf]
  rfl

/-- What gives the terminal statuses leaves the strings' states. -/
theorem State.splitAwaits_str (n : Fin 8) : s.splitAwaits.str[n].state = s.str[n].state := by
  have hstr : s.overrunCheck.concludeAll.str = s.str := State.same_of_upTo (p := .str) (by simp)
  simp [State.splitAwaits, hstr]

/-- The split of a command accepted in an earlier cycle (06 R169, R171). -/
theorem execDispatchSplit_executes (hl : s.leads = true) (hb : s.bank.state = .run ∨ s.bank.state = .hold) (hw : s.waitingDisp = [d])
    (ha : d.accCycle < s.cycle) (hv : d.body.validUntil = 0) :
    ∃ t, execDispatchSplit s = .next t ∧ t.bank.inForce = some d ∧ t.bank.mode = d.body.busMode ∧
      ((∀ n : Fin 8, s.str[n].state ≠ .run) → t.bank.target = (s.rampTarget d).bank.target) ∧
      t.jrn.disp = s.jrn.disp.map (DispEntry.terminated d.seq .executed s.cycle) := by
  obtain ⟨u, hu⟩ : ∃ u, (s.atCycle 800000).overrunCheck = u := ⟨_, rfl⟩
  obtain ⟨y, hy⟩ : ∃ y, (s.atCycle 800000).splitAwaits = y := ⟨_, rfl⟩
  obtain ⟨hstate, horder⟩ := State.overrunCheck_bank (s := s.atCycle 800000)
  rw [hu, State.atCycle_bank] at hstate horder
  have hjrn : u.jrn = s.jrn := hu ▸ State.same_of_upTo (p := .jrn) (by simp)
  have himg : u.img = s.img := hu ▸ State.same_of_upTo (p := .img) (by simp)
  have hcycle : u.cycle = s.cycle := by rw [← hu, State.overrunCheck_cycle, State.atCycle_cycle]
  have hflow : u.bank.state.flowing = true := by rw [hstate]; obtain h | h := hb <;> rw [h] <;> rfl
  have hwait : u.waitingDisp = [d] := by rw [← hw, State.waitingDisp, hjrn]; rfl
  have hexecuted := State.concludeAll_executes hflow hwait (hcycle ▸ ha) hv
  have hbank : y.bank = { u.bank with inForce := some d, mode := d.body.busMode, limitedRec := false, splitDue := true } := by
    rw [← hy, State.splitAwaits, hu, hexecuted]
    rfl
  have hyflow : y.bank.state.flowing = true := by rw [hbank]; exact hflow
  have hyforce : y.bank.inForce = some d := by rw [hbank]
  obtain ⟨hforce, hmode⟩ := State.splitReady_inForce hyflow hyforce
  have hexec := execDispatchSplit_leads hl
  rw [hy] at hexec
  refine ⟨_, hexec, hforce, hmode.trans (by rw [hbank]), fun hn => ?_, ?_⟩
  · have hnone (n : Fin 8) : y.str[n].state ≠ .run := by
      rw [← hy, State.splitAwaits_str, State.atCycle_str]
      exact hn n
    rw [State.splitReady_idle (by rw [hbank]) hnone, State.splitNow_inForce hyflow hyforce]
    refine (congrArg (fun o => o.2.2) State.splitFor_order).trans (State.rampTarget_target ?_ ?_)
    · rw [State.modBank_bank, hbank]
      exact congrArg (fun o => o.2.2) horder
    · rw [State.modBank_img, ← hy, State.splitAwaits, hu, hexecuted]
      exact himg
  · have hready : y.splitReady.jrn = y.jrn := State.same_of_upTo (p := .jrn) (by simp)
    rw [hready, ← hcycle, ← hjrn, ← State.terminate_disp, ← hy, State.splitAwaits, hu, hexecuted]
    rfl

/-- The split outside RUN and HOLD (06 R169, R171). -/
theorem execDispatchSplit_lapses (hl : s.leads = true) (hf : s.bank.state.flowing = false) (hd : s.bank.inForce = none)
    (hn : ∀ n : Fin 8, s.str[n].state ≠ .run) : ∃ t, execDispatchSplit s = .next t ∧ t.bank.eligible = 0 ∧ t.bank.limited = false ∧
    t.bank.short = 0 ∧ (∀ d ∈ t.jrn.disp, d.status ≠ .waiting) ∧ ∀ n : Fin 8, t.bank.shares[n].p = 0 ∧ t.bank.shares[n].i = 0 := by
  obtain ⟨u, hu⟩ : ∃ u, (s.atCycle 800000).overrunCheck = u := ⟨_, rfl⟩
  obtain ⟨y, hy⟩ : ∃ y, (s.atCycle 800000).splitAwaits = y := ⟨_, rfl⟩
  obtain ⟨hstate, horder⟩ := State.overrunCheck_bank (s := s.atCycle 800000)
  rw [hu, State.atCycle_bank] at hstate horder
  have hlapsed : u.concludeAll = u.lapseWaiting := State.concludeAll_lapses (by rw [hstate, hf])
  have hbank : u.lapseWaiting.bank = u.bank := State.same_of_upTo (p := .bank) (by simp)
  have hforce : y.bank.inForce = none := by
    rw [← hy, State.splitAwaits, hu, hlapsed, State.modBank_bank, State.mapAllStr_bank, hbank]
    exact (congrArg Prod.fst horder).trans hd
  have hnone (n : Fin 8) : y.str[n].state ≠ .run := by
    rw [← hy, State.splitAwaits_str, State.atCycle_str]
    exact hn n
  have hjrn : y.splitReady.jrn = u.lapseWaiting.jrn := by
    have hready : y.splitReady.jrn = y.jrn := State.same_of_upTo (p := .jrn) (by simp)
    rw [hready, ← hy, State.splitAwaits, hu, hlapsed]
    rfl
  have hsplit := (State.splitReady_idle (hy ▸ rfl) hnone).trans (State.splitNow_none hforce)
  have hexec := execDispatchSplit_leads hl
  rw [hy] at hexec
  refine ⟨_, hexec, ?_, ?_, ?_, hjrn ▸ State.lapseWaiting_disp, fun n => ?_⟩ <;> rw [hsplit]
  · rfl
  · rfl
  · rfl
  · exact State.storeShares_nil n

end

/-! ### SETPOINT_PUBLISH -/

/-- A string's setpoint and, where it is active, its limits published (01 Table 1.5; 07 R187). -/
def StrShare.publish (active : Bool) (e : StrEst) (h : StrShare) : StrShare :=
  { h with pubI := h.i, limChg := if active then some (pubMa e.iChg) else none, limDis := if active then some (pubMa e.iDis) else none }

/-- The setpoints and limits of every string published (07 R187). -/
def State.publishShares (s : State) : State :=
  s.modBank fun b => { b with shares := Vec.updAll b.shares fun n h => h.publish s.str[n].state.active s.est.strs[n] }

section
variable {s : State}

theorem State.publishShares_share (n : Fin 8) : s.publishShares.bank.shares[n] = s.bank.shares[n].publish s.str[n].state.active s.est.strs[n] := by
  simp [State.publishShares]

/-- A split still due is made, then everything is published; the record to the twin leaves the bank alone (09 R247). -/
theorem execSetpointPublish_leads (hl : s.leads = true) : ∃ t, execSetpointPublish s = .next t ∧
    t.bank = ((s.atCycle 900000).when s.bank.splitDue State.splitNow).publishShares.bank := by
  have hl' : (s.atCycle 900000).leads = true := by simpa [State.leads] using hl
  have hsent (u : State) (c : Bool) : (u.when c State.sendEst).bank = u.bank := State.same_of_upTo (p := .bank) (by simp)
  simp only [execSetpointPublish, hl', Bool.not_true, Bool.false_eq_true, if_false]
  refine ⟨_, rfl, ?_⟩
  rw [hsent, State.atCycle_bank]
  rfl

/-- A due split without a command in force leaves every setpoint 0 (06 R171). -/
theorem execSetpointPublish_splits (hl : s.leads = true) (hdue : s.bank.splitDue = true) (hd : s.bank.inForce = none) :
    ∃ t, execSetpointPublish s = .next t ∧ t.bank.splitDue = false ∧ ∀ n : Fin 8, t.bank.shares[n].i = 0 ∧ t.bank.shares[n].pubI = 0 := by
  obtain ⟨t, hexec, hbank⟩ := execSetpointPublish_leads hl
  have hsplit : (s.atCycle 900000).when s.bank.splitDue State.splitNow = (s.atCycle 900000).splitNow := if_pos hdue
  rw [hsplit, State.splitNow_none (by rw [State.atCycle_bank, hd])] at hbank
  refine ⟨t, hexec, hbank ▸ rfl, fun n => ?_⟩
  obtain ⟨-, hi⟩ := State.storeShares_nil (s := (s.atCycle 900000).modBank fun b => { b with splitDue := false }) n
  rw [hbank, State.publishShares_share]
  exact ⟨hi, hi⟩

/-- Without a due split the shares stand as they are, published (01 R27). -/
theorem execSetpointPublish_publishes (hl : s.leads = true) (hdue : s.bank.splitDue = false) :
    ∃ t, execSetpointPublish s = .next t ∧ ∀ n : Fin 8, t.bank.shares[n] = s.bank.shares[n].publish s.str[n].state.active s.est.strs[n] := by
  obtain ⟨t, hexec, hbank⟩ := execSetpointPublish_leads hl
  have hsplit : (s.atCycle 900000).when s.bank.splitDue State.splitNow = s.atCycle 900000 := if_neg (Bool.eq_false_iff.1 hdue)
  refine ⟨t, hexec, fun n => ?_⟩
  rw [hbank, hsplit, State.publishShares_share, State.atCycle_bank, State.atCycle_str, State.atCycle_est]

end

end Sys2Proof.Machine

open Sys2Proof Sys2Proof.Machine

/-- Settles O27: an acknowledgement is of the only waiting command, and a split moves the target alone of the command in force. -/
theorem dispatchComplete : Obligations.DispatchComplete := by
  refine ⟨fun s q x body h hp hl hr hb hi hrep hold hz hf hv hu ha hw => ?_, fun s f w hok ht hw ha hr ho => ?_, fun s f w k _ hok ht hw ha hr => ?_,
    fun s f w v hok ht hw hc ha hlt => ?_, fun s w _ hw ha hc => ?_, fun s q x v h => ?_, fun s d hl hb hw ha hv => ?_, fun s hl hf hd hn => ?_,
    fun s hl hdue hd => ?_, fun s hl hdue => ?_⟩
  · exact execDispatch_waits h (State.dispEarly_passes hp hl hr hb hi) hrep (State.dispLate_passes hold hz hf hv hu ha hw)
  · obtain ⟨t, hexec, hjrn, hwait, hcount⟩ := execDispatchConfirm_accepts hok ht hw ha hr ho
    obtain ⟨hnext, hdisp, hident⟩ := Journal.accepts_entries s.jrn w s.cycle (s.stampOf 0x080)
    rw [← hjrn] at hnext hdisp hident
    exact ⟨t, hexec, ⟨hnext, hdisp, hwait, hident⟩, hcount⟩
  · exact execDispatchConfirm_repeats hok ht hw ha hr
  · exact execDispatchConfirm_behind hok ht hw hc ha hlt
  · exact execDispatchPeerTimeout_drops hw ha hc
  · exact execDispatchQuery_answers h v
  · exact execDispatchSplit_executes hl hb hw ha hv
  · exact execDispatchSplit_lapses hl hf hd hn
  · exact execSetpointPublish_splits hl hdue hd
  · obtain ⟨t, hexec, hshares⟩ := execSetpointPublish_publishes hl hdue
    exact ⟨t, hexec, fun n => by rw [hshares]; exact ⟨rfl, rfl, rfl⟩⟩

end

section
/-! PROOF. What the bank's HOLD does to a session that did not ask for it. -/

-- One task at a time: the check limits memory, and each task has a stack of its own.
set_option Elab.async false

namespace Sys2Proof.Machine

/-- The state in which session 1 has one credit withheld, with string 2 and the bank in RUN: HOLD aborts the string's sweep (04 R120). -/
def State.owingRun : State := (State.owing.modStr 2 fun e => { e with state := .run }).modBank fun b => { b with state := .run }

theorem State.owingRun_serves : State.owingRun.serves Req.asked Session.asking := by decide

theorem Bank.hold_owing : (Bank.holdCmd Session.asking (State.owingRun.enter Req.asked 2)).1 = 0 := by decide

/-- The record of the aborted sweep ends the run of refusals, and the withheld credit of session 1 goes back (11 R301; 12 R327). -/
theorem Bank.hold_owing_pays : ((Bank.holdCmd Session.asking (State.owingRun.enter Req.asked 2)).2.session 1).map (·.credits) = some 16 := by decide

/-- HOLD of session 0 changes session 1. -/
theorem execBankHold_owing : ∃ t, execBankHold Req.asked State.owingRun = .next t ∧ t.session 1 ≠ State.owingRun.session 1 := by
  refine ⟨_, rfl, fun hkept => ?_⟩
  rw [State.hostWrite_ok State.owingRun_serves _ Bank.hold_owing, State.reply_session (by decide)] at hkept
  have hpaid := Bank.hold_owing_pays
  rw [hkept] at hpaid
  exact absurd hpaid (by decide)

end Sys2Proof.Machine

open Sys2Proof Sys2Proof.Machine

/-- Refutes O54: HOLD aborts the sweep of a string in RUN, whose record in history may end a run of refused records, and the credits withheld meanwhile then
go back to every session (04 R120; 11 R301; 12 R327), not to that of the request alone. -/
theorem not_bankAndEstimationFrames : ¬ Obligations.BankAndEstimationFrames := by
  intro h
  obtain ⟨-, -, -, -, -, -, hhold, -⟩ := h
  obtain ⟨t, ht, -, hother⟩ := hhold State.owingRun Req.asked
  obtain ⟨u, hu, hchanged⟩ := execBankHold_owing
  have hsame : Host.Outcome.next t = Host.Outcome.next u := ht.symm.trans hu
  obtain rfl : t = u := by injection hsame
  exact hchanged (hother 1 (by decide))

end
